-- ==== Sys2Proof/Word.lean ====
section
/-! DEFINITION. The widths the manual uses again and again, and nothing else. -/

namespace Sys2Proof

/-- One byte of memory (R7). -/
abbrev Byte := BitVec 8
/-- A 32-bit word: an instruction word, a vector lane, a micro-register. -/
abbrev W32 := BitVec 32
/-- A 64-bit word: a scalar register, a CSR, a page-table entry. -/
abbrev W64 := BitVec 64
/-- A 48-bit virtual address or scratchpad offset (R5). -/
abbrev VAddr := BitVec 48

end Sys2Proof
end

