-- ==== Sys2Proof/Syntax.lean ====
section
/-! DEFINITION. The syntax of the Z16: the fields of every encoding format as the tables of spec/05 draw them, the
operands of the part's other steps, and the one inductive `Instr`. -/

namespace Sys2Proof

/-- A logical core ID, die x 256 + cluster x 64 + core (R4). -/
abbrev CoreId := BitVec 12
/-- A compute die, 0 to 15 (R2). -/
abbrev DieId := BitVec 4
/-- A peer of the domain, 0 to 63 (R4). -/
abbrev PeerId := BitVec 6
/-- A job-wide group ID (R27). -/
abbrev GroupId := BitVec 8
/-- A partition, 0 to 15 (R449). -/
abbrev PartId := BitVec 4
/-- A queue, 0 to 1,023 (R341). -/
abbrev QueueId := BitVec 10
/-- An optical port, 0 to 31 (R392). -/
abbrev PortId := BitVec 5
/-- The eight doublewords of a queue packet (R345). -/
abbrev Packet := List W64

/-- The two resident contexts of a core (R22), and a context of the n-th task admitted that was evicted from it (R354). -/
inductive Slot where
  | a | b
  | out (n : Nat)
deriving DecidableEq, Repr, Inhabited

/-- The three contexts of a resident context (R19). -/
inductive CtxId where
  | primary | h1 | h2
deriving DecidableEq, Repr, Inhabited

/-- What consumes an uncorrectable error (R334): an LS or VS access of the group of a context of the running resident, with its
position in the group; the matrix engine of a resident; a transfer. -/
inductive Consumer where
  | group (x : CtxId) (pos : BitVec 4)
  | engine (r : Slot)
  | xfer (r : Slot) (n : BitVec 4)
deriving DecidableEq, Repr, Inhabited

/-- The common header but for OP, CLASS and LEN, which the constructor says (R121). -/
structure Hdr where
  pred : BitVec 3
  yp   : Bool
  stop : Bool
deriving DecidableEq, Repr, Inhabited

/-- The first word of the S format: a 32-bit S instruction (R123). -/
structure S32 where
  d : BitVec 5
  a : BitVec 5
  b : BitVec 5
deriving DecidableEq, Repr, Inhabited

/-- The S format with its second word, and LIT32 (0 in a 64-bit form) (R123). -/
structure SF where
  d   : BitVec 5
  a   : BitVec 5
  b   : BitVec 5
  imm : BitVec 16
  c   : BitVec 5
  wid : BitVec 3
  sgn : Bool
  scp : BitVec 3
  md  : BitVec 4
  lit : W32
deriving DecidableEq, Repr, Inhabited

/-- The V format (R126). -/
structure VF where
  gmask : BitVec 8
  vd    : BitVec 5
  va    : BitVec 5
  vb    : BitVec 5
  vc    : BitVec 5
  ty    : BitVec 4
  rnd   : BitVec 2
  sat   : Bool
  vm    : BitVec 3
  bsrc  : Bool
  mod6  : BitVec 6
deriving DecidableEq, Repr, Inhabited

/-- The M format (R128). -/
structure MF where
  idx  : BitVec 10
  acc  : BitVec 3
  f    : BitVec 5
  k    : BitVec 6
  mode : BitVec 2
  accb : BitVec 3
  sa   : BitVec 5
deriving DecidableEq, Repr, Inhabited

/-- The X format (R130). -/
structure XF where
  f     : BitVec 5
  xa    : BitVec 5
  xb    : BitVec 5
  xc    : BitVec 5
  xh    : BitVec 5
  acc   : BitVec 3
  k     : BitVec 6
  xmode : BitVec 3
  frem  : Bool
  fnone : Bool
deriving DecidableEq, Repr, Inhabited

/-- The Y format (R131). -/
structure YF where
  f   : BitVec 5
  sa  : BitVec 5
  n   : BitVec 16
  gid : BitVec 8
  pd  : BitVec 3
  scp : BitVec 3
deriving DecidableEq, Repr, Inhabited

/-- The first word of the B format (R132); SWPT and TRAP read the ten bits of sb and sa as N and CODE. -/
structure BF where
  bt  : BitVec 3
  yld : Bool
  sa  : BitVec 5
  sb  : BitVec 5
deriving DecidableEq, Repr, Inhabited

/-- The first word of the C format (R133); SYSC reads the ten bits of e and a as its number. -/
structure CF where
  d : BitVec 5
  a : BitVec 5
  e : BitVec 5
deriving DecidableEq, Repr, Inhabited

/-- The second word of REP (R133). -/
structure RepF where
  count : BitVec 16
  sd    : BitVec 2
  sa    : BitVec 2
  sb    : BitVec 2
deriving DecidableEq, Repr, Inhabited

/-- A matrix-engine micro-operation (R129). -/
structure UF where
  ma  : BitVec 4
  mb  : BitVec 4
  mc  : BitVec 4
  imm : BitVec 12
deriving DecidableEq, Repr, Inhabited

/-- What a transfer fault carries (R277, R330): the cause, the sub-cause of an asynchronous record, the address at
fault, the stream at fault and how many elements had landed. -/
structure XferFault where
  cause  : Byte
  sub    : BitVec 4
  va     : VAddr
  stream : BitVec 4
  landed : Nat
deriving DecidableEq, Repr, Inhabited

/-- What a frame of a transfer needs at its destination beside the fields R401 draws: R401 shows no place for it, so the
model carries it in a record of its own (DESIGN CHOICE, log 30). -/
structure Carried where
  /-- system core ID of the issuing core -/
  source  : BitVec 22
  /-- task of the issuing core -/
  task    : W32
  /-- logical core ID of the target -/
  core    : CoreId
  /-- a global address, not a scratchpad offset -/
  glob    : Bool
  /-- the transfer's address or offset (s_XA or s_XB); SENDM: the window in [55:48] and the tag in [31:0] -/
  va      : W64
  /-- element size in bytes -/
  size    : Nat
  /-- bytes of the transfer before this frame's, and in all -/
  first   : Nat
  total   : Nat
  /-- the flag that FREM or XFLAG posts there -/
  flag    : Option (BitVec 5)
  /-- XFLAG's amount -/
  amount  : BitVec 16
  /-- arrival handler of a PUT with XH not 0 (R267) -/
  handler : Option VAddr
  /-- SENDM's expert mask -/
  mask    : W32
  /-- of the issuing context, for Patina (R293, R295): GROUP_SET, the acquired intervals, RACE_MODE is trap -/
  groups   : W64
  acquired : List Byte
  trap     : Bool
  /-- of a translation answer that fails: the cause and SUB of the transfer's fault (R277, R376), 0 for none -/
  cause    : Byte := 0
  sub      : BitVec 4 := 0
  /-- the translations that the frame carries (R376): the entry of each page that it reaches, 0 for one not held -/
  pages    : List W64 := []
deriving DecidableEq, Repr, Inhabited

/-- A frame of the optical fabric (R401); of HCRC and FEC, whether the checks pass; and where it arrives. -/
structure Frame where
  repair  : BitVec 128
  barr    : List (BitVec 16)
  freed   : W32
  ack     : W32
  seq     : W32
  addr    : VAddr
  kind    : Byte
  relayed : Bool
  retx    : Bool
  rot     : W32
  slot    : BitVec 6
  lane    : BitVec 4
  port    : PortId
  ddom    : BitVec 4
  dst     : PeerId
  src     : PeerId
  sdom    : BitVec 4
  xid     : BitVec 12
  payload : List Byte
  cmd     : Carried
  fecOk   : Bool
  /-- FEC has corrected soft errors of the frame (R454, R455) -/
  fecFixed : Bool := false
  hcrcOk  : Bool := true
  /-- the port and the lane on which it arrives (R399) -/
  atPort  : PortId := 0
  atLane  : BitVec 4 := 0
deriving DecidableEq, Repr, Inhabited

/-- A repair message (R414), its MSG field being the row that carries it. -/
structure RepairMsg where
  rn     : W32
  action : BitVec 4
  port   : PortId
  line   : Byte
  owner  : PeerId
  rpeer  : PeerId
  rid    : BitVec 16
deriving DecidableEq, Repr, Inhabited

/-- One host transaction over UCIe (R452): the link, the side band or not, the requesting partition (none is
firmware), a write or a read, the 48-bit address and the data of a write. -/
structure HostAccess where
  link     : BitVec 2
  sideband : Bool
  part     : Option PartId
  write    : Bool
  addr     : VAddr
  data     : W64
deriving DecidableEq, Repr, Inhabited

/-- The one inductive of instructions: one constructor for every row of spec/opcode_table.json, in the table's
order. Rows 0 to 245 are issued by a core, rows 246 to 261 are steps of a matrix engine, the rest are the part's
other indivisible steps (spec/95_what_each_step_holds.md). -/
inductive Instr where
  -- S class (R125)
  | add (h : Hdr) (f : S32)
  | addI (h : Hdr) (f : SF)
  | addL (h : Hdr) (f : SF)
  | sub (h : Hdr) (f : S32)
  | subI (h : Hdr) (f : SF)
  | subL (h : Hdr) (f : SF)
  | mul (h : Hdr) (f : S32)
  | mulI (h : Hdr) (f : SF)
  | mulL (h : Hdr) (f : SF)
  | mulh (h : Hdr) (f : S32)
  | mulhI (h : Hdr) (f : SF)
  | mulhL (h : Hdr) (f : SF)
  | mulhz (h : Hdr) (f : S32)
  | mulhzI (h : Hdr) (f : SF)
  | mulhzL (h : Hdr) (f : SF)
  | div (h : Hdr) (f : S32)
  | divI (h : Hdr) (f : SF)
  | divL (h : Hdr) (f : SF)
  | divz (h : Hdr) (f : S32)
  | divzI (h : Hdr) (f : SF)
  | divzL (h : Hdr) (f : SF)
  | rem (h : Hdr) (f : S32)
  | remI (h : Hdr) (f : SF)
  | remL (h : Hdr) (f : SF)
  | remz (h : Hdr) (f : S32)
  | remzI (h : Hdr) (f : SF)
  | remzL (h : Hdr) (f : SF)
  | and (h : Hdr) (f : S32)
  | andI (h : Hdr) (f : SF)
  | andL (h : Hdr) (f : SF)
  | or (h : Hdr) (f : S32)
  | orI (h : Hdr) (f : SF)
  | orL (h : Hdr) (f : SF)
  | xor (h : Hdr) (f : S32)
  | xorI (h : Hdr) (f : SF)
  | xorL (h : Hdr) (f : SF)
  | andn (h : Hdr) (f : S32)
  | andnI (h : Hdr) (f : SF)
  | andnL (h : Hdr) (f : SF)
  | shl (h : Hdr) (f : S32)
  | shlI (h : Hdr) (f : SF)
  | shlL (h : Hdr) (f : SF)
  | shr (h : Hdr) (f : S32)
  | shrI (h : Hdr) (f : SF)
  | shrL (h : Hdr) (f : SF)
  | sra (h : Hdr) (f : S32)
  | sraI (h : Hdr) (f : SF)
  | sraL (h : Hdr) (f : SF)
  | rotl (h : Hdr) (f : S32)
  | rotlI (h : Hdr) (f : SF)
  | rotlL (h : Hdr) (f : SF)
  | min (h : Hdr) (f : S32)
  | minI (h : Hdr) (f : SF)
  | minL (h : Hdr) (f : SF)
  | max (h : Hdr) (f : S32)
  | maxI (h : Hdr) (f : SF)
  | maxL (h : Hdr) (f : SF)
  | minz (h : Hdr) (f : S32)
  | minzI (h : Hdr) (f : SF)
  | minzL (h : Hdr) (f : SF)
  | maxz (h : Hdr) (f : S32)
  | maxzI (h : Hdr) (f : SF)
  | maxzL (h : Hdr) (f : SF)
  | clz (h : Hdr) (f : S32)
  | clzW (h : Hdr) (f : SF)
  | ctz (h : Hdr) (f : S32)
  | ctzW (h : Hdr) (f : SF)
  | popc (h : Hdr) (f : S32)
  | popcW (h : Hdr) (f : SF)
  | lea (h : Hdr) (f : SF)
  | leaL (h : Hdr) (f : SF)
  | sel (h : Hdr) (f : SF)
  | bfx (h : Hdr) (f : SF)
  | bfi (h : Hdr) (f : SF)
  | ext (h : Hdr) (f : SF)
  | li (h : Hdr) (f : SF)
  | liL (h : Hdr) (f : SF)
  | lih (h : Hdr) (f : SF)
  | lihL (h : Hdr) (f : SF)
  | bperm (h : Hdr) (f : SF)
  | cmp (h : Hdr) (f : SF)
  | cmpL (h : Hdr) (f : SF)
  | plog (h : Hdr) (f : SF)
  | fadd (h : Hdr) (f : S32)
  | faddRnd (h : Hdr) (f : SF)
  | fsub (h : Hdr) (f : S32)
  | fsubRnd (h : Hdr) (f : SF)
  | fmul (h : Hdr) (f : S32)
  | fmulRnd (h : Hdr) (f : SF)
  | fma (h : Hdr) (f : SF)
  | fmin (h : Hdr) (f : S32)
  | fmin64 (h : Hdr) (f : SF)
  | fmax (h : Hdr) (f : S32)
  | fmax64 (h : Hdr) (f : SF)
  | fcmp (h : Hdr) (f : SF)
  | fcvt (h : Hdr) (f : SF)
  | ld (h : Hdr) (f : SF)
  | ldL (h : Hdr) (f : SF)
  | st (h : Hdr) (f : SF)
  | stL (h : Hdr) (f : SF)
  | ldaq (h : Hdr) (f : SF)
  | ldaqL (h : Hdr) (f : SF)
  | strl (h : Hdr) (f : SF)
  | strlL (h : Hdr) (f : SF)
  | lds (h : Hdr) (f : SF)
  | ldsL (h : Hdr) (f : SF)
  | sts (h : Hdr) (f : SF)
  | stsL (h : Hdr) (f : SF)
  | amo (h : Hdr) (f : SF)
  | amoL (h : Hdr) (f : SF)
  | acas (h : Hdr) (f : SF)
  | acasL (h : Hdr) (f : SF)
  | aclaim (h : Hdr) (f : SF)
  | movsv (h : Hdr) (f : SF)
  | movvs (h : Hdr) (f : SF)
  | movsm (h : Hdr) (f : S32)
  | movms (h : Hdr) (f : S32)
  | movfs (h : Hdr) (f : S32)
  | movps (h : Hdr) (f : S32)
  | movsp (h : Hdr) (f : S32)
  | stdef (h : Hdr) (f : SF)
  | stld (h : Hdr) (f : SF)
  | stldL (h : Hdr) (f : SF)
  | stst (h : Hdr) (f : SF)
  | ststL (h : Hdr) (f : SF)
  | bpld (h : Hdr) (f : SF)
  | bpldL (h : Hdr) (f : SF)
  -- V class (R126, R191)
  | vadd (h : Hdr) (f : VF)
  | vaddL (h : Hdr) (f : VF) (lit : W32)
  | vsub (h : Hdr) (f : VF)
  | vsubL (h : Hdr) (f : VF) (lit : W32)
  | vmul (h : Hdr) (f : VF)
  | vmulL (h : Hdr) (f : VF) (lit : W32)
  | vfma (h : Hdr) (f : VF)
  | vfmaL (h : Hdr) (f : VF) (lit : W32)
  | vmin (h : Hdr) (f : VF)
  | vminL (h : Hdr) (f : VF) (lit : W32)
  | vmax (h : Hdr) (f : VF)
  | vmaxL (h : Hdr) (f : VF) (lit : W32)
  | vabs (h : Hdr) (f : VF)
  | vneg (h : Hdr) (f : VF)
  | vand (h : Hdr) (f : VF)
  | vandL (h : Hdr) (f : VF) (lit : W32)
  | vor (h : Hdr) (f : VF)
  | vorL (h : Hdr) (f : VF) (lit : W32)
  | vxor (h : Hdr) (f : VF)
  | vxorL (h : Hdr) (f : VF) (lit : W32)
  | vshl (h : Hdr) (f : VF)
  | vshlL (h : Hdr) (f : VF) (lit : W32)
  | vshr (h : Hdr) (f : VF)
  | vshrL (h : Hdr) (f : VF) (lit : W32)
  | vsra (h : Hdr) (f : VF)
  | vsraL (h : Hdr) (f : VF) (lit : W32)
  | vcmp (h : Hdr) (f : VF)
  | vcmpL (h : Hdr) (f : VF) (lit : W32)
  | vsel (h : Hdr) (f : VF)
  | vselL (h : Hdr) (f : VF) (lit : W32)
  | vmov (h : Hdr) (f : VF)
  | vli (h : Hdr) (f : VF) (lit : W32)
  | vcvt (h : Hdr) (f : VF)
  | vrcp (h : Hdr) (f : VF)
  | vrsq (h : Hdr) (f : VF)
  | vexp2 (h : Hdr) (f : VF)
  | vlg2 (h : Hdr) (f : VF)
  | vtanh (h : Hdr) (f : VF)
  | vpopc (h : Hdr) (f : VF)
  | vclz (h : Hdr) (f : VF)
  | vdot4 (h : Hdr) (f : VF)
  | vdot4L (h : Hdr) (f : VF) (lit : W32)
  | vmlog (h : Hdr) (f : VF)
  | vshuf (h : Hdr) (f : VF)
  | vbcst (h : Hdr) (f : VF)
  | vradd (h : Hdr) (f : VF)
  | vrmax (h : Hdr) (f : VF)
  | vrmin (h : Hdr) (f : VF)
  | vxg (h : Hdr) (f : VF)
  | vscan (h : Hdr) (f : VF)
  | vsld (h : Hdr) (f : VF)
  | vsst (h : Hdr) (f : VF)
  | vgld (h : Hdr) (f : VF)
  | vsct (h : Hdr) (f : VF)
  | vsamo (h : Hdr) (f : VF)
  | vamax (h : Hdr) (f : VF)
  | vqcvt (h : Hdr) (f : VF)
  | vdq (h : Hdr) (f : VF)
  | vdqL (h : Hdr) (f : VF) (lit : W32)
  | vunp3 (h : Hdr) (f : VF)
  | vpack3 (h : Hdr) (f : VF)
  | vbperm (h : Hdr) (f : VF)
  | vsbr (h : Hdr) (f : VF)
  | vthr (h : Hdr) (f : VF)
  -- M class (R128)
  | mcall (h : Hdr) (f : MF)
  | mmode (h : Hdr) (f : MF)
  | mclr (h : Hdr) (f : MF)
  | mmerge (h : Hdr) (f : MF)
  | mpld (h : Hdr) (f : MF)
  | mabort (h : Hdr) (f : MF)
  -- X class (R130)
  | cpyPlain (h : Hdr) (f : XF)
  | cpyConvert (h : Hdr) (f : XF)
  | cpyRank (h : Hdr) (f : XF)
  | cpyRankmerge (h : Hdr) (f : XF)
  | put (h : Hdr) (f : XF)
  | putGlob (h : Hdr) (f : XF)
  | get (h : Hdr) (f : XF)
  | getGlob (h : Hdr) (f : XF)
  | xflag (h : Hdr) (f : XF)
  | send (h : Hdr) (f : XF)
  | sendm (h : Hdr) (f : XF) (lit : W32)
  | pref (h : Hdr) (f : XF)
  | prefSlice (h : Hdr) (f : XF)
  | flush (h : Hdr) (f : XF)
  -- Y class (R131)
  | fwait (h : Hdr) (f : YF)
  | fpost (h : Hdr) (f : YF)
  | fset (h : Hdr) (f : YF)
  | bara (h : Hdr) (f : YF)
  | barw (h : Hdr) (f : YF)
  | baraw (h : Hdr) (f : YF)
  | fence (h : Hdr) (f : YF)
  -- B class (R132)
  | pbrReg (h : Hdr) (f : BF)
  | pbr (h : Hdr) (f : BF) (off : W32)
  | br (h : Hdr) (f : BF)
  | call (h : Hdr) (f : BF)
  | loop (h : Hdr) (f : BF) (off : W32)
  | lbrk (h : Hdr) (f : BF)
  | swpt (h : Hdr) (f : BF)
  | brt (h : Hdr) (f : BF)
  | exit (h : Hdr) (f : BF)
  | trap (h : Hdr) (f : BF)
  -- C class (R133)
  | nop (h : Hdr) (f : CF)
  | nop64 (h : Hdr) (f : CF)
  | nop96 (h : Hdr) (f : CF)
  | rdc (h : Hdr) (f : CF) (csr : BitVec 12)
  | wrc (h : Hdr) (f : CF) (csr : BitVec 12)
  | clkdiv (h : Hdr) (f : CF)
  | pwrq (h : Hdr) (f : CF)
  | rep (h : Hdr) (f : CF) (x : RepF)
  | ebreak (h : Hdr) (f : CF)
  | sysc (h : Hdr) (f : CF)
  | rfe (h : Hdr) (f : CF)
  | tlbiPage (h : Hdr) (f : CF)
  | tlbiSpace (h : Hdr) (f : CF)
  | tlbiPart (h : Hdr) (f : CF)
  | tlbiReplica (h : Hdr) (f : CF)
  | tlbiRwflush (h : Hdr) (f : CF)
  | tlbiRcinit (h : Hdr) (f : CF)
  | idle (h : Hdr) (f : CF)
  -- matrix engine micro-operations (R129, R233)
  | tnop (f : UF)
  | tfa (f : UF)
  | tfb (f : UF)
  | tscl (f : UF)
  | tmac (f : UF)
  | tprom (f : UF)
  | trank (f : UF)
  | tdrain (f : UF)
  | twalk (f : UF)
  | tloop (f : UF)
  | tend (f : UF)
  | tjmp (f : UF)
  | tyld (f : UF)
  | tflag (f : UF)
  | tret (f : UF)
  | tset (f : UF)
  -- events, packets and management commands
  | fixedResultWriteback (c : CoreId)
  | scoreboardResultLand (n : Nat)
  | shadowResultLand (c : CoreId)
  | preemptionRequest (c : CoreId)
  | preemptionLanding (c : CoreId)
  | forcedPreemption (c : CoreId)
  | contextSave (c : CoreId)
  | contextRestore (c : CoreId)
  | heldPostApply (c : CoreId) (r : Slot)
  | remoteFlagPost (c : CoreId) (task : W32) (f : BitVec 5) (amt : BitVec 16)
  | transferComplete (c : CoreId) (r : Slot) (n : BitVec 4)
  | arrivalQueueRoom (c : CoreId) (r : Slot)
  | handlerStart (c : CoreId) (r : Slot)
  | transferFault (c : CoreId) (r : Slot) (n : BitVec 4) (x : XferFault)
  | rankmergeApply (c : CoreId) (r : Slot) (n : BitVec 4)
  | mcallStart (c : CoreId) (r : Slot)
  | mmodeExec (c : CoreId) (r : Slot)
  | mclrExec (c : CoreId) (r : Slot)
  | mmergeExec (c : CoreId) (r : Slot)
  | asyncFaultDelivery (c : CoreId) (r : Slot)
  | machineTrap (c : CoreId) (zone : BitVec 9)
  | uncorrectableError (c : CoreId) (x : Consumer) (pa : BitVec 46)
  | coreFence (c : CoreId)
  | dieFence (d : DieId)
  | barrierDieComplete (g : GroupId) (d : DieId)
  | barrierGenerationComplete (g : GroupId)
  | barrierRelease (g : GroupId) (c : CoreId)
  | atomicAtHome (n : Nat)
  | lineHomeHandover (line : Nat)
  | l1Eviction (line : Nat)
  | sliceEviction (line : Nat)
  | walkComplete (d : DieId) (k : Nat)
  | tlbiComplete (n : Nat)
  | shootdownRequest (peer : PeerId) (kind : BitVec 3) (page : VAddr) (root : BitVec 34)
  | shootdownAck (n : Nat) (peer : PeerId)
  | shootdownTimeout (n : Nat) (peer : PeerId)
  | bankRetireProposal (d : DieId) (bank : BitVec 14) (live : Bool)
  | stkPropose (d : DieId)
  | stkGo (d : DieId) (pseq : BitVec 16)
  | restripeComplete (d : DieId)
  | testerBusVisit (d : DieId) (faulty : Bool) (spareLeft : Bool)
  | doorbell (part : PartId) (w : W64)
  | qcmdCreate (part : PartId) (w : W64)
  | qcmdDestroy (part : PartId) (w : W64)
  | qcmdKill (part : PartId) (w : W64)
  | qcmdClearerr (part : PartId) (w : W64)
  | qcmdArmreload (part : PartId) (w : W64)
  | qcmdQuery (part : PartId) (w : W64)
  | launch (q : QueueId) (pkt : Packet)
  | admissionRetry (q : QueueId)
  | signalPacket (q : QueueId) (pkt : Packet)
  | waitsig (q : QueueId) (pkt : Packet)
  | waitsigReread (q : QueueId)
  | nopPacket (q : QueueId) (pkt : Packet)
  | topoReconfigure (q : QueueId) (pkt : Packet)
  | topoLoad (q : QueueId) (pkt : Packet)
  | topoRetrain (q : QueueId) (pkt : Packet)
  | topoDrainEnd
  | fabCtlResume (d : DieId) (w : W64)
  | topoTimeout
  | topoTrainEnd (failed : W32)
  | topoTableLoad
  | taskEnd (task : W32)
  | slotBoundary
  | markerLockLoss
  | frameHeader (fr : Frame)
  | frameGlobalWrite (fr : Frame)
  | frameScratchpadWrite (fr : Frame)
  | frameReadRequest (fr : Frame)
  | frameReadResponse (fr : Frame)
  | frameSend (fr : Frame)
  | frameSendm (fr : Frame)
  | frameXflag (fr : Frame)
  | frameTranslationRequest (fr : Frame)
  | frameTranslationResponse (fr : Frame)
  | retransmitTimeout (peer : PeerId)
  | propose (peer : PeerId) (m : RepairMsg)
  | accept (peer : PeerId) (m : RepairMsg)
  | defer (peer : PeerId) (m : RepairMsg)
  | retune (peer : PeerId) (m : RepairMsg)
  | portdown (peer : PeerId) (m : RepairMsg)
  | retrain (peer : PeerId) (m : RepairMsg)
  | rejoin (peer : PeerId) (m : RepairMsg)
  | flushed (peer : PeerId) (m : RepairMsg)
  | repairApply
  | repairRepropose
  | portdownApply
  | lineDrift (port : PortId) (line : BitVec 8) (mhz : BitVec 16)
  | lineRetuneStart (port : PortId) (line : BitVec 8)
  | retuneEnd (port : PortId) (line : BitVec 8) (mhz : BitVec 16)
  | combFailure (port : PortId)
  | retrainEnd (port : PortId) (peer : PeerId)
  | peerSilenceTimeout (peer : PeerId)
  | peerRemoval (peer : PeerId)
  | ofuReset (d : DieId)
  | expertBlockRelease (win : BitVec 8) (e : BitVec 5)
  | clkdivDecision (c : CoreId)
  | divisorSwitch (c : CoreId)
  | railStep (c : CoreId)
  | throttleUpdate (c : CoreId) (swal : BitVec 6)
  | stallSample (d : DieId) (banks : List (Nat × Nat))
  | levelFall (c : CoreId)
  | sramRailWindow (d : DieId) (corrected : Nat) (unc : Bool)
  | valveControl (d : DieId) (z : BitVec 5) (valve : Byte)
  | sensorSample (d : DieId) (z : BitVec 4) (sens : W64)
  | evacuationStep (d : DieId) (z : BitVec 4) (dry : Bool)
  | coolantSupplyDrop (supply : BitVec 16)
  | zclr (d : DieId) (w : W64)
  | dbgHalt (c : CoreId) (on : Bool)
  | debugHaltLanding (c : CoreId)
  | dbgResume (c : CoreId)
  | dbgStep (c : CoreId)
  | dbgEbrk (c : CoreId) (on : Bool)
  | dbgVdataRead (c : CoreId)
  | deviceReset
  | bootGo
  | attGo (d : DieId) (w : W64)
  | attestationReport (d : DieId)
  | partitionTableWrite (offset : BitVec 12) (w : W64)
  | softerrWrite (d : DieId)
  | hostMainbandAccess (x : HostAccess)
  | hostLinkFailure (link : BitVec 2)
  | mgmtRegisterWrite (part : Option PartId) (d : DieId) (offset : BitVec 20) (w : W64)
  | markerLockAcquired (rot : W32) (slot : BitVec 6)
  | coolantSupplyRestored (supply : BitVec 16)
  | repRepetition (c : CoreId)
  | illegalEncoding (w : W32)
deriving DecidableEq, Repr, Inhabited

end Sys2Proof
end

