-- ==== Sys2Proof/Config.lean ====
section
/-! DEFINITION. What an implementation fixes, what the manual leaves open, and the turns of the part's agents. A constant
with no body is a free value: nothing in Lean knows it, so a claim holds whatever it is. -/

namespace Sys2Proof

/-- What the boot ROM and the firmware do of their own (R461, R462). -/
inductive FirmAct where
  /-- the next stage of bring-up -/
  | next
  /-- fuses are blown: the SVN floor rises -/
  | raiseFloor (svn : BitVec 32)
  /-- a measurement that a partition's system software asks for -/
  | extend (i : Nat) (x : BitVec 256)
deriving DecidableEq, Repr, Inhabited

/-- Whose step comes next. The manual orders the steps of different agents only where a rule says so (R14). -/
inductive Turn where
  /-- a control cycle of a core (R57, R75) -/
  | core (c : CoreId)
  /-- a step of a core's matrix engine, for one resident context (R224) -/
  | engine (c : CoreId) (r : Slot)
  /-- a step of another agent, with what it brings from outside the machine -/
  | event (i : Instr)
  /-- a marker event at a die's optical fabric unit, whose counters are its own (R14, R395) -/
  | marker (d : DieId) (i : Instr)
  /-- the home of a posted store performs its next part (R278) -/
  | perform (n : Nat)
  /-- a home performs part k of request n; parts with different homes are in no order (R280) -/
  | piece (n k : Nat)
  /-- element k of a transfer inside the package lands, or is read, ahead of the rest (R280) -/
  | element (c : CoreId) (r : Slot) (n k : Nat)
  /-- the dispatcher of a queue reads its next packet (R351) -/
  | dispatch (q : QueueId)
  /-- the boot ROM or the firmware (R461, R462) -/
  | firmware (a : FirmAct)
  /-- the oldest host transaction that waits for a line goes on, if it may (R344) -/
  | host
  /-- a bridge between two dies fails (R456) -/
  | bridge
deriving DecidableEq, Repr, Inhabited

namespace Config

/-- FREE VALUE (log 2): the agent that acts at step n when no turn stands in the state. -/
opaque nextTurn : Nat → Turn

/-- FREE VALUE (log 6): firmware's placement of logical cores in the columns of their die, as the order in which it takes them.
R3 gives no formula. -/
opaque placeKey : CoreId → Nat

/-- FREE VALUE (log 48): the column (row in [7:4], position in [3:0]) at which a die's dispatcher meets the die's routers. -/
opaque dispatcherColumn : DieId → Byte

/-- FREE VALUE (log 8): SHA3-256 of a byte string, its 32 bytes as a number. The manual names the standard and states no
bit of it (R461, R462). -/
opaque sha3 : List Byte → BitVec 256

/-- FREE VALUE (log 8): does an ML-DSA-44 signature verify over a digest under a public key (R461)? -/
opaque mlDsaVerify : List Byte → BitVec 256 → List Byte → Bool

/-- FREE VALUE (log 8): byte i of the ML-DSA-44 public key generated from a seed (R463). -/
opaque mlDsaPublicByte : BitVec 256 → Nat → Byte
/-- The public key of a seed, 1,312 bytes. -/
def mlDsaPublic (seed : BitVec 256) : List Byte := (List.range 1312).map (mlDsaPublicByte seed)

/-- FREE VALUE (log 8): byte i of the ML-DSA-44 signature over a digest by the key generated from a seed (R463). -/
opaque mlDsaSignByte : BitVec 256 → BitVec 256 → Nat → Byte
/-- The signature, 2,420 bytes. -/
def mlDsaSign (seed digest : BitVec 256) : List Byte := (List.range 2420).map (mlDsaSignByte seed digest)

/-- FREE VALUE (log 9): the CRC-32 of a byte string, whose polynomial R335 does not give. -/
opaque crc32 : List Byte → W32

/-- FREE VALUE (log 10): the identifier the dispatcher assigns to the n-th task admitted (R74). -/
opaque taskId : Nat → W32

/-- FREE VALUE (log 11): where the dispatcher places a scratchpad allocation, of those that R104 permits, at the n-th
placement: an index into the list of permitted positions, taken modulo its length. -/
opaque placement : Nat → Nat

/-- FREE VALUE (log 12): a special function's result where the exact value is not told from a rounding boundary within
the precision the model computes (R201): the function's code, the format's code, the rounding mode's code and the
operand's bits. -/
opaque unresolved : Nat → Nat → Nat → Nat → Nat

/-- FREE VALUE (log 17): the 32 bytes of a dispatch-log record: its type, queue, task, address and code. R366 names the
five fields and gives no layout. -/
opaque dispatchRecord : Nat → Nat → Nat → Nat → Nat → BitVec 256

/-- FREE VALUE (log 17): the bytes of an event-log record: what happened and where. The manual gives no layout. -/
opaque eventRecord : Nat → Nat → BitVec 256

/-- FREE VALUE (log 21): TNPC after a trap on fetching a group, whose end nothing has read (R326 states no value). -/
opaque nextOfUnread : Nat → VAddr

/-- FREE VALUE (log 23): is the line of another package (peer, port, target) GOOD or substituted? R410 lets the owner of a
repair use it and gives no way to learn it. -/
opaque peerLineGood : Nat → Nat → Nat → Nat → Bool

/-- FREE VALUE (log 23): are the receive lanes of a port clean in a rotation, as an adjacent target confirms them (R413)? -/
opaque lanesClean : Nat → Nat → Bool

/-- FREE VALUE (log 76): does a bank of a die's stacked memory meet, at step n, one of the causes of R385 that no register shows: 0, more
than 1,024 corrected errors in one second; 1, its layer at 110 degrees or more for 100 ms; 2, below 95 degrees for 1 s? -/
opaque bankMeets : Nat → Nat → DieId → Nat → Bool

/-- FREE VALUE (log 17): the bytes of a fabric event record: type, port, line, peer, RID, rotation (R423). -/
opaque fabricRecord : Nat → Nat → Nat → Nat → Nat → Nat → BitVec 256

/-- FREE VALUE (log 30): the task of this package that belongs to the job of a task of another package (its domain and
peer, its TASK_ID). R308 says that each package has its own task of a job and not how one is found. -/
opaque jobTask : BitVec 10 → W32 → W32

/-- FREE VALUE (log 11): which of the free MiB of its die's stacked memory holds the save area of a context (R335), for the
core and the number of the launch: an index into the list of them, taken modulo its length. -/
opaque saveIndex : CoreId → Nat → Nat

/-- FREE VALUE (log 38): the hot-spot temperature of a core's column at step n, in units of 0.125 degrees (R435). -/
opaque temperature : Nat → CoreId → BitVec 11
/-- FREE VALUE (log 38): the package's instantaneous power at step n, in W (R435). -/
opaque packagePower : Nat → Nat
/-- FREE VALUE (log 38): the package's power over the last 1 ms at step n, in W (R435). -/
opaque packageMean : Nat → Nat
/-- FREE VALUE (log 38): the valve setting that brings the pressure below PMAX (R444). -/
opaque closeValve : Nat → Byte

/-- FREE VALUE (log 38): a soft error that ECC corrects in what a home reads at step n: its die, and where it lies (0 stacked SRAM,
1 core SRAM, 2 the die's HBM stack). -/
opaque softError : Nat → Option (DieId × Fin 3)

/-- FREE VALUE (log 45): the shadow state, at step n, of a sector of another package that a transfer in log mode conflicts with (R293,
R296). -/
opaque farSector : Nat → BitVec 31

/-- FREE VALUE (log 40): a byte of a TOPO table at an address that does not translate, at step n. -/
opaque unreadByte : Nat → Nat → Byte

/-- FREE VALUE (log 61): the line index in its die's staging area that the home die assigns to a CACHED line (R114), from the
start of the area and taken modulo its lines. -/
opaque stageLine : Nat → Nat

/-- FREE VALUE (log 16): a doubleword of the save area beyond the register images, as a save at step n would write it. R335
lays out no field of those regions. -/
opaque saveWord : Nat → Nat → W64

end Config

end Sys2Proof
end

