-- ==== Sys2Proof/Machine/Num.lean ====
section
/-! DEFINITION. Numbers (spec/03): the floating-point formats, exact values, rounding, conversion and comparison.
An exact value is a rational number; every operation is exact and is rounded once at its end (R87). -/

namespace Sys2Proof.Machine

/-- The sticky flags of FSTAT in their bit positions (R77). -/
abbrev Flags8 := BitVec 8
def fNV : Flags8 := 1
def fOF : Flags8 := 2
def fUF : Flags8 := 4
def fNX : Flags8 := 8
def fSAT : Flags8 := 16
def fSCALENAN : Flags8 := 32
def fTERN : Flags8 := 64
def fINTOVF : Flags8 := 128

/-- The rounding modes in the order of RND (R87). -/
inductive Rnd where
  | rne | rtz | rup | rdn
deriving DecidableEq, Repr, Inhabited

def Rnd.ofCode (n : Nat) : Rnd :=
  match n with
  | 0 => .rne | 1 => .rtz | 2 => .rup | _ => .rdn

/-- The five formats (R84). -/
inductive Fmt where
  | f32 | bf16 | f16 | e4m3 | e5m2
deriving DecidableEq, Repr, Inhabited

def Fmt.width : Fmt → Nat
  | .f32 => 32 | .bf16 => 16 | .f16 => 16 | .e4m3 => 8 | .e5m2 => 8
/-- Exponent field bits. -/
def Fmt.eb : Fmt → Nat
  | .f32 => 8 | .bf16 => 8 | .f16 => 5 | .e4m3 => 4 | .e5m2 => 5
/-- Mantissa field bits. -/
def Fmt.mb : Fmt → Nat
  | .f32 => 23 | .bf16 => 7 | .f16 => 10 | .e4m3 => 3 | .e5m2 => 2
def Fmt.bias : Fmt → Nat
  | .f32 => 127 | .bf16 => 127 | .f16 => 15 | .e4m3 => 7 | .e5m2 => 15
def Fmt.hasInf : Fmt → Bool
  | .e4m3 => false | _ => true
def Fmt.canonNaN : Fmt → Nat
  | .f32 => 0x7FC00000 | .bf16 => 0x7FC0 | .f16 => 0x7E00 | .e4m3 => 0x7F | .e5m2 => 0x7E
/-- The bits of the largest finite value. -/
def Fmt.maxBits : Fmt → Nat
  | .f32 => 0x7F7FFFFF | .bf16 => 0x7F7F | .f16 => 0x7BFF | .e4m3 => 0x7E | .e5m2 => 0x7B
/-- The bits of +infinity (of a format that has one). -/
def Fmt.infBits (f : Fmt) : Nat := (2 ^ f.eb - 1) * 2 ^ f.mb

/-- A magnitude, exactly: n / d x 2^e, d not 0. One number has many such forms; `Mag.le` compares the numbers. -/
structure Mag where
  n : Nat
  d : Nat
  e : Int
deriving DecidableEq, Repr, Inhabited

def Mag.zero : Mag := ⟨0, 1, 0⟩
def Mag.ofNat (n : Nat) : Mag := ⟨n, 1, 0⟩
def Mag.isZero (a : Mag) : Bool := a.n == 0
/-- The number as a fraction of two naturals. -/
def Mag.frac (a : Mag) : Nat × Nat :=
  if 0 ≤ a.e then (a.n * 2 ^ a.e.toNat, a.d) else (a.n, a.d * 2 ^ (-a.e).toNat)
/-- The least exponent of two, and both numerators over the common denominator at that exponent. -/
def Mag.align (a b : Mag) : Nat × Nat × Int :=
  let e := if a.e ≤ b.e then a.e else b.e
  (a.n * b.d * 2 ^ (a.e - e).toNat, b.n * a.d * 2 ^ (b.e - e).toNat, e)
def Mag.add (a b : Mag) : Mag := ⟨(a.align b).1 + (a.align b).2.1, a.d * b.d, (a.align b).2.2⟩
/-- The difference of a greater and a smaller magnitude. -/
def Mag.sub (a b : Mag) : Mag := ⟨(a.align b).1 - (a.align b).2.1, a.d * b.d, (a.align b).2.2⟩
def Mag.mul (a b : Mag) : Mag := ⟨a.n * b.n, a.d * b.d, a.e + b.e⟩
def Mag.div (a b : Mag) : Mag := ⟨a.n * b.d, a.d * b.n, a.e - b.e⟩
def Mag.lt (a b : Mag) : Bool := (a.align b).1 < (a.align b).2.1
def Mag.eq (a b : Mag) : Bool := (a.align b).1 == (a.align b).2.1
/-- x x 2^k. -/
def Mag.scale (a : Mag) (k : Int) : Mag := ⟨a.n, a.d, a.e + k⟩

/-- An exact value: a NaN, an infinity, or a sign and a magnitude (a zero keeps its sign, R86). -/
inductive Ex where
  | nan
  | inf (neg : Bool)
  | num (neg : Bool) (mag : Mag)
deriving DecidableEq, Repr, Inhabited

def Ex.zero : Ex := .num false .zero
def Ex.one : Ex := .num false (.ofNat 1)
def Ex.isNaN : Ex → Bool
  | .nan => true | _ => false
def Ex.isInf : Ex → Bool
  | .inf _ => true | _ => false
def Ex.isZero : Ex → Bool
  | .num _ m => m.isZero | _ => false
def Ex.neg : Ex → Bool
  | .nan => false | .inf s => s | .num s _ => s
def Ex.ofInt (x : Int) : Ex := .num (x < 0) (.ofNat x.natAbs)
def Ex.negate : Ex → Ex
  | .nan => .nan | .inf s => .inf (!s) | .num s m => .num (!s) m
def Ex.abs : Ex → Ex
  | .nan => .nan | .inf _ => .inf false | .num _ m => .num false m

/-- The value that bits of a format encode (R84). -/
def Fmt.value (f : Fmt) (bits : Nat) : Ex :=
  let m := bits % 2 ^ f.mb
  let e := bits / 2 ^ f.mb % 2 ^ f.eb
  let neg := bits / 2 ^ (f.mb + f.eb) % 2 == 1
  if f == .e4m3 && e == 15 && m == 7 then .nan
  else if f != .e4m3 && e == 2 ^ f.eb - 1 then (if m == 0 then .inf neg else .nan)
  else if e == 0 then .num neg ⟨m, 1, 1 - (f.bias : Int) - (f.mb : Int)⟩
  else .num neg ⟨2 ^ f.mb + m, 1, (e : Int) - (f.bias : Int) - (f.mb : Int)⟩

/-- The exponent e with 2^e ≤ x < 2^(e+1), of a positive x. -/
def floorLog2 (x : Mag) : Int :=
  let e : Int := (Nat.log2 x.n : Int) - (Nat.log2 x.d : Int)
  if Mag.lt ⟨x.n, x.d, 0⟩ ⟨1, 1, e⟩ then e - 1 + x.e else e + x.e

/-- A magnitude rounded to a natural number by mode, for a number of the sign given. -/
def roundNat (r : Rnd) (neg : Bool) (x : Mag) : Nat :=
  let q := x.frac.1 / x.frac.2
  let rest := x.frac.1 % x.frac.2
  let up : Bool :=
    match r with
    | .rne => x.frac.2 < 2 * rest || (2 * rest == x.frac.2 && q % 2 == 1)
    | .rtz => false
    | .rup => !neg && rest != 0
    | .rdn => neg && rest != 0
  if up then q + 1 else q

/-- The exponent of the least normal value (R84). -/
def Fmt.emin (f : Fmt) : Int := 1 - (f.bias : Int)

/-- The exponent of F's step around a positive magnitude: unbounded above, the subnormal step below (R88). -/
def Fmt.stepExp (f : Fmt) (x : Mag) : Int :=
  let e := floorLog2 x
  (if e < f.emin then f.emin else e) - (f.mb : Int)

/-- Quantise of R88: the magnitude rounded to F's precision. -/
def Fmt.quantise (f : Fmt) (r : Rnd) (neg : Bool) (x : Mag) : Mag :=
  if x.isZero then .zero else ⟨roundNat r neg (x.scale (-f.stepExp x)), 1, f.stepExp x⟩

def Fmt.maxFinite (f : Fmt) : Mag :=
  match f.value f.maxBits with
  | .num _ m => m
  | _ => .zero

/-- The bits of a magnitude that F represents exactly. -/
def Fmt.bitsOf (f : Fmt) (neg : Bool) (y : Mag) : Nat :=
  let s := if neg then 2 ^ (f.mb + f.eb) else 0
  let m := roundNat .rtz false (y.scale (-f.stepExp y))
  if y.isZero then s
  else if floorLog2 y < f.emin then s + m
  else s + (floorLog2 y - f.emin + 1).toNat * 2 ^ f.mb + (m - 2 ^ f.mb)

/-- RoundTo (R88): the bits and the flags raised. -/
def Fmt.round (f : Fmt) (r : Rnd) (sat : Bool) (x : Ex) : Nat × Flags8 :=
  let sign (neg : Bool) : Nat := if neg then 2 ^ (f.mb + f.eb) else 0
  match x with
  | .nan => (f.canonNaN, 0)
  | .inf neg =>
    if sat then (sign neg + f.maxBits, fSAT)
    else if f.hasInf then (sign neg + f.infBits, 0)
    else (f.canonNaN, fNV)
  | .num neg m =>
    let y := f.quantise r neg m
    let inexact : Flags8 :=
      if y.eq m then 0 else if m.lt ⟨1, 1, f.emin⟩ then fNX ||| fUF else fNX
    if f.maxFinite.lt y then
      if sat then (sign neg + f.maxBits, inexact ||| fOF ||| fSAT)
      else if r == .rtz || (r == .rdn && !neg) || (r == .rup && neg) then (sign neg + f.maxBits, inexact ||| fOF)
      else if f.hasInf then (sign neg + f.infBits, inexact ||| fOF)
      else (f.canonNaN, inexact ||| fOF)
    else (f.bitsOf neg y, inexact)

/-! Exact arithmetic (R86, R91). -/

/-- The exact sum and NV. -/
def Ex.add (r : Rnd) (a b : Ex) : Ex × Flags8 :=
  match a, b with
  | .nan, _ => (.nan, 0)
  | _, .nan => (.nan, 0)
  | .inf x, .inf y => if x == y then (.inf x, 0) else (.nan, fNV)
  | .inf x, .num _ _ => (.inf x, 0)
  | .num _ _, .inf y => (.inf y, 0)
  | .num x m, .num y n =>
    if x == y then (.num x (m.add n), 0)
    else if m.eq n then (.num (r == .rdn) .zero, 0)
    else if n.lt m then (.num x (m.sub n), 0)
    else (.num y (n.sub m), 0)

/-- The exact product and NV. -/
def Ex.mul (a b : Ex) : Ex × Flags8 :=
  match a, b with
  | .nan, _ => (.nan, 0)
  | _, .nan => (.nan, 0)
  | .inf x, .inf y => (.inf (x != y), 0)
  | .inf x, .num y n => if n.isZero then (.nan, fNV) else (.inf (x != y), 0)
  | .num x m, .inf y => if m.isZero then (.nan, fNV) else (.inf (x != y), 0)
  | .num x m, .num y n => (.num (x != y) (m.mul n), 0)

/-- The exact quotient and NV; a finite number over 0 is an infinity. -/
def Ex.div (a b : Ex) : Ex × Flags8 :=
  match a, b with
  | .nan, _ => (.nan, 0)
  | _, .nan => (.nan, 0)
  | .inf _, .inf _ => (.nan, fNV)
  | .inf x, .num y _ => (.inf (x != y), 0)
  | .num x _, .inf y => (.num (x != y) .zero, 0)
  | .num x m, .num y n =>
    if n.isZero then (if m.isZero then (.nan, fNV) else (.inf (x != y), 0)) else (.num (x != y) (m.div n), 0)

/-- a x b + c exactly (R91). -/
def Ex.fma (r : Rnd) (a b c : Ex) : Ex × Flags8 :=
  match Ex.mul a b with
  | (p, g) =>
    match Ex.add r p c with
    | (y, h) => (y, g ||| h)

/-- Round an exact result, adding the flags of its operation. -/
def Fmt.finish (f : Fmt) (r : Rnd) (sat : Bool) (x : Ex × Flags8) : Nat × Flags8 :=
  match f.round r sat x.1 with
  | (b, g) => (b, g ||| x.2)

/-! Order (R90, R91). -/

/-- Less, infinities at the ends; false with a NaN. -0 and +0 are equal. -/
def Ex.lt (a b : Ex) : Bool :=
  match a, b with
  | .nan, _ => false
  | _, .nan => false
  | .inf x, .inf y => x && !y
  | .inf x, .num _ _ => x
  | .num _ _, .inf y => !y
  | .num x m, .num y n =>
    match x, y with
    | false, false => m.lt n
    | true, true => n.lt m
    | true, false => !(m.isZero && n.isZero)
    | false, true => false

def Ex.eq (a b : Ex) : Bool :=
  match a, b with
  | .nan, _ => false
  | _, .nan => false
  | .inf x, .inf y => x == y
  | .inf _, .num _ _ => false
  | .num _ _, .inf _ => false
  | .num x m, .num y n => (x == y && m.eq n) || (m.isZero && n.isZero)

/-- The order of minimum and maximum: -0 below +0 (R90). -/
def Ex.below (a b : Ex) : Bool := a.lt b || (a.eq b && a.neg && !b.neg)

/-- Minimum (R90). -/
def Ex.min (a b : Ex) : Ex :=
  if a.isNaN then b else if b.isNaN then a else if b.below a then b else a

/-- Maximum (R90). -/
def Ex.max (a b : Ex) : Ex :=
  if a.isNaN then b else if b.isNaN then a else if a.below b then b else a

/-- A comparison by its condition code 0 to 5, and NV (R91). -/
def Ex.cond (c : Nat) (a b : Ex) : Bool × Flags8 :=
  let nan := a.isNaN || b.isNaN
  let nv : Flags8 := if nan then fNV else 0
  match c with
  | 0 => (a.eq b, 0)
  | 1 => (!a.eq b, 0)
  | 2 => (a.lt b, nv)
  | 3 => (a.lt b || a.eq b, nv)
  | 4 => (b.lt a, nv)
  | _ => (b.lt a || a.eq b, nv)

/-! Integers (R82, R83, R89). -/

/-- The low w bits of a number read as unsigned. -/
def lowNat (w : Nat) (x : Int) : Nat := (x % (2 ^ w : Nat)).toNat

/-- The low w bits of a number read as two's complement. -/
def lowInt (w : Nat) (x : Int) : Int :=
  let y := lowNat w x
  if 2 ^ w ≤ 2 * y then (y : Int) - (2 ^ w : Nat) else y

/-- The low w bits of a number, read as signed or not. -/
def lowOf (w : Nat) (sgn : Bool) (x : Int) : Int := if sgn then lowInt w x else lowNat w x

/-- The least and the greatest value of an integer type. -/
def intLo (w : Nat) (sgn : Bool) : Int := if sgn then -(2 ^ (w - 1) : Nat) else 0
def intHi (w : Nat) (sgn : Bool) : Int := if sgn then (2 ^ (w - 1) : Nat) - 1 else (2 ^ w : Nat) - 1

/-- An integer clamped to a type, with SAT where that changes it. -/
def clampInt (w : Nat) (sgn : Bool) (x : Int) : Int × Flags8 :=
  if x < intLo w sgn then (intLo w sgn, fSAT) else if intHi w sgn < x then (intHi w sgn, fSAT) else (x, 0)

/-- A float to an integer type (R89). Whether a value is outside the type's range is judged of the rounded integer, so that 127.4 to s8
is inexact and no more (DESIGN CHOICE, log 95). -/
def Ex.toInt (r : Rnd) (w : Nat) (sgn : Bool) (x : Ex) : Int × Flags8 :=
  match x with
  | .nan => (0, fNV)
  | .inf neg => (if neg then intLo w sgn else intHi w sgn, fNV)
  | .num neg m =>
    let q : Int := if neg then -(roundNat r neg m : Int) else roundNat r neg m
    if q < intLo w sgn then (intLo w sgn, fNV)
    else if intHi w sgn < q then (intHi w sgn, fNV)
    else (q, if m.frac.1 % m.frac.2 == 0 then 0 else fNX)

/-- Quotient and remainder of R83 at width w: by zero all ones and the dividend; signed division truncates. -/
def divW (w : Nat) (a b : Int) : Int := if b = 0 then -1 else lowOf w true (Int.tdiv a b)
def remW (a b : Int) : Int := if b = 0 then a else Int.tmod a b

/-- Leading zeros of a number of w bits (w for 0). -/
def clzW (w x : Nat) : Nat := if x = 0 then w else w - 1 - Nat.log2 x
/-- Trailing zeros of a number of w bits (w for 0). -/
def ctzW (w x : Nat) : Nat := ((List.range w).find? (fun i => x.testBit i)).getD w
/-- Set bits of a number of w bits. -/
def popW (w x : Nat) : Nat := ((List.range w).filter (fun i => x.testBit i)).length

/-! Ternary (R94, R95). -/

/-- The multipliers M of R95. -/
def ternMul (i : Nat) : Nat :=
  match i with
  | 0 => 65536 | 1 => 21846 | 2 => 7282 | 3 => 2428 | _ => 810

/-- The weight of trit i of a byte; 0 for a byte of 243 to 255. -/
def tritOf (b : Nat) (i : Nat) : Int :=
  if 243 ≤ b then 0
  else
    let q := b * ternMul i / 65536
    let d := q - 3 * (q * 171 / 512)
    if d = 0 then 0 else if d = 1 then 1 else -1

/-- TERN for a byte of 243 to 255. -/
def ternFlag (b : Nat) : Flags8 := if 243 ≤ b then fTERN else 0

/-- The digit VPACK3 stores for a value (R95). -/
def tritDigit (v : Int) : Nat := if v = 0 then 0 else if 0 < v then 1 else 2

/-! Scaled dot products and promotion (R97 to R100). -/

/-- f32 rounding, RNE. -/
def f32 (x : Ex × Flags8) : W32 × Flags8 :=
  match Fmt.finish .f32 .rne false x with
  | (b, g) => (BitVec.ofNat 32 b, g)

def f32Val (w : W32) : Ex := Fmt.f32.value w.toNat

/-- An f32 sum rounded RNE (R101, R98). -/
def f32Add (a b : W32) : W32 × Flags8 := f32 (Ex.add .rne (f32Val a) (f32Val b))
def f32Mul (a b : W32) : W32 × Flags8 := f32 (Ex.mul (f32Val a) (f32Val b))

end Sys2Proof.Machine
end

