-- ==== Sys2Proof/Machine/Tab.lean ====
section
/-! DEFINITION. A finite table: what an unlisted key holds is a default that the reader names. One canonical form (keys
strictly rising, no entry equal to the default), so that equal tables are equal data. -/

namespace Sys2Proof.Machine

/-- Key and value pairs, keys strictly rising. -/
abbrev Tab (α : Type) := List (Nat × α)

/-- The entry of key k, d where there is none. -/
def Tab.get {α : Type} (d : α) : Tab α → Nat → α
  | [], _ => d
  | (i, x) :: t, k => if i = k then x else Tab.get d t k

/-- The table without key k. -/
def Tab.drop {α : Type} (t : Tab α) (k : Nat) : Tab α := t.filter (fun p => p.1 != k)

/-- Place an entry before the first key above it. -/
def Tab.place {α : Type} (k : Nat) (x : α) : Tab α → Tab α
  | [] => [(k, x)]
  | (i, y) :: t => if k < i then (k, x) :: (i, y) :: t else (i, y) :: Tab.place k x t

/-- Set the entry of key k; setting it to the default removes it. -/
def Tab.put {α : Type} [DecidableEq α] (d : α) (t : Tab α) (k : Nat) (x : α) : Tab α :=
  if x = d then t.drop k else Tab.place k x (t.drop k)

/-- Change the entry of key k. -/
def Tab.mod {α : Type} [DecidableEq α] (d : α) (t : Tab α) (k : Nat) (f : α → α) : Tab α := t.put d k (f (t.get d k))

/-- The canonical form. -/
def Tab.wf {α : Type} [DecidableEq α] (d : α) : Tab α → Bool
  | [] => true
  | (i, x) :: t => decide (x ≠ d) && t.all (fun p => decide (i < p.1)) && Tab.wf d t

/-- Set several entries in order. -/
def Tab.putAll {α : Type} [DecidableEq α] (d : α) (t : Tab α) (l : List (Nat × α)) : Tab α :=
  l.foldl (fun t p => t.put d p.1 p.2) t

end Sys2Proof.Machine
end

