-- ==== Sys2Proof/Machine/State.lean ====
section
/-! DEFINITION. The state of one package, as plain data, and the state after reset. Each field's comment gives its width,
the rule that names it and its reset value. -/

namespace Sys2Proof.Machine

/-! ## Registers of a context -/

/-- A stream register (R56). -/
structure Stream where
  /-- 48 bits; R56; reset 0 -/
  base : VAddr := 0
  /-- 2 bits; R56; reset 0 -/
  space : BitVec 2 := 0
  /-- 4 bits; R56; reset 0 -/
  format : BitVec 4 := 0
  /-- 24 bits; R56; reset 0 -/
  count0 : BitVec 24 := 0
  /-- 24 bits; R56; reset 0 -/
  count1 : BitVec 24 := 0
  /-- 24 bits; R56; reset 0 -/
  count2 : BitVec 24 := 0
  /-- 32 bits, signed; R56; reset 0 -/
  stride0 : W32 := 0
  /-- 32 bits, signed; R56; reset 0 -/
  stride1 : W32 := 0
  /-- 32 bits, signed; R56; reset 0 -/
  stride2 : W32 := 0
  /-- 4 bits; R56, R167; reset 7 -/
  blklog : BitVec 4 := 7
  /-- 2 bits; R56; reset 0 -/
  scaleMode : BitVec 2 := 0
  /-- 48 bits; R56; reset 0 -/
  scaleBase : VAddr := 0
  /-- 32 bits, signed; R56; reset 0 -/
  scaleStride : W32 := 0
  /-- 48 bits; R56; reset 0 -/
  cursor : VAddr := 0
deriving DecidableEq, Repr, Inhabited

/-- A register's new value on its way (R45, R60): one destination register, and for a vector one lane group. The flag k
tells the kernel bank from the task registers (R321). -/
inductive Wr where
  | none
  | s (k : Bool) (n : Nat) (x : W64)
  | p (k : Bool) (n : Nat) (x : Bool)
  | v (g n : Nat) (lanes : List (Nat × W32))
  | vm (g n : Nat) (mask x : BitVec 16)
  | mp (n : Nat) (x : W64)
  | st (n : Nat) (x : Stream)
  | stField (n : Nat) (sel : BitVec 4) (x : W64)
  | pat (n : Nat) (x : BitVec 448)
  | sb (g n : Nat) (x : W32)
  /-- a WRC to a CSR -/
  | csr (n : Nat) (x : W64)
deriving DecidableEq, Repr, Inhabited

/-- The engines of a column (R66); a cross-file copy takes the larger divisor of its two files' engines. -/
inductive Eng where
  | ctl | mat | vec | cpy
  /-- between a control file and a vector one, a control and a matrix one, a matrix and a vector one -/
  | ctlVec | ctlMat | matVec
deriving DecidableEq, Repr, Inhabited

/-- A fixed-latency result in flight (R60): written at the end of cycle due - 1, with the FSTAT flags it raises (R77). -/
structure Fly where
  due : Nat
  ctx : CtxId
  w : Wr
  flags : Flags8 := 0
  /-- it comes from the shadow result buffer (R46) -/
  shadow : Bool := false
  /-- the engine that makes it (R66, R432) -/
  eng : Eng := .ctl
deriving DecidableEq, Repr, Inhabited

/-- What resumes an entry of the shadow result buffer: RFE and then the context's next group (R326, R332), that group alone, or
the first group that the resident context issues again (R45, R46). -/
inductive Resumes where
  | rfe | own | first
deriving DecidableEq, Repr, Inhabited

/-- An entry of the shadow result buffer (R45): the remaining cycles, and what resumes it (R46, R326, R333). -/
structure Shadow where
  count : Nat
  w : Wr
  flags : Flags8 := 0
  on : Resumes := .own
  eng : Eng := .ctl
deriving DecidableEq, Repr, Inhabited

/-- A loop-stack entry (R23). -/
structure LoopE where
  start : VAddr
  stop : VAddr
  count : W32
  index : W32
  yld : Bool
deriving DecidableEq, Repr, Inhabited

/-- What a context does: dormant (a handler with no record, or no task), live, gone (its EXIT was executed), or halted
by a double trap (R19, R39, R18, R328). -/
inductive Run where
  | dormant | live | gone | halted
deriving DecidableEq, Repr, Inhabited

/-- A REP under way (R139): the latched count, the strides, the target and the address after the group. -/
structure RepSt where
  count : Nat
  sd : Nat
  sa : Nat
  sb : Nat
  target : Instr
  next : VAddr
  /-- index of the next repetition -/
  idx : Nat := 0
deriving DecidableEq, Repr, Inhabited

/-- One of the three contexts of a resident context (R19, R20). -/
structure Ctx where
  /-- s0-s31 (s0-s15 in a handler), 64 bits each; R52; reset 0 (DESIGN CHOICE, log 4) -/
  s : Tab W64 := []
  /-- kernel bank s0-s15, 64 bits each; R321; reset 0 (DESIGN CHOICE, log 4) -/
  ks : Tab W64 := []
  /-- p0-p7 (p0-p3 in a handler), 1 bit each; R52; reset 0 (DESIGN CHOICE, log 4) -/
  p : Tab Bool := []
  /-- kernel bank p0-p3, 1 bit each; R321; reset 0 (DESIGN CHOICE, log 4) -/
  kp : Tab Bool := []
  /-- b0-b7, 48 bits each; R52; reset 0 (DESIGN CHOICE, log 4) -/
  b : Tab VAddr := []
  /-- program counter, 48 bits; R23, R26; reset 0 (DESIGN CHOICE, log 4); the entry point at launch -/
  pc : VAddr := 0
  /-- loop stack, six entries (two in a handler), innermost first; R23; reset empty -/
  loops : List LoopE := []
  /-- KSTATUS.MODE, 1 bit; R323; reset 0 -/
  mode : Bool := false
  /-- KSTATUS.PMODE, 1 bit; R323; reset 0 -/
  pmode : Bool := false
  /-- KSTATUS.ASYNC, 1 bit; R323; reset 0 -/
  async : Bool := false
  /-- TCAUSE, 32 bits; R323; reset 0 -/
  tcause : W32 := 0
  /-- TEPC, 48 bits; R323; reset 0 -/
  tepc : VAddr := 0
  /-- TNPC, 48 bits; R323; reset 0 -/
  tnpc : VAddr := 0
  /-- TVAL, 64 bits; R323; reset 0 -/
  tval : W64 := 0
  /-- TINFO, 16 bits; R323; reset 0 -/
  tinfo : BitVec 16 := 0
  /-- REP_IDX, 16 bits; R79; reset 0 -/
  repIdx : BitVec 16 := 0
  /-- address of the interrupted REP that REP_IDX belongs to; R327; reset none -/
  repAt : Option VAddr := none
  /-- the REP whose repetitions are issuing; R139; reset none -/
  rep : Option RepSt := none
  /-- dormant, live, gone or halted; R19, R39, R328; reset dormant -/
  run : Run := .dormant
  /-- the branch-target register last prepared and the groups since; R69; reset none -/
  prep : Option (Nat × Nat) := none
  /-- first cycle in which the context may issue (bubbles, trap entry, handler start); R69, R70, R326; reset 0 -/
  ready : Nat := 0
  /-- bubbles that a stopped context had left when the resident context's next group would have issued; R46; reset 0 -/
  late : Nat := 0
  /-- the context's part of the shadow result buffer; R45; reset empty -/
  shadow : List Shadow := []
deriving DecidableEq, Repr, Inhabited

/-! ## The matrix engine -/

/-- The M-class instruction of a command: its address and its first two words, the first in [31:0] (R453). -/
structure Source where
  pc : VAddr
  words : W64 := 0
deriving DecidableEq, Repr, Inhabited

/-- A queued engine command (R223), with the parameters captured by MCALL and the address of its instruction. -/
inductive Cmd where
  | call (idx : BitVec 10) (acc : BitVec 3) (f : BitVec 5) (mp : Tab W64) (src : Source) (serial : Nat)
  | mode (acc : BitVec 3) (ranked : Bool) (k : Nat) (src : Source)
  | clr (acc : BitVec 3) (src : Source)
  | merge (dst acc : BitVec 3) (f : BitVec 5) (src : Source)
deriving DecidableEq, Repr, Inhabited

/-- A running MCALL (R227). -/
structure Call where
  idx : BitVec 10
  acc : BitVec 3
  f : BitVec 5
  mp : Tab W64
  pc : VAddr
  serial : Nat := 0
deriving DecidableEq, Repr, Inhabited

/-- An operand buffer after a fetch (R237): the stream's number and fields as read, the coordinates, the elements' bits
by row x width + column (t5: the weight's s8 bits), and the pinned lines. -/
structure Buf where
  num : Nat
  desc : Stream
  a : Nat
  b : Nat
  data : Tab Nat
  pins : List Nat
deriving DecidableEq, Repr, Inhabited

/-- The exact chunk sums (R240): floating point or not, the sub-chunks, and sum (i, j, q) at (i x 64 + j) x 4 + q. -/
structure XSums where
  fp : Bool
  subs : Nat
  vals : Tab Ex
deriving DecidableEq, Repr, Inhabited

/-- An accumulator tile (R55, R245): entry (i, j) of a SUM tile at i x 64 + j, the pairs of ranked row i in descending
rank at i. -/
structure Tile where
  /-- mode, 1 bit; R55; reset SUM -/
  ranked : Bool := false
  /-- length k, 0 to 32; R228; reset 0 -/
  k : Nat := 0
  /-- 64 x 64 entries of 32 bits; R55; reset 0 (DESIGN CHOICE, log 4) -/
  sum : Tab W32 := []
  /-- 64 ranked rows of (value, index) pairs; R245; reset empty -/
  rows : Tab (List (W32 × W32)) := []
  /-- reject count, 32 bits; R245; reset 0 -/
  reject : W32 := 0
deriving DecidableEq, Repr, Inhabited

/-- The matrix engine state of a resident context (R222). -/
structure Engine where
  /-- microprogram store, 4,096 words of 32 bits; R222; reset TNOP in every word -/
  store : Tab W32 := []
  /-- routine table, 1,024 entries, a store address or unbound; R222; reset unbound -/
  table : Tab (Option (BitVec 12)) := []
  /-- the other resident context of the task holds the same store and table; R222, R230; reset false -/
  shared : Bool := false
  /-- command queue, 4 commands, oldest first; R222; reset empty -/
  queue : List Cmd := []
  /-- the running MCALL with its captured parameters; R222, R227; reset none -/
  call : Option Call := none
  /-- store address of the next step, 12 bits; R251; reset 0 -/
  pos : BitVec 12 := 0
  /-- m0-m15, 32 bits each; R222; reset 0 (DESIGN CHOICE, log 4) -/
  m : Tab W32 := []
  /-- engine loop stack, 4 entries (start, end, count), innermost first; R222; reset empty -/
  loops : List (BitVec 12 × BitVec 12 × W32) := []
  /-- operand buffer FA0; R222; reset empty -/
  fa0 : Option Buf := none
  /-- operand buffer FA1; R222; reset empty -/
  fa1 : Option Buf := none
  /-- operand buffer FB0; R222; reset empty -/
  fb0 : Option Buf := none
  /-- operand buffer FB1; R222; reset empty -/
  fb1 : Option Buf := none
  /-- RS, 64 rows x 4 sub-chunks of f32, entry (r, q) at r x 4 + q, 1.0 where not listed; R222; reset 1.0 -/
  rs : Tab W32 := []
  /-- CS, 4 sub-chunks x 64 columns of f32, entry (q, j) at q x 64 + j; R222; reset 1.0 -/
  cs : Tab W32 := []
  /-- exact chunk sums X, none when empty; R222; reset empty -/
  x : Option XSums := none
  /-- acc0-acc7; R55; reset SUM with 0 in every entry (DESIGN CHOICE, log 4) -/
  tiles : Tab Tile := []
  /-- stopped at TYLD or TRET for a save or a halt; R48, R251, R340; reset false -/
  stopped : Bool := false
  /-- an engine fault whose record is not yet delivered or taken; R250, R331; reset false -/
  faulted : Bool := false
  /-- the step of the routine waits for memory, a pin or a bank; R434; reset false -/
  waits : Bool := false
deriving DecidableEq, Repr, Inhabited

/-! ## Transfers, arrivals, faults -/

/-- Where a transfer stands (R253, R256, R37, R331). -/
inductive XferSt where
  /-- on its way, or held by a quiesce -/
  | live
  /-- its frames are queued or have left; its acknowledgement is awaited -/
  | sent
  /-- landed; its arrival record waits for room, and with it the acknowledgement -/
  | withheld
  /-- stopped by a fault whose record is not yet delivered or taken -/
  | faulted
deriving DecidableEq, Repr, Inhabited

/-- An occupied transfer slot: the instruction and all it captured at issue (R252, R253). -/
structure Xfer where
  /-- order of issue among the package's transfers and requests -/
  serial : Nat
  ins : Instr
  ctx : CtxId
  pc : VAddr
  xa : W64 := 0
  xb : W64 := 0
  xc : W64 := 0
  xh : W64 := 0
  sa : Stream := {}
  sb : Stream := {}
  /-- system core ID of the target -/
  target : BitVec 22 := 0
  /-- identifier at the source (XID of R401), 12 bits -/
  xid : BitVec 12 := 0
  landed : Nat := 0
  /-- elements that landed ahead of the rest (R280) -/
  parts : List Nat := []
  /-- elements read ahead of the rest, or what CPY RANK read of its tile: number and value (R280) -/
  early : List (Nat × Nat) := []
  /-- sectors for which its reads, and its writes, have a race record (R466) -/
  readLog : List Nat := []
  writeLog : List Nat := []
  /-- its task has ended: it posts no flag any longer (R362) -/
  stopped : Bool := false
  /-- the fault that its destination answered to a translation request (R376, R277) -/
  far : Option (Byte × BitVec 4) := none
  st : XferSt := .live
deriving DecidableEq, Repr, Inhabited

/-- An arrival record (R36), 16 to a queue (R37). -/
structure Arrival where
  handler : VAddr
  addr : W64
  len : W64
  src : BitVec 22
deriving DecidableEq, Repr, Inhabited

/-- A landed PUT whose record waits for room (R37): the record and the sender's slot, or the frame's source. -/
structure Withheld where
  arr : Arrival
  core : Option CoreId
  slot : Slot
  xfer : Nat
deriving DecidableEq, Repr, Inhabited

/-- An asynchronous fault record (R330). -/
structure AFault where
  landed : W32 := 0
  target : BitVec 22 := 0
  stream : BitVec 4 := 0
  step : BitVec 12 := 0
  routine : BitVec 10 := 0
  sub : BitVec 4 := 0
  ctx : BitVec 2 := 0
  src : BitVec 2 := 0
  code : Byte := 0
  pc : VAddr := 0
  va : VAddr := 0
  /-- the transfer slot the record holds -/
  xfer : Option Nat := none
deriving DecidableEq, Repr, Inhabited

/-! ## Memory requests -/

/-- The five access paths in the order of the FENCE mask (R11). -/
inductive Path where
  | ls | vs | mf | ce | fb
deriving DecidableEq, Repr, Inhabited

/-- What a request does at a home (R278, R161, R162, R41). -/
inductive ReqKind where
  | load
  | store
  | amo (op : Nat)
  | acas
  | aclaim (cmin div : BitVec 16)
  | flush
  | pref
deriving DecidableEq, Repr, Inhabited

/-- Where a request's result goes. -/
inductive Dest where
  | none
  | s (k : Bool) (n w : Nat) (sgn : Bool)
  /-- the pair s_D, s_(D+1) of ACLAIM -/
  | pair (k : Bool) (n : Nat)
  /-- one element to a lane of v_n; the element type is the stream's format -/
  | v (n fmt : Nat)
deriving DecidableEq, Repr, Inhabited

/-- One piece of a request, performed whole: its bytes' physical addresses from the lowest up, and its data. -/
structure Piece where
  addr : List Nat
  /-- store data, or the atomic's operand -/
  data : W64 := 0
  /-- the new value of ACAS -/
  data2 : W64 := 0
  va : VAddr := 0
  /-- the page has PTE.RC -/
  rc : Bool := false
  /-- the page is CACHED and writable: the line's home moves (R111) -/
  cached : Bool := false
  /-- the page has PTE.RO: replicas of its lines may be held (R112) -/
  ro : Bool := false
  lane : Nat := 0
  /-- performed at the home; of a load or an atomic, what it read -/
  done : Bool := false
  old : W64 := 0
  flags : Flags8 := 0
deriving DecidableEq, Repr, Inhabited

/-- A memory instruction after its issue, until it is performed and its result has landed. -/
structure Req where
  serial : Nat
  /-- control cycle of the core in which it issued (R108) -/
  cyc : Nat := 0
  core : CoreId
  slot : Slot
  ctx : CtxId
  path : Path
  kind : ReqKind
  pieces : List Piece
  dest : Dest := .none
  /-- the scope of an acquire (R282) -/
  acq : Option (BitVec 3) := none
  /-- the scope of a release (R282) -/
  rel : Option (BitVec 3) := none
  /-- Patina does not check the request (R391) -/
  free : Bool := false
  /-- sectors for which the access has written its race record (R466) -/
  logged : List Nat := []
  /-- the interval of its context's primary group when a later release of the core became visible before this write (R294) -/
  stamp : Option Byte := none
  pc : VAddr := 0
deriving DecidableEq, Repr, Inhabited

/-- A release that a location's value carries (R283, R294): the releasing core, its scope and GROUP_SET, and the interval
it carries for its primary group. -/
structure RelTag where
  core : CoreId
  scope : BitVec 3
  groups : W64
  carry : Option (GroupId × Byte) := none
  /-- the release's serial number: the core's earlier writes come first for the observers that the scope covers (R284) -/
  serial : Nat := 0
  /-- a plain store's value stands over it, which an atomic may still follow (R283) -/
  covered : Bool := false
deriving DecidableEq, Repr, Inhabited

/-- A register with a scoreboarded result pending (R64), in one context. -/
inductive SReg where
  | s (x : CtxId) (k : Bool) (n : Nat)
  | p (x : CtxId) (k : Bool) (n : Nat)
  | v (g n : Nat)
deriving DecidableEq, Repr, Inhabited

/-- What a pending register waits for: a request, a barrier generation, a CLKDIV answer, or the engine (R64, R337). -/
inductive Why where
  | req (serial : Nat)
  | bar (g : GroupId) (gen : W32)
  | clk
deriving DecidableEq, Repr, Inhabited

/-- A FENCE not yet complete (R178). -/
structure Fence where
  serial : Nat
  paths : BitVec 5
  scope : BitVec 3
deriving DecidableEq, Repr, Inhabited

/-! ## A resident context and a core -/

/-- Where a resident context's state is (R336, R38): in the core, being saved, or saved. -/
inductive Place where
  | here | saving | saved | evicted
deriving DecidableEq, Repr, Inhabited

/-- An access that its home refused after its group had issued, and the trap its context takes for it at its next boundary (R387,
R456): the context, the cause, the sub-cause, TVAL. -/
structure Denied where
  ctx : CtxId
  cause : Byte
  sub : Byte
  tval : W64
deriving DecidableEq, Repr, Inhabited

/-- One of the two resident contexts of a core (R22). -/
structure Res where
  /-- the slot holds a task; R22; reset free -/
  occ : Bool := false
  /-- the core left the task by EXIT; R18; reset false -/
  left : Bool := false
  /-- the primary has not issued its first group, which finds the groups' current intervals; R26; reset false -/
  fresh : Bool := false
  /-- a launch has left it waiting and it has not been active yet: it holds no registers of its own; R24; reset false -/
  blank : Bool := false
  /-- TASK_ID, 32 bits; R74; reset 0 -/
  task : W32 := 0
  /-- TCI, 12 bits; R74; reset 0 -/
  tci : BitVec 12 := 0
  /-- NCORES, 13 bits; R74; reset 0 -/
  ncores : BitVec 13 := 0
  /-- GROUP_SET, 64 bits; R28; reset 0 -/
  groupSet : W64 := 0
  /-- page-table root, physical bits [45:12]; R371; reset 0 -/
  root : BitVec 34 := 0
  /-- PDID, 16 bits; R320; reset 0 -/
  pdid : BitVec 16 := 0
  /-- the partition; R320; reset 0 -/
  part : PartId := 0
  /-- priority 0-7; R16; reset 0 -/
  prio : BitVec 3 := 0
  /-- CLASS of the task, 2 bits; R435; reset 0 -/
  cls : BitVec 2 := 0
  /-- PWR_GRANT.REQ, 2 bits; R78; reset 0 -/
  req : BitVec 2 := 0
  /-- switch-table base, 48 bits; R173; reset 0 -/
  swtab : VAddr := 0
  /-- first byte of the scratchpad allocation in the core's SRAM; R104; reset 0 -/
  spBase : Nat := 0
  /-- A, bytes of the scratchpad allocation; R104; reset 0 -/
  spSize : Nat := 0
  /-- number of accumulator tiles; R55; reset 0 -/
  tiles : Nat := 0
  /-- primary context; R19 -/
  primary : Ctx := {}
  /-- handler context h1; R19 -/
  h1 : Ctx := {}
  /-- handler context h2; R19 -/
  h2 : Ctx := {}
  /-- v0-v31 of each lane group, lane i of v_n of group g at (g x 32 + n) x 16 + i, 32 bits; R52; reset 0 (log 4) -/
  v : Tab W32 := []
  /-- vm0-vm7 of each lane group, vm_k of group g at g x 8 + k, 16 bits; R52; reset 0 (log 4), vm0 reads all ones -/
  vm : Tab (BitVec 16) := []
  /-- scale bypass SB[0], SB[1] of each lane group, at g x 2 + k, 32 bits; R213; reset 0 (log 4) -/
  sb : Tab W32 := []
  /-- mp0-mp7, 64 bits; R52; reset 0 (log 4) -/
  mp : Tab W64 := []
  /-- permutation patterns 0-7, 448 bits each; R153; reset 0 (log 4) -/
  pats : Tab (BitVec 448) := []
  /-- st0-st15; R56; reset as R167 -/
  streams : Tab Stream := []
  /-- f0-f31, 16 bits; R31; reset 0 -/
  flags : Tab (BitVec 16) := []
  /-- WARN.FIRST, 8 bits; R76; reset 0 -/
  warnFirst : Byte := 0
  /-- WARN.COUNT, 8 bits; R76; reset 0 -/
  warnCount : Byte := 0
  /-- WARN sticky bits [3:0]; R76; reset 0 -/
  warnBits : BitVec 4 := 0
  /-- WARN_PC, 48 bits; R76; reset 0 -/
  warnPc : VAddr := 0
  /-- FSTAT[7:0]; R77; reset 0 -/
  fstat : Flags8 := 0
  /-- FSTAT.TERN_TRAP; R77; reset 0, TTRAP at launch -/
  ternTrap : Bool := false
  /-- YIELD_BOUND, 32 bits; R79; reset 0, from the packet at launch -/
  yieldBound : W32 := 0
  /-- Patina acquired interval of each GROUP_SET slot 0-3, 8 bits; R294; reset 0 -/
  acquired : Tab Byte := []
  /-- fixed-latency results in flight, in the order of issue, at most 64; R45, R60; reset empty -/
  inflight : List Fly := []
  /-- registers with a scoreboarded result pending; R64; reset none -/
  pend : List (SReg × Why) := []
  /-- waiters on flags, oldest first: context, flag, count, and the guard of the FWAIT; R33; reset none -/
  waiters : List (CtxId × BitVec 5 × BitVec 16 × BitVec 3) := []
  /-- generations that a BARW or BARAW naming p0 observes: their completion is still an acquire; R177, R294; reset none -/
  watch : List (GroupId × W32) := []
  /-- FENCEs not yet complete; R178; reset none -/
  fences : List Fence := []
  /-- what FPOSTs order: the FPOST's serial number, paths, and the serial number before which a write on them comes first;
  R286; reset none -/
  posted : List (Nat × BitVec 5 × Nat) := []
  /-- contexts whose TLBI is not complete, with its number; R378; reset none -/
  tlbis : List (CtxId × Nat) := []
  /-- arrival queue, oldest first, at most 16; R37; reset empty -/
  arrivals : List Arrival := []
  /-- landed PUTs whose record waits for room; R37; reset none -/
  withheld : List Withheld := []
  /-- 16 transfer slots; R253; reset free -/
  xfers : Tab (Option Xfer) := []
  /-- asynchronous fault queue, oldest first, at most 17; R330; reset empty -/
  faults : List AFault := []
  /-- AREC0-AREC3, 256 bits; R330; reset 0 -/
  arec : BitVec 256 := 0
  /-- matrix engine; R222 -/
  eng : Engine := {}
  /-- SAVE_BASE, 48 bits; R335; reset 0 -/
  saveBase : VAddr := 0
  /-- here, being saved, saved or evicted; R336, R354; reset here -/
  place : Place := .here
  /-- it is saved halted by the debugger; R340; reset false -/
  savedHalted : Bool := false
  /-- posts that reached the context while it was being saved, with the address that a saturation gives; R34, R76; reset none -/
  heldPosts : List (BitVec 5 × BitVec 16 × VAddr) := []
  /-- arrivals that reached it while it was being saved; R38; reset none -/
  heldArrivals : List Withheld := []
  /-- saves completed (SEQ of the save-area header), 32 bits; R335; reset 0 -/
  saveSeq : W32 := 0
  /-- a machine trap is pending for the primary: the cause and the zone; R334; reset none -/
  machine : Option (Byte × BitVec 9) := none
  /-- posted accesses that their homes refused, oldest first; R117, R387, R456; reset none -/
  denied : List Denied := []
deriving DecidableEq, Repr, Inhabited

/-- A TLB entry: the tag (root, page base, log2 of the page size), the leaf entry and the partition (R374). -/
structure TlbE where
  root : BitVec 34
  page : Nat
  log : Nat
  pte : W64
  part : PartId
deriving DecidableEq, Repr, Inhabited

/-- The engine divisors of a column (R425). -/
structure Divs where
  ctl : Nat := 4
  mat : Nat := 4
  vec : Nat := 4
  cpy : Nat := 4
deriving DecidableEq, Repr, Inhabited

/-- An outstanding CLKDIV (R180), or a change of the controller's own (R433): the engine (0 control, 1 matrix,
2 vector, 3 copy; none is all four) and the divisor; decided and granted or not. -/
structure ClkReq where
  eng : Option (BitVec 2)
  div : Nat
  slot : Slot
  ctx : CtxId
  k : Bool
  pd : Nat
  granted : Bool := false
deriving DecidableEq, Repr, Inhabited

/-- Edges of the four engines since STALL_RATIO was last latched, and how many of them were stalled (R434). -/
structure Sample where
  edges : Divs := { ctl := 0, mat := 0, vec := 0, cpy := 0 }
  stalled : Divs := { ctl := 0, mat := 0, vec := 0, cpy := 0 }
deriving DecidableEq, Repr, Inhabited

/-- A pre-emption under way: the cycle of the request and whether it has landed (R44). -/
structure Preempt where
  since : Nat
  bound : Nat
  landed : Bool := false
deriving DecidableEq, Repr, Inhabited

/-- A core and its column (R3). -/
structure Core where
  /-- resident context A; R22 -/
  a : Res := {}
  /-- resident context B; R22 -/
  b : Res := {}
  /-- evicted contexts by the number of their task's admission, and their scratchpad's bytes in memory; R354; reset none -/
  evicted : Tab Res := []
  /-- the active resident context; R22; reset A (DESIGN CHOICE, log 4) -/
  act : Slot := .a
  /-- what the occupant that was active last left, where another context has taken its slot; R24; reset none -/
  prev : Option Res := none
  /-- CYCLE, counted without wrap (it is read modulo 2^64); R75; reset 0 -/
  cycle : Nat := 0
  /-- partition and PDID of the task that last held each 4 KiB of the scratchpad; R467; reset none -/
  spDom : Tab (Option (BitVec 20)) := []
  /-- lines whose instructions the instruction cache of 64 KiB holds, the last fetched last, at most 512; R1; reset none -/
  icache : List Nat := []
  /-- core TLB, 64 entries; R374; reset empty -/
  tlb : List TlbE := []
  /-- walks that ended in a fault for this core: root, page, sub-cause; R375; reset none -/
  walkFaults : List (BitVec 34 × Nat × Nat) := []
  /-- allocations kept for tasks whose context left the core: task, first byte, size; R18; reset none -/
  kept : List (W32 × Nat × Nat) := []
  /-- consecutive handler groups issued while the primary was ready, 0-4; R40; reset 0 -/
  hRun : Nat := 0
  /-- the handler context that issued last; R40; reset h2, so that h1 is first (DESIGN CHOICE, log 4) -/
  hLast : CtxId := .h2
  /-- contexts of the active resident context whose group was held at issue when last looked at: none of them would issue next; R45;
  reset none -/
  stuck : List CtxId := []
  /-- a pre-emption under way; R44; reset none -/
  preempt : Option Preempt := none
  /-- the active context's last boundary is a yield point that a pre-emption may use; R43; reset false -/
  atYield : Bool := false
  /-- core fenced; R334, R455; reset false -/
  fenced : Bool := false
  /-- column halted with COOLANT_LOST; R334; reset false -/
  coolHalt : Bool := false
  /-- spares used are counted per cluster in the device; a fenced core that no spare replaced stays absent; R457 -/
  absent : Bool := false
  /-- DBG_CTL.EBRK; R339; reset 0 -/
  dbgEbrk : Bool := false
  /-- DBG_CTL.HALT; R339; reset 0 -/
  dbgHalt : Bool := false
  /-- DBG_CTL.STEP in progress; R339; reset 0 -/
  dbgStep : Bool := false
  /-- MODEL: the step of the last halt, the argument of what a view shows of words that R335 does not lay out; reset 0 (DESIGN
  CHOICE, log 16) -/
  haltedAt : Nat := 0
  /-- DBG_STAT.HALTED; R339; reset 0 -/
  halted : Bool := false
  /-- DBG_STAT.DOUBLE; R339; reset 0 -/
  dbgDouble : Bool := false
  /-- DBG_STAT.EBH; R339; reset 0 -/
  dbgEbh : Bool := false
  /-- DBG_VSEL, 64 bits (VIEW and INDEX); R453; reset 0 -/
  dbgVsel : W64 := 0
  /-- CLK_DIV of the column; R78; reset 4 each -/
  divs : Divs := {}
  /-- the outstanding CLKDIV; R180; reset none -/
  clk : Option ClkReq := none
  /-- changes the controller makes of its own, oldest first; R433; reset none -/
  own : List ClkReq := []
  /-- PWR_GRANT.LEVEL, 2 bits; R78; reset 0 -/
  level : BitVec 2 := 0
  /-- COL_STAT.TCAP, 2 bits; R447; reset 0 -/
  tcap : BitVec 2 := 0
  /-- STALL_RATIO[31:0]; R78; reset 0 -/
  stall : W32 := 0
  /-- COL_STAT.SWAL, 6 bits; R447; reset 0 -/
  swal : BitVec 6 := 0
  /-- the rail's present voltage in mV; R428; reset 780 (the reset of COL_STAT.RAIL) -/
  rail : Nat := 780
  /-- COL_STAT.RAIL, the setpoint in mV, 10 bits; R447; reset 780 -/
  railSet : Nat := 780
  /-- COL_STAT.TEMP, 11 bits; R447; reset 0 -/
  temp : BitVec 11 := 0
  /-- COL_STAT.DENY, 3 bits; R447; reset 0 -/
  deny : BitVec 3 := 0
  /-- LEVEL 0 is forced by the outlet temperature of the zone; R444; reset false -/
  capped : Bool := false
  /-- LEVEL 0 and the clock floor are forced by a dry-channel sequence of the zone; R445; reset false -/
  floored : Bool := false
  /-- the first group since the divisors were set for a launch or a switch is still to issue; R433; reset false -/
  fourDue : Bool := false
  /-- thresholds that the hot spot has passed and not yet fallen 5 degrees below, 0-2; R435; reset 0 -/
  hot : Nat := 0
  /-- reference pulses since the last change of a divisor; R425; reset 0 -/
  pulses : Nat := 0
  /-- edges counted for the next STALL_RATIO; R434; reset 0 -/
  sample : Sample := {}
  /-- in this control cycle a group of the active context is held at issue for a reason that R434 lists; reset false -/
  heldCtl : Bool := false
  /-- in this control cycle a V instruction is held on a pending vector result; R434; reset false -/
  heldVec : Bool := false
  /-- in this control cycle the copy engine has moved a byte; R434; reset false -/
  moved : Bool := false
deriving DecidableEq, Repr, Inhabited

/-! ## Homes, translation, stacked memory -/

/-- Where the home of a CACHED line is (R109, R111): HBM, the staging slice, or a core's L1 since a cycle of it. -/
inductive HomeAt where
  | hbm | slice
  | l1 (c : CoreId) (since : Nat)
deriving DecidableEq, Repr, Inhabited

/-- The home of a CACHED line, the cores that pin it (R118), and the FIFO of its home. -/
structure Home where
  at_ : HomeAt := .hbm
  pins : List (CoreId × Slot) := []
  /-- requests that wait for the line, in the order in which they reached its home (R111) -/
  queue : List Nat := []
deriving DecidableEq, Repr, Inhabited

/-- A walk of a die (R375): the space and page, the partition, and the cores that wait for it. -/
structure Walk where
  root : BitVec 34
  page : Nat
  part : PartId
  cores : List CoreId
deriving DecidableEq, Repr, Inhabited

/-- A TLBI not yet complete (R378): who issued it, its kind, root and page, and the peers that have not answered. -/
structure Shoot where
  num : Nat
  core : CoreId
  slot : Slot
  ctx : CtxId
  kind : BitVec 3
  root : BitVec 34
  va : W64
  part : PartId
  serial : Nat
  peers : List PeerId
  /-- rotation in which it was issued -/
  since : W32 := 0
  /-- the serial number when its entries left the caches, once they have (R378) -/
  removed : Option Nat := none
deriving DecidableEq, Repr, Inhabited

/-- The stacked memory of a die (R384). A map lists its dead banks, layer x 4,096 + bank; every other bank is live. -/
structure Stk where
  /-- map in force; R384; reset all live (DESIGN CHOICE, log 7: from repair fuses) -/
  dead : Tab Bool := []
  /-- proposed map; R384; reset all live (DESIGN CHOICE, log 7) -/
  pdead : Tab Bool := []
  /-- the map that the re-stripe under way moves to; R386; reset all live -/
  target : Tab Bool := []
  /-- proposal that waits for step 6; R386; reset none -/
  waiting : Option (Tab Bool) := none
  /-- STK_CAP.SEQ, 16 bits; R384; reset 0 -/
  seq : BitVec 16 := 0
  /-- STK_CAP.STATE, 2 bits; R384; reset 0 -/
  state : BitVec 2 := 0
  /-- STK_STAGE, first line index of the staging area, 32 bits; R384; reset 0 (DESIGN CHOICE, log 4) -/
  stage : W32 := 0
  /-- STK_MIRROR[45:12]; R384; reset 0 (DESIGN CHOICE, log 4) -/
  mirror : BitVec 34 := 0
  /-- TEST_CTL.PERIOD, 16 bits; R389; reset 1,000 -/
  testPeriod : BitVec 16 := 1000
  /-- TEST_CTL.LANES, 8 bits; R389; reset 0 -/
  testLanes : Byte := 0
  /-- TEST_CTL.EN; R389; reset 1 -/
  testEn : Bool := true
  /-- the column bus the tester visits next, 0-255; R388; reset 0 (DESIGN CHOICE, log 4) -/
  testBus : Byte := 0
  /-- banks with an uncorrectable error not yet retired; R385; reset none -/
  bad : List Nat := []
  /-- banks retired, or proposed for it, for heat; R385; reset none -/
  heat : List Nat := []
deriving DecidableEq, Repr, Inhabited

/-- A coolant zone of a die (R440, R443). -/
structure Zone where
  /-- CAT.VALVE, 8 bits; R440; reset 0 -/
  valve : Byte := 0
  /-- CAT.STATE, 3 bits; R440; reset 0 (FREE) -/
  state : BitVec 3 := 0
  /-- CAT.PRIO, 3 bits; R440; reset 0 -/
  prio : BitVec 3 := 0
  /-- CAT.OWNER, 4 bits; R440; reset 0 -/
  owner : PartId := 0
  /-- CAT.CLASS, 2 bits; R440; reset 0 -/
  cls : BitVec 2 := 0
  /-- CAT.MAXFLOW, 11 bits; R440; reset 160 -/
  maxflow : BitVec 11 := 160
  /-- CAT.MINFLOW, 11 bits; R440; reset 0 -/
  minflow : BitVec 11 := 0
  /-- what a lack of supply leaves of the classes: those above 2 less this number are lowered to it; R442; reset 0 -/
  lowered : Nat := 0
  /-- ZSENS, 64 bits; R443; reset 0 -/
  sens : W64 := 0
  /-- ZLIM.PMAX, 12 bits; R443; reset 300 -/
  pmax : BitVec 12 := 300
  /-- ZLIM.FMIN, 11 bits; R443; reset 24 -/
  fmin : BitVec 11 := 24
  /-- ZLIM.TMAX, 13 bits; R443; reset 480 -/
  tmax : BitVec 13 := 480
  /-- crossings that have fired and not returned, FLOW TOUT PRESS VOID in bits 0-3; R444; reset 0 -/
  tripped : BitVec 4 := 0
  /-- step of the dry-channel sequence, 0 when none; R445; reset 0 -/
  evac : Nat := 0
  /-- attempts made of the sequence; R445; reset 0 -/
  tries : Nat := 0
  /-- purge pulses begun in this attempt, 0-8; R445; reset 0 -/
  pulse : Nat := 0
  /-- the pump interface is asked for its boost pressure; R445; reset false -/
  boost : Bool := false
deriving DecidableEq, Repr, Inhabited

/-- A compute die. -/
structure Die where
  /-- 16 coolant zones; R439 -/
  zones : Tab Zone := []
  /-- stacked memory; R384 -/
  stk : Stk := {}
  /-- PCTL.VMAX, mV; R447; reset 950 -/
  vmax : BitVec 10 := 950
  /-- PCTL.VFLOOR, mV; R447; reset 680 -/
  vfloor : BitVec 10 := 680
  /-- SRAM_RAIL.SET, mV; R447; reset 800 -/
  sramSet : BitVec 10 := 800
  /-- SRAM_RAIL.MAX, mV; R447; reset 850 -/
  sramMax : BitVec 10 := 850
  /-- SRAM_RAIL.FLOOR, mV; R447; reset 700 -/
  sramFloor : BitVec 10 := 700
  /-- SRAM_RAIL.SETPT, 18 bits; R447; reset 16 -/
  sramSetpt : BitVec 18 := 16
  /-- SRAM_RAIL.LASTC, 16 bits; R447; reset 0 -/
  sramLastc : BitVec 16 := 0
  /-- windows for which an uncorrectable error still holds the rail; R438; reset 0 -/
  sramHold : Nat := 0
  /-- STALL_RATIO.SEQ, 16 bits; R78, R434; reset 0 -/
  stallSeq : BitVec 16 := 0
  /-- FENCE_STAT.DIE; R454; reset 0 -/
  fenced : Bool := false
  /-- FENCE_STAT.LINK; R454; reset 0 -/
  linkFenced : Bool := false
  /-- SOFTERR, 64 bits; R454; reset 0 -/
  softerr : W64 := 0
  /-- UCERR.COUNT, 16 bits; R454; reset 0 -/
  ucCount : BitVec 16 := 0
  /-- UCERR.ADDR, 46 bits; R454; reset 0 -/
  ucAddr : BitVec 46 := 0
  /-- walks in arrival order, the first 256 running; R375; reset none -/
  walks : List Walk := []
  /-- cluster TLBs, 4,096 entries each; R374; reset empty -/
  ctlb : Tab (List TlbE) := []
  /-- SHOOT_MASK of the die's OFU, 64 bits; R423; reset 0 (DESIGN CHOICE, log 4) -/
  shootMask : W64 := 0
  /-- FAB_LOG, 64 bits; R423; reset 0 (DESIGN CHOICE, log 4) -/
  fabLog : W64 := 0
  /-- records written to FAB_LOG's ring; R423; reset 0 -/
  fabLogN : Nat := 0
  /-- remote-window translations held by the OFU: domain, peer, page, answer; R376; reset none -/
  rwt : List (BitVec 4 × PeerId × Nat × W64) := []
  /-- ATT_STAT; R464; reset 0 (DESIGN CHOICE, log 4) -/
  attStat : Nat := 0
  /-- the nonce, 32 bytes; R464; reset 0 (DESIGN CHOICE, log 4) -/
  nonce : BitVec 256 := 0
  /-- ATT_CTL, 64 bits; R464; reset 0 (DESIGN CHOICE, log 4) -/
  attCtl : W64 := 0
  /-- a report is being made; R464; reset false -/
  attBusy : Bool := false
  /-- spare cores used, per cluster; R457; reset 0 -/
  spares : Tab Nat := []
  /-- mark vectors, a bit for each group: of the router of column n at n, of the bridge port toward a neighbour at 256 + its
  direction (0 up, 1 down, 2 left, 3 right); R358; reset 0 -/
  marks : Tab (BitVec 256) := []
deriving DecidableEq, Repr, Inhabited

/-! ## Queues, tasks, groups, partitions -/

/-- A queue (R341). -/
structure Queue where
  /-- STATE, 2 bits; R341; reset 0 (FREE) -/
  state : BitVec 2 := 0
  /-- owning partition; R341; reset 0 -/
  part : PartId := 0
  /-- RPTR, 32 bits; R341; reset 0 -/
  rptr : W32 := 0
  /-- WPTR, 32 bits; R341; reset 0 -/
  wptr : W32 := 0
  /-- ERR, 8 bits; R341; reset 0 -/
  err : Byte := 0
  /-- ROOT, 34 bits; R341; reset 0 -/
  root : BitVec 34 := 0
  /-- HOMEDIE, 4 bits; R341; reset 0 -/
  homedie : DieId := 0
  /-- MAXPRIO, 3 bits; R341; reset 0 -/
  maxprio : BitVec 3 := 0
  /-- SIZELOG, 4 bits; R341; reset 0 -/
  sizelog : BitVec 4 := 0
  /-- BASE, 48 bits; R341; reset 0 -/
  base : VAddr := 0
  /-- started packets that are not complete: the packet's number and the task, if it is a launch; R348; reset none -/
  open_ : List (W32 × Option W32) := []
  /-- the packet whose admission or wait has begun: its doublewords; R349, R352, R347; reset none -/
  head : Option Packet := none
  /-- the launch or wait at the head has been read but has not started or ended; R351; reset false -/
  waiting : Bool := false
deriving DecidableEq, Repr, Inhabited

/-- How a task ends (R361). -/
structure Ending where
  status : Byte
  cause : Byte
  /-- the sub-cause of HW_ERROR: 1 a double trap or a fenced core, 2 a failed ECRC; R328, R334, R335. No record holds it (R353) -/
  sub : Byte := 0
deriving DecidableEq, Repr, Inhabited

/-- A running task (R16). -/
structure Task where
  id : W32
  queue : QueueId
  /-- the number of its packet in the queue -/
  packet : W32
  part : PartId
  root : BitVec 34
  pdid : BitVec 16
  prio : BitVec 3
  cls : BitVec 2
  signal : VAddr
  /-- cores in order of TCI, with the slot the task holds there -/
  cores : List (CoreId × Slot)
  /-- cores whose primary has executed EXIT -/
  exited : List CoreId := []
  /-- zones granted (die x 16 + local zone) -/
  zones : List Nat := []
  /-- group IDs loaded for it -/
  groups : List GroupId := []
  /-- RACE_LOG_COUNT, 32 bits; R79; reset 0 at launch -/
  raceCount : W32 := 0
  /-- RACE_CFG as taken at admission; R390 -/
  raceCfg : W64 := 0
  /-- the first dropped race record was noted; R391 -/
  raceDropped : Bool := false
  ending : Option Ending := none
deriving DecidableEq, Repr, Inhabited

/-- An Armature entry (R356) with the counts its dies keep and the arrivals of peers (R358). -/
structure Arm where
  /-- V; R356; reset 0 -/
  v : Bool := false
  /-- STATE; R356; reset 0 (ACTIVE) -/
  broken : Bool := false
  /-- INTERVAL, 8 bits; R356; reset 0 -/
  interval : Byte := 0
  /-- GEN, 32 bits; R356; reset 0 -/
  gen : W32 := 0
  /-- OWNER, 32 bits; R356; reset 0 -/
  owner : W32 := 0
  /-- DIEMASK, 16 bits; R356; reset 0 -/
  dies : BitVec 16 := 0
  /-- PEERMASK, 64 bits; R356; reset 0 -/
  peers : W64 := 0
  /-- EXPECT per die, 9 bits each; R356; reset 0 -/
  expect : Tab Nat := []
  /-- arrivals counted at each die; R358; reset 0 -/
  count : Tab Nat := []
  /-- members that have arrived in this generation, with the serial number of the arrival (a release); R29, R292; reset
  none -/
  arrived : List (CoreId × Slot × Nat) := []
  /-- dies that have sent their die-complete message; R358; reset none -/
  reported : List DieId := []
  /-- the package's own arrival has been sent for this generation; R358; reset false -/
  sent : Bool := false
  /-- peers whose arrival of this generation has come; R358; reset none -/
  came : List PeerId := []
  /-- peers whose arrival of the next generation came early; R406; reset none -/
  early : List PeerId := []
  /-- releases on their way: generation, core, and the interval the completion carries; R294, R358; reset none -/
  releases : List (W32 × CoreId × Byte) := []
deriving DecidableEq, Repr, Inhabited

/-- A partition (R449). -/
structure Part where
  /-- PART_CFG, 64 bits; R450; reset 0 -/
  cfg : W64 := 0
  /-- QCMD_ARG0-QCMD_ARG3, 64 bits each; R342; reset 0 (DESIGN CHOICE, log 4) -/
  args : Tab W64 := []
  /-- QSTAT; R342; reset 0 (DESIGN CHOICE, log 4) -/
  qstat : Nat := 0
  /-- RACE_CFG, 64 bits; R390; reset 0 -/
  raceCfg : W64 := 0
  /-- dispatch log register, 64 bits; R452; reset 0 (DESIGN CHOICE, log 4) -/
  dlog : W64 := 0
  /-- records written to the dispatch log; R366; reset 0 -/
  dlogN : Nat := 0
  /-- event log register, 64 bits; R452; reset 0 (DESIGN CHOICE, log 4) -/
  elog : W64 := 0
  /-- records written to the event log; R444; reset 0 -/
  elogN : Nat := 0
  /-- TVEC, 64 bits; R323; reset 0 (DESIGN CHOICE, log 4) -/
  tvec : W64 := 0
  /-- the management interrupt is raised; R444; reset false -/
  irq : Bool := false
  /-- doorbells are held while HLINK is reassigned; R454; reset false -/
  held : Bool := false
  /-- doorbells that are held, oldest first; R454; reset none -/
  bells : List W64 := []
  /-- queue served last, per die and priority; R351; reset none -/
  served : Tab Nat := []
  /-- receive windows 0-255, 256 bits each; R422; reset 0 (undefined) -/
  windows : Tab (BitVec 256) := []
  /-- expert map entries, window x 32 + expert, 256 bits each; R422; reset 0 -/
  experts : Tab (BitVec 256) := []
  /-- space in which windows are addressed: the root of the TOPO queue; R419; reset 0 -/
  winRoot : BitVec 34 := 0
  /-- free pages of the landing pool, physical page addresses; R367; reset none -/
  pool : List Nat := []
deriving DecidableEq, Repr, Inhabited

/-- A row that a SENDM brings (R272): payload, tag, source, and whom to acknowledge. -/
structure LandRow where
  payload : List Byte
  tag : W32
  src : BitVec 22
  /-- the transfer of this package, or the pair of the frame, that waits for the row -/
  xfer : Option (CoreId × Slot × Nat)
  pair : Option Nat
  /-- order of arrival at the package -/
  order : Nat
  /-- the task it is for, and the sender's GROUP_SET -/
  task : W32
  groups : W64
  /-- the sender's acquired intervals, and whether its task traps races (R295, R296) -/
  acquired : List Byte := []
  trap : Bool := false
deriving DecidableEq, Repr, Inhabited

/-- The landing state of one expert (R313, R367 to R369). -/
structure Landing where
  /-- number of the open block or of the next, 32 bits; R367; reset 0 -/
  block : W32 := 0
  /-- rows in the open block, none when no block is open; R313; reset none -/
  rows : Option Nat := none
  /-- page of each block not released: block number, page, and the task whose row opened it; R367, R370; reset none -/
  pages : List (W32 × Nat × W32) := []
  /-- sealed blocks, 32 bits; R368; reset 0 -/
  sealed : W32 := 0
  /-- released blocks, 32 bits; R369; reset 0 -/
  released : W32 := 0
  /-- values written to CTRL bytes 0-3 and not applied yet, oldest first; R369; reset none -/
  writes : List W32 := []
  /-- rows waiting for a block, oldest first; R368; reset none -/
  waiting : List LandRow := []
  /-- the task whose rows land here; R313; reset 0 -/
  task : W32 := 0
deriving DecidableEq, Repr, Inhabited

/-! ## The fabric -/

/-- A comb line (R409). -/
structure Line where
  /-- STATE, 4 bits; R409; reset 0 (3 for a spare) -/
  state : BitVec 4 := 0
  /-- DRIFT, 16 bits; R409; reset 0 -/
  drift : BitVec 16 := 0
  /-- FOR, 8 bits; R409; reset 0xFF -/
  forLine : Byte := 0xFF
  /-- rotation at which an announced retune starts, and the state of its course; R411; reset none -/
  retune : Option W32 := none
  /-- muted until its repair; R410; reset false -/
  muted : Bool := false
deriving DecidableEq, Repr, Inhabited

/-- An optical port (R392). -/
structure Port where
  /-- STATE, 4 bits; R423; reset 0 (DOWN) -/
  state : BitVec 4 := 0
  /-- FECERR, 16 bits; R423; reset 0 -/
  fecerr : BitVec 16 := 0
  /-- MISMATCH, 16 bits; R423; reset 0 -/
  mismatch : BitVec 16 := 0
  /-- L0-L71; R392; spares reset to STATE 3 -/
  lines : Tab Line := []
  /-- Frieze entry of slot s, lane j at s x 16 + j, 32 bits; R396; reset idle -/
  frieze : Tab W32 := []
  /-- peers toward which the port is retraining; R417; reset none -/
  retraining : List PeerId := []
deriving DecidableEq, Repr, Inhabited

/-- LINK_STATE of a peer but for PORTS, which follows from the ports (R80, R416). -/
structure Link where
  /-- MODE, 2 bits; R80; reset 0 -/
  mode : BitVec 2 := 0
  /-- RELAY, 6 bits; R80; reset 0 -/
  relay : PeerId := 0
  /-- QUIESCED because a TOPO quiesces the way to the peer; R416, R420; reset 0 -/
  topo : Bool := false
  /-- QUIESCED from the mute of the last direct line until the relay's repair takes effect; R410, R416; reset 0 -/
  due : Bool := false
  /-- under hold before its removal: rotations left; R418; reset none -/
  hold : Option Nat := none
  /-- the hold began because no header came; R418; reset 0 -/
  silent : Bool := false
  /-- what MODE read for partitions 0-15 when QUIESCED was last set; R416; reset none -/
  shown : Option (List (BitVec 2)) := none
deriving DecidableEq, Repr, Inhabited

/-- A frame queued to leave, or kept (R400, R403, R420): its rotation of sending, its transfer. -/
structure OutFrame where
  frame : Frame
  part : PartId
  seq : Option W32 := none
  sentAt : Option W32 := none
  /-- the slot of its sending -/
  sentSlot : BitVec 6 := 0
  /-- on which port and line it was last sent -/
  via : Option (PortId × Byte) := none
  again : Bool := false
  xfer : Option (CoreId × Slot × Nat) := none
  /-- ACK has passed it; it is kept because its transfer may be replayed from its first frame (R276, R420) -/
  acked : Bool := false
  /-- TLBIs of this package that wait for it (R378) -/
  tlbis : List Nat := []
  /-- its destination's shootdown waits for it (R378) -/
  owed : Bool := false
deriving DecidableEq, Repr, Inhabited

/-- The counts of the ordered pair with a peer (R402 to R404). -/
structure Pair where
  /-- SENT, next new SEQ, 32 bits; R404; reset 0 -/
  sent : W32 := 0
  /-- ACK last received, 32 bits; R402; reset 0 -/
  acked : W32 := 0
  /-- FREED last received, 32 bits; R404; reset 0 -/
  freedIn : W32 := 0
  /-- next SEQ expected, 32 bits; R402; reset 0 -/
  expect : W32 := 0
  /-- buffers freed for the peer, 32 bits; R404; reset 0 -/
  freedOut : W32 := 0
  /-- frames held early, at most DEPTH; R402; reset none -/
  early : List Frame := []
  /-- barrier items waiting for a sequenced frame; R406; reset none -/
  items : List (BitVec 16) := []
  /-- the OFU was reset and waits for a header; R404; reset false -/
  mute : Bool := false
  /-- the frame last applied landed a PUT whose acknowledgement is withheld; R37; reset false -/
  blocked : Bool := false
  /-- transfers of the peer that have faulted here and write no further byte; R277; reset none -/
  failed : List (BitVec 12) := []
  /-- rotation of the last header from the peer, 32 bits; R418; reset 0 -/
  heard : W32 := 0
  /-- the repair messages repeated in the headers to the peer, the next one first: MSG code and fields; R414; reset none -/
  msgs : List (Byte × RepairMsg) := []
  /-- the counts began anew with this end's own rejoin, and the peer's REJOIN has not come; R418; reset false -/
  fresh : Bool := false
deriving DecidableEq, Repr, Inhabited

/-- A repair of this package's own, or one it has accepted (R414). -/
structure Repair where
  owner : PeerId
  rid : BitVec 16
  rn : W32
  action : BitVec 4
  port : PortId
  line : Byte
  target : PeerId
  relay : PeerId
  /-- members of the repair set that have not accepted -/
  waiting : List PeerId := []
  members : List PeerId := []
deriving DecidableEq, Repr, Inhabited

/-- A port-down or retraining announced for a rotation (R412, R417). -/
structure Announced where
  port : PortId
  peer : PeerId
  rn : W32
  /-- DEFERs so far; R417 -/
  defers : Nat := 0
  /-- the retraining is agreed on; R417 -/
  accepted : Bool := false
  /-- this end has answered the request of that RN with DEFER; R417 -/
  deferred : Bool := false
  /-- the request is this end's own, not the peer's; R417 -/
  own : Bool := false
  /-- the retraining has begun; R417 -/
  begun : Bool := false
deriving DecidableEq, Repr, Inhabited

/-- The TOPO procedure under way (R420). -/
structure Topo where
  queue : QueueId
  packet : W32
  part : PartId
  root : BitVec 34
  action : Byte
  timeout : BitVec 16
  ports : W32
  peers : W64
  frieze : VAddr
  windows : VAddr
  npages : BitVec 16
  pool : VAddr
  circuits : VAddr
  rn : W32
  /-- 1 quiesce and drain, 3 mirror move, 4 train, 5 load, 6 resume -/
  step : Nat
  /-- the old tables and peers stand, because TIMEOUT passed -/
  keepOld : Bool := false
deriving DecidableEq, Repr, Inhabited

/-- The counters and registers of one die's optical fabric unit (R14, R395, R423). -/
structure Ofu where
  /-- rotation counter, 32 bits; R395; reset 0 -/
  rot : W32 := 0
  /-- slot counter, 6 bits; R395; reset 0 -/
  slot : BitVec 6 := 0
  /-- FAB_STAT.LOCK; R423; reset 0 -/
  lock : Bool := false
  /-- slots since lock was lost, none while it is not; R395; reset none -/
  unlocked : Option Nat := none
  /-- FAB_STAT.LOADERR; R399, R423; reset 0 -/
  loaderr : Bool := false
  /-- FAB_STAT.QDONE; R420, R423; reset 0 -/
  qdone : Bool := false
  /-- FAB_DEPTH, 11 bits; R423; reset 256 -/
  depth : BitVec 11 := 256
deriving DecidableEq, Repr, Inhabited

/-- The optical fabric of the package. -/
structure Fabric where
  /-- 32 ports; R392 -/
  ports : Tab Port := []
  /-- LINK_STATE of each peer; R80 -/
  links : Tab Link := []
  /-- counts with each peer (and, at 64 + domain, with each remote domain); R402 -/
  pairs : Tab Pair := []
  /-- the optical fabric unit of each die; R395 -/
  ofus : Tab Ofu := []
  /-- FAB_PEERS, 64 bits; R423; reset 0 (DESIGN CHOICE, log 4) -/
  peers : W64 := 0
  /-- STALE, 64 bits; R423; reset 0 (DESIGN CHOICE, log 4) -/
  stale : W64 := 0
  /-- circuit table, 16 entries of 64 bits; R408; reset 0 (DOWN) -/
  circuits : Tab W64 := []
  /-- domains whose circuit a TOPO holds; R408; reset none -/
  heldDomains : List (BitVec 4) := []
  /-- frames to leave, unacknowledged, or kept for a replay, oldest first; R400, R403, R420; reset none -/
  out : List OutFrame := []
  /-- peers whose shootdown this package has not acknowledged yet; R378; reset none -/
  owed : List PeerId := []
  /-- relay buffers, 64 frames per source; R407; reset none -/
  relay : List Frame := []
  /-- repairs pending; R414; reset none -/
  repairs : List Repair := []
  /-- next RID, 16 bits; R414; reset 0 -/
  rid : BitVec 16 := 0
  /-- PORTDOWNs announced by peers; R412; reset none -/
  portdowns : List Announced := []
  /-- retrainings agreed or requested; R417; reset none -/
  retrains : List Announced := []
  /-- the TOPO under way; R420; reset none -/
  topo : Option Topo := none
  /-- next XID, 12 bits; R401; reset 0 -/
  xid : BitVec 12 := 0
deriving DecidableEq, Repr, Inhabited

/-! ## Bring-up -/

/-- Bring-up and attestation of the package (R454, R459 to R463). -/
structure Boot where
  /-- BOOT_STAT.PHASE, 4 bits; R454; reset 0 -/
  phase : BitVec 4 := 0
  /-- BOOT_STAT.ERR, 8 bits; R454; reset 0 -/
  err : Byte := 0
  /-- BOOT_STAT.REJ, 8 bits; R454; reset 0 -/
  rej : Byte := 0
  /-- SVN of the accepted image, 32 bits, of which BOOT_STAT.SVN shows the low 16; R454, R461, R464; reset 0 -/
  svn : W32 := 0
  /-- MEAS0-MEAS7, 256 bits each; R462; reset 0 -/
  meas : Tab (BitVec 256) := []
  /-- fused key hashes, four of 256 bits; R461; fixed 0 (DESIGN CHOICE, log 7) -/
  keys : Tab (BitVec 256) := []
  /-- revoke fuses blown, four bits; R461; fixed 0 (DESIGN CHOICE, log 7) -/
  revoked : BitVec 4 := 0
  /-- fused SVN floor, 32 bits; R461; fixed 0 (DESIGN CHOICE, log 7) -/
  floor : W32 := 0
  /-- fused device secret, 256 bits; R463; fixed 0 (DESIGN CHOICE, log 7) -/
  secret : BitVec 256 := 0
  /-- identity key seed, SHA3-256 of the secret and MEAS0 at step 5; R463; reset 0 (DESIGN CHOICE, log 4) -/
  identity : BitVec 256 := 0
  /-- SERIAL, 64 bits; R454; fixed 0 (DESIGN CHOICE, log 7) -/
  serial : W64 := 0
  /-- DEV_ID.FORM, 16 bits; R454; fixed 0 (DESIGN CHOICE, log 7) -/
  form : BitVec 16 := 0
  /-- DEV_ID.STEP, 16 bits; R454; fixed 0 (DESIGN CHOICE, log 7) -/
  step : BitVec 16 := 0
  /-- HBM_MODE.MODE, 1 bit; R454; fixed 0 (DESIGN CHOICE, log 7) -/
  hbmMode : Bool := false
deriving DecidableEq, Repr, Inhabited

/-! ## The package -/

/-- What the group being issued has met so far: nothing, a hold, or a trap (R57). A hold says what it leaves behind. -/
inductive Hold where
  /-- nothing but time -/
  | plain
  /-- nothing but time: with the group's own results more than 64 would be in flight (R45) -/
  | full
  /-- a waiter on a flag takes its place, with the guard of its FWAIT (R33) -/
  | flag (f : BitVec 5) (n : BitVec 16) (pred : BitVec 3)
  /-- a walk is asked for (R374) -/
  | walk (root : BitVec 34) (va : VAddr)
deriving DecidableEq, Repr, Inhabited

/-- A trap's recorded values (R324). -/
structure Trap where
  cause : Byte
  sub : Byte := 0
  code : BitVec 16 := 0
  tval : W64 := 0
  lane : Option (BitVec 7) := none
deriving DecidableEq, Repr, Inhabited

inductive Mark where
  | none
  | held (h : Hold)
  | trapped (t : Trap)
deriving DecidableEq, Repr, Inhabited

/-- The issue in progress: the context, the group, and the instruction's place in it; and the die that a marker event concerns. -/
structure Issue where
  /-- the issuing core; reset 0 -/
  core : CoreId := 0
  /-- its resident context; reset A -/
  slot : Slot := .a
  /-- the context; reset primary -/
  ctx : CtxId := .primary
  /-- address of the group's first instruction -/
  gpc : VAddr := 0
  /-- address after the group -/
  next : VAddr := 0
  /-- address of the instruction -/
  ipc : VAddr := 0
  /-- position of the instruction in its group -/
  pos : Nat := 0
  /-- first word of the instruction (TVAL of R324) -/
  word : W32 := 0
  /-- the first serial number that the group's own requests, posts and fences may take (R57) -/
  base : Nat := 0
  /-- the instructions of the group -/
  group : List Instr := []
  /-- a branch of the group was taken -/
  taken : Bool := false
  /-- bubbles after the group -/
  bubbles : Nat := 0
  /-- transfer slots that the group has taken and that are free again (R253, R272) -/
  spent : Nat := 0
  /-- the die whose optical fabric unit a marker event concerns (R14, R395); reset 0 -/
  die : DieId := 0
deriving DecidableEq, Repr, Inhabited

/-- The state of one package. -/
structure State where
  /-- 4,096 logical cores by ID; R4 -/
  cores : Tab Core := []
  /-- 16 compute dies; R2 -/
  dies : Tab Die := []
  /-- bytes by 46-bit physical address; R5; an unlisted byte reads 0 (DESIGN CHOICE, log 5) -/
  mem : List Host.Cell := []
  /-- memory requests issued and not ended, oldest first; R278 -/
  reqs : List Req := []
  /-- homes of CACHED lines by line number, HBM where not listed; R111; reset HBM -/
  homes : Tab Home := []
  /-- lines of which replicas are held in L1s or slices; R112; reset none -/
  replicas : List Nat := []
  /-- Patina sector states by physical address / 64, 31 bits; R293; reset SCOPE 7 -/
  patina : Tab (BitVec 31) := []
  /-- the releases that each byte's value carries, by physical address; R283; reset none -/
  tags : Tab (List RelTag) := []
  /-- TLBIs not complete; R378; reset none -/
  shoots : List Shoot := []
  /-- 1,024 queues; R341 -/
  queues : Tab Queue := []
  /-- tasks running; R16; reset none -/
  tasks : List Task := []
  /-- 256 Armature entries; R356 -/
  arms : Tab Arm := []
  /-- 16 partitions; R449 -/
  parts : Tab Part := []
  /-- HBM_OWN, 768 bytes; R450; reset 0 -/
  hbmOwn : Tab Byte := []
  /-- landing state of expert e of window w of partition p, (p x 256 + w) x 32 + e; R367 -/
  lands : Tab Landing := []
  /-- optical fabric; R392 -/
  fab : Fabric := {}
  /-- bring-up and attestation; R459 -/
  boot : Boot := {}
  /-- package's peer number, 6 bits; R74; reset 0 (DESIGN CHOICE, log 7: set at bring-up) -/
  peer : PeerId := 0
  /-- package's domain number, 4 bits; R74; reset 0 (DESIGN CHOICE, log 7: set at bring-up) -/
  domain : BitVec 4 := 0
  /-- COOL_BUDGET.SUPPLY, 16 bits; R447; reset 0 -/
  supply : BitVec 16 := 0
  /-- COOL_BUDGET.BUDGET, 16 bits; R447; reset 11,400 -/
  budget : BitVec 16 := 11400
  /-- entry 256 of the coolant allocation table: MAXFLOW of the host die's zone, 11 bits; R440; reset 160 -/
  hostMaxflow : BitVec 11 := 160
  /-- entry 256 of the coolant allocation table: VALVE of the host die's zone, 8 bits; R439, R440; reset 0 -/
  hostValve : Byte := 0
  /-- HCAP of the package, 2 bits; R435; reset 0 -/
  hcap : BitVec 2 := 0
  /-- MODEL: the data that the last host read returned; reset 0 (DESIGN CHOICE, log 37) -/
  hostData : W64 := 0
  /-- MODEL: the last host transaction completed with an error; reset false (DESIGN CHOICE, log 37) -/
  hostError : Bool := false
  /-- host transactions that wait for a memory line, and those behind them, oldest first; R111, R117, R118, R344; reset none -/
  hostQueue : List HostAccess := []
  /-- MODEL: next serial number of a request, transfer or fence; reset 0 -/
  serial : Nat := 0
  /-- MODEL: tasks admitted so far; reset 0 -/
  launched : Nat := 0
  /-- MODEL: turns to come, before free ones; reset none (DESIGN CHOICE, log 2) -/
  turns : List Turn := []
  /-- MODEL: steps taken, the argument of the free values; reset 0 (DESIGN CHOICE, log 2) -/
  steps : Nat := 0
  /-- MODEL: the issue in progress -/
  cur : Issue := {}
  /-- MODEL: what the group being issued has met -/
  mark : Mark := .none
deriving DecidableEq, Repr, Inhabited

/-- The machine right after reset: nothing listed in any table, and every field at the value its comment names. -/
def State.reset : State := {}

/-- Why the machine stops. No rule of the manual leaves the part without a next state, so nothing raises it but the one
case named. -/
inductive Fault where
  /-- Raised by no meaning: the manual gives every step an effect. Safe. -/
  | stuck
deriving DecidableEq, Repr, Inhabited

/-- Why an instruction has no meaning. -/
inductive Refusal where
  /-- Raised by an arm of `exec` whose row has no meaning yet. Safe: nothing can be proved of it. -/
  | notModelled (mnemonic : String)
deriving DecidableEq, Repr, Inhabited

/-- What a meaning answers. -/
abbrev Out := Host.Outcome State Fault Refusal

end Sys2Proof.Machine
end

