-- ==== Sys2Proof/Machine/Flags.lean ====
section
/-! DEFINITION. The status a program sees of arithmetic and of fallbacks: WARN, WARN_PC and FSTAT (R76, R77, R93, R137),
and the counting flags' sums (R31). -/

namespace Sys2Proof.Machine

/-- The sticky bit of WARN that a warning code sets (R76, R137). -/
def warnBit (code : Nat) : BitVec 4 :=
  match code with
  | 1 => 1
  | 2 => 2
  | 3 => 4
  | _ => 8

/-- Raise one warning (R76): the first since WARN was all clear fills FIRST and WARN_PC; each sets its bit and adds one to
COUNT, which saturates. -/
def Res.warn (r : Res) (code : Nat) (pc : VAddr) : Res :=
  { r with
    warnFirst := if r.warnBits = 0 then BitVec.ofNat 8 code else r.warnFirst
    warnPc := if r.warnBits = 0 then pc else r.warnPc
    warnCount := if r.warnCount = 255 then 255 else r.warnCount + 1
    warnBits := r.warnBits ||| warnBit code }

/-- WRC to WARN (R73, R76): the bits written as 1 are cleared; when none is left, all of WARN and WARN_PC return to 0. -/
def Res.clearWarn (r : Res) (x : W64) : Res :=
  let bits := r.warnBits &&& ~~~(x.setWidth 4)
  if bits = 0 then { r with warnBits := 0, warnFirst := 0, warnCount := 0, warnPc := 0 } else { r with warnBits := bits }

/-- WARN as RDC reads it (R76). -/
def Res.warnWord (r : Res) : W64 := 0#16 ++ r.warnFirst ++ r.warnCount ++ 0#28 ++ r.warnBits

/-- FSTAT as RDC reads it (R77). -/
def Res.fstatWord (r : Res) : W64 := 0#47 ++ BitVec.ofBool r.ternTrap ++ 0#8 ++ r.fstat

/-- Raise sticky FSTAT flags (R77). -/
def Res.raise (r : Res) (g : Flags8) : Res := { r with fstat := r.fstat ||| g }

/-- A counting flag after posts of n, and whether it saturated (R31). -/
def flagSum (x : BitVec 16) (n : Nat) : BitVec 16 × Bool :=
  if 0xFFFF < x.toNat + n then (0xFFFF, true) else (BitVec.ofNat 16 (x.toNat + n), false)

/-- A flag's value. -/
def Res.flag (r : Res) (f : BitVec 5) : BitVec 16 := r.flags.get 0 f.toNat

/-- Set a flag's value. -/
def Res.setFlag (r : Res) (f : BitVec 5) (x : BitVec 16) : Res := { r with flags := r.flags.put 0 f.toNat x }

/-- Post n to a flag (R31): a sum past 0xFFFF saturates with warning 0x01 at the address given (R76). -/
def Res.postFlag (r : Res) (f : BitVec 5) (n : Nat) (pc : VAddr) : Res :=
  let y := flagSum (r.flag f) n
  let r := r.setFlag f y.1
  if y.2 then r.warn 1 pc else r

end Sys2Proof.Machine
end

