-- ==== Sys2Proof/WellFormed.lean ====
section
/-! DEFINITION. Which instructions are well formed: in a field an opcode does not use every bit is 0 (R122), and a
field it uses holds a value its table lists. -/

namespace Sys2Proof

/-- The second-word and register fields of the S format, as names. -/
inductive SFld where
  | d | a | b | c | imm | wid | sgn | scp | md | lit
deriving DecidableEq, Repr

/-- The fields of the V format that an instruction may leave unused (GMASK, VM, RND, SAT and TYPE are always used). -/
inductive VFld where
  | vd | va | vb | vc | bsrc | mod6
deriving DecidableEq, Repr

inductive MFld where
  | idx | acc | f | k | mode | accb | sa
deriving DecidableEq, Repr

inductive XFld where
  | f | xa | xb | xc | xh | acc | k | frem | fnone
deriving DecidableEq, Repr

inductive YFld where
  | f | sa | n | gid | pd | scp
deriving DecidableEq, Repr

inductive BFld where
  | bt | yld | sa | sb
deriving DecidableEq, Repr

inductive CFld where
  | d | a | e
deriving DecidableEq, Repr

inductive UFld where
  | ma | mb | mc | imm
deriving DecidableEq, Repr

/-- Every field outside the list is 0, WID is 0 to 3 and SCP 0 to 5 (R122, R123). -/
def SF.uses (f : SF) (l : List SFld) : Bool :=
  (l.contains .d || f.d == 0) && (l.contains .a || f.a == 0) && (l.contains .b || f.b == 0) &&
  (l.contains .c || f.c == 0) && (l.contains .imm || f.imm == 0) && (l.contains .wid || f.wid == 0) &&
  (l.contains .sgn || !f.sgn) && (l.contains .scp || f.scp == 0) && (l.contains .md || f.md == 0) &&
  (l.contains .lit || f.lit == 0) && f.wid.toNat < 4 && f.scp.toNat < 6

/-- Every field outside the list is 0 and TYPE is no reserved code (R122, R126). -/
def VF.uses (f : VF) (l : List VFld) : Bool :=
  (l.contains .vd || f.vd == 0) && (l.contains .va || f.va == 0) && (l.contains .vb || f.vb == 0) &&
  (l.contains .vc || f.vc == 0) && (l.contains .bsrc || !f.bsrc) && (l.contains .mod6 || f.mod6 == 0) &&
  f.ty.toNat < 12

def MF.uses (f : MF) (l : List MFld) : Bool :=
  (l.contains .idx || f.idx == 0) && (l.contains .acc || f.acc == 0) && (l.contains .f || f.f == 0) &&
  (l.contains .k || f.k == 0) && (l.contains .mode || f.mode == 0) && (l.contains .accb || f.accb == 0) &&
  (l.contains .sa || f.sa == 0)

def XF.uses (f : XF) (l : List XFld) : Bool :=
  (l.contains .f || f.f == 0) && (l.contains .xa || f.xa == 0) && (l.contains .xb || f.xb == 0) &&
  (l.contains .xc || f.xc == 0) && (l.contains .xh || f.xh == 0) && (l.contains .acc || f.acc == 0) &&
  (l.contains .k || f.k == 0) && (l.contains .frem || !f.frem) && (l.contains .fnone || !f.fnone)

/-- With FNONE, F and FREM are 0 (R255). -/
def XF.flagOk (f : XF) : Bool := !f.fnone || (f.f == 0 && !f.frem)

def YF.uses (f : YF) (l : List YFld) : Bool :=
  (l.contains .f || f.f == 0) && (l.contains .sa || f.sa == 0) && (l.contains .n || f.n == 0) &&
  (l.contains .gid || f.gid == 0) && (l.contains .pd || f.pd == 0) && (l.contains .scp || f.scp == 0)

def BF.uses (f : BF) (l : List BFld) : Bool :=
  (l.contains .bt || f.bt == 0) && (l.contains .yld || !f.yld) && (l.contains .sa || f.sa == 0) &&
  (l.contains .sb || f.sb == 0)

def CF.uses (f : CF) (l : List CFld) : Bool :=
  (l.contains .d || f.d == 0) && (l.contains .a || f.a == 0) && (l.contains .e || f.e == 0)

def UF.uses (f : UF) (l : List UFld) : Bool :=
  (l.contains .ma || f.ma == 0) && (l.contains .mb || f.mb == 0) && (l.contains .mc || f.mc == 0) &&
  (l.contains .imm || f.imm == 0)

/-- The four registers of TWALK are different (R233). -/
def UF.walkDistinct (f : UF) : Bool :=
  let x := BitVec.ofNat 4 (f.imm.toNat / 16)
  f.ma != f.mb && f.ma != f.mc && f.mb != f.mc && x != f.ma && x != f.mb && x != f.mc

/-- The modes of TSET (R234). -/
def UF.setOk (f : UF) : Bool :=
  match f.imm.toNat / 1024 with
  | 0 => f.mb == 0 && f.imm.toNat % 1024 < 16
  | 1 => f.mb == 0
  | 2 => true
  | _ => f.mb == 0 && f.imm.toNat % 1024 < 8

/-- BFX and BFI: LEN 1 to 64, IMM16[15:13] 0 (R151). -/
def bitFieldOk (imm : BitVec 16) : Bool :=
  imm.toNat < 0x2000 && 1 ≤ imm.toNat / 64 && imm.toNat / 64 ≤ 64

/-- A permitted engine divisor (R66, R133). -/
def divisorOk (e : BitVec 5) : Bool := e == 3 || e == 4 || e == 5 || e == 6 || e == 8

/-- The K of CPY RANK and RANKMERGE, 1 to 32 (R259). -/
def rankedK (k : BitVec 6) : Bool := 1 ≤ k.toNat && k.toNat ≤ 32

/-- TYPE t5 is tested as z8 (R187). -/
def testedType (ty : BitVec 4) : Nat := if ty == 11 then 10 else ty.toNat
/-- TYPE set A of R191: f32, bf16, f16 and the integers. -/
def tyA (ty : BitVec 4) : Bool := [0, 1, 2, 5, 6, 7, 8, 9, 10].contains (testedType ty)
/-- TYPE set F of R191. -/
def tyF (ty : BitVec 4) : Bool := [0, 1, 2].contains (testedType ty)
/-- TYPE set I of R191. -/
def tyI (ty : BitVec 4) : Bool := [5, 6, 7, 8, 9, 10].contains (testedType ty)
/-- TYPE set All of R191: codes 0 to 10. -/
def tyAll (ty : BitVec 4) : Bool := testedType ty < 11
def tyZero (ty : BitVec 4) : Bool := testedType ty == 0
def tyDot (ty : BitVec 4) : Bool := testedType ty == 7 || testedType ty == 10
def tyDq (ty : BitVec 4) : Bool := 3 ≤ testedType ty && testedType ty ≤ 10
def tyFp8 (ty : BitVec 4) : Bool := testedType ty == 3 || testedType ty == 4
def tyT5 (ty : BitVec 4) : Bool := ty == 11

/-- The fields of a micro-operation, by its code, hold what its form permits (R129, R231, R235 to R244). -/
def UF.okFor (f : UF) (code : Nat) : Bool :=
  match code with
  | 0 => f.uses []
  | 1 => f.uses [.ma, .mb, .mc, .imm] && f.imm.toNat < 64 && (32 ≤ f.imm.toNat || f.mc == 0)
  | 2 => f.uses [.ma, .mb, .mc, .imm] && f.imm.toNat < 64 && (32 ≤ f.imm.toNat || f.mc == 0)
  | 3 => f.uses [.imm] && f.imm.toNat < 4
  | 4 => f.uses [.imm] && f.imm.toNat < 4
  | 5 => f.uses [.imm] && f.imm.toNat < 16
  | 6 => f.uses [.ma, .imm] && f.imm.toNat < 128
  | 7 => f.uses [.ma, .mb, .imm] && f.imm.toNat < 512
  | 8 => f.uses [.ma, .mb, .mc, .imm] && f.imm.toNat < 256 && f.walkDistinct
  | 9 => f.uses [.ma]
  | 10 => f.uses []
  | 11 => f.uses [.ma, .mb, .imm] && f.mb.toNat < 3 && f.imm != 0 && (f.mb != 0 || f.ma == 0)
  | 12 => f.uses []
  | 13 => f.uses [.imm] && f.imm.toNat < 32
  | 14 => f.uses []
  | 15 => f.uses [.ma, .mb, .imm] && f.setOk
  | _ => false

/-- The static well-formedness of an instruction: the field uses of R125, R127, R128, R130 to R133, R187, R191 and
R233. What depends on the machine (a tile not allocated, a handler's registers, a CSR number) is checked at issue. -/
def Instr.wf : Instr → Bool
  | .add _ _ => true
  | .addI _ f => f.uses [.d, .a, .imm, .wid, .sgn]
  | .addL _ f => f.uses [.d, .a, .lit, .wid, .sgn]
  | .sub _ _ => true
  | .subI _ f => f.uses [.d, .a, .imm, .wid, .sgn]
  | .subL _ f => f.uses [.d, .a, .lit, .wid, .sgn]
  | .mul _ _ => true
  | .mulI _ f => f.uses [.d, .a, .imm, .wid, .sgn]
  | .mulL _ f => f.uses [.d, .a, .lit, .wid, .sgn]
  | .mulh _ _ => true
  | .mulhI _ f => f.uses [.d, .a, .imm, .wid, .sgn]
  | .mulhL _ f => f.uses [.d, .a, .lit, .wid, .sgn]
  | .mulhz _ _ => true
  | .mulhzI _ f => f.uses [.d, .a, .imm, .wid, .sgn]
  | .mulhzL _ f => f.uses [.d, .a, .lit, .wid, .sgn]
  | .div _ _ => true
  | .divI _ f => f.uses [.d, .a, .imm, .wid, .sgn]
  | .divL _ f => f.uses [.d, .a, .lit, .wid, .sgn]
  | .divz _ _ => true
  | .divzI _ f => f.uses [.d, .a, .imm, .wid, .sgn]
  | .divzL _ f => f.uses [.d, .a, .lit, .wid, .sgn]
  | .rem _ _ => true
  | .remI _ f => f.uses [.d, .a, .imm, .wid, .sgn]
  | .remL _ f => f.uses [.d, .a, .lit, .wid, .sgn]
  | .remz _ _ => true
  | .remzI _ f => f.uses [.d, .a, .imm, .wid, .sgn]
  | .remzL _ f => f.uses [.d, .a, .lit, .wid, .sgn]
  | .and _ _ => true
  | .andI _ f => f.uses [.d, .a, .imm, .wid, .sgn]
  | .andL _ f => f.uses [.d, .a, .lit, .wid, .sgn]
  | .or _ _ => true
  | .orI _ f => f.uses [.d, .a, .imm, .wid, .sgn]
  | .orL _ f => f.uses [.d, .a, .lit, .wid, .sgn]
  | .xor _ _ => true
  | .xorI _ f => f.uses [.d, .a, .imm, .wid, .sgn]
  | .xorL _ f => f.uses [.d, .a, .lit, .wid, .sgn]
  | .andn _ _ => true
  | .andnI _ f => f.uses [.d, .a, .imm, .wid, .sgn]
  | .andnL _ f => f.uses [.d, .a, .lit, .wid, .sgn]
  | .shl _ _ => true
  | .shlI _ f => f.uses [.d, .a, .imm, .wid, .sgn]
  | .shlL _ f => f.uses [.d, .a, .lit, .wid, .sgn]
  | .shr _ _ => true
  | .shrI _ f => f.uses [.d, .a, .imm, .wid, .sgn]
  | .shrL _ f => f.uses [.d, .a, .lit, .wid, .sgn]
  | .sra _ _ => true
  | .sraI _ f => f.uses [.d, .a, .imm, .wid, .sgn]
  | .sraL _ f => f.uses [.d, .a, .lit, .wid, .sgn]
  | .rotl _ _ => true
  | .rotlI _ f => f.uses [.d, .a, .imm, .wid, .sgn]
  | .rotlL _ f => f.uses [.d, .a, .lit, .wid, .sgn]
  | .min _ _ => true
  | .minI _ f => f.uses [.d, .a, .imm, .wid, .sgn]
  | .minL _ f => f.uses [.d, .a, .lit, .wid, .sgn]
  | .max _ _ => true
  | .maxI _ f => f.uses [.d, .a, .imm, .wid, .sgn]
  | .maxL _ f => f.uses [.d, .a, .lit, .wid, .sgn]
  | .minz _ _ => true
  | .minzI _ f => f.uses [.d, .a, .imm, .wid, .sgn]
  | .minzL _ f => f.uses [.d, .a, .lit, .wid, .sgn]
  | .maxz _ _ => true
  | .maxzI _ f => f.uses [.d, .a, .imm, .wid, .sgn]
  | .maxzL _ f => f.uses [.d, .a, .lit, .wid, .sgn]
  | .clz _ f => f.b == 0
  | .clzW _ f => f.uses [.d, .a, .wid]
  | .ctz _ f => f.b == 0
  | .ctzW _ f => f.uses [.d, .a, .wid]
  | .popc _ f => f.b == 0
  | .popcW _ f => f.uses [.d, .a, .wid]
  | .lea _ f => f.uses [.d, .a, .b, .c, .imm] && f.c.toNat < 8
  | .leaL _ f => f.uses [.d, .a, .b, .c, .lit] && f.c.toNat < 8
  | .sel _ f => f.uses [.d, .a, .b, .c] && f.c.toNat < 8
  | .bfx _ f => f.uses [.d, .a, .imm, .sgn] && bitFieldOk f.imm
  | .bfi _ f => f.uses [.d, .a, .imm] && bitFieldOk f.imm
  | .ext _ f => f.uses [.d, .a, .wid, .sgn]
  | .li _ f => f.uses [.d, .imm]
  | .liL _ f => f.uses [.d, .lit]
  | .lih _ f => f.uses [.d, .imm]
  | .lihL _ f => f.uses [.d, .lit]
  | .bperm _ f => f.uses [.d, .a, .b, .c] && f.c.toNat < 8
  | .cmp _ f => f.uses [.d, .a, .b, .wid, .sgn, .md, .imm] && f.d.toNat < 8 && f.md.toNat < 6
  | .cmpL _ f => f.uses [.d, .a, .b, .wid, .sgn, .md, .lit] && f.d.toNat < 8 && f.md.toNat < 6
  | .plog _ f => f.uses [.d, .a, .b, .md] && f.d.toNat < 8 && f.a.toNat < 8 && f.b.toNat < 8
  | .fadd _ _ => true
  | .faddRnd _ f => f.uses [.d, .a, .b, .md] && f.md.toNat < 4
  | .fsub _ _ => true
  | .fsubRnd _ f => f.uses [.d, .a, .b, .md] && f.md.toNat < 4
  | .fmul _ _ => true
  | .fmulRnd _ f => f.uses [.d, .a, .b, .md] && f.md.toNat < 4
  | .fma _ f => f.uses [.d, .a, .b, .c, .md] && f.md.toNat < 4
  | .fmin _ _ => true
  -- DESIGN CHOICE, log 53: MOD of a 64-bit FMIN or FMAX must be 0 (R157), where R125's table names RND
  | .fmin64 _ f => f.uses [.d, .a, .b]
  | .fmax _ _ => true
  | .fmax64 _ f => f.uses [.d, .a, .b]
  | .fcmp _ f => f.uses [.d, .a, .b, .md] && f.d.toNat < 8 && f.md.toNat < 6
  | .fcvt _ f => f.uses [.d, .a, .wid, .sgn, .md] && f.md.toNat < 8 && (f.wid == 2 || f.wid == 3)
  | .ld _ f => f.uses [.d, .a, .wid, .sgn, .imm]
  | .ldL _ f => f.uses [.d, .a, .wid, .sgn, .lit]
  | .st _ f => f.uses [.d, .a, .wid, .imm]
  | .stL _ f => f.uses [.d, .a, .wid, .lit]
  | .ldaq _ f => f.uses [.d, .a, .wid, .sgn, .scp, .imm]
  | .ldaqL _ f => f.uses [.d, .a, .wid, .sgn, .scp, .lit]
  | .strl _ f => f.uses [.d, .a, .wid, .scp, .imm]
  | .strlL _ f => f.uses [.d, .a, .wid, .scp, .lit]
  | .lds _ f => f.uses [.d, .a, .c, .wid, .sgn, .imm]
  | .ldsL _ f => f.uses [.d, .a, .c, .wid, .sgn, .lit]
  | .sts _ f => f.uses [.d, .a, .c, .wid, .imm]
  | .stsL _ f => f.uses [.d, .a, .c, .wid, .lit]
  | .amo _ f => f.uses [.d, .a, .b, .c, .wid, .sgn, .scp, .md, .imm] && f.md.toNat < 10 && (f.sgn || f.c == 0) && (f.wid == 2 || f.wid == 3 || f.md == 9)
  | .amoL _ f => f.uses [.d, .a, .b, .c, .wid, .sgn, .scp, .md, .lit] && f.md.toNat < 10 && (f.sgn || f.c == 0) && (f.wid == 2 || f.wid == 3 || f.md == 9)
  | .acas _ f => f.uses [.d, .a, .b, .c, .wid, .sgn, .scp, .imm] && (f.wid == 2 || f.wid == 3)
  | .acasL _ f => f.uses [.d, .a, .b, .c, .wid, .sgn, .scp, .lit] && (f.wid == 2 || f.wid == 3)
  | .aclaim _ f => f.uses [.d, .a, .imm, .lit] && f.d.toNat % 2 == 0
  | .movsv _ f => f.uses [.d, .a, .imm] && f.imm.toNat < 0x2000 && (f.imm.toNat < 0x1000 || (f.imm.toNat / 256) % 16 == 0)
  | .movvs _ f => f.uses [.d, .a, .imm, .sgn] && f.imm &&& 0xF0F8 == 0
  | .movsm _ f => f.d.toNat < 8 && f.b == 0
  | .movms _ f => f.b == 0 && (f.a.toNat < 8 || 16 ≤ f.a.toNat)
  | .movfs _ f => f.b == 0
  | .movps _ f => f.a.toNat < 8 && f.b == 0
  | .movsp _ f => f.d.toNat < 8 && f.b == 0
  | .stdef _ f => f.uses [.d, .a, .md] && f.d.toNat < 16 && f.md.toNat < 14
  | .stld _ f => f.uses [.d, .a, .imm] && f.d.toNat < 16
  | .stldL _ f => f.uses [.d, .a, .lit] && f.d.toNat < 16
  | .stst _ f => f.uses [.d, .a, .imm] && f.d.toNat < 16
  | .ststL _ f => f.uses [.d, .a, .lit] && f.d.toNat < 16
  | .bpld _ f => f.uses [.d, .a, .imm] && f.d.toNat < 8
  | .bpldL _ f => f.uses [.d, .a, .lit] && f.d.toNat < 8
  | .vadd _ f => f.uses [.vd, .va, .vb, .bsrc] && tyA f.ty && f.mod6 == 0
  | .vaddL _ f _ => f.uses [.vd, .va] && tyA f.ty
  | .vsub _ f => f.uses [.vd, .va, .vb, .bsrc] && tyA f.ty && f.mod6 == 0
  | .vsubL _ f _ => f.uses [.vd, .va] && tyA f.ty
  | .vmul _ f => f.uses [.vd, .va, .vb, .bsrc] && tyA f.ty && f.mod6 == 0
  | .vmulL _ f _ => f.uses [.vd, .va] && tyA f.ty
  | .vfma _ f => f.uses [.vd, .va, .vc, .vb, .bsrc] && tyA f.ty && f.mod6 == 0
  | .vfmaL _ f _ => f.uses [.vd, .va, .vc] && tyA f.ty
  | .vmin _ f => f.uses [.vd, .va, .vb, .bsrc] && tyA f.ty && f.mod6 == 0
  | .vminL _ f _ => f.uses [.vd, .va] && tyA f.ty
  | .vmax _ f => f.uses [.vd, .va, .vb, .bsrc] && tyA f.ty && f.mod6 == 0
  | .vmaxL _ f _ => f.uses [.vd, .va] && tyA f.ty
  | .vabs _ f => f.uses [.vd, .va] && tyA f.ty
  | .vneg _ f => f.uses [.vd, .va] && tyA f.ty
  | .vand _ f => f.uses [.vd, .va, .vb, .bsrc] && tyAll f.ty && f.mod6 == 0
  | .vandL _ f _ => f.uses [.vd, .va] && tyAll f.ty
  | .vor _ f => f.uses [.vd, .va, .vb, .bsrc] && tyAll f.ty && f.mod6 == 0
  | .vorL _ f _ => f.uses [.vd, .va] && tyAll f.ty
  | .vxor _ f => f.uses [.vd, .va, .vb, .bsrc] && tyAll f.ty && f.mod6 == 0
  | .vxorL _ f _ => f.uses [.vd, .va] && tyAll f.ty
  | .vshl _ f => f.uses [.vd, .va, .vb, .bsrc] && tyI f.ty && f.mod6 == 0
  | .vshlL _ f _ => f.uses [.vd, .va] && tyI f.ty
  | .vshr _ f => f.uses [.vd, .va, .vb, .bsrc] && tyI f.ty && f.mod6 == 0
  | .vshrL _ f _ => f.uses [.vd, .va] && tyI f.ty
  | .vsra _ f => f.uses [.vd, .va, .vb, .bsrc] && tyI f.ty && f.mod6 == 0
  | .vsraL _ f _ => f.uses [.vd, .va] && tyI f.ty
  | .vcmp _ f => f.uses [.vd, .va, .mod6, .vb, .bsrc] && tyA f.ty && f.vd.toNat < 8 && f.mod6.toNat < 6
  | .vcmpL _ f _ => f.uses [.vd, .va, .mod6] && tyA f.ty && f.vd.toNat < 8 && f.mod6.toNat < 6
  | .vsel _ f => f.uses [.vd, .va, .vc, .vb, .bsrc] && tyAll f.ty && f.vc.toNat < 8 && f.mod6 == 0
  -- DESIGN CHOICE, log 54: VSEL has a 96-bit form (R191), which R127's table does not name
  | .vselL _ f _ => f.uses [.vd, .va, .vc] && tyAll f.ty && f.vc.toNat < 8
  | .vmov _ f => f.uses [.vd, .va] && tyAll f.ty
  | .vli _ f _ => f.uses [.vd] && tyAll f.ty
  | .vcvt _ f => f.uses [.vd, .va, .mod6] && tyAll f.ty && f.mod6.toNat < 11
  | .vrcp _ f => f.uses [.vd, .va] && tyF f.ty
  | .vrsq _ f => f.uses [.vd, .va] && tyF f.ty
  | .vexp2 _ f => f.uses [.vd, .va] && tyF f.ty
  | .vlg2 _ f => f.uses [.vd, .va] && tyF f.ty
  | .vtanh _ f => f.uses [.vd, .va] && tyF f.ty
  | .vpopc _ f => f.uses [.vd, .va] && tyI f.ty
  | .vclz _ f => f.uses [.vd, .va] && tyI f.ty
  | .vdot4 _ f => f.uses [.vd, .va, .vc, .vb, .bsrc] && tyDot f.ty && f.mod6 == 0
  | .vdot4L _ f _ => f.uses [.vd, .va, .vc] && tyDot f.ty
  | .vmlog _ f => f.uses [.vd, .va, .vb, .mod6] && tyZero f.ty && f.mod6.toNat < 16 && f.vd.toNat < 8 && f.va.toNat < 8 && f.vb.toNat < 8 && f.vm == 0
  | .vshuf _ f => f.uses [.vd, .va, .vb] && tyZero f.ty
  | .vbcst _ f => f.uses [.vd, .va, .mod6] && tyZero f.ty && f.mod6.toNat < 16
  | .vradd _ f => f.uses [.vd, .va, .mod6] && tyA f.ty && f.mod6.toNat < 2
  | .vrmax _ f => f.uses [.vd, .va, .mod6] && tyA f.ty && f.mod6.toNat < 2
  | .vrmin _ f => f.uses [.vd, .va, .mod6] && tyA f.ty && f.mod6.toNat < 2
  | .vxg _ f => f.uses [.vd, .va, .mod6] && tyZero f.ty && f.mod6.toNat < 8
  | .vscan _ f => f.uses [.vd, .va, .mod6] && tyA f.ty && f.mod6.toNat < 4
  | .vsld _ f => f.uses [.vd, .va] && tyZero f.ty && f.va.toNat < 16
  | .vsst _ f => f.uses [.va, .vb] && tyZero f.ty && f.va.toNat < 16
  | .vgld _ f => f.uses [.vd, .va, .vb] && tyZero f.ty && f.va.toNat < 16
  | .vsct _ f => f.uses [.va, .vb, .vc] && tyZero f.ty && f.va.toNat < 16
  | .vsamo _ f => f.uses [.vd, .va, .vb, .vc, .mod6] && tyZero f.ty && f.va.toNat < 16 && f.mod6.toNat < 32 && f.mod6.toNat % 16 < 10 && (16 ≤ f.mod6.toNat || f.vd == 0)
  | .vamax _ f => f.uses [.va, .mod6] && tyFp8 f.ty && f.mod6.toNat < 2
  | .vqcvt _ f => f.uses [.vd, .va, .mod6] && tyFp8 f.ty && f.mod6.toNat < 2
  | .vdq _ f => f.uses [.vd, .va, .vb, .bsrc] && tyDq f.ty && f.mod6 == 0
  | .vdqL _ f _ => f.uses [.vd, .va] && tyDq f.ty
  | .vunp3 _ f => f.uses [.vd, .va, .mod6] && tyT5 f.ty && f.mod6.toNat < 5
  | .vpack3 _ f => f.uses [.vd, .va, .vc, .mod6] && tyT5 f.ty && f.mod6.toNat < 5
  | .vbperm _ f => f.uses [.vd, .va, .vb, .mod6] && tyZero f.ty && f.mod6.toNat < 8
  | .vsbr _ f => f.uses [.vd, .mod6] && tyZero f.ty && f.mod6.toNat < 2
  | .vthr _ f => f.uses [.vd, .mod6] && tyZero f.ty && f.mod6.toNat < 16
  | .mcall _ f => f.uses [.idx, .acc, .f]
  | .mmode _ f => f.uses [.acc, .mode, .k] && f.mode.toNat < 2 && (f.mode == 1 || f.k == 0)
  | .mclr _ f => f.uses [.acc]
  -- DESIGN CHOICE, log 55: MMERGE has the field F (R226, R229), which R128's table does not name
  | .mmerge _ f => f.uses [.acc, .accb, .f]
  | .mpld _ f => f.uses [.idx, .sa]
  | .mabort _ f => f.uses []
  | .cpyPlain _ f => f.uses [.xa, .xb, .xc, .k, .f, .frem, .fnone] && f.xmode == 0 && f.xa.toNat < 16 && f.xb.toNat < 16 && f.flagOk
  | .cpyConvert _ f => f.uses [.xa, .xb, .xc, .k, .f, .frem, .fnone] && f.xmode == 1 && f.xa.toNat < 16 && f.xb.toNat < 16 && f.flagOk
  | .cpyRank _ f => f.uses [.xa, .xb, .acc, .k, .f, .frem, .fnone] && f.xmode == 2 && f.xa.toNat < 16 && f.xb.toNat < 16 && rankedK f.k && f.flagOk
  | .cpyRankmerge _ f => f.uses [.xa, .xc, .acc, .k, .f, .frem, .fnone] && f.xmode == 3 && f.xa.toNat < 16 && rankedK f.k && f.flagOk
  | .put _ f => f.uses [.xa, .xb, .xc, .xh, .f, .frem, .fnone] && f.xmode == 0 && f.xa.toNat < 16 && f.flagOk
  | .putGlob _ f => f.uses [.xa, .xb, .xc, .xh, .f, .frem, .fnone] && f.xmode == 1 && f.xa.toNat < 16 && f.flagOk
  | .get _ f => f.uses [.xa, .xb, .xc, .f, .frem, .fnone] && f.xmode == 0 && f.xb.toNat < 16 && f.flagOk
  | .getGlob _ f => f.uses [.xa, .xb, .xc, .f, .frem, .fnone] && f.xmode == 1 && f.xb.toNat < 16 && f.flagOk
  | .xflag _ f => f.uses [.xa, .xc, .f] && f.xmode == 0
  | .send _ f => f.uses [.xa, .xb, .xc, .k, .f, .frem, .fnone] && f.xmode == 0 && f.xa.toNat < 16 && f.flagOk
  | .sendm _ f _ => f.uses [.xa, .xb, .xc, .k, .f, .fnone] && f.xmode == 0 && f.xa.toNat < 16 && f.flagOk
  | .pref _ f => f.uses [.xa] && f.xmode == 0
  | .prefSlice _ f => f.uses [.xa] && f.xmode == 1
  | .flush _ f => f.uses [.xa] && f.xmode == 0
  | .fwait _ f => f.uses [.f, .sa, .n] && (f.sa == 0 || f.n == 0)
  | .fpost _ f => f.uses [.f, .sa, .n] && (f.sa == 0 || f.n == 0)
  | .fset _ f => f.uses [.f, .sa, .n] && (f.sa == 0 || f.n == 0)
  | .bara _ f => f.uses [.gid]
  | .barw _ f => f.uses [.pd, .gid]
  | .baraw _ f => f.uses [.pd, .gid]
  | .fence _ f => f.uses [.f, .scp] && f.scp.toNat < 6
  | .pbrReg _ f => f.uses [.bt, .sa]
  | .pbr _ f _ => f.uses [.bt]
  | .br _ f => f.uses [.bt]
  | .call _ f => f.uses [.bt]
  | .loop _ f off => f.uses [.sa, .yld] && off != 0 && !off.msb
  | .lbrk _ f => f.uses []
  | .swpt _ f => f.uses [.sa, .sb]
  | .brt _ f => f.uses [.bt, .sa, .sb] && f.sb.toNat < 8
  | .exit _ f => f.uses []
  | .trap _ f => f.uses [.sa, .sb]
  | .nop _ f => f.uses []
  | .nop64 _ f => f.uses []
  | .nop96 _ f => f.uses []
  | .rdc _ f _ => f.uses [.d]
  | .wrc _ f _ => f.uses [.a]
  | .clkdiv _ f => f.uses [.d, .a, .e] && f.d.toNat < 8 && f.a.toNat < 4 && divisorOk f.e
  | .pwrq _ f => f.uses [.e] && f.e.toNat < 3
  | .rep h f x => f.uses [.a] && (f.a == 0 || x.count == 0) && h.pred == 0 && !h.yp
  | .ebreak _ f => f.uses []
  | .sysc _ f => f.uses [.a, .e]
  | .rfe _ f => f.uses []
  | .tlbiPage _ f => f.uses [.a, .e] && f.e == 0
  | .tlbiSpace _ f => f.uses [.a, .e] && f.e == 1
  | .tlbiPart _ f => f.uses [.e] && f.e == 2
  | .tlbiReplica _ f => f.uses [.a, .e] && f.e == 3
  | .tlbiRwflush _ f => f.uses [.e] && f.e == 4
  | .tlbiRcinit _ f => f.uses [.a, .e] && f.e == 5
  | .idle _ f => f.uses []
  | .tnop f => f.okFor 0
  | .tfa f => f.okFor 1
  | .tfb f => f.okFor 2
  | .tscl f => f.okFor 3
  | .tmac f => f.okFor 4
  | .tprom f => f.okFor 5
  | .trank f => f.okFor 6
  | .tdrain f => f.okFor 7
  | .twalk f => f.okFor 8
  | .tloop f => f.okFor 9
  | .tend f => f.okFor 10
  | .tjmp f => f.okFor 11
  | .tyld f => f.okFor 12
  | .tflag f => f.okFor 13
  | .tret f => f.okFor 14
  | .tset f => f.okFor 15
  | .fixedResultWriteback _ => true
  | .scoreboardResultLand _ => true
  | .shadowResultLand _ => true
  | .preemptionRequest _ => true
  | .preemptionLanding _ => true
  | .forcedPreemption _ => true
  | .contextSave _ => true
  | .contextRestore _ => true
  | .heldPostApply _ _ => true
  | .remoteFlagPost _ _ _ _ => true
  | .transferComplete _ _ _ => true
  | .arrivalQueueRoom _ _ => true
  | .handlerStart _ _ => true
  | .transferFault _ _ _ _ => true
  | .rankmergeApply _ _ _ => true
  | .mcallStart _ _ => true
  | .mmodeExec _ _ => true
  | .mclrExec _ _ => true
  | .mmergeExec _ _ => true
  | .asyncFaultDelivery _ _ => true
  | .machineTrap _ _ => true
  | .uncorrectableError _ _ _ => true
  | .coreFence _ => true
  | .dieFence _ => true
  | .barrierDieComplete _ _ => true
  | .barrierGenerationComplete _ => true
  | .barrierRelease _ _ => true
  | .atomicAtHome _ => true
  | .lineHomeHandover _ => true
  | .l1Eviction _ => true
  | .sliceEviction _ => true
  | .walkComplete _ _ => true
  | .tlbiComplete _ => true
  | .shootdownRequest _ _ _ _ => true
  | .shootdownAck _ _ => true
  | .shootdownTimeout _ _ => true
  | .bankRetireProposal _ _ _ => true
  | .stkPropose _ => true
  | .stkGo _ _ => true
  | .restripeComplete _ => true
  | .testerBusVisit _ _ _ => true
  | .doorbell _ _ => true
  | .qcmdCreate _ _ => true
  | .qcmdDestroy _ _ => true
  | .qcmdKill _ _ => true
  | .qcmdClearerr _ _ => true
  | .qcmdArmreload _ _ => true
  | .qcmdQuery _ _ => true
  | .launch _ pkt => pkt.length == 8
  | .admissionRetry _ => true
  | .signalPacket _ pkt => pkt.length == 8
  | .waitsig _ pkt => pkt.length == 8
  | .waitsigReread _ => true
  | .nopPacket _ pkt => pkt.length == 8
  | .topoReconfigure _ pkt => pkt.length == 8
  | .topoLoad _ pkt => pkt.length == 8
  | .topoRetrain _ pkt => pkt.length == 8
  | .topoDrainEnd => true
  | .fabCtlResume _ _ => true
  | .topoTimeout => true
  | .topoTrainEnd _ => true
  | .topoTableLoad => true
  | .taskEnd _ => true
  | .slotBoundary => true
  | .markerLockLoss => true
  | .frameHeader _ => true
  | .frameGlobalWrite _ => true
  | .frameScratchpadWrite _ => true
  | .frameReadRequest _ => true
  | .frameReadResponse _ => true
  | .frameSend _ => true
  | .frameSendm _ => true
  | .frameXflag _ => true
  | .frameTranslationRequest _ => true
  | .frameTranslationResponse _ => true
  | .retransmitTimeout _ => true
  | .propose _ _ => true
  | .accept _ _ => true
  | .defer _ _ => true
  | .retune _ _ => true
  | .portdown _ _ => true
  | .retrain _ _ => true
  | .rejoin _ _ => true
  | .flushed _ _ => true
  | .repairApply => true
  | .repairRepropose => true
  | .portdownApply => true
  | .lineDrift _ _ _ => true
  | .lineRetuneStart _ _ => true
  | .retuneEnd _ _ _ => true
  | .combFailure _ => true
  | .retrainEnd _ _ => true
  | .peerSilenceTimeout _ => true
  | .peerRemoval _ => true
  | .ofuReset _ => true
  | .expertBlockRelease _ _ => true
  | .clkdivDecision _ => true
  | .divisorSwitch _ => true
  | .railStep _ => true
  | .throttleUpdate _ _ => true
  | .stallSample _ _ => true
  | .levelFall _ => true
  | .sramRailWindow _ _ _ => true
  | .valveControl _ _ _ => true
  | .sensorSample _ _ _ => true
  | .evacuationStep _ _ _ => true
  | .coolantSupplyDrop _ => true
  | .zclr _ _ => true
  | .dbgHalt _ _ => true
  | .debugHaltLanding _ => true
  | .dbgResume _ => true
  | .dbgStep _ => true
  | .dbgEbrk _ _ => true
  | .dbgVdataRead _ => true
  | .deviceReset => true
  | .bootGo => true
  | .attGo _ _ => true
  | .attestationReport _ => true
  | .partitionTableWrite _ _ => true
  | .softerrWrite _ => true
  | .hostMainbandAccess _ => true
  | .hostLinkFailure _ => true
  | .mgmtRegisterWrite _ _ _ _ => true
  | .markerLockAcquired _ _ => true
  | .coolantSupplyRestored _ => true
  | .repRepetition _ => true
  | .illegalEncoding _ => true

end Sys2Proof
end

