-- ==== Sys2Proof/Decode.lean ====
section
/-! DEFINITION. Decoding, total on any words, rejecting by name, and after it the encoder written from the same
tables of spec/05 (R121 to R134). A few definitions are noncomputable for one reason only: Lean's code generator has no
constructor tag above 244, and `Instr` has 389 constructors. Lean's kernel evaluates them. -/

namespace Sys2Proof

/-- Why words are no instruction. The first rules that a decoder breaks (R121, R122). -/
inductive Reject where
  /-- there are fewer words than LEN says -/
  | truncated
  /-- LEN is 11 -/
  | length
  /-- CLASS is 111 -/
  | badClass
  /-- the class has no such opcode in this length -/
  | opcode
  /-- a bit marked reserved is 1 -/
  | reserved
  /-- a field not used is not 0, or a field holds a value its table does not list -/
  | field
deriving DecidableEq, Repr, Inhabited

/-- What a decoder answers: an instruction and the words after it, or why there is none. -/
inductive Decoded where
  | ok (i : Instr) (rest : List W32)
  | bad (r : Reject)
deriving DecidableEq, Repr

def Decoded.instr? : Decoded → Option Instr
  | .ok i _ => some i
  | .bad _ => none

/-- The seven classes, in the order of their CLASS codes (R121). -/
inductive Cls where
  | s | v | m | x | y | b | c
deriving DecidableEq, Repr, Inhabited

def Cls.code : Cls → BitVec 3
  | .s => 0 | .v => 1 | .m => 2 | .x => 3 | .y => 4 | .b => 5 | .c => 6

def Cls.ofCode (n : Nat) : Option Cls :=
  match n with
  | 0 => some .s | 1 => some .v | 2 => some .m | 3 => some .x | 4 => some .y | 5 => some .b | 6 => some .c
  | _ => none

/-- The field of `len` bits from bit `lo` of a word. -/
abbrev fld (w : W32) (lo len : Nat) : BitVec len := w.extractLsb' lo len
abbrev bit (w : W32) (n : Nat) : Bool := w.getLsbD n

/-! The fields of each format (R121, R123, R126, R128 to R133). -/
def unHdr (w : W32) : Hdr := ⟨fld w 7 3, bit w 6, bit w 2⟩
def unS32 (w : W32) : S32 := ⟨fld w 17 5, fld w 22 5, fld w 27 5⟩
def unS (w x y : W32) : SF :=
  ⟨fld w 17 5, fld w 22 5, fld w 27 5, fld x 0 16, fld x 16 5, fld x 21 3, bit x 24, fld x 25 3, fld x 28 4, y⟩
def unV (w x : W32) : VF :=
  ⟨fld w 17 8, fld w 25 5, fld x 0 5, fld x 5 5, fld x 10 5, fld x 15 4, fld x 19 2, bit x 21, fld x 22 3, bit x 25,
   fld x 26 6⟩
def unM (w x : W32) : MF := ⟨fld w 17 10, fld w 27 3, fld x 0 5, fld x 5 6, fld x 11 2, fld x 13 3, fld x 16 5⟩
def unX (w x : W32) : XF :=
  ⟨fld w 17 5, fld w 22 5, fld w 27 5, fld x 0 5, fld x 5 5, fld x 10 3, fld x 13 6, fld x 19 3, bit x 22, bit x 23⟩
def unY (w x : W32) : YF := ⟨fld w 17 5, fld w 22 5, fld x 0 16, fld x 16 8, fld x 24 3, fld x 27 3⟩
def unB (w : W32) : BF := ⟨fld w 17 3, bit w 20, fld w 22 5, fld w 27 5⟩
def unC (w : W32) : CF := ⟨fld w 17 5, fld w 22 5, fld w 27 5⟩
def unRep (x : W32) : RepF := ⟨fld x 0 16, fld x 16 2, fld x 18 2, fld x 20 2⟩
def unU (w : W32) : UF := ⟨fld w 8 4, fld w 12 4, fld w 16 4, fld w 20 12⟩

/-- The S opcodes and their lengths (R125, R134). `n` is the number of words. -/
def decodeS (op n : Nat) (h : Hdr) (w x y : W32) : Option Instr :=
  match op, n with
  | 0, 1 => some (.add h (unS32 w))
  | 0, 2 => some (.addI h (unS w x 0))
  | 0, 3 => some (.addL h (unS w x y))
  | 1, 1 => some (.sub h (unS32 w))
  | 1, 2 => some (.subI h (unS w x 0))
  | 1, 3 => some (.subL h (unS w x y))
  | 2, 1 => some (.mul h (unS32 w))
  | 2, 2 => some (.mulI h (unS w x 0))
  | 2, 3 => some (.mulL h (unS w x y))
  | 3, 1 => some (.mulh h (unS32 w))
  | 3, 2 => some (.mulhI h (unS w x 0))
  | 3, 3 => some (.mulhL h (unS w x y))
  | 4, 1 => some (.mulhz h (unS32 w))
  | 4, 2 => some (.mulhzI h (unS w x 0))
  | 4, 3 => some (.mulhzL h (unS w x y))
  | 5, 1 => some (.div h (unS32 w))
  | 5, 2 => some (.divI h (unS w x 0))
  | 5, 3 => some (.divL h (unS w x y))
  | 6, 1 => some (.divz h (unS32 w))
  | 6, 2 => some (.divzI h (unS w x 0))
  | 6, 3 => some (.divzL h (unS w x y))
  | 7, 1 => some (.rem h (unS32 w))
  | 7, 2 => some (.remI h (unS w x 0))
  | 7, 3 => some (.remL h (unS w x y))
  | 8, 1 => some (.remz h (unS32 w))
  | 8, 2 => some (.remzI h (unS w x 0))
  | 8, 3 => some (.remzL h (unS w x y))
  | 9, 1 => some (.and h (unS32 w))
  | 9, 2 => some (.andI h (unS w x 0))
  | 9, 3 => some (.andL h (unS w x y))
  | 10, 1 => some (.or h (unS32 w))
  | 10, 2 => some (.orI h (unS w x 0))
  | 10, 3 => some (.orL h (unS w x y))
  | 11, 1 => some (.xor h (unS32 w))
  | 11, 2 => some (.xorI h (unS w x 0))
  | 11, 3 => some (.xorL h (unS w x y))
  | 12, 1 => some (.andn h (unS32 w))
  | 12, 2 => some (.andnI h (unS w x 0))
  | 12, 3 => some (.andnL h (unS w x y))
  | 13, 1 => some (.shl h (unS32 w))
  | 13, 2 => some (.shlI h (unS w x 0))
  | 13, 3 => some (.shlL h (unS w x y))
  | 14, 1 => some (.shr h (unS32 w))
  | 14, 2 => some (.shrI h (unS w x 0))
  | 14, 3 => some (.shrL h (unS w x y))
  | 15, 1 => some (.sra h (unS32 w))
  | 15, 2 => some (.sraI h (unS w x 0))
  | 15, 3 => some (.sraL h (unS w x y))
  | 16, 1 => some (.rotl h (unS32 w))
  | 16, 2 => some (.rotlI h (unS w x 0))
  | 16, 3 => some (.rotlL h (unS w x y))
  | 17, 1 => some (.min h (unS32 w))
  | 17, 2 => some (.minI h (unS w x 0))
  | 17, 3 => some (.minL h (unS w x y))
  | 18, 1 => some (.max h (unS32 w))
  | 18, 2 => some (.maxI h (unS w x 0))
  | 18, 3 => some (.maxL h (unS w x y))
  | 19, 1 => some (.minz h (unS32 w))
  | 19, 2 => some (.minzI h (unS w x 0))
  | 19, 3 => some (.minzL h (unS w x y))
  | 20, 1 => some (.maxz h (unS32 w))
  | 20, 2 => some (.maxzI h (unS w x 0))
  | 20, 3 => some (.maxzL h (unS w x y))
  | 21, 1 => some (.clz h (unS32 w))
  | 21, 2 => some (.clzW h (unS w x 0))
  | 22, 1 => some (.ctz h (unS32 w))
  | 22, 2 => some (.ctzW h (unS w x 0))
  | 23, 1 => some (.popc h (unS32 w))
  | 23, 2 => some (.popcW h (unS w x 0))
  | 24, 2 => some (.lea h (unS w x 0))
  | 24, 3 => some (.leaL h (unS w x y))
  | 25, 2 => some (.sel h (unS w x 0))
  | 26, 2 => some (.bfx h (unS w x 0))
  | 27, 2 => some (.bfi h (unS w x 0))
  | 28, 2 => some (.ext h (unS w x 0))
  | 29, 2 => some (.li h (unS w x 0))
  | 29, 3 => some (.liL h (unS w x y))
  | 30, 2 => some (.lih h (unS w x 0))
  | 30, 3 => some (.lihL h (unS w x y))
  | 31, 2 => some (.bperm h (unS w x 0))
  | 32, 2 => some (.cmp h (unS w x 0))
  | 32, 3 => some (.cmpL h (unS w x y))
  | 33, 2 => some (.plog h (unS w x 0))
  | 34, 1 => some (.fadd h (unS32 w))
  | 34, 2 => some (.faddRnd h (unS w x 0))
  | 35, 1 => some (.fsub h (unS32 w))
  | 35, 2 => some (.fsubRnd h (unS w x 0))
  | 36, 1 => some (.fmul h (unS32 w))
  | 36, 2 => some (.fmulRnd h (unS w x 0))
  | 37, 2 => some (.fma h (unS w x 0))
  | 38, 1 => some (.fmin h (unS32 w))
  | 38, 2 => some (.fmin64 h (unS w x 0))
  | 39, 1 => some (.fmax h (unS32 w))
  | 39, 2 => some (.fmax64 h (unS w x 0))
  | 40, 2 => some (.fcmp h (unS w x 0))
  | 41, 2 => some (.fcvt h (unS w x 0))
  | 48, 2 => some (.ld h (unS w x 0))
  | 48, 3 => some (.ldL h (unS w x y))
  | 49, 2 => some (.st h (unS w x 0))
  | 49, 3 => some (.stL h (unS w x y))
  | 50, 2 => some (.ldaq h (unS w x 0))
  | 50, 3 => some (.ldaqL h (unS w x y))
  | 51, 2 => some (.strl h (unS w x 0))
  | 51, 3 => some (.strlL h (unS w x y))
  | 52, 2 => some (.lds h (unS w x 0))
  | 52, 3 => some (.ldsL h (unS w x y))
  | 53, 2 => some (.sts h (unS w x 0))
  | 53, 3 => some (.stsL h (unS w x y))
  | 56, 2 => some (.amo h (unS w x 0))
  | 56, 3 => some (.amoL h (unS w x y))
  | 57, 2 => some (.acas h (unS w x 0))
  | 57, 3 => some (.acasL h (unS w x y))
  | 58, 3 => some (.aclaim h (unS w x y))
  | 64, 2 => some (.movsv h (unS w x 0))
  | 65, 2 => some (.movvs h (unS w x 0))
  | 66, 1 => some (.movsm h (unS32 w))
  | 67, 1 => some (.movms h (unS32 w))
  | 68, 1 => some (.movfs h (unS32 w))
  | 69, 1 => some (.movps h (unS32 w))
  | 70, 1 => some (.movsp h (unS32 w))
  | 72, 2 => some (.stdef h (unS w x 0))
  | 73, 2 => some (.stld h (unS w x 0))
  | 73, 3 => some (.stldL h (unS w x y))
  | 74, 2 => some (.stst h (unS w x 0))
  | 74, 3 => some (.ststL h (unS w x y))
  | 75, 2 => some (.bpld h (unS w x 0))
  | 75, 3 => some (.bpldL h (unS w x y))
  | _, _ => none

/-- The V opcodes and their lengths (R126, R127, R134, R191). `n` is the number of words. -/
def decodeV (op n : Nat) (h : Hdr) (w x y : W32) : Option Instr :=
  match op, n with
  | 0, 2 => some (.vadd h (unV w x))
  | 0, 3 => some (.vaddL h (unV w x) y)
  | 1, 2 => some (.vsub h (unV w x))
  | 1, 3 => some (.vsubL h (unV w x) y)
  | 2, 2 => some (.vmul h (unV w x))
  | 2, 3 => some (.vmulL h (unV w x) y)
  | 3, 2 => some (.vfma h (unV w x))
  | 3, 3 => some (.vfmaL h (unV w x) y)
  | 4, 2 => some (.vmin h (unV w x))
  | 4, 3 => some (.vminL h (unV w x) y)
  | 5, 2 => some (.vmax h (unV w x))
  | 5, 3 => some (.vmaxL h (unV w x) y)
  | 6, 2 => some (.vabs h (unV w x))
  | 7, 2 => some (.vneg h (unV w x))
  | 8, 2 => some (.vand h (unV w x))
  | 8, 3 => some (.vandL h (unV w x) y)
  | 9, 2 => some (.vor h (unV w x))
  | 9, 3 => some (.vorL h (unV w x) y)
  | 10, 2 => some (.vxor h (unV w x))
  | 10, 3 => some (.vxorL h (unV w x) y)
  | 11, 2 => some (.vshl h (unV w x))
  | 11, 3 => some (.vshlL h (unV w x) y)
  | 12, 2 => some (.vshr h (unV w x))
  | 12, 3 => some (.vshrL h (unV w x) y)
  | 13, 2 => some (.vsra h (unV w x))
  | 13, 3 => some (.vsraL h (unV w x) y)
  | 14, 2 => some (.vcmp h (unV w x))
  | 14, 3 => some (.vcmpL h (unV w x) y)
  | 15, 2 => some (.vsel h (unV w x))
  | 15, 3 => some (.vselL h (unV w x) y)
  | 16, 2 => some (.vmov h (unV w x))
  | 17, 3 => some (.vli h (unV w x) y)
  | 18, 2 => some (.vcvt h (unV w x))
  | 19, 2 => some (.vrcp h (unV w x))
  | 20, 2 => some (.vrsq h (unV w x))
  | 21, 2 => some (.vexp2 h (unV w x))
  | 22, 2 => some (.vlg2 h (unV w x))
  | 23, 2 => some (.vtanh h (unV w x))
  | 24, 2 => some (.vpopc h (unV w x))
  | 25, 2 => some (.vclz h (unV w x))
  | 26, 2 => some (.vdot4 h (unV w x))
  | 26, 3 => some (.vdot4L h (unV w x) y)
  | 27, 2 => some (.vmlog h (unV w x))
  | 32, 2 => some (.vshuf h (unV w x))
  | 33, 2 => some (.vbcst h (unV w x))
  | 34, 2 => some (.vradd h (unV w x))
  | 35, 2 => some (.vrmax h (unV w x))
  | 36, 2 => some (.vrmin h (unV w x))
  | 37, 2 => some (.vxg h (unV w x))
  | 38, 2 => some (.vscan h (unV w x))
  | 48, 2 => some (.vsld h (unV w x))
  | 49, 2 => some (.vsst h (unV w x))
  | 50, 2 => some (.vgld h (unV w x))
  | 51, 2 => some (.vsct h (unV w x))
  | 52, 2 => some (.vsamo h (unV w x))
  | 56, 2 => some (.vamax h (unV w x))
  | 57, 2 => some (.vqcvt h (unV w x))
  | 58, 2 => some (.vdq h (unV w x))
  | 58, 3 => some (.vdqL h (unV w x) y)
  | 59, 2 => some (.vunp3 h (unV w x))
  | 60, 2 => some (.vpack3 h (unV w x))
  | 61, 2 => some (.vbperm h (unV w x))
  | 62, 2 => some (.vsbr h (unV w x))
  | 64, 2 => some (.vthr h (unV w x))
  | _, _ => none

/-- The M opcodes (R128, R134). `n` is the number of words. -/
def decodeM (op n : Nat) (h : Hdr) (w x : W32) : Option Instr :=
  match op, n with
  | 0, 2 => some (.mcall h (unM w x))
  | 1, 2 => some (.mmode h (unM w x))
  | 2, 2 => some (.mclr h (unM w x))
  | 3, 2 => some (.mmerge h (unM w x))
  | 4, 2 => some (.mpld h (unM w x))
  | 5, 2 => some (.mabort h (unM w x))
  | _, _ => none

/-- The X opcodes, XMODE telling the rows of one opcode apart (R130, R134). `n` is the number of words. -/
def decodeX (op n : Nat) (h : Hdr) (w x y : W32) : Option Instr :=
  match op, n, (fld x 19 3).toNat with
  | 0, 2, 0 => some (.cpyPlain h (unX w x))
  | 0, 2, 1 => some (.cpyConvert h (unX w x))
  | 0, 2, 2 => some (.cpyRank h (unX w x))
  | 0, 2, 3 => some (.cpyRankmerge h (unX w x))
  | 1, 2, 0 => some (.put h (unX w x))
  | 1, 2, 1 => some (.putGlob h (unX w x))
  | 2, 2, 0 => some (.get h (unX w x))
  | 2, 2, 1 => some (.getGlob h (unX w x))
  | 3, 2, 0 => some (.xflag h (unX w x))
  | 4, 2, 0 => some (.send h (unX w x))
  | 5, 3, 0 => some (.sendm h (unX w x) y)
  | 6, 2, 0 => some (.pref h (unX w x))
  | 6, 2, 1 => some (.prefSlice h (unX w x))
  | 7, 2, 0 => some (.flush h (unX w x))
  | _, _, _ => none

/-- The Y opcodes (R131, R134). `n` is the number of words. -/
def decodeY (op n : Nat) (h : Hdr) (w x : W32) : Option Instr :=
  match op, n with
  | 0, 2 => some (.fwait h (unY w x))
  | 1, 2 => some (.fpost h (unY w x))
  | 2, 2 => some (.fset h (unY w x))
  | 3, 2 => some (.bara h (unY w x))
  | 4, 2 => some (.barw h (unY w x))
  | 5, 2 => some (.baraw h (unY w x))
  | 6, 2 => some (.fence h (unY w x))
  | _, _ => none

/-- The B opcodes and their lengths (R132, R134). `n` is the number of words. -/
def decodeB (op n : Nat) (h : Hdr) (w x : W32) : Option Instr :=
  match op, n with
  | 0, 1 => some (.pbrReg h (unB w))
  | 0, 2 => some (.pbr h (unB w) x)
  | 1, 1 => some (.br h (unB w))
  | 2, 1 => some (.call h (unB w))
  | 3, 2 => some (.loop h (unB w) x)
  | 4, 1 => some (.lbrk h (unB w))
  | 5, 1 => some (.swpt h (unB w))
  | 6, 1 => some (.brt h (unB w))
  | 7, 1 => some (.exit h (unB w))
  | 8, 1 => some (.trap h (unB w))
  | _, _ => none

/-- The C opcodes and their lengths, E telling the kinds of TLBI apart (R133, R134, R377). `n` is the number of words. -/
noncomputable def decodeC (op n : Nat) (h : Hdr) (w x : W32) : Option Instr :=
  match op, n with
  | 0, 1 => some (.nop h (unC w))
  | 0, 2 => some (.nop64 h (unC w))
  | 0, 3 => some (.nop96 h (unC w))
  | 1, 2 => some (.rdc h (unC w) (fld x 0 12))
  | 2, 2 => some (.wrc h (unC w) (fld x 0 12))
  | 3, 1 => some (.clkdiv h (unC w))
  | 4, 1 => some (.pwrq h (unC w))
  | 5, 2 => some (.rep h (unC w) (unRep x))
  | 6, 1 => some (.ebreak h (unC w))
  | 7, 1 => some (.sysc h (unC w))
  | 8, 1 => some (.rfe h (unC w))
  | 9, 1 =>
    match (fld w 27 5).toNat with
    | 0 => some (.tlbiPage h (unC w))
    | 1 => some (.tlbiSpace h (unC w))
    | 2 => some (.tlbiPart h (unC w))
    | 3 => some (.tlbiReplica h (unC w))
    | 4 => some (.tlbiRwflush h (unC w))
    | 5 => some (.tlbiRcinit h (unC w))
    | _ => none
  | 10, 1 => some (.idle h (unC w))
  | _, _ => none

/-- The bits that the tables mark reserved, or that no field of `Instr` holds (R122, R126, R128, R130 to R133). -/
def reservedZero (k : Cls) (op n : Nat) (w x y : W32) : Bool :=
  match k with
  | .s => true
  | .v => fld w 30 2 == 0
  | .m => fld w 30 2 == 0 && fld x 21 11 == 0
  | .x => fld x 24 8 == 0
  | .y => fld w 27 5 == 0 && fld x 30 2 == 0
  | .b => !bit w 21
  | .c =>
    match op with
    | 0 => (n < 2 || x == 0) && (n < 3 || y == 0)
    | 1 => fld x 12 20 == 0
    | 2 => fld x 12 20 == 0
    | 5 => fld x 22 10 == 0
    | _ => true

/-- The instruction of words w, x and y (x and y 0 past its length) with n of them used. -/
noncomputable def decodeClass (k : Cls) (op n : Nat) (h : Hdr) (w x y : W32) : Option Instr :=
  match k with
  | .s => decodeS op n h w x y
  | .v => decodeV op n h w x y
  | .m => decodeM op n h w x
  | .x => decodeX op n h w x y
  | .y => decodeY op n h w x
  | .b => decodeB op n h w x
  | .c => decodeC op n h w x

/-- How many words LEN says, of the first word (R121); none for LEN 11. -/
def lengthOf (w : W32) : Option Nat :=
  match (fld w 0 2).toNat with
  | 0 => some 1 | 1 => some 2 | 2 => some 3 | _ => none

/-- The instruction of exactly these words: n of them are read, x and y being 0 past the length, r what follows. -/
noncomputable def decode3 (n : Nat) (w x y : W32) (r : List W32) : Decoded :=
  match Cls.ofCode (fld w 3 3).toNat with
  | none => .bad .badClass
  | some k =>
    match decodeClass k (fld w 10 7).toNat n (unHdr w) w x y with
    | none => .bad .opcode
    | some i =>
      if reservedZero k (fld w 10 7).toNat n w x y then if i.wf then .ok i r else .bad .field
      else .bad .reserved

/-- Decode one core instruction from the words at its address. -/
noncomputable def decode (ws : List W32) : Decoded :=
  match ws with
  | [] => .bad .truncated
  | w :: r =>
    match lengthOf w, r with
    | some 1, r => decode3 1 w 0 0 r
    | some 2, x :: r => decode3 2 w x 0 r
    | some 3, x :: y :: r => decode3 3 w x y r
    | none, _ => .bad .length
    | _, _ => .bad .truncated

/-- The S or V instruction of words, for the target of REP (R138). -/
def decodeSV (ws : List W32) : Option Instr :=
  let w := ws.getD 0 0
  let x := ws.getD 1 0
  let y := ws.getD 2 0
  let n := ws.length
  let op := (fld w 10 7).toNat
  let go := fun (k : Cls) (i : Option Instr) => i.filter (fun j => reservedZero k op n w x y && j.wf)
  match Cls.ofCode (fld w 3 3).toNat with
  | some .s => go .s (decodeS op n (unHdr w) w x y)
  | some .v => go .v (decodeV op n (unHdr w) w x y)
  | _ => none

/-- A word from its four bytes, the first at the lowest address (R7, R121). -/
def wordOfBytes (b0 b1 b2 b3 : Byte) : W32 := b3 ++ b2 ++ b1 ++ b0

/-- The bytes of a word, the first at the lowest address (R7). -/
def bytesOfWord (w : W32) : List Byte := [fld w 0 8, fld w 8 8, fld w 16 8, fld w 24 8]

/-- Whole words of a list of bytes; bytes short of a word are dropped. -/
def wordsOfBytes : List Byte → List W32
  | b0 :: b1 :: b2 :: b3 :: r => wordOfBytes b0 b1 b2 b3 :: wordsOfBytes r
  | _ => []

/-- Decode one core instruction from any bytes. -/
noncomputable def decodeBytes (bs : List Byte) : Decoded := decode (wordsOfBytes bs)

/-- The micro-operation codes (R129, R134). -/
noncomputable def decodeU (code : Nat) (f : UF) : Option Instr :=
  match code with
  | 0 => some (.tnop f)
  | 1 => some (.tfa f)
  | 2 => some (.tfb f)
  | 3 => some (.tscl f)
  | 4 => some (.tmac f)
  | 5 => some (.tprom f)
  | 6 => some (.trank f)
  | 7 => some (.tdrain f)
  | 8 => some (.twalk f)
  | 9 => some (.tloop f)
  | 10 => some (.tend f)
  | 11 => some (.tjmp f)
  | 12 => some (.tyld f)
  | 13 => some (.tflag f)
  | 14 => some (.tret f)
  | 15 => some (.tset f)
  | _ => none

/-- Decode a word of a routine image (R129). -/
noncomputable def decodeMicro (w : W32) : Decoded :=
  match decodeU (fld w 0 6).toNat (unU w) with
  | none => .bad .opcode
  | some i => if fld w 6 2 == 0 then if i.wf then .ok i [] else .bad .field else .bad .reserved

/-- The word `k` of a number whose bit 0 is the least significant bit of the first word. -/
def tableWord (w k : Nat) : W32 := BitVec.ofNat 32 (w / 2 ^ (32 * k))

/-- What the decoders read from an opcode-table word: a word of LEN 00 is a core instruction if it is one, and else a
micro-operation; a word of another LEN in 32 bits is a micro-operation if it is one, and else the start of a core
instruction whose later words are 0. (Row ADD's word and rows TNOP's and TMAC's words are also words of the other
decoder: log 3.) -/
noncomputable def decodeTableWord (nbits w : Nat) : Option Instr :=
  let core := (decode [tableWord w 0, tableWord w 1, tableWord w 2]).instr?
  let micro := (decodeMicro (tableWord w 0)).instr?
  if 32 < nbits then core
  else if w % 4 = 0 then (core <|> micro) else (micro <|> core)

/-! The encoder. -/

/-- The common header (R121) of an instruction of n words. -/
def pkHdr (k : Cls) (op n : Nat) (h : Hdr) : BitVec 17 :=
  BitVec.ofNat 7 op ++ h.pred ++ BitVec.ofBool h.yp ++ k.code ++ BitVec.ofBool h.stop ++ BitVec.ofNat 2 (n - 1)

def pkS32 (op : Nat) (h : Hdr) (f : S32) : List W32 := [f.b ++ f.a ++ f.d ++ pkHdr .s op 1 h]
def pkS0 (op n : Nat) (h : Hdr) (f : SF) : W32 := f.b ++ f.a ++ f.d ++ pkHdr .s op n h
def pkS1 (f : SF) : W32 := f.md ++ f.scp ++ BitVec.ofBool f.sgn ++ f.wid ++ f.c ++ f.imm
def pkS64 (op : Nat) (h : Hdr) (f : SF) : List W32 := [pkS0 op 2 h f, pkS1 f]
def pkS96 (op : Nat) (h : Hdr) (f : SF) : List W32 := [pkS0 op 3 h f, pkS1 f, f.lit]
def pkV0 (op n : Nat) (h : Hdr) (f : VF) : W32 := 0#2 ++ f.vd ++ f.gmask ++ pkHdr .v op n h
def pkV1 (f : VF) : W32 :=
  f.mod6 ++ BitVec.ofBool f.bsrc ++ f.vm ++ BitVec.ofBool f.sat ++ f.rnd ++ f.ty ++ f.vc ++ f.vb ++ f.va
def pkV64 (op : Nat) (h : Hdr) (f : VF) : List W32 := [pkV0 op 2 h f, pkV1 f]
def pkV96 (op : Nat) (h : Hdr) (f : VF) (lit : W32) : List W32 := [pkV0 op 3 h f, pkV1 f, lit]
def pkM (op : Nat) (h : Hdr) (f : MF) : List W32 :=
  [0#2 ++ f.acc ++ f.idx ++ pkHdr .m op 2 h, 0#11 ++ f.sa ++ f.accb ++ f.mode ++ f.k ++ f.f]
def pkX0 (op n : Nat) (h : Hdr) (f : XF) : W32 := f.xb ++ f.xa ++ f.f ++ pkHdr .x op n h
def pkX1 (f : XF) : W32 :=
  0#8 ++ BitVec.ofBool f.fnone ++ BitVec.ofBool f.frem ++ f.xmode ++ f.k ++ f.acc ++ f.xh ++ f.xc
def pkX (op : Nat) (h : Hdr) (f : XF) : List W32 := [pkX0 op 2 h f, pkX1 f]
def pkX96 (op : Nat) (h : Hdr) (f : XF) (lit : W32) : List W32 := [pkX0 op 3 h f, pkX1 f, lit]
def pkY (op : Nat) (h : Hdr) (f : YF) : List W32 :=
  [0#5 ++ f.sa ++ f.f ++ pkHdr .y op 2 h, 0#2 ++ f.scp ++ f.pd ++ f.gid ++ f.n]
def pkB0 (op n : Nat) (h : Hdr) (f : BF) : W32 :=
  f.sb ++ f.sa ++ 0#1 ++ BitVec.ofBool f.yld ++ f.bt ++ pkHdr .b op n h
def pkB (op : Nat) (h : Hdr) (f : BF) : List W32 := [pkB0 op 1 h f]
def pkB64 (op : Nat) (h : Hdr) (f : BF) (off : W32) : List W32 := [pkB0 op 2 h f, off]
def pkC0 (op n : Nat) (h : Hdr) (f : CF) : W32 := f.e ++ f.a ++ f.d ++ pkHdr .c op n h
def pkC (op : Nat) (h : Hdr) (f : CF) : List W32 := [pkC0 op 1 h f]
def pkC64 (op : Nat) (h : Hdr) (f : CF) (x : W32) : List W32 := [pkC0 op 2 h f, x]
def pkRep (x : RepF) : W32 := 0#10 ++ x.sb ++ x.sa ++ x.sd ++ x.count
def pkU (code : Nat) (f : UF) : List W32 := [f.imm ++ f.mc ++ f.mb ++ f.ma ++ 0#2 ++ BitVec.ofNat 6 code]

/-- The words of a core instruction or of a micro-operation; no words for a step that has no encoding. -/
def encode : Instr → List W32
  | .add h f => pkS32 0 h f
  | .addI h f => pkS64 0 h f
  | .addL h f => pkS96 0 h f
  | .sub h f => pkS32 1 h f
  | .subI h f => pkS64 1 h f
  | .subL h f => pkS96 1 h f
  | .mul h f => pkS32 2 h f
  | .mulI h f => pkS64 2 h f
  | .mulL h f => pkS96 2 h f
  | .mulh h f => pkS32 3 h f
  | .mulhI h f => pkS64 3 h f
  | .mulhL h f => pkS96 3 h f
  | .mulhz h f => pkS32 4 h f
  | .mulhzI h f => pkS64 4 h f
  | .mulhzL h f => pkS96 4 h f
  | .div h f => pkS32 5 h f
  | .divI h f => pkS64 5 h f
  | .divL h f => pkS96 5 h f
  | .divz h f => pkS32 6 h f
  | .divzI h f => pkS64 6 h f
  | .divzL h f => pkS96 6 h f
  | .rem h f => pkS32 7 h f
  | .remI h f => pkS64 7 h f
  | .remL h f => pkS96 7 h f
  | .remz h f => pkS32 8 h f
  | .remzI h f => pkS64 8 h f
  | .remzL h f => pkS96 8 h f
  | .and h f => pkS32 9 h f
  | .andI h f => pkS64 9 h f
  | .andL h f => pkS96 9 h f
  | .or h f => pkS32 10 h f
  | .orI h f => pkS64 10 h f
  | .orL h f => pkS96 10 h f
  | .xor h f => pkS32 11 h f
  | .xorI h f => pkS64 11 h f
  | .xorL h f => pkS96 11 h f
  | .andn h f => pkS32 12 h f
  | .andnI h f => pkS64 12 h f
  | .andnL h f => pkS96 12 h f
  | .shl h f => pkS32 13 h f
  | .shlI h f => pkS64 13 h f
  | .shlL h f => pkS96 13 h f
  | .shr h f => pkS32 14 h f
  | .shrI h f => pkS64 14 h f
  | .shrL h f => pkS96 14 h f
  | .sra h f => pkS32 15 h f
  | .sraI h f => pkS64 15 h f
  | .sraL h f => pkS96 15 h f
  | .rotl h f => pkS32 16 h f
  | .rotlI h f => pkS64 16 h f
  | .rotlL h f => pkS96 16 h f
  | .min h f => pkS32 17 h f
  | .minI h f => pkS64 17 h f
  | .minL h f => pkS96 17 h f
  | .max h f => pkS32 18 h f
  | .maxI h f => pkS64 18 h f
  | .maxL h f => pkS96 18 h f
  | .minz h f => pkS32 19 h f
  | .minzI h f => pkS64 19 h f
  | .minzL h f => pkS96 19 h f
  | .maxz h f => pkS32 20 h f
  | .maxzI h f => pkS64 20 h f
  | .maxzL h f => pkS96 20 h f
  | .clz h f => pkS32 21 h f
  | .clzW h f => pkS64 21 h f
  | .ctz h f => pkS32 22 h f
  | .ctzW h f => pkS64 22 h f
  | .popc h f => pkS32 23 h f
  | .popcW h f => pkS64 23 h f
  | .lea h f => pkS64 24 h f
  | .leaL h f => pkS96 24 h f
  | .sel h f => pkS64 25 h f
  | .bfx h f => pkS64 26 h f
  | .bfi h f => pkS64 27 h f
  | .ext h f => pkS64 28 h f
  | .li h f => pkS64 29 h f
  | .liL h f => pkS96 29 h f
  | .lih h f => pkS64 30 h f
  | .lihL h f => pkS96 30 h f
  | .bperm h f => pkS64 31 h f
  | .cmp h f => pkS64 32 h f
  | .cmpL h f => pkS96 32 h f
  | .plog h f => pkS64 33 h f
  | .fadd h f => pkS32 34 h f
  | .faddRnd h f => pkS64 34 h f
  | .fsub h f => pkS32 35 h f
  | .fsubRnd h f => pkS64 35 h f
  | .fmul h f => pkS32 36 h f
  | .fmulRnd h f => pkS64 36 h f
  | .fma h f => pkS64 37 h f
  | .fmin h f => pkS32 38 h f
  | .fmin64 h f => pkS64 38 h f
  | .fmax h f => pkS32 39 h f
  | .fmax64 h f => pkS64 39 h f
  | .fcmp h f => pkS64 40 h f
  | .fcvt h f => pkS64 41 h f
  | .ld h f => pkS64 48 h f
  | .ldL h f => pkS96 48 h f
  | .st h f => pkS64 49 h f
  | .stL h f => pkS96 49 h f
  | .ldaq h f => pkS64 50 h f
  | .ldaqL h f => pkS96 50 h f
  | .strl h f => pkS64 51 h f
  | .strlL h f => pkS96 51 h f
  | .lds h f => pkS64 52 h f
  | .ldsL h f => pkS96 52 h f
  | .sts h f => pkS64 53 h f
  | .stsL h f => pkS96 53 h f
  | .amo h f => pkS64 56 h f
  | .amoL h f => pkS96 56 h f
  | .acas h f => pkS64 57 h f
  | .acasL h f => pkS96 57 h f
  | .aclaim h f => pkS96 58 h f
  | .movsv h f => pkS64 64 h f
  | .movvs h f => pkS64 65 h f
  | .movsm h f => pkS32 66 h f
  | .movms h f => pkS32 67 h f
  | .movfs h f => pkS32 68 h f
  | .movps h f => pkS32 69 h f
  | .movsp h f => pkS32 70 h f
  | .stdef h f => pkS64 72 h f
  | .stld h f => pkS64 73 h f
  | .stldL h f => pkS96 73 h f
  | .stst h f => pkS64 74 h f
  | .ststL h f => pkS96 74 h f
  | .bpld h f => pkS64 75 h f
  | .bpldL h f => pkS96 75 h f
  | .vadd h f => pkV64 0 h f
  | .vaddL h f lit => pkV96 0 h f lit
  | .vsub h f => pkV64 1 h f
  | .vsubL h f lit => pkV96 1 h f lit
  | .vmul h f => pkV64 2 h f
  | .vmulL h f lit => pkV96 2 h f lit
  | .vfma h f => pkV64 3 h f
  | .vfmaL h f lit => pkV96 3 h f lit
  | .vmin h f => pkV64 4 h f
  | .vminL h f lit => pkV96 4 h f lit
  | .vmax h f => pkV64 5 h f
  | .vmaxL h f lit => pkV96 5 h f lit
  | .vabs h f => pkV64 6 h f
  | .vneg h f => pkV64 7 h f
  | .vand h f => pkV64 8 h f
  | .vandL h f lit => pkV96 8 h f lit
  | .vor h f => pkV64 9 h f
  | .vorL h f lit => pkV96 9 h f lit
  | .vxor h f => pkV64 10 h f
  | .vxorL h f lit => pkV96 10 h f lit
  | .vshl h f => pkV64 11 h f
  | .vshlL h f lit => pkV96 11 h f lit
  | .vshr h f => pkV64 12 h f
  | .vshrL h f lit => pkV96 12 h f lit
  | .vsra h f => pkV64 13 h f
  | .vsraL h f lit => pkV96 13 h f lit
  | .vcmp h f => pkV64 14 h f
  | .vcmpL h f lit => pkV96 14 h f lit
  | .vsel h f => pkV64 15 h f
  | .vselL h f lit => pkV96 15 h f lit
  | .vmov h f => pkV64 16 h f
  | .vli h f lit => pkV96 17 h f lit
  | .vcvt h f => pkV64 18 h f
  | .vrcp h f => pkV64 19 h f
  | .vrsq h f => pkV64 20 h f
  | .vexp2 h f => pkV64 21 h f
  | .vlg2 h f => pkV64 22 h f
  | .vtanh h f => pkV64 23 h f
  | .vpopc h f => pkV64 24 h f
  | .vclz h f => pkV64 25 h f
  | .vdot4 h f => pkV64 26 h f
  | .vdot4L h f lit => pkV96 26 h f lit
  | .vmlog h f => pkV64 27 h f
  | .vshuf h f => pkV64 32 h f
  | .vbcst h f => pkV64 33 h f
  | .vradd h f => pkV64 34 h f
  | .vrmax h f => pkV64 35 h f
  | .vrmin h f => pkV64 36 h f
  | .vxg h f => pkV64 37 h f
  | .vscan h f => pkV64 38 h f
  | .vsld h f => pkV64 48 h f
  | .vsst h f => pkV64 49 h f
  | .vgld h f => pkV64 50 h f
  | .vsct h f => pkV64 51 h f
  | .vsamo h f => pkV64 52 h f
  | .vamax h f => pkV64 56 h f
  | .vqcvt h f => pkV64 57 h f
  | .vdq h f => pkV64 58 h f
  | .vdqL h f lit => pkV96 58 h f lit
  | .vunp3 h f => pkV64 59 h f
  | .vpack3 h f => pkV64 60 h f
  | .vbperm h f => pkV64 61 h f
  | .vsbr h f => pkV64 62 h f
  | .vthr h f => pkV64 64 h f
  | .mcall h f => pkM 0 h f
  | .mmode h f => pkM 1 h f
  | .mclr h f => pkM 2 h f
  | .mmerge h f => pkM 3 h f
  | .mpld h f => pkM 4 h f
  | .mabort h f => pkM 5 h f
  | .cpyPlain h f => pkX 0 h f
  | .cpyConvert h f => pkX 0 h f
  | .cpyRank h f => pkX 0 h f
  | .cpyRankmerge h f => pkX 0 h f
  | .put h f => pkX 1 h f
  | .putGlob h f => pkX 1 h f
  | .get h f => pkX 2 h f
  | .getGlob h f => pkX 2 h f
  | .xflag h f => pkX 3 h f
  | .send h f => pkX 4 h f
  | .sendm h f lit => pkX96 5 h f lit
  | .pref h f => pkX 6 h f
  | .prefSlice h f => pkX 6 h f
  | .flush h f => pkX 7 h f
  | .fwait h f => pkY 0 h f
  | .fpost h f => pkY 1 h f
  | .fset h f => pkY 2 h f
  | .bara h f => pkY 3 h f
  | .barw h f => pkY 4 h f
  | .baraw h f => pkY 5 h f
  | .fence h f => pkY 6 h f
  | .pbrReg h f => pkB 0 h f
  | .pbr h f off => pkB64 0 h f off
  | .br h f => pkB 1 h f
  | .call h f => pkB 2 h f
  | .loop h f off => pkB64 3 h f off
  | .lbrk h f => pkB 4 h f
  | .swpt h f => pkB 5 h f
  | .brt h f => pkB 6 h f
  | .exit h f => pkB 7 h f
  | .trap h f => pkB 8 h f
  | .nop h f => pkC 0 h f
  | .nop64 h f => pkC64 0 h f 0
  | .nop96 h f => [pkC0 0 3 h f, 0, 0]
  | .rdc h f csr => pkC64 1 h f (0#20 ++ csr)
  | .wrc h f csr => pkC64 2 h f (0#20 ++ csr)
  | .clkdiv h f => pkC 3 h f
  | .pwrq h f => pkC 4 h f
  | .rep h f x => pkC64 5 h f (pkRep x)
  | .ebreak h f => pkC 6 h f
  | .sysc h f => pkC 7 h f
  | .rfe h f => pkC 8 h f
  | .tlbiPage h f => pkC 9 h f
  | .tlbiSpace h f => pkC 9 h f
  | .tlbiPart h f => pkC 9 h f
  | .tlbiReplica h f => pkC 9 h f
  | .tlbiRwflush h f => pkC 9 h f
  | .tlbiRcinit h f => pkC 9 h f
  | .idle h f => pkC 10 h f
  | .tnop f => pkU 0 f
  | .tfa f => pkU 1 f
  | .tfb f => pkU 2 f
  | .tscl f => pkU 3 f
  | .tmac f => pkU 4 f
  | .tprom f => pkU 5 f
  | .trank f => pkU 6 f
  | .tdrain f => pkU 7 f
  | .twalk f => pkU 8 f
  | .tloop f => pkU 9 f
  | .tend f => pkU 10 f
  | .tjmp f => pkU 11 f
  | .tyld f => pkU 12 f
  | .tflag f => pkU 13 f
  | .tret f => pkU 14 f
  | .tset f => pkU 15 f
  | _ => []

/-- The class, the header and the number of words of a core instruction; none for any other row. -/
def Instr.head : Instr → Option (Cls × Hdr × Nat)
  | .add h _ => some (.s, h, 1)
  | .addI h _ => some (.s, h, 2)
  | .addL h _ => some (.s, h, 3)
  | .sub h _ => some (.s, h, 1)
  | .subI h _ => some (.s, h, 2)
  | .subL h _ => some (.s, h, 3)
  | .mul h _ => some (.s, h, 1)
  | .mulI h _ => some (.s, h, 2)
  | .mulL h _ => some (.s, h, 3)
  | .mulh h _ => some (.s, h, 1)
  | .mulhI h _ => some (.s, h, 2)
  | .mulhL h _ => some (.s, h, 3)
  | .mulhz h _ => some (.s, h, 1)
  | .mulhzI h _ => some (.s, h, 2)
  | .mulhzL h _ => some (.s, h, 3)
  | .div h _ => some (.s, h, 1)
  | .divI h _ => some (.s, h, 2)
  | .divL h _ => some (.s, h, 3)
  | .divz h _ => some (.s, h, 1)
  | .divzI h _ => some (.s, h, 2)
  | .divzL h _ => some (.s, h, 3)
  | .rem h _ => some (.s, h, 1)
  | .remI h _ => some (.s, h, 2)
  | .remL h _ => some (.s, h, 3)
  | .remz h _ => some (.s, h, 1)
  | .remzI h _ => some (.s, h, 2)
  | .remzL h _ => some (.s, h, 3)
  | .and h _ => some (.s, h, 1)
  | .andI h _ => some (.s, h, 2)
  | .andL h _ => some (.s, h, 3)
  | .or h _ => some (.s, h, 1)
  | .orI h _ => some (.s, h, 2)
  | .orL h _ => some (.s, h, 3)
  | .xor h _ => some (.s, h, 1)
  | .xorI h _ => some (.s, h, 2)
  | .xorL h _ => some (.s, h, 3)
  | .andn h _ => some (.s, h, 1)
  | .andnI h _ => some (.s, h, 2)
  | .andnL h _ => some (.s, h, 3)
  | .shl h _ => some (.s, h, 1)
  | .shlI h _ => some (.s, h, 2)
  | .shlL h _ => some (.s, h, 3)
  | .shr h _ => some (.s, h, 1)
  | .shrI h _ => some (.s, h, 2)
  | .shrL h _ => some (.s, h, 3)
  | .sra h _ => some (.s, h, 1)
  | .sraI h _ => some (.s, h, 2)
  | .sraL h _ => some (.s, h, 3)
  | .rotl h _ => some (.s, h, 1)
  | .rotlI h _ => some (.s, h, 2)
  | .rotlL h _ => some (.s, h, 3)
  | .min h _ => some (.s, h, 1)
  | .minI h _ => some (.s, h, 2)
  | .minL h _ => some (.s, h, 3)
  | .max h _ => some (.s, h, 1)
  | .maxI h _ => some (.s, h, 2)
  | .maxL h _ => some (.s, h, 3)
  | .minz h _ => some (.s, h, 1)
  | .minzI h _ => some (.s, h, 2)
  | .minzL h _ => some (.s, h, 3)
  | .maxz h _ => some (.s, h, 1)
  | .maxzI h _ => some (.s, h, 2)
  | .maxzL h _ => some (.s, h, 3)
  | .clz h _ => some (.s, h, 1)
  | .clzW h _ => some (.s, h, 2)
  | .ctz h _ => some (.s, h, 1)
  | .ctzW h _ => some (.s, h, 2)
  | .popc h _ => some (.s, h, 1)
  | .popcW h _ => some (.s, h, 2)
  | .lea h _ => some (.s, h, 2)
  | .leaL h _ => some (.s, h, 3)
  | .sel h _ => some (.s, h, 2)
  | .bfx h _ => some (.s, h, 2)
  | .bfi h _ => some (.s, h, 2)
  | .ext h _ => some (.s, h, 2)
  | .li h _ => some (.s, h, 2)
  | .liL h _ => some (.s, h, 3)
  | .lih h _ => some (.s, h, 2)
  | .lihL h _ => some (.s, h, 3)
  | .bperm h _ => some (.s, h, 2)
  | .cmp h _ => some (.s, h, 2)
  | .cmpL h _ => some (.s, h, 3)
  | .plog h _ => some (.s, h, 2)
  | .fadd h _ => some (.s, h, 1)
  | .faddRnd h _ => some (.s, h, 2)
  | .fsub h _ => some (.s, h, 1)
  | .fsubRnd h _ => some (.s, h, 2)
  | .fmul h _ => some (.s, h, 1)
  | .fmulRnd h _ => some (.s, h, 2)
  | .fma h _ => some (.s, h, 2)
  | .fmin h _ => some (.s, h, 1)
  | .fmin64 h _ => some (.s, h, 2)
  | .fmax h _ => some (.s, h, 1)
  | .fmax64 h _ => some (.s, h, 2)
  | .fcmp h _ => some (.s, h, 2)
  | .fcvt h _ => some (.s, h, 2)
  | .ld h _ => some (.s, h, 2)
  | .ldL h _ => some (.s, h, 3)
  | .st h _ => some (.s, h, 2)
  | .stL h _ => some (.s, h, 3)
  | .ldaq h _ => some (.s, h, 2)
  | .ldaqL h _ => some (.s, h, 3)
  | .strl h _ => some (.s, h, 2)
  | .strlL h _ => some (.s, h, 3)
  | .lds h _ => some (.s, h, 2)
  | .ldsL h _ => some (.s, h, 3)
  | .sts h _ => some (.s, h, 2)
  | .stsL h _ => some (.s, h, 3)
  | .amo h _ => some (.s, h, 2)
  | .amoL h _ => some (.s, h, 3)
  | .acas h _ => some (.s, h, 2)
  | .acasL h _ => some (.s, h, 3)
  | .aclaim h _ => some (.s, h, 3)
  | .movsv h _ => some (.s, h, 2)
  | .movvs h _ => some (.s, h, 2)
  | .movsm h _ => some (.s, h, 1)
  | .movms h _ => some (.s, h, 1)
  | .movfs h _ => some (.s, h, 1)
  | .movps h _ => some (.s, h, 1)
  | .movsp h _ => some (.s, h, 1)
  | .stdef h _ => some (.s, h, 2)
  | .stld h _ => some (.s, h, 2)
  | .stldL h _ => some (.s, h, 3)
  | .stst h _ => some (.s, h, 2)
  | .ststL h _ => some (.s, h, 3)
  | .bpld h _ => some (.s, h, 2)
  | .bpldL h _ => some (.s, h, 3)
  | .vadd h _ => some (.v, h, 2)
  | .vaddL h _ _ => some (.v, h, 3)
  | .vsub h _ => some (.v, h, 2)
  | .vsubL h _ _ => some (.v, h, 3)
  | .vmul h _ => some (.v, h, 2)
  | .vmulL h _ _ => some (.v, h, 3)
  | .vfma h _ => some (.v, h, 2)
  | .vfmaL h _ _ => some (.v, h, 3)
  | .vmin h _ => some (.v, h, 2)
  | .vminL h _ _ => some (.v, h, 3)
  | .vmax h _ => some (.v, h, 2)
  | .vmaxL h _ _ => some (.v, h, 3)
  | .vabs h _ => some (.v, h, 2)
  | .vneg h _ => some (.v, h, 2)
  | .vand h _ => some (.v, h, 2)
  | .vandL h _ _ => some (.v, h, 3)
  | .vor h _ => some (.v, h, 2)
  | .vorL h _ _ => some (.v, h, 3)
  | .vxor h _ => some (.v, h, 2)
  | .vxorL h _ _ => some (.v, h, 3)
  | .vshl h _ => some (.v, h, 2)
  | .vshlL h _ _ => some (.v, h, 3)
  | .vshr h _ => some (.v, h, 2)
  | .vshrL h _ _ => some (.v, h, 3)
  | .vsra h _ => some (.v, h, 2)
  | .vsraL h _ _ => some (.v, h, 3)
  | .vcmp h _ => some (.v, h, 2)
  | .vcmpL h _ _ => some (.v, h, 3)
  | .vsel h _ => some (.v, h, 2)
  | .vselL h _ _ => some (.v, h, 3)
  | .vmov h _ => some (.v, h, 2)
  | .vli h _ _ => some (.v, h, 3)
  | .vcvt h _ => some (.v, h, 2)
  | .vrcp h _ => some (.v, h, 2)
  | .vrsq h _ => some (.v, h, 2)
  | .vexp2 h _ => some (.v, h, 2)
  | .vlg2 h _ => some (.v, h, 2)
  | .vtanh h _ => some (.v, h, 2)
  | .vpopc h _ => some (.v, h, 2)
  | .vclz h _ => some (.v, h, 2)
  | .vdot4 h _ => some (.v, h, 2)
  | .vdot4L h _ _ => some (.v, h, 3)
  | .vmlog h _ => some (.v, h, 2)
  | .vshuf h _ => some (.v, h, 2)
  | .vbcst h _ => some (.v, h, 2)
  | .vradd h _ => some (.v, h, 2)
  | .vrmax h _ => some (.v, h, 2)
  | .vrmin h _ => some (.v, h, 2)
  | .vxg h _ => some (.v, h, 2)
  | .vscan h _ => some (.v, h, 2)
  | .vsld h _ => some (.v, h, 2)
  | .vsst h _ => some (.v, h, 2)
  | .vgld h _ => some (.v, h, 2)
  | .vsct h _ => some (.v, h, 2)
  | .vsamo h _ => some (.v, h, 2)
  | .vamax h _ => some (.v, h, 2)
  | .vqcvt h _ => some (.v, h, 2)
  | .vdq h _ => some (.v, h, 2)
  | .vdqL h _ _ => some (.v, h, 3)
  | .vunp3 h _ => some (.v, h, 2)
  | .vpack3 h _ => some (.v, h, 2)
  | .vbperm h _ => some (.v, h, 2)
  | .vsbr h _ => some (.v, h, 2)
  | .vthr h _ => some (.v, h, 2)
  | .mcall h _ => some (.m, h, 2)
  | .mmode h _ => some (.m, h, 2)
  | .mclr h _ => some (.m, h, 2)
  | .mmerge h _ => some (.m, h, 2)
  | .mpld h _ => some (.m, h, 2)
  | .mabort h _ => some (.m, h, 2)
  | .cpyPlain h _ => some (.x, h, 2)
  | .cpyConvert h _ => some (.x, h, 2)
  | .cpyRank h _ => some (.x, h, 2)
  | .cpyRankmerge h _ => some (.x, h, 2)
  | .put h _ => some (.x, h, 2)
  | .putGlob h _ => some (.x, h, 2)
  | .get h _ => some (.x, h, 2)
  | .getGlob h _ => some (.x, h, 2)
  | .xflag h _ => some (.x, h, 2)
  | .send h _ => some (.x, h, 2)
  | .sendm h _ _ => some (.x, h, 3)
  | .pref h _ => some (.x, h, 2)
  | .prefSlice h _ => some (.x, h, 2)
  | .flush h _ => some (.x, h, 2)
  | .fwait h _ => some (.y, h, 2)
  | .fpost h _ => some (.y, h, 2)
  | .fset h _ => some (.y, h, 2)
  | .bara h _ => some (.y, h, 2)
  | .barw h _ => some (.y, h, 2)
  | .baraw h _ => some (.y, h, 2)
  | .fence h _ => some (.y, h, 2)
  | .pbrReg h _ => some (.b, h, 1)
  | .pbr h _ _ => some (.b, h, 2)
  | .br h _ => some (.b, h, 1)
  | .call h _ => some (.b, h, 1)
  | .loop h _ _ => some (.b, h, 2)
  | .lbrk h _ => some (.b, h, 1)
  | .swpt h _ => some (.b, h, 1)
  | .brt h _ => some (.b, h, 1)
  | .exit h _ => some (.b, h, 1)
  | .trap h _ => some (.b, h, 1)
  | .nop h _ => some (.c, h, 1)
  | .nop64 h _ => some (.c, h, 2)
  | .nop96 h _ => some (.c, h, 3)
  | .rdc h _ _ => some (.c, h, 2)
  | .wrc h _ _ => some (.c, h, 2)
  | .clkdiv h _ => some (.c, h, 1)
  | .pwrq h _ => some (.c, h, 1)
  | .rep h _ _ => some (.c, h, 2)
  | .ebreak h _ => some (.c, h, 1)
  | .sysc h _ => some (.c, h, 1)
  | .rfe h _ => some (.c, h, 1)
  | .tlbiPage h _ => some (.c, h, 1)
  | .tlbiSpace h _ => some (.c, h, 1)
  | .tlbiPart h _ => some (.c, h, 1)
  | .tlbiReplica h _ => some (.c, h, 1)
  | .tlbiRwflush h _ => some (.c, h, 1)
  | .tlbiRcinit h _ => some (.c, h, 1)
  | .idle h _ => some (.c, h, 1)
  | _ => none

end Sys2Proof
end

