-- ==== Sys2Proof/Machine/Regs.lean ====
section
/-! DEFINITION. The registers that an instruction names (R59, R64): what the group rules and the scoreboard compare. -/

namespace Sys2Proof

/-- A register, by file and number; a vector or mask register in one lane group (R53, R59). -/
inductive Reg where
  | s (n : Nat) | p (n : Nat) | b (n : Nat) | st (n : Nat) | mp (n : Nat) | v (g n : Nat) | vm (g n : Nat)
deriving DecidableEq, Repr, Inhabited

/-- The lane groups of a GMASK (R185). -/
def groupsOf (m : BitVec 8) : List Nat := (List.range 8).filter (fun g => m.getLsbD g)

/-- s_n, unless it is s0 (R59). -/
def rS (n : BitVec 5) : List Reg := if n = 0 then [] else [.s n.toNat]
/-- p_n, unless it is p0 (R59). -/
def rP (n : Nat) : List Reg := if n % 8 = 0 then [] else [.p (n % 8)]
def rB (n : Nat) : List Reg := [.b (n % 8)]
def rSt (n : BitVec 5) : List Reg := [.st (n.toNat % 16)]
def rMp (n : BitVec 5) : List Reg := [.mp (n.toNat % 8)]
/-- v_n in each executing group. -/
def rV (m : BitVec 8) (n : BitVec 5) : List Reg := (groupsOf m).map (fun g => .v g n.toNat)
def rVm (m : BitVec 8) (n : Nat) : List Reg := if n % 8 = 0 then [] else (groupsOf m).map (fun g => .vm g (n % 8))

/-- The registers an instruction reads (the guard apart) and those it names as destinations. -/
structure Names where
  src : List Reg := []
  dst : List Reg := []
  /-- D, A and B (VD, VA and VB) name an s or v register: REP may stride them (R138) -/
  strideD : Bool := false
  strideA : Bool := false
  strideB : Bool := false
deriving DecidableEq, Repr

def Instr.names : Instr → Names
  | .add _ f => { src := rS f.a ++ rS f.b, dst := rS f.d, strideD := true, strideA := true, strideB := true }
  | .addI _ f => { src := rS f.a, dst := rS f.d, strideD := true, strideA := true }
  | .addL _ f => { src := rS f.a, dst := rS f.d, strideD := true, strideA := true }
  | .sub _ f => { src := rS f.a ++ rS f.b, dst := rS f.d, strideD := true, strideA := true, strideB := true }
  | .subI _ f => { src := rS f.a, dst := rS f.d, strideD := true, strideA := true }
  | .subL _ f => { src := rS f.a, dst := rS f.d, strideD := true, strideA := true }
  | .mul _ f => { src := rS f.a ++ rS f.b, dst := rS f.d, strideD := true, strideA := true, strideB := true }
  | .mulI _ f => { src := rS f.a, dst := rS f.d, strideD := true, strideA := true }
  | .mulL _ f => { src := rS f.a, dst := rS f.d, strideD := true, strideA := true }
  | .mulh _ f => { src := rS f.a ++ rS f.b, dst := rS f.d, strideD := true, strideA := true, strideB := true }
  | .mulhI _ f => { src := rS f.a, dst := rS f.d, strideD := true, strideA := true }
  | .mulhL _ f => { src := rS f.a, dst := rS f.d, strideD := true, strideA := true }
  | .mulhz _ f => { src := rS f.a ++ rS f.b, dst := rS f.d, strideD := true, strideA := true, strideB := true }
  | .mulhzI _ f => { src := rS f.a, dst := rS f.d, strideD := true, strideA := true }
  | .mulhzL _ f => { src := rS f.a, dst := rS f.d, strideD := true, strideA := true }
  | .div _ f => { src := rS f.a ++ rS f.b, dst := rS f.d, strideD := true, strideA := true, strideB := true }
  | .divI _ f => { src := rS f.a, dst := rS f.d, strideD := true, strideA := true }
  | .divL _ f => { src := rS f.a, dst := rS f.d, strideD := true, strideA := true }
  | .divz _ f => { src := rS f.a ++ rS f.b, dst := rS f.d, strideD := true, strideA := true, strideB := true }
  | .divzI _ f => { src := rS f.a, dst := rS f.d, strideD := true, strideA := true }
  | .divzL _ f => { src := rS f.a, dst := rS f.d, strideD := true, strideA := true }
  | .rem _ f => { src := rS f.a ++ rS f.b, dst := rS f.d, strideD := true, strideA := true, strideB := true }
  | .remI _ f => { src := rS f.a, dst := rS f.d, strideD := true, strideA := true }
  | .remL _ f => { src := rS f.a, dst := rS f.d, strideD := true, strideA := true }
  | .remz _ f => { src := rS f.a ++ rS f.b, dst := rS f.d, strideD := true, strideA := true, strideB := true }
  | .remzI _ f => { src := rS f.a, dst := rS f.d, strideD := true, strideA := true }
  | .remzL _ f => { src := rS f.a, dst := rS f.d, strideD := true, strideA := true }
  | .and _ f => { src := rS f.a ++ rS f.b, dst := rS f.d, strideD := true, strideA := true, strideB := true }
  | .andI _ f => { src := rS f.a, dst := rS f.d, strideD := true, strideA := true }
  | .andL _ f => { src := rS f.a, dst := rS f.d, strideD := true, strideA := true }
  | .or _ f => { src := rS f.a ++ rS f.b, dst := rS f.d, strideD := true, strideA := true, strideB := true }
  | .orI _ f => { src := rS f.a, dst := rS f.d, strideD := true, strideA := true }
  | .orL _ f => { src := rS f.a, dst := rS f.d, strideD := true, strideA := true }
  | .xor _ f => { src := rS f.a ++ rS f.b, dst := rS f.d, strideD := true, strideA := true, strideB := true }
  | .xorI _ f => { src := rS f.a, dst := rS f.d, strideD := true, strideA := true }
  | .xorL _ f => { src := rS f.a, dst := rS f.d, strideD := true, strideA := true }
  | .andn _ f => { src := rS f.a ++ rS f.b, dst := rS f.d, strideD := true, strideA := true, strideB := true }
  | .andnI _ f => { src := rS f.a, dst := rS f.d, strideD := true, strideA := true }
  | .andnL _ f => { src := rS f.a, dst := rS f.d, strideD := true, strideA := true }
  | .shl _ f => { src := rS f.a ++ rS f.b, dst := rS f.d, strideD := true, strideA := true, strideB := true }
  | .shlI _ f => { src := rS f.a, dst := rS f.d, strideD := true, strideA := true }
  | .shlL _ f => { src := rS f.a, dst := rS f.d, strideD := true, strideA := true }
  | .shr _ f => { src := rS f.a ++ rS f.b, dst := rS f.d, strideD := true, strideA := true, strideB := true }
  | .shrI _ f => { src := rS f.a, dst := rS f.d, strideD := true, strideA := true }
  | .shrL _ f => { src := rS f.a, dst := rS f.d, strideD := true, strideA := true }
  | .sra _ f => { src := rS f.a ++ rS f.b, dst := rS f.d, strideD := true, strideA := true, strideB := true }
  | .sraI _ f => { src := rS f.a, dst := rS f.d, strideD := true, strideA := true }
  | .sraL _ f => { src := rS f.a, dst := rS f.d, strideD := true, strideA := true }
  | .rotl _ f => { src := rS f.a ++ rS f.b, dst := rS f.d, strideD := true, strideA := true, strideB := true }
  | .rotlI _ f => { src := rS f.a, dst := rS f.d, strideD := true, strideA := true }
  | .rotlL _ f => { src := rS f.a, dst := rS f.d, strideD := true, strideA := true }
  | .min _ f => { src := rS f.a ++ rS f.b, dst := rS f.d, strideD := true, strideA := true, strideB := true }
  | .minI _ f => { src := rS f.a, dst := rS f.d, strideD := true, strideA := true }
  | .minL _ f => { src := rS f.a, dst := rS f.d, strideD := true, strideA := true }
  | .max _ f => { src := rS f.a ++ rS f.b, dst := rS f.d, strideD := true, strideA := true, strideB := true }
  | .maxI _ f => { src := rS f.a, dst := rS f.d, strideD := true, strideA := true }
  | .maxL _ f => { src := rS f.a, dst := rS f.d, strideD := true, strideA := true }
  | .minz _ f => { src := rS f.a ++ rS f.b, dst := rS f.d, strideD := true, strideA := true, strideB := true }
  | .minzI _ f => { src := rS f.a, dst := rS f.d, strideD := true, strideA := true }
  | .minzL _ f => { src := rS f.a, dst := rS f.d, strideD := true, strideA := true }
  | .maxz _ f => { src := rS f.a ++ rS f.b, dst := rS f.d, strideD := true, strideA := true, strideB := true }
  | .maxzI _ f => { src := rS f.a, dst := rS f.d, strideD := true, strideA := true }
  | .maxzL _ f => { src := rS f.a, dst := rS f.d, strideD := true, strideA := true }
  | .clz _ f => { src := rS f.a, dst := rS f.d, strideD := true, strideA := true }
  | .clzW _ f => { src := rS f.a, dst := rS f.d, strideD := true, strideA := true }
  | .ctz _ f => { src := rS f.a, dst := rS f.d, strideD := true, strideA := true }
  | .ctzW _ f => { src := rS f.a, dst := rS f.d, strideD := true, strideA := true }
  | .popc _ f => { src := rS f.a, dst := rS f.d, strideD := true, strideA := true }
  | .popcW _ f => { src := rS f.a, dst := rS f.d, strideD := true, strideA := true }
  | .lea _ f => { src := rS f.a ++ rS f.b, dst := rS f.d, strideD := true, strideA := true, strideB := true }
  | .leaL _ f => { src := rS f.a ++ rS f.b, dst := rS f.d, strideD := true, strideA := true, strideB := true }
  | .sel _ f => { src := rS f.a ++ rS f.b ++ rP f.c.toNat, dst := rS f.d, strideD := true, strideA := true, strideB := true }
  | .bfx _ f => { src := rS f.a, dst := rS f.d, strideD := true, strideA := true }
  | .bfi _ f => { src := rS f.a ++ rS f.d, dst := rS f.d, strideD := true, strideA := true }
  | .ext _ f => { src := rS f.a, dst := rS f.d, strideD := true, strideA := true }
  | .li _ f => { dst := rS f.d, strideD := true }
  | .liL _ f => { dst := rS f.d, strideD := true }
  | .lih _ f => { src := rS f.d, dst := rS f.d, strideD := true }
  | .lihL _ f => { src := rS f.d, dst := rS f.d, strideD := true }
  | .bperm _ f => { src := rS f.a ++ rS f.b, dst := rS f.d, strideD := true, strideA := true, strideB := true }
  | .cmp _ f => { src := rS f.a ++ rS f.b, dst := rP f.d.toNat, strideA := true, strideB := true }
  | .cmpL _ f => { src := rS f.a ++ rS f.b, dst := rP f.d.toNat, strideA := true, strideB := true }
  | .plog _ f => { src := rP f.a.toNat ++ rP f.b.toNat, dst := rP f.d.toNat }
  | .fadd _ f => { src := rS f.a ++ rS f.b, dst := rS f.d, strideD := true, strideA := true, strideB := true }
  | .faddRnd _ f => { src := rS f.a ++ rS f.b, dst := rS f.d, strideD := true, strideA := true, strideB := true }
  | .fsub _ f => { src := rS f.a ++ rS f.b, dst := rS f.d, strideD := true, strideA := true, strideB := true }
  | .fsubRnd _ f => { src := rS f.a ++ rS f.b, dst := rS f.d, strideD := true, strideA := true, strideB := true }
  | .fmul _ f => { src := rS f.a ++ rS f.b, dst := rS f.d, strideD := true, strideA := true, strideB := true }
  | .fmulRnd _ f => { src := rS f.a ++ rS f.b, dst := rS f.d, strideD := true, strideA := true, strideB := true }
  | .fma _ f => { src := rS f.a ++ rS f.b ++ rS f.c, dst := rS f.d, strideD := true, strideA := true, strideB := true }
  | .fmin _ f => { src := rS f.a ++ rS f.b, dst := rS f.d, strideD := true, strideA := true, strideB := true }
  | .fmin64 _ f => { src := rS f.a ++ rS f.b, dst := rS f.d, strideD := true, strideA := true, strideB := true }
  | .fmax _ f => { src := rS f.a ++ rS f.b, dst := rS f.d, strideD := true, strideA := true, strideB := true }
  | .fmax64 _ f => { src := rS f.a ++ rS f.b, dst := rS f.d, strideD := true, strideA := true, strideB := true }
  | .fcmp _ f => { src := rS f.a ++ rS f.b, dst := rP f.d.toNat, strideA := true, strideB := true }
  | .fcvt _ f => { src := rS f.a, dst := rS f.d, strideD := true, strideA := true }
  | .ld _ f => { src := rS f.a, dst := rS f.d, strideD := true, strideA := true }
  | .ldL _ f => { src := rS f.a, dst := rS f.d, strideD := true, strideA := true }
  | .st _ f => { src := rS f.d ++ rS f.a, strideD := true, strideA := true }
  | .stL _ f => { src := rS f.d ++ rS f.a, strideD := true, strideA := true }
  | .ldaq _ f => { src := rS f.a, dst := rS f.d, strideD := true, strideA := true }
  | .ldaqL _ f => { src := rS f.a, dst := rS f.d, strideD := true, strideA := true }
  | .strl _ f => { src := rS f.d ++ rS f.a, strideD := true, strideA := true }
  | .strlL _ f => { src := rS f.d ++ rS f.a, strideD := true, strideA := true }
  | .lds _ f => { src := rS f.a ++ rS f.c, dst := rS f.d, strideD := true, strideA := true }
  | .ldsL _ f => { src := rS f.a ++ rS f.c, dst := rS f.d, strideD := true, strideA := true }
  | .sts _ f => { src := rS f.d ++ rS f.a ++ rS f.c, strideD := true, strideA := true }
  | .stsL _ f => { src := rS f.d ++ rS f.a ++ rS f.c, strideD := true, strideA := true }
  | .amo _ f => { src := rS f.a ++ rS f.b ++ rS f.c, dst := rS f.d, strideD := true, strideA := true, strideB := true }
  | .amoL _ f => { src := rS f.a ++ rS f.b ++ rS f.c, dst := rS f.d, strideD := true, strideA := true, strideB := true }
  | .acas _ f => { src := rS f.a ++ rS f.b ++ rS f.c, dst := rS f.d, strideD := true, strideA := true, strideB := true }
  | .acasL _ f => { src := rS f.a ++ rS f.b ++ rS f.c, dst := rS f.d, strideD := true, strideA := true, strideB := true }
  | .aclaim _ f => { src := rS f.a, dst := rS f.d ++ rS (f.d + 1), strideD := true, strideA := true }
  | .movsv _ f => { src := rS f.a, dst := rV (f.imm.setWidth 8) f.d, strideD := true, strideA := true }
  | .movvs _ f => { src := [.v (f.imm.toNat % 8) f.a.toNat], dst := rS f.d, strideD := true, strideA := true }
  | .movsm _ f => { src := rS f.a, dst := rMp f.d, strideA := true }
  | .movms _ f => { src := (if f.a.toNat < 8 then rMp f.a else []), dst := rS f.d, strideD := true }
  | .movfs _ f => { dst := rS f.d, strideD := true }
  | .movps _ f => { src := rP f.a.toNat, dst := rS f.d, strideD := true }
  | .movsp _ f => { src := rS f.a, dst := rP f.d.toNat, strideA := true }
  | .stdef _ f => { src := rS f.a, dst := rSt f.d, strideA := true }
  | .stld _ f => { src := rS f.a, dst := rSt f.d, strideA := true }
  | .stldL _ f => { src := rS f.a, dst := rSt f.d, strideA := true }
  | .stst _ f => { src := rSt f.d ++ rS f.a, strideA := true }
  | .ststL _ f => { src := rSt f.d ++ rS f.a, strideA := true }
  | .bpld _ f => { src := rS f.a, strideA := true }
  | .bpldL _ f => { src := rS f.a, strideA := true }
  | .vadd _ f => { src := rVm f.gmask f.vm.toNat ++ rV f.gmask f.va ++ rV f.gmask f.vb, dst := rV f.gmask f.vd, strideD := true, strideA := true, strideB := true }
  | .vaddL _ f _ => { src := rVm f.gmask f.vm.toNat ++ rV f.gmask f.va, dst := rV f.gmask f.vd, strideD := true, strideA := true }
  | .vsub _ f => { src := rVm f.gmask f.vm.toNat ++ rV f.gmask f.va ++ rV f.gmask f.vb, dst := rV f.gmask f.vd, strideD := true, strideA := true, strideB := true }
  | .vsubL _ f _ => { src := rVm f.gmask f.vm.toNat ++ rV f.gmask f.va, dst := rV f.gmask f.vd, strideD := true, strideA := true }
  | .vmul _ f => { src := rVm f.gmask f.vm.toNat ++ rV f.gmask f.va ++ rV f.gmask f.vb, dst := rV f.gmask f.vd, strideD := true, strideA := true, strideB := true }
  | .vmulL _ f _ => { src := rVm f.gmask f.vm.toNat ++ rV f.gmask f.va, dst := rV f.gmask f.vd, strideD := true, strideA := true }
  | .vfma _ f => { src := rVm f.gmask f.vm.toNat ++ rV f.gmask f.va ++ rV f.gmask f.vc ++ rV f.gmask f.vb, dst := rV f.gmask f.vd, strideD := true, strideA := true, strideB := true }
  | .vfmaL _ f _ => { src := rVm f.gmask f.vm.toNat ++ rV f.gmask f.va ++ rV f.gmask f.vc, dst := rV f.gmask f.vd, strideD := true, strideA := true }
  | .vmin _ f => { src := rVm f.gmask f.vm.toNat ++ rV f.gmask f.va ++ rV f.gmask f.vb, dst := rV f.gmask f.vd, strideD := true, strideA := true, strideB := true }
  | .vminL _ f _ => { src := rVm f.gmask f.vm.toNat ++ rV f.gmask f.va, dst := rV f.gmask f.vd, strideD := true, strideA := true }
  | .vmax _ f => { src := rVm f.gmask f.vm.toNat ++ rV f.gmask f.va ++ rV f.gmask f.vb, dst := rV f.gmask f.vd, strideD := true, strideA := true, strideB := true }
  | .vmaxL _ f _ => { src := rVm f.gmask f.vm.toNat ++ rV f.gmask f.va, dst := rV f.gmask f.vd, strideD := true, strideA := true }
  | .vabs _ f => { src := rVm f.gmask f.vm.toNat ++ rV f.gmask f.va, dst := rV f.gmask f.vd, strideD := true, strideA := true }
  | .vneg _ f => { src := rVm f.gmask f.vm.toNat ++ rV f.gmask f.va, dst := rV f.gmask f.vd, strideD := true, strideA := true }
  | .vand _ f => { src := rVm f.gmask f.vm.toNat ++ rV f.gmask f.va ++ rV f.gmask f.vb, dst := rV f.gmask f.vd, strideD := true, strideA := true, strideB := true }
  | .vandL _ f _ => { src := rVm f.gmask f.vm.toNat ++ rV f.gmask f.va, dst := rV f.gmask f.vd, strideD := true, strideA := true }
  | .vor _ f => { src := rVm f.gmask f.vm.toNat ++ rV f.gmask f.va ++ rV f.gmask f.vb, dst := rV f.gmask f.vd, strideD := true, strideA := true, strideB := true }
  | .vorL _ f _ => { src := rVm f.gmask f.vm.toNat ++ rV f.gmask f.va, dst := rV f.gmask f.vd, strideD := true, strideA := true }
  | .vxor _ f => { src := rVm f.gmask f.vm.toNat ++ rV f.gmask f.va ++ rV f.gmask f.vb, dst := rV f.gmask f.vd, strideD := true, strideA := true, strideB := true }
  | .vxorL _ f _ => { src := rVm f.gmask f.vm.toNat ++ rV f.gmask f.va, dst := rV f.gmask f.vd, strideD := true, strideA := true }
  | .vshl _ f => { src := rVm f.gmask f.vm.toNat ++ rV f.gmask f.va ++ rV f.gmask f.vb, dst := rV f.gmask f.vd, strideD := true, strideA := true, strideB := true }
  | .vshlL _ f _ => { src := rVm f.gmask f.vm.toNat ++ rV f.gmask f.va, dst := rV f.gmask f.vd, strideD := true, strideA := true }
  | .vshr _ f => { src := rVm f.gmask f.vm.toNat ++ rV f.gmask f.va ++ rV f.gmask f.vb, dst := rV f.gmask f.vd, strideD := true, strideA := true, strideB := true }
  | .vshrL _ f _ => { src := rVm f.gmask f.vm.toNat ++ rV f.gmask f.va, dst := rV f.gmask f.vd, strideD := true, strideA := true }
  | .vsra _ f => { src := rVm f.gmask f.vm.toNat ++ rV f.gmask f.va ++ rV f.gmask f.vb, dst := rV f.gmask f.vd, strideD := true, strideA := true, strideB := true }
  | .vsraL _ f _ => { src := rVm f.gmask f.vm.toNat ++ rV f.gmask f.va, dst := rV f.gmask f.vd, strideD := true, strideA := true }
  | .vcmp _ f => { src := rVm f.gmask f.vm.toNat ++ rV f.gmask f.va ++ rV f.gmask f.vb, dst := rVm f.gmask f.vd.toNat, strideA := true, strideB := true }
  | .vcmpL _ f _ => { src := rVm f.gmask f.vm.toNat ++ rV f.gmask f.va, dst := rVm f.gmask f.vd.toNat, strideA := true }
  | .vsel _ f => { src := rVm f.gmask f.vm.toNat ++ rV f.gmask f.va ++ rVm f.gmask f.vc.toNat ++ rV f.gmask f.vb, dst := rV f.gmask f.vd, strideD := true, strideA := true, strideB := true }
  | .vselL _ f _ => { src := rVm f.gmask f.vm.toNat ++ rV f.gmask f.va ++ rVm f.gmask f.vc.toNat, dst := rV f.gmask f.vd, strideD := true, strideA := true }
  | .vmov _ f => { src := rVm f.gmask f.vm.toNat ++ rV f.gmask f.va, dst := rV f.gmask f.vd, strideD := true, strideA := true }
  | .vli _ f _ => { src := rVm f.gmask f.vm.toNat, dst := rV f.gmask f.vd, strideD := true }
  | .vcvt _ f => { src := rVm f.gmask f.vm.toNat ++ rV f.gmask f.va, dst := rV f.gmask f.vd, strideD := true, strideA := true }
  | .vrcp _ f => { src := rVm f.gmask f.vm.toNat ++ rV f.gmask f.va, dst := rV f.gmask f.vd, strideD := true, strideA := true }
  | .vrsq _ f => { src := rVm f.gmask f.vm.toNat ++ rV f.gmask f.va, dst := rV f.gmask f.vd, strideD := true, strideA := true }
  | .vexp2 _ f => { src := rVm f.gmask f.vm.toNat ++ rV f.gmask f.va, dst := rV f.gmask f.vd, strideD := true, strideA := true }
  | .vlg2 _ f => { src := rVm f.gmask f.vm.toNat ++ rV f.gmask f.va, dst := rV f.gmask f.vd, strideD := true, strideA := true }
  | .vtanh _ f => { src := rVm f.gmask f.vm.toNat ++ rV f.gmask f.va, dst := rV f.gmask f.vd, strideD := true, strideA := true }
  | .vpopc _ f => { src := rVm f.gmask f.vm.toNat ++ rV f.gmask f.va, dst := rV f.gmask f.vd, strideD := true, strideA := true }
  | .vclz _ f => { src := rVm f.gmask f.vm.toNat ++ rV f.gmask f.va, dst := rV f.gmask f.vd, strideD := true, strideA := true }
  | .vdot4 _ f => { src := rVm f.gmask f.vm.toNat ++ rV f.gmask f.va ++ rV f.gmask f.vc ++ rV f.gmask f.vb, dst := rV f.gmask f.vd, strideD := true, strideA := true, strideB := true }
  | .vdot4L _ f _ => { src := rVm f.gmask f.vm.toNat ++ rV f.gmask f.va ++ rV f.gmask f.vc, dst := rV f.gmask f.vd, strideD := true, strideA := true }
  | .vmlog _ f => { src := rVm f.gmask f.va.toNat ++ rVm f.gmask f.vb.toNat, dst := rVm f.gmask f.vd.toNat }
  | .vshuf _ f => { src := rVm f.gmask f.vm.toNat ++ rV f.gmask f.va ++ rV f.gmask f.vb, dst := rV f.gmask f.vd, strideD := true, strideA := true, strideB := true }
  | .vbcst _ f => { src := rVm f.gmask f.vm.toNat ++ rV f.gmask f.va, dst := rV f.gmask f.vd, strideD := true, strideA := true }
  | .vradd _ f => { src := rVm f.gmask f.vm.toNat ++ rV f.gmask f.va, dst := rV f.gmask f.vd, strideD := true, strideA := true }
  | .vrmax _ f => { src := rVm f.gmask f.vm.toNat ++ rV f.gmask f.va, dst := rV f.gmask f.vd, strideD := true, strideA := true }
  | .vrmin _ f => { src := rVm f.gmask f.vm.toNat ++ rV f.gmask f.va, dst := rV f.gmask f.vd, strideD := true, strideA := true }
  | .vxg _ f => { src := rVm f.gmask f.vm.toNat ++ [.v (f.mod6.toNat % 8) f.va.toNat], dst := rV f.gmask f.vd, strideD := true, strideA := true }
  | .vscan _ f => { src := rVm f.gmask f.vm.toNat ++ rV f.gmask f.va, dst := rV f.gmask f.vd, strideD := true, strideA := true }
  | .vsld _ f => { src := rVm f.gmask f.vm.toNat, dst := rV f.gmask f.vd ++ rSt f.va, strideD := true }
  | .vsst _ f => { src := rVm f.gmask f.vm.toNat ++ rV f.gmask f.vb, dst := rSt f.va, strideB := true }
  | .vgld _ f => { src := rVm f.gmask f.vm.toNat ++ rSt f.va ++ rV f.gmask f.vb, dst := rV f.gmask f.vd, strideD := true, strideB := true }
  | .vsct _ f => { src := rVm f.gmask f.vm.toNat ++ rSt f.va ++ rV f.gmask f.vb ++ rV f.gmask f.vc, strideB := true }
  | .vsamo _ f => { src := rVm f.gmask f.vm.toNat ++ rSt f.va ++ rV f.gmask f.vb ++ rV f.gmask f.vc, dst := (if 16 ≤ f.mod6.toNat then rV f.gmask f.vd else []), strideD := decide (16 ≤ f.mod6.toNat), strideB := true }
  | .vamax _ f => { src := rVm f.gmask f.vm.toNat ++ rV f.gmask f.va, strideA := true }
  | .vqcvt _ f => { src := rVm f.gmask f.vm.toNat ++ rV f.gmask f.va, dst := rV f.gmask f.vd, strideD := true, strideA := true }
  | .vdq _ f => { src := rVm f.gmask f.vm.toNat ++ rV f.gmask f.va ++ rV f.gmask f.vb, dst := rV f.gmask f.vd, strideD := true, strideA := true, strideB := true }
  | .vdqL _ f _ => { src := rVm f.gmask f.vm.toNat ++ rV f.gmask f.va, dst := rV f.gmask f.vd, strideD := true, strideA := true }
  | .vunp3 _ f => { src := rVm f.gmask f.vm.toNat ++ rV f.gmask f.va, dst := rV f.gmask f.vd, strideD := true, strideA := true }
  | .vpack3 _ f => { src := rVm f.gmask f.vm.toNat ++ rV f.gmask f.va ++ rV f.gmask f.vc, dst := rV f.gmask f.vd, strideD := true, strideA := true }
  | .vbperm _ f => { src := rVm f.gmask f.vm.toNat ++ rV f.gmask f.va ++ rV f.gmask f.vb, dst := rV f.gmask f.vd, strideD := true, strideA := true, strideB := true }
  | .vsbr _ f => { src := rVm f.gmask f.vm.toNat, dst := rV f.gmask f.vd, strideD := true }
  | .vthr _ f => { src := rVm f.gmask f.vm.toNat, dst := rV f.gmask f.vd, strideD := true }
  | .mcall _ _ => {}
  | .mmode _ _ => {}
  | .mclr _ _ => {}
  | .mmerge _ _ => {}
  | .mpld _ f => { src := rS f.sa }
  | .mabort _ _ => {}
  | .cpyPlain _ f => { src := rSt f.xa ++ rSt f.xb ++ rS f.xc }
  | .cpyConvert _ f => { src := rSt f.xa ++ rSt f.xb ++ rS f.xc }
  | .cpyRank _ f => { src := rSt f.xa ++ rSt f.xb }
  | .cpyRankmerge _ f => { src := rSt f.xa ++ rS f.xc }
  | .put _ f => { src := rSt f.xa ++ rS f.xb ++ rS f.xc ++ rS f.xh }
  | .putGlob _ f => { src := rSt f.xa ++ rS f.xb ++ rS f.xc ++ rS f.xh }
  | .get _ f => { src := rS f.xa ++ rSt f.xb ++ rS f.xc }
  | .getGlob _ f => { src := rS f.xa ++ rSt f.xb ++ rS f.xc }
  | .xflag _ f => { src := rS f.xa ++ rS f.xc }
  | .send _ f => { src := rSt f.xa ++ rS f.xb ++ rS f.xc }
  | .sendm _ f _ => { src := rSt f.xa ++ rS f.xb ++ rS f.xc }
  | .pref _ f => { src := rS f.xa }
  | .prefSlice _ f => { src := rS f.xa }
  | .flush _ f => { src := rS f.xa }
  | .fwait _ f => { src := rS f.sa }
  | .fpost _ f => { src := rS f.sa }
  | .fset _ f => { src := rS f.sa }
  | .bara _ _ => {}
  | .barw _ f => { dst := rP f.pd.toNat }
  | .baraw _ f => { dst := rP f.pd.toNat }
  | .fence _ _ => {}
  | .pbrReg _ f => { src := rS f.sa, dst := rB f.bt.toNat }
  | .pbr _ f _ => { dst := rB f.bt.toNat }
  | .br _ f => { src := rB f.bt.toNat }
  | .call _ f => { src := rB f.bt.toNat, dst := rB 7 }
  | .loop _ f _ => { src := rS f.sa }
  | .lbrk _ _ => {}
  | .swpt _ _ => {}
  | .brt _ f => { src := rB f.bt.toNat ++ rS f.sa }
  | .exit _ _ => {}
  | .trap _ _ => {}
  | .nop _ _ => {}
  | .nop64 _ _ => {}
  | .nop96 _ _ => {}
  | .rdc _ f _ => { dst := rS f.d }
  | .wrc _ f _ => { src := rS f.a }
  | .clkdiv _ f => { dst := rP f.d.toNat }
  | .pwrq _ _ => {}
  | .rep _ f _ => { src := rS f.a }
  | .ebreak _ _ => {}
  | .sysc _ _ => {}
  | .rfe _ _ => {}
  | .tlbiPage _ f => { src := rS f.a }
  | .tlbiSpace _ f => { src := rS f.a }
  | .tlbiPart _ _ => {}
  | .tlbiReplica _ f => { src := rS f.a }
  | .tlbiRwflush _ _ => {}
  | .tlbiRcinit _ f => { src := rS f.a }
  | .idle _ _ => {}
  | _ => {}

/-- The paths an instruction uses, by their bit of R11 (R178). -/
def Instr.paths (i : Instr) : List Nat :=
  match i with
  | .ld .. | .ldL .. | .st .. | .stL .. | .ldaq .. | .ldaqL .. | .strl .. | .strlL .. | .lds .. | .ldsL .. | .sts ..
  | .stsL .. | .amo .. | .amoL .. | .acas .. | .acasL .. | .aclaim .. | .stld .. | .stldL .. | .stst .. | .ststL ..
  | .bpld .. | .bpldL .. | .mpld .. | .flush .. | .pref .. | .prefSlice .. => [0]
  | .vsld .. | .vsst .. | .vgld .. | .vsct .. | .vsamo .. => [1]
  | .mcall .. => [2]
  | .cpyPlain .. | .cpyConvert .. | .cpyRank .. | .cpyRankmerge .. | .put .. | .putGlob .. | .get .. | .getGlob .. => [3]
  | .send .. | .sendm .. => [4]
  -- DEDUCED (log 20): R290 holds an XFLAG by a FENCE naming CE, R286 by one naming CE or FB
  | .xflag .. => [3, 4]
  | _ => []

/-- The PRED field, 0 for a step that has none. -/
def Instr.pred (i : Instr) : Nat :=
  match i.head with
  | some (_, h, _) => h.pred.toNat
  | none => 0

def Instr.cls? (i : Instr) : Option Cls := i.head.map (fun p => p.1)

/-- GMASK of a V instruction, 0 for any other. -/
def gmaskOf (i : Instr) : BitVec 8 :=
  match i.cls? with
  | some .v => ((encode i).headD 0).extractLsb' 17 8
  | _ => 0

/-- A V instruction that occupies no lane group: it has no effect (R58). -/
def Instr.noLanes (i : Instr) : Bool := i.cls? == some .v && gmaskOf i == 0

/-- The registers an instruction names with its guard (R59, R64). -/
def Instr.regs (i : Instr) : List Reg := i.names.src ++ i.names.dst ++ rP i.pred

/-- The accumulator tiles of its own that an instruction names (R55). -/
def Instr.tilesOf : Instr → List Nat
  | .mcall _ f | .mmode _ f | .mclr _ f => [f.acc.toNat]
  | .mmerge _ f => [f.acc.toNat, f.accb.toNat]
  | .brt _ f => [f.sb.toNat % 8]
  | .vthr _ f => [f.mod6.toNat % 8]
  | .cpyRank _ f => [f.acc.toNat]
  | _ => []

/-- The CSR number of RDC and WRC. -/
def Instr.csr? : Instr → Option Nat
  | .rdc _ _ n => some n.toNat
  | .wrc _ _ n => some n.toNat
  | _ => none

/-- The first word of an instruction (TVAL of ILLEGAL_ENCODING, R324). -/
def Instr.firstWord (i : Instr) : W64 :=
  match i with
  | .illegalEncoding w => w.setWidth 64
  | _ => ((encode i).headD 0).setWidth 64

/-- A handler, and any context in kernel mode, has s0-s15 and p0-p3 alone (R21, R321). -/
def Reg.beyond : Reg → Bool
  | .s n => 16 ≤ n
  | .p n => 4 ≤ n
  | _ => false

/-- Instructions that name v, mp or tile registers a handler has not (R165, R174, R259). -/
def Instr.noHandler : Instr → Bool
  | .movsv .. | .movvs .. | .movsm .. | .movms .. | .brt .. | .cpyRank .. => true
  | _ => false


end Sys2Proof
end

