-- ==== Sys2Proof/Machine/Ops.lean ====
section
/-! DEFINITION. The named operations over a core's state: reading and writing registers, results on their way (R45, R60),
what holds a group at issue (R64, R65, R178, R378), taking a trap (R326) and returning from one (R332). -/

namespace Sys2Proof.Machine

/-! ## Cores, resident contexts, contexts -/

def State.core (s : State) (c : CoreId) : Core := s.cores.get {} c.toNat
def State.setCore (s : State) (c : CoreId) (k : Core) : State := { s with cores := s.cores.put {} c.toNat k }
def State.modCore (s : State) (c : CoreId) (f : Core → Core) : State := s.setCore c (f (s.core c))

def Core.res (k : Core) : Slot → Res
  | .a => k.a
  | .b => k.b
  | .out n => k.evicted.get {} n
def Core.setRes (k : Core) (r : Slot) (x : Res) : Core :=
  match r with
  | .a => { k with a := x }
  | .b => { k with b := x }
  | .out n => { k with evicted := k.evicted.put {} n x }
/-- The same change in every context that the core holds, resident or evicted. -/
def Core.mapRes (k : Core) (f : Slot → Res → Res) : Core :=
  { k with
    a := f .a k.a
    b := f .b k.b
    evicted := (k.evicted.map (fun e => (e.1, f (.out e.1) e.2))).filter (fun e => !(e.2 == {})) }
/-- The contexts that the core holds. -/
def Core.all (k : Core) : List (Slot × Res) := (.a, k.a) :: (.b, k.b) :: k.evicted.map (fun e => (.out e.1, e.2))

def State.res (s : State) (c : CoreId) (r : Slot) : Res := (s.core c).res r
def State.setRes (s : State) (c : CoreId) (r : Slot) (x : Res) : State := s.setCore c ((s.core c).setRes r x)
def State.modRes (s : State) (c : CoreId) (r : Slot) (f : Res → Res) : State := s.setRes c r (f (s.res c r))

def Res.ctx (r : Res) : CtxId → Ctx
  | .primary => r.primary
  | .h1 => r.h1
  | .h2 => r.h2
def Res.setCtx (r : Res) (i : CtxId) (x : Ctx) : Res :=
  match i with
  | .primary => { r with primary := x }
  | .h1 => { r with h1 := x }
  | .h2 => { r with h2 := x }
def Res.modCtx (r : Res) (i : CtxId) (f : Ctx → Ctx) : Res := r.setCtx i (f (r.ctx i))

/-- The resident context that issues. -/
def State.rc (s : State) : Res := s.res s.cur.core s.cur.slot
def State.modRc (s : State) (f : Res → Res) : State := s.modRes s.cur.core s.cur.slot f
/-- The context that issues. -/
def State.cx (s : State) : Ctx := s.rc.ctx s.cur.ctx
def State.modCx (s : State) (f : Ctx → Ctx) : State := s.modRc (fun r => r.modCtx s.cur.ctx f)
/-- The core that issues. -/
def State.here (s : State) : Core := s.core s.cur.core
def State.modHere (s : State) (f : Core → Core) : State := s.modCore s.cur.core f

def State.die (s : State) (d : DieId) : Die := s.dies.get {} d.toNat
def State.modDie (s : State) (d : DieId) (f : Die → Die) : State := { s with dies := s.dies.mod {} d.toNat f }
def State.part (s : State) (p : PartId) : Part := s.parts.get {} p.toNat
def State.modPart (s : State) (p : PartId) (f : Part → Part) : State := { s with parts := s.parts.mod {} p.toNat f }
def State.queue (s : State) (q : QueueId) : Queue := s.queues.get {} q.toNat
def State.modQueue (s : State) (q : QueueId) (f : Queue → Queue) : State := { s with queues := s.queues.mod {} q.toNat f }
def State.arm (s : State) (g : GroupId) : Arm := s.arms.get {} g.toNat
def State.modArm (s : State) (g : GroupId) (f : Arm → Arm) : State := { s with arms := s.arms.mod {} g.toNat f }

/-- Die, cluster and core number of a logical core ID (R4). -/
def dieOf (c : CoreId) : DieId := c.extractLsb' 8 4
def clusterOf (c : CoreId) : Nat := c.toNat / 64 % 4
def coreNo (c : CoreId) : Nat := c.toNat % 64
/-- The column of a core, row in [7:4] and position in [3:0] (R3): its place in firmware's order of the die's 256 cores, so that no
two cores share a column. -/
def columnOf (c : CoreId) : Byte :=
  BitVec.ofNat 8 (((List.range 256).filter (fun n =>
    let o : CoreId := BitVec.ofNat 12 (c.toNat / 256 * 256 + n)
    Config.placeKey o < Config.placeKey c || (Config.placeKey o == Config.placeKey c && o.toNat < c.toNat))).length)
/-- Core n of a core's cluster. -/
def sibling (c : CoreId) (n : Nat) : CoreId := BitVec.ofNat 12 (c.toNat / 64 * 64 + n % 64)
/-- The system core ID (R4). -/
def State.sysId (s : State) (c : CoreId) : BitVec 22 := s.domain ++ s.peer ++ c

/-- The task of an identifier. -/
def State.task? (s : State) (id : W32) : Option Task := s.tasks.find? (fun t => t.id == id)
def State.modTask (s : State) (id : W32) (f : Task → Task) : State :=
  { s with tasks := s.tasks.map (fun t => if t.id == id then f t else t) }

/-- A task is to end with a status, a cause and its sub-cause; the first ending stands (R361). -/
def State.endTask (s : State) (id : W32) (status cause sub : Byte) : State :=
  s.modTask id (fun t => if t.ending.isSome then t else { t with ending := some ⟨status, cause, sub⟩ })

/-- A fresh serial number for a request, transfer or fence. -/
def State.bump (s : State) : State := { s with serial := s.serial + 1 }

/-! ## Registers (R52, R321) -/

/-- s_n: s0 reads 0; in kernel mode the kernel bank answers. -/
def Ctx.readS (x : Ctx) (n : Nat) : W64 := if n = 0 then 0 else if x.mode then x.ks.get 0 n else x.s.get 0 n
/-- p_n: p0 reads 1. -/
def Ctx.readP (x : Ctx) (n : Nat) : Bool :=
  if n = 0 then true else if x.mode then x.kp.get false n else x.p.get false n
def Ctx.readB (x : Ctx) (n : Nat) : VAddr := x.b.get 0 n
def Ctx.putS (x : Ctx) (k : Bool) (n : Nat) (v : W64) : Ctx :=
  if n = 0 then x else if k then { x with ks := x.ks.put 0 n v } else { x with s := x.s.put 0 n v }
def Ctx.putP (x : Ctx) (k : Bool) (n : Nat) (v : Bool) : Ctx :=
  if n = 0 then x else if k then { x with kp := x.kp.put false n v } else { x with p := x.p.put false n v }
def Ctx.putB (x : Ctx) (n : Nat) (v : VAddr) : Ctx := { x with b := x.b.put 0 n v }

def State.sreg (s : State) (n : BitVec 5) : W64 := s.cx.readS n.toNat
def State.preg (s : State) (n : Nat) : Bool := s.cx.readP (n % 8)
def State.breg (s : State) (n : Nat) : VAddr := s.cx.readB (n % 8)
def State.stream (s : State) (n : BitVec 5) : Stream := s.rc.streams.get {} (n.toNat % 16)
def State.setStream (s : State) (n : BitVec 5) (x : Stream) : State :=
  s.modRc (fun r => { r with streams := r.streams.put {} (n.toNat % 16) x })

/-- Lane i of v_n in group g (R53). -/
def Res.readV (r : Res) (g n i : Nat) : W32 := r.v.get 0 ((g * 32 + n) * 16 + i)
/-- vm_k of group g; vm0 reads all ones (R52). -/
def Res.readVm (r : Res) (g k : Nat) : BitVec 16 := if k = 0 then 0xFFFF else r.vm.get 0 (g * 8 + k)
def Res.putV (r : Res) (g n : Nat) (lanes : List (Nat × W32)) : Res :=
  { r with v := r.v.putAll 0 (lanes.map (fun p => ((g * 32 + n) * 16 + p.1, p.2))) }
/-- The masked bits of vm_k take a new value; vm0 keeps its own. -/
def Res.putVm (r : Res) (g k : Nat) (mask x : BitVec 16) : Res :=
  if k = 0 then r else { r with vm := r.vm.put 0 (g * 8 + k) ((r.vm.get 0 (g * 8 + k) &&& ~~~mask) ||| (x &&& mask)) }

/-! ## Results in flight (R45, R60, R61) -/

/-- STDEF's field selector (R125, R166): one field takes the low bits of a value, with the fallbacks 0x18 to 0x1A. -/
def Stream.setField (x : Stream) (sel : Nat) (v : W64) : Stream :=
  match sel with
  | 0 => { x with base := v.setWidth 48 }
  | 1 => { x with space := v.setWidth 2 }
  | 2 => { x with format := if 12 ≤ (v.setWidth 4).toNat then 10 else v.setWidth 4 }
  | 3 => { x with count0 := v.setWidth 24 }
  | 4 => { x with count1 := v.setWidth 24 }
  | 5 => { x with count2 := v.setWidth 24 }
  | 6 => { x with stride0 := v.setWidth 32 }
  | 7 => { x with stride1 := v.setWidth 32 }
  | 8 => { x with stride2 := v.setWidth 32 }
  | 9 => { x with blklog := if (v.setWidth 4).toNat < 5 then 5 else if 8 < (v.setWidth 4).toNat then 8 else v.setWidth 4 }
  | 10 => { x with scaleMode := if v.setWidth 2 = (3#2) then 0 else v.setWidth 2 }
  | 11 => { x with scaleBase := v.setWidth 48 }
  | 12 => { x with scaleStride := v.setWidth 32 }
  | 13 => { x with cursor := v.setWidth 48 }
  | _ => x

/-- The warning of a stream field's value, 0 for none (R137). -/
def streamWarn (sel : Nat) (v : W64) : Nat :=
  match sel with
  | 2 => if 12 ≤ (v.setWidth 4).toNat then 0x18 else 0
  | 9 => if (v.setWidth 4).toNat < 5 || 8 < (v.setWidth 4).toNat then 0x1A else 0
  | 10 => if v.setWidth 2 = (3#2) then 0x19 else 0
  | _ => 0

/-- The 256 bits of an asynchronous fault record (R330). -/
def AFault.bits (f : AFault) : BitVec 256 :=
  0#64 ++ f.landed ++ f.target ++ f.stream ++ f.step ++ f.routine ++ f.sub ++ f.ctx ++ f.src ++ f.code ++ f.pc ++ f.va

/-- The next asynchronous record goes to AREC (R331), which frees its transfer slot (R253) or lets the engine fault again
(R250); with none queued AREC is 0. -/
def Res.takeRecord (r : Res) : Res :=
  match r.faults with
  | [] => { r with arec := 0 }
  | f :: t =>
    match f.xfer with
    | some n => { r with arec := f.bits, faults := t, xfers := r.xfers.put none n none }
    | none => { r with arec := f.bits, faults := t, eng := { r.eng with faulted := false } }

/-- A handler context holds s0 to s15 and p0 to p3 alone (R21, R322). -/
def isHandler (x : CtxId) : Bool := !(x == .primary)

/-- A value reaches a CSR by WRC (R73, R322, R323): a CSR that gives no write takes none. -/
def Res.writeCsr (r : Res) (x : CtxId) (n : Nat) (v : W64) : Res :=
  match n with
  | 0x010 => r.clearWarn v
  | 0x012 => { r with fstat := r.fstat &&& ~~~(v.setWidth 8) }
  | 0x020 => if v.toNat < r.yieldBound.toNat then { r with yieldBound := BitVec.ofNat 32 (Nat.max v.toNat 256) } else r
  | 0x100 => r.modCtx x (fun c => { c with pmode := v.getLsbD 4 })
  | 0x101 => r.modCtx x (fun c => { c with tcause := v.setWidth 32 })
  | 0x102 => r.modCtx x (fun c => { c with tepc := v.setWidth 48 })
  | 0x104 => r.modCtx x (fun c => { c with tval := v })
  | 0x105 => r.modCtx x (fun c => { c with tinfo := v.setWidth 16 })
  | 0x114 => r.takeRecord
  | 0x220 => (List.range (if isHandler x then 4 else 8)).foldl (fun r i => r.modCtx x (fun c => c.putP false i (v.getLsbD i))) r
  | n =>
    if 0x200 ≤ n && n < (if isHandler x then 0x210 else 0x220) then r.modCtx x (fun c => c.putS false (n - 0x200) v)
    else if 0x228 ≤ n && n < 0x230 then
      r.modCtx x (fun c =>
        { c.putB (n - 0x228) (v.setWidth 48) with
          prep := match c.prep with | some (m, k) => if m = n - 0x228 then none else some (m, k) | none => none })
    else r

/-- Write a result into its register, and its flags into FSTAT (R60, R77). Of two results that reach parts of one register in one
cycle (lanes, fields), the later prevails in the parts it writes (DESIGN CHOICE, log 65). -/
def Res.land (r : Res) (x : CtxId) (w : Wr) (g : Flags8) : Res :=
  let r := if g = 0 then r else r.raise g
  match w with
  | .none => r
  | .s k n v => r.modCtx x (fun c => c.putS k n v)
  | .p k n v => r.modCtx x (fun c => c.putP k n v)
  | .v gr n lanes => r.putV gr n lanes
  | .vm gr n mask v => r.putVm gr n mask v
  | .mp n v => { r with mp := r.mp.put 0 n v }
  | .st n v => { r with streams := r.streams.put {} n v }
  | .stField n sel v => { r with streams := r.streams.mod {} n (fun t => t.setField sel.toNat v) }
  | .pat n v => { r with pats := r.pats.put 0 n v }
  | .sb gr n v => { r with sb := r.sb.put 0 (gr * 2 + n) v }
  | .csr n v => r.writeCsr x n v

/-- The results that are due land: those of the shadow buffer first, then in the order of issue (R46, R61). -/
def Res.landDue (r : Res) (cycle : Nat) : Res :=
  let due := r.inflight.filter (fun f => f.due ≤ cycle)
  let r := { r with inflight := r.inflight.filter (fun f => cycle < f.due) }
  let r := (due.filter (fun f => f.shadow)).foldl (fun r f => r.land f.ctx f.w f.flags) r
  (due.filter (fun f => !f.shadow)).foldl (fun r f => r.land f.ctx f.w f.flags) r

/-- A context's results in flight go to its shadow buffer with the counts they have left at cycle t (R45 step 2). -/
def Res.captureAs (r : Res) (x : CtxId) (t : Nat) (on : Resumes) : Res :=
  let mine := (r.inflight.filter (fun f => f.ctx == x)).map
    (fun f => ({ count := f.due - t, w := f.w, flags := f.flags, on := on, eng := f.eng } : Shadow))
  { r with inflight := r.inflight.filter (fun f => !(f.ctx == x)) }.modCtx x
    (fun c => { c with shadow := c.shadow ++ mine })

/-- CaptureInFlight (R326): the counts are those left at the cycle in which the context's group would have issued, after the
bubbles that it still waits for. -/
def Res.capture (r : Res) (x : CtxId) (cycle : Nat) : Res := r.captureAs x (Nat.max cycle (r.ctx x).ready) .own

/-- The entries of a context that its next group resumes, and with them those that the resident context's first group does. -/
def Ctx.resumed (c : Ctx) (own : Bool) : List Shadow := c.shadow.filter (fun e => e.on == .first || (own && e.on == .own))

/-- Entries of a context go on their way: each lands at its count after cycle t, at once where none is left (R46). -/
def Res.resumeCtx (r : Res) (x : CtxId) (own : Bool) (t : Nat) : Res :=
  let go := (r.ctx x).resumed own
  let fly := (go.filter (fun e => e.count != 0)).map
    (fun e => ({ due := t + e.count, ctx := x, w := e.w, flags := e.flags, shadow := true, eng := e.eng } : Fly))
  let r := { r with inflight := fly ++ r.inflight }.modCtx x (fun c => { c with shadow := c.shadow.filter (fun e => !go.contains e) })
  (go.filter (fun e => e.count == 0)).foldl (fun r e => r.land x e.w e.flags) r

/-- Resume (R46): context x issues a group at cycle t. -/
def Res.resume (r : Res) (x : CtxId) (t : Nat) : Res :=
  [CtxId.primary, .h1, .h2].foldl (fun r y => r.resumeCtx y (y == x) t) r

def Divs.get (d : Divs) : Eng → Nat
  | .ctl => d.ctl
  | .mat => d.mat
  | .vec => d.vec
  | .cpy => d.cpy
  | .ctlVec => Nat.max d.ctl d.vec
  | .ctlMat => Nat.max d.ctl d.mat
  | .matVec => Nat.max d.mat d.vec

/-- The latency L of an engine's instruction in control cycles (R66). -/
def scaledLat (d : Divs) (e : Eng) (l : Nat) : Nat :=
  match e with
  | .ctl => l
  | e => (l * d.get e + d.ctl - 1) / d.ctl

/-- Send a fixed-latency result on its way (R60). -/
def State.post (s : State) (e : Eng) (l : Nat) (w : Wr) (g : Flags8 := 0) : State :=
  let due := s.here.cycle + scaledLat s.here.divs e l
  s.modRc (fun r => { r with inflight := r.inflight ++ [{ due := due, ctx := s.cur.ctx, w := w, flags := g, eng := e }] })

/-- A scalar result: s0 takes nothing, its flags are raised all the same (R52, ch. 6). -/
def State.postS (s : State) (l : Nat) (d : BitVec 5) (x : W64) (g : Flags8 := 0) : State :=
  s.post .ctl l (if d = 0 then .none else .s s.cx.mode d.toNat x) g

/-- A predicate result. -/
def State.postP (s : State) (l : Nat) (d : BitVec 5) (x : Bool) (g : Flags8 := 0) : State :=
  s.post .ctl l (if d.toNat % 8 = 0 then .none else .p s.cx.mode (d.toNat % 8) x) g

/-- A warning of the instruction that issues (R137). -/
def State.warn (s : State) (code : Nat) : State := if code = 0 then s else s.modRc (fun r => r.warn code s.cur.ipc)
def State.warnIf (s : State) (c : Bool) (code : Nat) : State := if c then s.warn code else s

/-! ## Holds and traps -/

def State.hold (s : State) (h : Hold := .plain) : State := { s with mark := .held h }
def State.trap (s : State) (t : Trap) : State := { s with mark := .trapped t }

def cEncoding : Byte := 0x01
def cGroup : Byte := 0x02
def cPrivilege : Byte := 0x03
def cXlate : Byte := 0x04
def cAccess : Byte := 0x05
def cAlign : Byte := 0x06
def cRace : Byte := 0x07
def cEngine : Byte := 0x08
def cFabric : Byte := 0x09
def cEbreak : Byte := 0x0A
def cSysc : Byte := 0x0B
def cUser : Byte := 0x0C
def cCoolant : Byte := 0x0D
def cHw : Byte := 0x0E

/-- TINFO of a trap (R323, R327). -/
def tinfoOf (reps : BitVec 16) (lane : Option (BitVec 7)) (pos : Nat) : BitVec 16 :=
  reps.setWidth 4 ++ BitVec.ofBool lane.isSome ++ lane.getD 0 ++ BitVec.ofNat 4 pos

/-- REP_IDX when a context stops: the next repetition of the REP under way (R47, R327). -/
def Ctx.repNext (x : Ctx) : BitVec 16 :=
  match x.rep with
  | some r => BitVec.ofNat 16 r.idx
  | none => x.repIdx

/-- The context's state after a trap is taken at cycle t (R326): mode, status, cause registers and the vector. -/
def Ctx.enter (x : Ctx) (t : Trap) (async : Bool) (pc npc : VAddr) (pos : Nat) (tvec : W64) (cycle : Nat) : Ctx :=
  { x with
    pmode := false, mode := true, async := async
    tcause := t.code ++ t.sub ++ t.cause
    tval := t.tval
    tinfo := tinfoOf x.repNext t.lane pos
    tepc := pc
    tnpc := if async then pc else npc
    pc := (tvec.extractLsb' 12 36 ++ 0#12) + BitVec.ofNat 48 (64 * t.cause.toNat)
    prep := none, rep := none
    repIdx := x.repNext
    repAt := if x.rep.isSome then some pc else x.repAt
    ready := cycle + 4, late := 0
    shadow := x.shadow.map (fun e => { e with on := .rfe }) }

/-- A context takes a trap at the boundary before the group at pc (R326); in kernel mode it is a double trap (R328), which DBG_STAT.DOUBLE
shows from then on (R339; DESIGN CHOICE, log 99: no rule clears it). -/
def State.takeTrapAt (s : State) (c : CoreId) (r : Slot) (x : CtxId) (t : Trap) (async : Bool) (pc npc : VAddr)
    (pos : Nat) : State :=
  let k := s.core c
  let rs := (k.res r).capture x k.cycle
  let rs := { rs with waiters := rs.waiters.filter (fun w => !(w.1 == x)) }
  if (rs.ctx x).mode then
    ((s.setRes c r (rs.modCtx x (fun y => { y with run := .halted }))).modCore c
      (fun k => { k with dbgDouble := true })).endTask rs.task 4 cHw 1
  else
    s.setRes c r (rs.modCtx x (fun y => y.enter t async pc npc pos (s.part rs.part).tvec k.cycle))

/-- The issuing context takes a precise trap of its group. -/
def State.takeTrap (s : State) (t : Trap) : State :=
  s.takeTrapAt s.cur.core s.cur.slot s.cur.ctx t false s.cur.gpc s.cur.next s.cur.pos

/-- RFE (R332): the context returns to the mode and the address saved, and its shadow entries wait for its next group. An
interrupted REP goes on only where the context returns to it (R327). -/
def Ctx.leave (x : Ctx) (cycle : Nat) : Ctx :=
  { x with
    mode := x.pmode
    pc := x.tepc
    prep := none
    repIdx := if x.repAt = some x.tepc then x.repIdx else 0
    repAt := if x.repAt = some x.tepc then x.repAt else none
    ready := cycle + 3
    shadow := x.shadow.map (fun e => { e with on := .own }) }

/-! ## What holds an instruction at issue -/

/-- A register in the scoreboard of a context, task or kernel bank. -/
def sregOf (x : CtxId) (k : Bool) : Reg → Option SReg
  | .s n => some (.s x k n)
  | .p n => some (.p x k n)
  | .v g n => some (.v g n)
  | _ => none

/-- A scoreboarded result is pending in the register (R64). -/
def Res.isPending (r : Res) (g : SReg) : Bool := r.pend.any (fun p => p.1 == g)

/-- A result in flight is bound for the register (R65). -/
def Fly.hits (f : Fly) : SReg → Bool
  | .s x k n => f.ctx == x && (match f.w with | .s j m _ => j == k && m == n | .csr m _ => !k && m == 0x200 + n | _ => false)
  | .p x k n => f.ctx == x && (match f.w with | .p j m _ => j == k && m == n | .csr m _ => !k && m == 0x220 | _ => false)
  | .v g n => match f.w with | .v h m _ => h == g && m == n | _ => false

def Path.index : Path → Nat
  | .ls => 0 | .vs => 1 | .mf => 2 | .ce => 3 | .fb => 4

/-- The scalar and vector instructions whose result is scoreboarded (R64, R160, R161, R165, R180, R211, R212). -/
def State.scoreboards (s : State) : Instr → Bool
  | .ld .. | .ldL .. | .ldaq .. | .ldaqL .. | .amo .. | .amoL .. | .acas .. | .acasL .. | .aclaim .. | .vgld ..
  | .vsamo .. | .barw .. | .baraw .. | .clkdiv .. => true
  | .lds _ f | .ldsL _ f => f.c != 0
  | .movms _ f => 16 ≤ f.a.toNat
  | .vsld _ f => (s.stream f.va).space != 0
  | _ => false

/-- The task registers that a TREG stands for: an RDC waits for their results, and a WRC is ordered after them (R65, R322). -/
def tregOf (x : CtxId) (csr : Nat) : List SReg :=
  if 0x200 ≤ csr && csr < 0x220 then [.s x false (csr - 0x200)]
  else if csr = 0x220 then (List.range 8).map (fun n => .p x false n)
  else []

/-- A fixed-latency result is still on its way to the destination of a scoreboarded instruction (R65). -/
def State.flying (s : State) (i : Instr) : Bool :=
  s.scoreboards i &&
    (i.names.dst.filterMap (sregOf s.cur.ctx s.cx.mode)).any (fun g => s.rc.inflight.any (fun f => f.hits g))

/-- An earlier group's FENCE of the core, in either resident context, that names a path of the instruction is not complete
(R178). -/
def State.fenced (s : State) (i : Instr) : Bool :=
  i.paths.any (fun p => (s.here.a.fences ++ s.here.b.fences).any (fun f => f.serial < s.cur.base && f.paths.getLsbD p))

/-- An instruction is held at issue (R64, R65, R178, R322, R378), never by a TLBI of its own group (R57, R378). -/
def State.stalls (s : State) (i : Instr) : Bool :=
  let rc := s.rc
  let x := s.cur.ctx
  let k := s.cx.mode
  let waits := (i.regs.filterMap (sregOf x k)).any (fun g => rc.isPending g)
  let treg := match i with
    | .rdc _ _ csr => (tregOf x csr.toNat).any (fun g => rc.isPending g)
    | .wrc _ _ csr => (tregOf x csr.toNat).any (fun g => rc.isPending g)
    | _ => false
  waits || s.flying i || s.fenced i || treg || rc.tlbis.any (fun t => t.1 == x && t.2 < s.cur.base)

/-! ## The traps decided at decode (R136) -/

/-- A user CSR that R71 lists. -/
def userCsr (n : Nat) : Bool :=
  n ≤ 4 || n == 8 || (0x10 ≤ n && n ≤ 0x12) || (0x18 ≤ n && n ≤ 0x1A) || (0x20 ≤ n && n ≤ 0x22) || (0x40 ≤ n && n ≤ 0x7F)
/-- A privileged CSR that R322 lists. -/
def kernelCsr (n : Nat) : Bool :=
  (0x100 ≤ n && n ≤ 0x105) || n == 0x108 || n == 0x109 || (0x110 ≤ n && n ≤ 0x114) || n == 0x118 ||
  (0x200 ≤ n && n ≤ 0x220) || (0x228 ≤ n && n ≤ 0x22F)

/-- An encoding that matches no instruction (R134). -/
def isIllegal : Instr → Bool
  | .illegalEncoding _ => true
  | _ => false

/-- The target of a CPY RANKMERGE is a result that a scoreboarded instruction has not brought yet (R64). -/
def State.mergeOpen (s : State) (i : Instr) : Bool :=
  match i with
  | .cpyRankmerge _ f => s.rc.isPending (.s s.cur.ctx s.cx.mode f.xc.toNat)
  | _ => false

/-- CPY RANKMERGE into a tile of the issuing core's own that is not allocated, or that a handler names (R259). -/
def State.ownMerge (s : State) (i : Instr) : Bool :=
  match i with
  | .cpyRankmerge _ f =>
    !s.mergeOpen i && (f.xc = 0 || (s.sreg f.xc).setWidth 22 == s.sysId s.cur.core) && (!(s.cur.ctx == .primary) || s.rc.tiles ≤ f.acc.toNat)
  | _ => false

/-- ILLEGAL_ENCODING of one instruction (R21, R55, R71, R122, R165, R174, R321, R322). -/
def State.badEncoding (s : State) (i : Instr) : Bool :=
  let x := s.cx
  let handler := !(s.cur.ctx == .primary)
  !i.wf || isIllegal i || ((handler || x.mode) && i.regs.any Reg.beyond) || (handler && i.noHandler) ||
  i.tilesOf.any (fun t => s.rc.tiles ≤ t) || s.ownMerge i ||
  (match i.csr? with
   | some n => if n < 0x100 then !userCsr n else x.mode && !kernelCsr n
   | none => false)

/-- PRIVILEGE of one instruction, whose first word is given, in task mode, with its TVAL (R71, R73, R183, R324, R332). -/
def State.privFault (s : State) (i : Instr) (word : W64) : Option W64 :=
  if s.cx.mode then none
  else match i with
    | .rdc _ _ n => if 0x100 ≤ n.toNat then some (n.setWidth 64) else none
    | .wrc _ _ n =>
      if 0x100 ≤ n.toNat || !(n == 0x010 || n == 0x012 || n == 0x020) then some (n.setWidth 64) else none
    | .rfe .. | .idle .. | .tlbiPage .. | .tlbiSpace .. | .tlbiPart .. | .tlbiReplica .. | .tlbiRwflush ..
    | .tlbiRcinit .. => some word
    | _ => none

/-- A class that the context may not issue (R21, R321). -/
def State.badClass (s : State) (i : Instr) : Bool :=
  match i.cls? with
  | none => false
  | some k =>
    if s.cx.mode then k == .v || k == .m
    else !(s.cur.ctx == .primary) && (k == .v || k == .m || k == .c)

/-- Depth limit of the loop stack (R23). -/
def loopLimit (x : CtxId) : Nat :=
  match x with
  | .primary => 6
  | _ => 2

/-- The address of the group at which a LOOP ends (R171). -/
def loopStop (va : VAddr) (off : W32) : VAddr := va + (off.signExtend 48 <<< 2)

/-- ILLEGAL_GROUP of a LOOP at an address with the stack full or another loop's end, and of LBRK with the stack empty; a guard of 0
lets neither pass (R136, R171, R172). -/
def State.badLoop (s : State) (va : VAddr) (i : Instr) : Bool :=
  match i with
  | .loop _ _ off => loopLimit s.cur.ctx ≤ s.cx.loops.length || s.cx.loops.any (fun e => e.stop == loopStop va off)
  | .lbrk .. => s.cx.loops.isEmpty
  | _ => false

/-- The trap decided at decode of an instruction by itself, in the order of R136. -/
def State.decodeTrap (s : State) (i : Instr) (word : W64) : Option Trap :=
  if s.badEncoding i then some { cause := cEncoding, tval := word }
  else match s.privFault i word with
    | some v => some { cause := cPrivilege, tval := v }
    | none => if s.badClass i || s.badLoop s.cur.ipc i then some { cause := cGroup } else none

/-! ## Issuing one instruction -/

/-- More than 64 fixed-latency results in flight (R45). -/
def Res.overfull (r : Res) : Bool := 64 < (r.inflight.filter (fun f => !(f.w == .none))).length

/-- What one instruction does at issue, with the mark it leaves: the traps of decode, the holds, the guard (R54), its
effect. -/
def State.attempt (s : State) (i : Instr) (word : W64) (body : State → State) : State :=
  match s.decodeTrap i word with
  | some t => s.trap t
  | none =>
    if s.stalls i then s.hold
    else if !s.preg i.pred || i.noLanes then s
    else
      let t := body s
      if t.rc.overfull then s.hold .full else t

/-- A waiter on a flag takes its place at the end of the line, once (R33); a walk is asked for (R374). -/
def State.note (s : State) (h : Hold) : State :=
  match h with
  | .plain => s
  | .full => s
  | .flag f n p =>
    s.modRc (fun r =>
      if r.waiters.any (fun w => w.1 == s.cur.ctx && w.2.1 == f) then r
      else { r with waiters := r.waiters ++ [(s.cur.ctx, f, n, p)] })
  | .walk root va =>
    let page := va.toNat / 2 ^ 16
    let c := s.cur.core
    s.modDie (dieOf c) (fun d =>
      if d.walks.any (fun w => w.root == root && w.page == page) then
        { d with walks := d.walks.map (fun w =>
            if w.root == root && w.page == page && !w.cores.contains c then { w with cores := w.cores ++ [c] } else w) }
      else { d with walks := d.walks ++ [{ root := root, page := page, part := s.rc.part, cores := [c] }] })

/-- What the mark of an attempt comes to: a trap is taken from the state before the instruction (R326), a hold leaves that
state but for the waiter it notes, and an effect stands. -/
def State.settle (s t : State) : State :=
  match t.mark with
  | .none => t
  | .held h => { s.note h with mark := .held h }
  | .trapped x => { s.takeTrap x with mark := .trapped x }

/-- One instruction of a core, issued by the context of `cur`, with the first word that a trap of it records. -/
def runAs (i : Instr) (word : W64) (s : State) (body : State → State) : Out :=
  let s := { s with mark := .none }
  .next (s.settle (s.attempt i word body))
def run (i : Instr) (s : State) (body : State → State) : Out := runAs i i.firstWord s body

/-- A step of another agent. -/
def agent (s : State) : Out := .next s

end Sys2Proof.Machine
end

