-- ==== Sys2Proof/Machine/Memory.lean ====
section
/-! DEFINITION. Memory: bytes by physical address, the windows (R5), scratchpad addressing (R105, R106), page walks and
TLBs (R371 to R375), the checks of a translated access (R373, R450, R456), Patina (R293 to R296, R466), and how an
instruction's accesses become requests (R278). -/

namespace Sys2Proof.Machine

/-! ## Bytes -/

/-- The byte at a physical address; one that nothing has written reads 0 (DESIGN CHOICE, log 5). -/
def State.byte (s : State) (a : Nat) : Byte := Tab.get 0 s.mem a
def State.setByte (s : State) (a : Nat) (b : Byte) : State := { s with mem := Tab.put 0 s.mem a b }

/-- A number's bytes, the lowest first (R7). -/
def leBytes (n x : Nat) : List Byte := (List.range n).map (fun i => BitVec.ofNat 8 (x / 2 ^ (8 * i)))
/-- The number whose bytes these are. -/
def ofLe : List Byte → Nat
  | [] => 0
  | b :: t => b.toNat + 256 * ofLe t

def State.readList (s : State) (l : List Nat) : Nat := ofLe (l.map s.byte)
/-- Write bytes at addresses, in order. -/
def State.writeList (s : State) (l : List (Nat × Byte)) : State := { s with mem := Tab.putAll 0 s.mem l }
/-- The n consecutive addresses from a. -/
def span (a n : Nat) : List Nat := (List.range n).map (fun i => a + i)
def State.readNat (s : State) (a n : Nat) : Nat := s.readList (span a n)
def State.writeNat (s : State) (a n x : Nat) : State := s.writeList ((span a n).zip (leBytes n x))
/-- n doublewords from an address on take the free values of a part of a save area that R335 does not lay out (log 16). -/
def State.writeFree (s : State) (a n : Nat) : State :=
  (List.range n).foldl (fun (t : State) i => t.writeNat (a + 8 * i) 8 (Config.saveWord s.steps (a + 8 * i)).toNat) s

/-! ## Windows (R5, R114, R383) -/

def hbmEnd : Nat := 0xC000000000
def stkBase : Nat := 0x100000000000
def stkEnd : Nat := 0x101000000000
def spBase0 : Nat := 0x200000000000
def spEnd : Nat := 0x200080000000

def inHbm (a : Nat) : Bool := a < hbmEnd
def inStk (a : Nat) : Bool := stkBase ≤ a && a < stkEnd
def inSp (a : Nat) : Bool := spBase0 ≤ a && a < spEnd

/-- The line a byte lies in (R6, R278). -/
def lineOf (a : Nat) : Nat := a / 128

/-- The die of a stacked address, and the line index in it (R114). -/
def stkDie (a : Nat) : DieId := BitVec.ofNat 4 ((a - stkBase) / 0x100000000)
def stkLine (a : Nat) : Nat := (a - stkBase) % 0x100000000 / 128
/-- The first byte of a core's scratchpad (R5). -/
def coreBase (c : CoreId) : Nat := spBase0 + c.toNat * 0x80000
def spCore (a : Nat) : CoreId := BitVec.ofNat 12 ((a - spBase0) / 0x80000)

/-- The HBM stack of an address, the die it is attached to (R383). -/
def State.hbmStack (s : State) (a : Nat) : DieId :=
  BitVec.ofNat 4 (if s.boot.hbmMode then a / (48 * 2 ^ 30) else a / 4096 % 16)

/-- The byte within its stack of an HBM address (R383). -/
def State.hbmByte (s : State) (a : Nat) : Nat :=
  if s.boot.hbmMode then a % (48 * 2 ^ 30) else a / 65536 * 4096 + a % 4096

/-- The die whose function holds an address (R456). -/
def State.homeDie (s : State) (a : Nat) : DieId :=
  if inHbm a then s.hbmStack a else if inStk a then stkDie a else dieOf (spCore a)

/-- Live banks of a layer, their number, and the die's usable capacity in MiB (R115, R116). -/
def Stk.isLive (k : Stk) (layer bank : Nat) : Bool := !k.dead.get false (layer * 4096 + bank)
def deadIn (d : Tab Bool) (layer : Nat) : Nat :=
  (d.filter (fun p => layer * 4096 ≤ p.1 && p.1 < (layer + 1) * 4096)).length
def minLive (d : Tab Bool) : Nat :=
  let n := fun l => 4096 - deadIn d l
  Nat.min (Nat.min (n 0) (n 1)) (Nat.min (n 2) (n 3))
/-- The map whose capacity counts: during a re-stripe the new one (R117). -/
def Stk.mapNow (k : Stk) : Tab Bool := if k.state = 2 then k.target else k.dead
def Stk.capacity (k : Stk) : Nat := minLive k.mapNow
/-- Usable lines: capacity in MiB, 8,192 lines each. -/
def Stk.lines (k : Stk) : Nat := k.capacity * 8192

/-- The bank of line P, as layer x 4,096 + bank (R115). -/
def Stk.bankOf (k : Stk) (p : Nat) : Nat :=
  let layer := p % 4
  let live := (List.range 4096).filter (fun b => k.isLive layer b)
  layer * 4096 + live.getD (p / 4 % live.length) 0
/-- The row of line P in its bank (R115). -/
def Stk.rowOf (k : Stk) (p : Nat) : Nat := p / 4 / (4096 - deadIn k.dead (p % 4))

/-- The partition that owns a die, and the one that owns an address (R449, R450). -/
def State.dieOwner (s : State) (d : DieId) : Option PartId :=
  ((List.range 16).find? (fun n =>
    let c := (s.parts.get {} n).cfg
    c.getLsbD 63 && c.getLsbD d.toNat)).map (fun n => BitVec.ofNat 4 n)
def State.ownerOf (s : State) (a : Nat) : Option PartId :=
  if inHbm a then
    let b := s.hbmOwn.get 0 (a / 2 ^ 30)
    if b.getLsbD 7 then some (b.setWidth 4) else none
  else if inStk a then s.dieOwner (stkDie a)
  else if inSp a then s.dieOwner (dieOf (spCore a))
  else none

/-! ## Scratchpads (R104 to R107) -/

/-- The addresses of n bytes at offset o of an allocation of size bytes from base in a core's SRAM (R105). -/
def spAddrs (c : CoreId) (base size o n : Nat) : List Nat :=
  (List.range n).map (fun i => coreBase c + base + (o + i) % size)

/-- The allocation that a core holds for a task: of a context that is there, or kept (R18, R106). -/
def State.allocOf (s : State) (c : CoreId) (task : W32) : Option (Nat × Nat) :=
  let k := s.core c
  let own := fun (r : Res) => r.occ && !r.left && r.task == task
  if own k.a then some (k.a.spBase, k.a.spSize)
  else if own k.b then some (k.b.spBase, k.b.spSize)
  else if k.evicted.any (fun e => own e.2) then (k.evicted.find? (fun e => own e.2)).map (fun e => (e.2.spBase, e.2.spSize))
  else (k.kept.find? (fun e => e.1 == task)).map (fun e => e.2)

/-- A request of any core still reaches bytes of an allocation, which stays where it is until that is performed (R106). -/
def State.allocBusy (s : State) (c : CoreId) (base size : Nat) : Bool :=
  s.reqs.any (fun q => q.pieces.any (fun p => !p.done && p.addr.any (fun a => coreBase c + base ≤ a && a < coreBase c + base + size)))

/-- The bytes of the issuing context's own allocation. -/
def State.ownAddrs (s : State) (o n : Nat) : List Nat := spAddrs s.cur.core s.rc.spBase s.rc.spSize o n

/-- The bytes that a core selector and an offset name; none where the core holds no allocation of the task (R106). -/
def State.selAddrs (s : State) (c : CoreId) (o n : Nat) : Option (List Nat) :=
  if c = s.cur.core then some (s.ownAddrs o n)
  else (s.allocOf c s.rc.task).map (fun e => spAddrs c e.1 e.2 o n)

/-! ## Page-table entries (R372) -/

def pteV (e : W64) : Bool := e.getLsbD 0
def pteLeaf (e : W64) : Bool := e.getLsbD 1
def pteU (e : W64) : Bool := e.getLsbD 4
def pteR (e : W64) : Bool := e.getLsbD 5
def pteW (e : W64) : Bool := e.getLsbD 6
def pteX (e : W64) : Bool := e.getLsbD 7
def pteRo (e : W64) : Bool := e.getLsbD 8
def pteRc (e : W64) : Bool := e.getLsbD 9
def pteHome (e : W64) : Nat := (e.extractLsb' 10 2).toNat
def ptePa (e : W64) : Nat := (e.extractLsb' 12 34).toNat * 4096
def pteCore (e : W64) : CoreId := e.extractLsb' 48 12
def pteScopeh (e : W64) : Nat := (e.extractLsb' 60 3).toNat

/-- log2 of the page a leaf of a level maps, 0 where the level has no leaf (R371). -/
def leafLog (level : Nat) : Nat :=
  match level with
  | 1 => 30
  | 2 => 21
  | 3 => 16
  | _ => 0

/-- A reserved bit of an entry is set (R372). -/
def pteReserved (e : W64) : Bool :=
  e.getLsbD 63 || e.extractLsb' 46 2 != 0 || e.extractLsb' 2 2 != 0 ||
  (!pteLeaf e && ((e.extractLsb' 4 8) != 0 || e.extractLsb' 48 15 != 0))

/-- The walk faults of sub-cause 1 at one level (R373). -/
def pteBad (level : Nat) (e : W64) : Bool :=
  pteReserved e || (pteLeaf e && 6 ≤ pteScopeh e) || (pteLeaf e && level == 0) || (!pteLeaf e && level == 3) ||
  (pteLeaf e && ptePa e % 2 ^ leafLog level != 0) || (pteLeaf e && pteHome e != 2 && pteCore e != 0)

/-- The outcome of a walk: a leaf with log2 of its page, or an XLATE sub-cause. -/
inductive WalkEnd where
  | leaf (pte : W64) (log : Nat)
  | bad (sub : Byte)
deriving DecidableEq, Repr

/-- The index bits of each level (R371). -/
def walkIndex (level va : Nat) : Nat :=
  match level with
  | 0 => va / 2 ^ 39 % 512
  | 1 => va / 2 ^ 30 % 512
  | 2 => va / 2 ^ 21 % 512
  | _ => va / 2 ^ 16 % 32

/-- The levels left to walk, from a table's address (R371, R373). -/
def State.walkFrom (s : State) (va : Nat) : List Nat → Nat → WalkEnd
  | [], _ => .bad 1
  | l :: t, table =>
    let e : W64 := BitVec.ofNat 64 (s.readNat (table + 8 * walkIndex l va) 8)
    if !pteV e then .bad 0
    else if pteBad l e then .bad 1
    else if pteLeaf e then .leaf e (leafLog l)
    else s.walkFrom va t (ptePa e)

/-- A walk of an address space (R371); an address of more than 48 bits has no translation (R373). -/
def State.walk (s : State) (root : BitVec 34) (va : Nat) : WalkEnd :=
  if 2 ^ 48 ≤ va then .bad 0 else s.walkFrom va [0, 1, 2, 3] (root.toNat * 4096)

/-- The entries that a walk reads: their addresses, from a table's on (R371). -/
def State.readsFrom (s : State) (va : Nat) : List Nat → Nat → List Nat
  | [], _ => []
  | l :: t, table =>
    let a := table + 8 * walkIndex l va
    let e : W64 := BitVec.ofNat 64 (s.readNat a 8)
    a :: (if !pteV e || pteBad l e || pteLeaf e then [] else s.readsFrom va t (ptePa e))
def State.walkReads (s : State) (root : BitVec 34) (va : Nat) : List Nat :=
  if 2 ^ 48 ≤ va then [] else s.readsFrom va [0, 1, 2, 3] (root.toNat * 4096)

/-! ## Translation (R373, R374) -/

inductive Look where
  | hit (pa : Nat) (pte : W64)
  | miss
  | fault (sub : Byte)
deriving DecidableEq, Repr

def TlbE.covers (e : TlbE) (root : BitVec 34) (va : Nat) : Bool := e.root == root && va / 2 ^ e.log == e.page

/-- The physical address that a leaf gives an address. -/
def leafPa (pte : W64) (log va : Nat) : Nat := ptePa pte + va % 2 ^ log

/-- The key of a cluster's TLB in its die. -/
def State.clusterTlb (s : State) (c : CoreId) : List TlbE := (s.die (dieOf c)).ctlb.get [] (clusterOf c)

/-- Look an address up: the core's TLB, the cluster's, and the faults of walks that ended for this core (R374, R375). -/
def State.look (s : State) (c : CoreId) (root : BitVec 34) (va : Nat) : Look :=
  if 2 ^ 48 ≤ va then .fault 0
  else
    match ((s.core c).tlb ++ s.clusterTlb c).find? (fun e => e.covers root va) with
    | some e => .hit (leafPa e.pte e.log va) e.pte
    | none =>
      match (s.core c).walkFaults.find? (fun f => f.1 == root && f.2.1 == va / 2 ^ 16) with
      | some f => .fault (BitVec.ofNat 8 f.2.2)
      | none => .miss

/-- Look an address up as the copy engine, the matrix engine and the OFU do: a miss is walked at once. -/
def State.lookNow (s : State) (c : CoreId) (root : BitVec 34) (va : Nat) : Look :=
  match s.look c root va with
  | .miss =>
    match s.walk root va with
    | .leaf e l => .hit (leafPa e l va) e
    | .bad k => .fault k
  | x => x

inductive Acc where
  | load | store | atomic | fetch
deriving DecidableEq, Repr

def Acc.writes : Acc → Bool
  | .store => true
  | .atomic => true
  | _ => false

/-- The 4 KiB mirror page of a die, which is mapped RO and UNCACHED over the stacked window (R384; DEDUCED, log 18). -/
def State.isMirror (s : State) (pte : W64) (pa : Nat) : Bool :=
  pteRo pte && pteHome pte == 3 && inStk pa && (s.die (stkDie pa)).stk.mirror.toNat == pa / 4096

/-- The home does not match the window (R5, R110). -/
def State.homeMismatch (s : State) (pte : W64) (pa : Nat) : Bool :=
  match pteHome pte with
  | 0 => !inHbm pa
  | 1 => !inStk pa
  | 2 => !(inSp pa && spCore pa == pteCore pte)
  | _ => !inHbm pa && !s.isMirror pte pa

/-- A stacked address beyond the usable capacity, or a SLICE access at or above STK_STAGE (R114, R384). -/
def State.beyondCapacity (s : State) (pte : W64) (pa : Nat) : Bool :=
  inStk pa &&
    (let k := (s.die (stkDie pa)).stk
     k.lines ≤ stkLine pa || (pteHome pte == 1 && k.stage.toNat ≤ stkLine pa))

/-- ACCESS's sub-cause for a translated access, in the order of R373; R450's is one of sub-cause 0. -/
def State.denied (s : State) (part : PartId) (kernel : Bool) (a : Acc) (slice : Bool) (pte : W64) (pa : Nat) :
    Option Byte :=
  let perm :=
    match a with
    | .load => pteR pte
    | .fetch => pteX pte
    | .store => pteW pte
    | .atomic => pteW pte
  if !(kernel || pteU pte) || !perm then some 0
  else if (match s.ownerOf pa with | some o => o != part | none => false) then some 0
  else if a.writes && pteRo pte then some 3
  else if s.homeMismatch pte pa then some 1
  else if s.beyondCapacity pte pa then some 2
  else if slice && pteHome pte != 1 then some 4
  else none

/-- The line index in its stack die's SRAM of a CACHED line at its staging slice, placed by the rule of every line: one of those
at or above STK_STAGE, which the home die assigns (R109, R114). -/
def State.stagedLine (s : State) (pa : Nat) : Option Nat :=
  if inHbm pa && (s.homes.get {} (lineOf pa)).at_ == .slice then
    let k := (s.die (s.hbmStack pa)).stk
    some (k.stage.toNat + Config.stageLine (lineOf pa) % Nat.max 1 (k.lines - k.stage.toNat))
  else none

/-- The line of the stacked SRAM of its die that holds an address, if one does. -/
def State.sramLine (s : State) (pa : Nat) : Option Nat := if inStk pa then some (stkLine pa) else s.stagedLine pa

/-- An access that meets an uncorrectable error: its die is fenced (R456), or it reads, as an atomic does too, a line of a bank with
an uncorrectable error (R385), a staged CACHED line among them. -/
def State.hwError (s : State) (a : Acc) (pa : Nat) : Bool :=
  let k := s.die (s.homeDie pa)
  k.fenced || (a != .store && !k.stk.bad.isEmpty &&
    (match s.sramLine pa with | some p => k.stk.bad.contains (k.stk.bankOf p) | none => false))

/-! ## Patina (R293 to R296, R466) -/

def patinaReset : BitVec 31 := 0x70000000
def State.sector (s : State) (pa : Nat) : BitVec 31 := s.patina.get patinaReset (pa / 64)
def secScope (x : BitVec 31) : Nat := (x.extractLsb' 28 3).toNat
def secInterval (x : BitVec 31) : Byte := x.extractLsb' 20 8
def secGroup (x : BitVec 31) : GroupId := x.extractLsb' 12 8
def secWriter (x : BitVec 31) : CoreId := x.extractLsb' 0 12

/-- The four slots of GROUP_SET (R28). -/
def groupSlot (g : W64) (i : Nat) : Option GroupId := if g.getLsbD (32 + i) then some (g.extractLsb' (8 * i) 8) else none
def validGroups (g : W64) : List GroupId := [0, 1, 2, 3].filterMap (groupSlot g)
/-- The slot in which a group is valid. -/
def slotOf (g : W64) (id : GroupId) : Option Nat := [0, 1, 2, 3].find? (fun i => groupSlot g i == some id)

/-- The acquired interval against which an access by core c of a context conflicts with a sector (R295). -/
def Res.conflict (r : Res) (c : CoreId) (synch : Bool) (x : BitVec 31) : Option Byte :=
  if secScope x = 7 || secWriter x == c then none
  else if synch && secScope x != 0 then none
  else
    match slotOf r.groupSet (secGroup x) with
    | none => none
    | some i =>
      let a := r.acquired.get 0 i
      if (secInterval x - a).toNat < 128 then some a else none

/-- The RACE_MODE of a task: 0 off, 1 log, 2 trap; 3 is read as 0 (R390). -/
def State.raceMode (s : State) (task : W32) : Nat :=
  match s.task? task with
  | some t => let m := t.raceCfg.toNat % 4; if m = 3 then 0 else m
  | none => 0

/-- The sectors that addresses touch, ascending, each with the first of its addresses (R466). -/
def sectorsOf (l : List Nat) : List Nat :=
  l.foldl (fun acc a => if acc.any (fun b => b / 64 == a / 64) then acc else acc ++ [a]) []

/-- The first address at which an access conflicts, in trap mode (R296, R466). -/
def State.raceTrap (s : State) (r : Res) (c : CoreId) (synch : Bool) (rc : Bool) (addrs : List Nat) : Option Nat :=
  if rc && s.raceMode r.task == 2 then
    (sectorsOf addrs).find? (fun a => (r.conflict c synch (s.sector a)).isSome)
  else none

/-! ## One global access of the issuing context -/

inductive Got where
  | ok (p : Piece)
  | hold (h : Hold)
  | trap (t : Trap)
deriving DecidableEq, Repr

/-- A piece at a translated address: its page decides what its home does (R111, R112, R293). -/
def ptePiece (pte : W64) (addr : List Nat) (va : W64) : Piece :=
  { addr := addr, va := va.setWidth 48, rc := pteRc pte, cached := pteHome pte == 0 && !pteRo pte, ro := pteRo pte }

/-- An older acquire of the issuing context has not been performed: what it acquires is not known yet (R284, R295). -/
def State.acquireOpen (s : State) : Bool :=
  s.reqs.any (fun o => o.core == s.cur.core && o.slot == s.cur.slot && o.ctx == s.cur.ctx && o.acq.isSome &&
    o.pieces.any (fun p => !p.done) && o.serial < s.cur.base)

/-- A global access of n bytes at an address formed in 64 bits (R158, R329, R373): ALIGN, XLATE, ACCESS, HW_ERROR, RACE, where the place of
HW_ERROR is the model's (DESIGN CHOICE, log 102). One on path LS that
traps races is checked once the acquires before it have been performed (R284, R295). -/
def State.global (s : State) (a : Acc) (synch slice : Bool) (va : W64) (n : Nat) (ls : Bool := true) : Got :=
  let rc := s.rc
  if va.toNat % n ≠ 0 then .trap { cause := cAlign, tval := va }
  else
    match s.look s.cur.core rc.root va.toNat with
    | .fault k => .trap { cause := cXlate, sub := k, tval := va }
    | .miss => .hold (.walk rc.root (va.setWidth 48))
    | .hit pa pte =>
      match s.denied rc.part s.cx.mode a slice pte pa with
      | some k => .trap { cause := cAccess, sub := k, tval := va }
      | none =>
        if s.hwError a pa then .trap { cause := cHw, tval := BitVec.ofNat 64 pa }
        else if ls && pteRc pte && s.raceMode rc.task == 2 && s.acquireOpen then .hold .plain
        else
          match s.raceTrap rc s.cur.core synch (pteRc pte) (span pa n) with
          | some x => .trap { cause := cRace, tval := BitVec.ofNat 64 (va.toNat + (x - pa)) }
          | none =>
            .ok (ptePiece pte (span pa n) va)

/-- A scratchpad access of n bytes. -/
def spPiece (l : List Nat) : Piece := { addr := l }

/-! ## Requests -/

/-- Post a request of the issuing context (R278). -/
def State.postReq (s : State) (path : Path) (kind : ReqKind) (pieces : List Piece) (dest : Dest := .none)
    (acq rel : Option (BitVec 3) := none) : State :=
  let q : Req := { serial := s.serial, cyc := s.here.cycle, core := s.cur.core, slot := s.cur.slot, ctx := s.cur.ctx
                   path := path, kind := kind, pieces := pieces, dest := dest, acq := acq, rel := rel, pc := s.cur.ipc }
  { s with reqs := s.reqs ++ [q], serial := s.serial + 1 }

/-- A register waits for the request posted next (R64). -/
def State.await (s : State) (g : SReg) : State :=
  s.modRc (fun r => { r with pend := r.pend ++ [(g, .req s.serial)] })

/-- s_d, d not 0, waits for the request posted next. -/
def State.awaitS (s : State) (d : BitVec 5) : State :=
  if d = 0 then s else s.await (.s s.cur.ctx s.cx.mode d.toNat)

/-- A request that writes at a home. -/
def Req.isWrite (q : Req) : Bool :=
  match q.kind with
  | .load => false
  | .pref => false
  | _ => true

/-- Routines called before a serial number, of a resident context, are not over (R178). -/
def Engine.callBefore (e : Engine) (n : Nat) : Bool :=
  (match e.call with | some c => c.serial < n | none => false) ||
  e.queue.any (fun q => match q with | .call _ _ _ _ _ k => k < n | _ => false)

/-- A transfer may still write in this package. -/
def State.stillWrites (s : State) (x : Xfer) : Bool :=
  let near := x.target.extractLsb' 12 10 == s.domain ++ s.peer
  match x.ins with
  | .xflag .. => false
  | .get .. | .getGlob .. => x.st == .live || x.st == .sent
  | .sendm .. => near && (x.st == .live || x.st == .sent)
  | _ => near && x.st == .live

/-- A write that an FPOST orders is not performed: of a request, a transfer or a routine (R286). -/
def State.postWaits (s : State) (c : CoreId) (r : Slot) (m : Nat × BitVec 5 × Nat) : Bool :=
  s.reqs.any (fun q => q.core == c && q.slot == r && m.2.1.getLsbD q.path.index && q.serial < m.2.2 && q.isWrite) ||
  (s.res c r).xfers.any (fun e => match e.2 with
    | some x => x.serial < m.2.2 && x.ins.paths.any (fun p => m.2.1.getLsbD p) && s.stillWrites x
    | none => false) ||
  (m.2.1.getLsbD 2 && (s.res c r).eng.callBefore m.2.2)

/-- An FPOST older than a serial number stands in a resident context, and a write that it orders is not performed (R286). -/
def State.postHeld (s : State) (c : CoreId) (r : Slot) (serial : Nat) : Bool :=
  (s.res c r).posted.any (fun m => m.1 < serial && s.postWaits c r m)

/-! ## Posts to a flag wherever its context stands (R31, R34) -/

/-- The flag image of a save area (R335). -/
def flagImage (base : VAddr) (f : BitVec 5) : Nat := base.toNat + 0x40 + 2 * f.toNat

/-- The byte that holds the predicates of a context, or its kernel ones, in a save area (R335; images of eight bytes each, log
16). -/
def predImage (base : VAddr) (x : CtxId) (k : Bool) : Nat :=
  let n : Nat :=
    match x, k with
    | .primary, false => 33
    | .h1, false => 59
    | .h2, false => 85
    | .primary, true => 110
    | .h1, true => 132
    | .h2, true => 154
  base.toNat + 0x80 + 8 * n

/-- A predicate of a context is written where its state is: in the core, or in the save area's image (R337). -/
def State.putPred (s : State) (c : CoreId) (r : Slot) (x : CtxId) (k : Bool) (n : Nat) (v : Bool) : State :=
  let rs := s.res c r
  let s := s.modRes c r (fun y => y.modCtx x (fun z => z.putP k n v))
  if n = 0 || rs.place == .here || rs.place == .saving then s
  else
    let a := predImage rs.saveBase x k
    let b := s.byte a
    s.setByte a (if v then b ||| (1#8 <<< n) else b &&& ~~~(1#8 <<< n))

/-- A post to a resident context: to its flag; held while a save is in progress; or, when it is saved, to the image in its
save area. -/
def State.postAt (s : State) (c : CoreId) (r : Slot) (f : BitVec 5) (n : Nat) (pc : VAddr) : State :=
  let rs := s.res c r
  if n = 0 then s
  else match rs.place with
    | .here => s.modRes c r (fun x => x.postFlag f n pc)
    | .saving => s.modRes c r (fun x => { x with heldPosts := x.heldPosts ++ [(f, BitVec.ofNat 16 n, pc)] })
    | _ =>
      let a := flagImage rs.saveBase f
      let y := flagSum (BitVec.ofNat 16 (s.readNat a 2)) n
      let s := s.writeNat a 2 y.1.toNat
      if y.2 then s.modRes c r (fun x => x.warn 1 pc) else s

/-- Where a task's context stands on a core: none, the core is none of the task's; some none, it has left the task (R18). -/
def State.seat (s : State) (task : W32) (c : CoreId) : Option (Option Slot) :=
  match s.task? task with
  | none => none
  | some t =>
    match t.cores.find? (fun e => e.1 == c) with
    | none => none
    | some e => if t.exited.contains c then some none else some (some e.2)

/-- A post to a task's context on a core, which records the address pc if it saturates the flag (R76: 0 from another core); one to a
core that has left the task is discarded (R18, R255). -/
def State.postTask (s : State) (task : W32) (c : CoreId) (f : BitVec 5) (n : Nat) (pc : VAddr := 0) : State :=
  match s.seat task c with
  | some (some r) => s.postAt c r f n pc
  | _ => s

/-! ## Writes performed at their homes (R369, R422, R465) -/

def winKind (w : BitVec 256) : Nat := (w.extractLsb' 128 2).toNat
def State.window (s : State) (p : PartId) (n : Nat) : BitVec 256 := (s.part p).windows.get 0 n
def State.expert (s : State) (p : PartId) (w e : Nat) : BitVec 256 := (s.part p).experts.get 0 (w * 32 + e)
def expertHere (s : State) (x : BitVec 256) : Bool :=
  x.getLsbD 128 && x.extractLsb' 150 10 == s.domain ++ s.peer
def expertCtrl (x : BitVec 256) : W64 := (x.extractLsb' 64 48).setWidth 64
def landKey (p : PartId) (w e : Nat) : Nat := (p.toNat * 256 + w) * 32 + e

/-- The addresses of CTRL bytes 0-3 of the expert a landing's key names; none where the expert is not placed here. -/
def State.ctrlBytes (s : State) (key : Nat) : List Nat :=
  let p : PartId := BitVec.ofNat 4 (key / 8192)
  let x := s.expert p (key / 32 % 256) (key % 32)
  if winKind (s.window p (key / 32 % 256)) ≠ 2 || !expertHere s x then []
  else
    match s.walk (s.part p).winRoot (expertCtrl x).toNat with
    | .leaf pte log => span (leafPa pte log (expertCtrl x).toNat) 4
    | .bad _ => []

/-- What a landing holds after a write of some bytes: the home bank passes a performed write of CTRL bytes 0-3 to the OFU (R369). -/
def State.passed (s : State) (written : List Nat) (e : Nat × Landing) : Nat × Landing :=
  let a := s.ctrlBytes e.1
  if a.any (fun b => written.contains b) then (e.1, { e.2 with writes := e.2.writes ++ [BitVec.ofNat 32 (s.readList a)] }) else e

/-- Bytes written at their home, which passes a write of an expert's CTRL to the OFU (R369). -/
def State.writeHome (s : State) (l : List (Nat × Byte)) : State :=
  let s := s.writeList l
  { s with lands := s.lands.map (s.passed (l.map (fun e => e.1))) }

/-! ## Before READY (R459) -/

/-- The device has been brought up; doorbells, launches and the fabric are inert before. -/
def State.ready (s : State) : Bool := s.boot.phase == 5
/-- A refused access reads 0 or is dropped, and is counted in REJ, which saturates. -/
def State.rejected (s : State) : State :=
  { s with boot := { s.boot with rej := if s.boot.rej = 0xFF then 0xFF else s.boot.rej + 1 }, hostData := 0 }
/-- What firmware may do from PHASE 4 on, in which it writes the maps and the partition table (R461). -/
def State.atConfigure (s : State) (f : State → State) : State := if s.boot.phase == 4 || s.ready then f s else s.rejected
/-- An access that only a device brought up accepts. -/
def State.atReady (s : State) (f : State → State) : State := if s.ready then f s else s.rejected
/-- What the fabric and the device itself do only once it has been brought up: before, the fabric is inert (R459). -/
def State.onceReady (s : State) (f : State → State) : State := if s.ready then f s else s

/-! ## Log rings (R366, R444, R452) -/

/-- The next place of a 32-byte record in a ring of 2^k pages of 4 KiB at the address in bits [63:12]. -/
def ringAddr (reg : W64) (n : Nat) : Nat :=
  (reg.toNat / 4096) * 4096 + 32 * (n % (2 ^ (reg.toNat % 16) * 128))

/-- A dispatch-log record: 1 dropped completion record, 2 queue in ERROR, 3 ignored doorbell, 4 refused LAUNCH,
5 task ended with STATUS 2 to 5, 6 first dropped race record (R366, R391; its bytes are log 17's). -/
def State.dispatchLog (s : State) (p : PartId) (type queue task addr code : Nat) : State :=
  let k := s.part p
  (s.writeNat (ringAddr k.dlog k.dlogN) 32 (Config.dispatchRecord type queue task addr code).toNat).modPart p
    (fun k => { k with dlogN := k.dlogN + 1 })

/-- An event-log record (R386, R444, R452; its bytes are log 17's). -/
def State.eventLog (s : State) (p : PartId) (what place : Nat) : State :=
  let k := s.part p
  (s.writeNat (ringAddr k.elog k.elogN) 32 (Config.eventRecord what place).toNat).modPart p
    (fun k => { k with elogN := k.elogN + 1 })

end Sys2Proof.Machine
end

