-- ==== Sys2Proof/Machine/Perform.lean ====
section
/-! DEFINITION. Performing requests at their homes (R278 to R294): what must come first, the home of a CACHED line (R111,
R118), stores, atomics (R101, R161, R162, R41), loads, Patina's records, and the landing of a result (R64). -/

namespace Sys2Proof.Machine

/-! ## Scopes (R281) -/

/-- Does a scope of core c, whose GROUP_SET is g, cover core o of this package, whose GROUP_SET is h? -/
def covers (scope : BitVec 3) (c : CoreId) (g : W64) (o : CoreId) (h : W64) : Bool :=
  match scope.toNat with
  | 0 => c == o
  | 1 => (validGroups g).any (fun x => (validGroups h).contains x)
  | 2 => c.toNat / 64 == o.toNat / 64
  | 3 => dieOf c == dieOf o
  | _ => true

/-! ## What must come first -/


def Piece.meets (p q : Piece) : Bool := p.addr.any (fun a => q.addr.any (fun b => lineOf a == lineOf b))
def Piece.overlaps (p q : Piece) : Bool := p.addr.any (fun a => q.addr.contains a)

/-- The peers that the groups of a GROUP_SET span (R289). -/
def State.groupPeers (s : State) (g : W64) : W64 := (validGroups g).foldl (fun m x => m ||| (s.arm x).peers) 0

/-- The package of a system core ID is another one. -/
def State.isRemote (s : State) (t : BitVec 22) : Bool := t.extractLsb' 12 10 != s.domain ++ s.peer

/-- The transfer writes at its target: a remote write of R289 when that is another package. -/
def remoteWrite : Instr → Bool
  | .put .. | .putGlob .. | .send .. | .sendm .. | .xflag .. => true
  | _ => false

/-- A release or fence at a scope, by a context with a GROUP_SET, waits for the acknowledgement of remote writes to a package
(R289). -/
def State.ackScope (s : State) (groups : W64) (scope : BitVec 3) (target : BitVec 22) : Bool :=
  scope == 5 || (scope == 1 && (s.groupPeers groups).getLsbD (target.extractLsb' 12 6).toNat)

/-- A remote write of the core, issued before a serial number and not acknowledged, that a release at a scope waits for
(R289). -/
def State.awaitsAck (s : State) (c : CoreId) (groups : W64) (scope : BitVec 3) (serial : Nat) : Bool :=
  (s.core c).all.any (fun e => e.2.xfers.any (fun y =>
    match y.2 with
    | none => false
    | some x => x.serial < serial && remoteWrite x.ins && s.isRemote x.target && s.ackScope groups scope x.target))

/-- A part of the request has not been performed. -/
def Req.unperformed (q : Req) : Bool := q.pieces.any (fun p => !p.done)

/-- An older request of the same core that this piece waits for: on the same path to the same line (R119, R279), or of an
earlier path that reached the same scratchpad bytes in the same cycle (R108). -/
def Req.before (q : Req) (p : Piece) (o : Req) : Bool :=
  o.core == q.core && o.serial != q.serial && o.pieces.any (fun x => !x.done &&
    ((o.path == q.path && o.serial < q.serial && x.meets p) ||
     (o.cyc == q.cyc && o.path.index < q.path.index && p.addr.any inSp && x.overlaps p)))

/-- A request that an older acquire of the context holds back (R282, R284). -/
def Req.afterAcquire (q o : Req) : Bool :=
  o.core == q.core && o.slot == q.slot && o.ctx == q.ctx && o.serial < q.serial && o.acq.isSome && o.unperformed && q.path == .ls

/-- An access that a release waits for: a write, or a read whose value it would pass on (R283, R284). -/
def Req.beforeRelease (q o : Req) : Bool :=
  o.core == q.core && o.path == .ls && o.serial < q.serial && o.unperformed && o.kind != .pref

/-- A write to the SLICE or staged lines of a die whose re-stripe runs (R117). -/
def State.restriping (s : State) (p : Piece) : Bool :=
  p.addr.any (fun a =>
    (inStk a && (s.die (stkDie a)).stk.state == 2) ||
    (inHbm a && p.cached && (s.homes.get {} (lineOf a)).at_ == .slice && (s.die (s.hbmStack a)).stk.state == 2))

/-- A CACHED line's home may leave the L1 that holds it: its lease of 32 control cycles has passed (R111). -/
def State.leaseOver (s : State) (h : Home) : Bool :=
  match h.at_ with
  | .l1 o t => t + 32 ≤ (s.core o).cycle
  | _ => true

/-- The request at the head of a home's FIFO (R111). -/
def State.headOf (s : State) (h : Home) : Option Nat := h.queue.find? (fun n => s.reqs.any (fun q => q.serial == n))

/-- The lines whose home a core's L1 of 64 KiB holds (R1). -/
def State.l1Lines (s : State) (c : CoreId) : Nat :=
  (s.homes.filter (fun e => match e.2.at_ with | .l1 o _ => o == c | _ => false)).length
/-- Lines of 128 bytes in an L1 (R1, R6). -/
def l1Size : Nat := 512

/-- The core's L1 holds the home of the line, or may take it for request n: no pin, no other L1, no request before it in the FIFO,
and room (R1, R111, R118). -/
def State.lineTakes (s : State) (c : CoreId) (n : Nat) (line : Nat) : Bool :=
  let h := s.homes.get {} line
  h.pins.isEmpty &&
  (match h.at_ with
   | .l1 o _ => o == c
   | _ => (s.headOf h).getD n == n && decide (s.l1Lines c < l1Size))
def State.homeFree (s : State) (c : CoreId) (n : Nat) (p : Piece) : Bool :=
  !p.cached || p.addr.all (fun a => s.lineTakes c n (lineOf a))

/-- A piece of the same request that must go first: one to the same home with a lower number (R279). -/
def Req.piecesBefore (q : Req) (k : Nat) (p : Piece) : Bool := (q.pieces.take k).any (fun o => !o.done && o.meets p)

/-- What must have been performed before a request's write becomes visible, if it is a release (R284, R289). One whose scope does not
cover every core of the package may go before plain stores of its core: who reads it waits for them where the scope covers him. -/
def State.releaseHeld (s : State) (q : Req) : Bool :=
  match q.rel with
  | some k => s.reqs.any (fun o => q.beforeRelease o && (4 ≤ k.toNat || o.kind != .store)) ||
      s.awaitsAck q.core (s.res q.core q.slot).groupSet k q.serial
  | none => false

/-- The releases that the values of bytes carry (R283): one that a plain store's value covers is not among them. -/
def State.tagsAt (s : State) (addrs : List Nat) : List RelTag := (addrs.flatMap (fun a => s.tags.get [] a)).filter (fun t => !t.covered)

/-- A store that a release's core issued before it has not been performed, so that who the release covers does not see it yet (R284). A
fenced die's stores keep nobody waiting (R456). -/
def State.beforeTag (s : State) (t : RelTag) (o : Req) : Bool :=
  o.core == t.core && o.path == .ls && o.kind == .store && o.serial < t.serial && o.unperformed && !(s.die (dieOf o.core)).fenced

/-- A read by core c, or by an engine acting for it, would see a release that covers it before a store that the release's core issued
earlier (R284). -/
def State.tooEarly (s : State) (c : CoreId) (groups : W64) (p : Piece) : Bool :=
  (s.tagsAt p.addr).any (fun t => covers t.scope t.core t.groups c groups && s.reqs.any (s.beforeTag t))

/-- The order of R108, R117, R119, R279, R284 and R286 lets part k of a request go, the acquires apart. -/
def State.inTurn (s : State) (q : Req) (k : Nat) (p : Piece) : Bool :=
  !q.piecesBefore k p && !s.reqs.any (fun o => q.before p o) && !s.releaseHeld q &&
  !(q.path != .ls && s.postHeld q.core q.slot q.serial) && !(q.kind != .load && s.restriping p) &&
  !(q.kind != .store && s.tooEarly q.core (s.res q.core q.slot).groupSet p)

/-- An older acquire of the context holds the request, whether or not it comes to synchronise (R284; log 13). -/
def State.acquiring (s : State) (q : Req) : Bool := s.reqs.any (fun o => q.afterAcquire o)

/-- May part k of a request be performed now? -/
def State.mayPerform (s : State) (q : Req) (k : Nat) (p : Piece) : Bool :=
  s.inTurn q k p && !s.acquiring q && s.homeFree q.core q.serial p

/-! ## The home of a line -/

/-- The core's L1 takes the home of a piece's lines (R111). -/
def State.takeHome (s : State) (c : CoreId) (p : Piece) : State :=
  if p.cached then
    (sectorsOf p.addr).foldl (fun s a =>
      let h := s.homes.get {} (lineOf a)
      match h.at_ with
      | .l1 o _ => if o = c then s else { s with homes := s.homes.put {} (lineOf a) { h with at_ := .l1 c (s.core c).cycle } }
      | _ => { s with homes := s.homes.put {} (lineOf a) { h with at_ := .l1 c (s.core c).cycle } }) s
  else s

/-- The home of a piece's lines leaves any L1 for the staging slice (R118, R258). -/
def State.returnHome (s : State) (p : Piece) : State :=
  if p.cached then
    (sectorsOf p.addr).foldl (fun s a =>
      let h := s.homes.get {} (lineOf a)
      match h.at_ with
      | .l1 .. => { s with homes := s.homes.put {} (lineOf a) { h with at_ := .slice } }
      | _ => s) s
  else s

/-- An entry of a page table, where its line may have a home of its own (R371). -/
def tablePiece (a : Nat) : Piece := { addr := span a 8, cached := true }
/-- A walk reaches its table lines as the copy engine does: the homes that L1s hold return to the staging slice (R258, R371). -/
def State.walkHomes (s : State) (root : BitVec 34) (va : Nat) : State :=
  (s.walkReads root va).foldl (fun (s : State) a => s.returnHome (tablePiece a)) s

/-- A core's LS and VS paths take a line's home; its engines reach the line where the slice or HBM holds it (R111, R258). -/
def State.moveHome (s : State) (c : CoreId) (path : Path) (p : Piece) : State :=
  match path with
  | .ls => s.takeHome c p
  | .vs => s.takeHome c p
  | _ => s.returnHome p

/-! ## Patina and the releases a value carries -/

/-- The scope a write is recorded with (R293): a plain write, a relaxed atomic, or its release scope. -/
def Req.patinaScope (q : Req) : Nat :=
  match q.rel with
  | some k => k.toNat
  | none => match q.kind with | .store => 0 | _ => 6

/-- A release by a core with a primary group increments its interval when it becomes visible (R294). -/
def State.releaseInterval (s : State) (g : W64) (scope : BitVec 3) : State :=
  match groupSlot g 0 with
  | some x => if scope = 0 then s else s.modArm x (fun a => { a with interval := a.interval + 1 })
  | none => s

/-- Record a write in the sectors it touches (R293), with the group's interval now unless the write is of an earlier one. -/
def State.recordWrite (s : State) (c : CoreId) (g : W64) (scope : Nat) (addrs : List Nat) (of : Option Byte := none) : State :=
  let x : BitVec 31 :=
    match groupSlot g 0 with
    | some p => BitVec.ofNat 3 scope ++ of.getD (s.arm p).interval ++ p ++ c
    | none => patinaReset
  (sectorsOf addrs).foldl (fun s a => { s with patina := s.patina.put patinaReset (a / 64) x }) s

/-- A race record, 32 bytes (R466). -/
def raceRecord (write : Bool) (path : Path) (sec : BitVec 31) (aint : Byte) (who : BitVec 22) (pc va : VAddr) : BitVec 256 :=
  0#95 ++ BitVec.ofBool write ++ BitVec.ofNat 3 path.index ++ sec.extractLsb' 28 3 ++ aint ++ secInterval sec ++
  secGroup sec ++ secWriter sec ++ who ++ pc ++ va

/-- A race record is dropped: the dispatch log notes the first of each task (R391). -/
def State.dropRecord (s : State) (t : Task) (ring : Nat) : State :=
  if t.raceDropped then s
  else (s.dispatchLog t.part 6 t.queue.toNat t.id.toNat ring 0).modTask t.id (fun t => { t with raceDropped := true })

/-- Write a race record at record COUNT of the task's ring, as a posted write of the accessing core that Patina does not
check; a record whose write faults is dropped; the count goes on (R296, R391). -/
def State.logRace (s : State) (c : CoreId) (r : Slot) (x : CtxId) (rec : BitVec 256) (pc : VAddr) : State :=
  let rs := s.res c r
  match s.task? rs.task with
  | none => s
  | some t =>
    let ring := t.raceCfg.toNat / 2 ^ 16 + 32 * (t.raceCount.toNat % 2 ^ (t.raceCfg.toNat / 256 % 16 + 4))
    let s := s.modTask t.id (fun t => { t with raceCount := if t.raceCount = 0xFFFFFFFF then t.raceCount else t.raceCount + 1 })
    match s.lookNow c rs.root ring with
    | .hit pa pte =>
      if (s.denied rs.part false .store false pte pa).isSome || s.hwError .store pa then s.dropRecord t ring
      else
        let pieces := (List.range 4).map (fun i =>
          ({ addr := span (pa + 8 * i) 8, data := rec.extractLsb' (64 * i) 64, va := BitVec.ofNat 48 (ring + 8 * i)
             rc := pteRc pte, cached := pteHome pte == 0 && !pteRo pte, ro := pteRo pte } : Piece))
        { s with
          reqs := s.reqs ++ [{ serial := s.serial, cyc := (s.core c).cycle, core := c, slot := r, ctx := x, path := .ls,
                               kind := .store, pieces := pieces, free := true, pc := pc }]
          serial := s.serial + 1 }
    | _ => s.dropRecord t ring

/-- A sector that an access touches at a first byte, kept in ascending order, once (R466). -/
def addSector (e : Nat × VAddr) : List (Nat × VAddr) → List (Nat × VAddr)
  | [] => [e]
  | x :: t =>
    if e.1 / 64 < x.1 / 64 then e :: x :: t
    else if e.1 / 64 = x.1 / 64 then (if e.1 < x.1 then e else x) :: t
    else x :: addSector e t

/-- The sectors of RC pages that the parts of an access touch, ascending, each with the access's first byte in it. -/
def rcSectors (ps : List Piece) : List (Nat × VAddr) :=
  ((ps.filter (fun p => p.rc)).flatMap (fun p =>
    (sectorsOf p.addr).map (fun a => (a, p.va + BitVec.ofNat 48 (a - p.addr.headD 0))))).foldl (fun l e => addSector e l) []

/-- Check the sectors that pieces of an access touch, in log mode: one record for each in which it conflicts, ascending, with the
access's first byte in it, but for those it has written one for; the answer lists these with the new ones (R296, R466). -/
def State.logAccess (s : State) (c : CoreId) (r : Slot) (x : CtxId) (path : Path) (synch write : Bool) (pc : VAddr)
    (had : List Nat) (ps : List Piece) : State × List Nat :=
  let rs := s.res c r
  if s.raceMode rs.task == 1 then
    (rcSectors ps).foldl (fun (a : State × List Nat) e =>
      match rs.conflict c synch (a.1.sector e.1) with
      | none => a
      | some aint =>
        if a.2.contains (e.1 / 64) then a
        else (a.1.logRace c r x (raceRecord write path (a.1.sector e.1) aint (a.1.sysId c) pc e.2) pc, a.2 ++ [e.1 / 64]))
      (s, had)
  else (s, had)

/-- The releases that bytes carry after a write (R283): a plain store's value carries none, a release its own, an atomic also those
that it follows in coherence order, though plain stores may stand between. -/
def State.retag (s : State) (addrs : List Nat) (keep : Bool) (tag : Option RelTag) : State :=
  { s with tags := addrs.foldl (fun t a =>
      let old := (t.get [] a).map (fun y => { y with covered := !keep })
      let new := match tag with
        | some x => x :: old.filter (fun y => !(y.core == x.core && y.scope == x.scope && y.groups == x.groups))
        | none => old
      t.put [] a new) s.tags }

/-- The release that a request's write makes (R282, R294). -/
def State.tagOf (s : State) (q : Req) : Option RelTag :=
  match q.rel with
  | none => none
  | some k =>
    let g := (s.res q.core q.slot).groupSet
    some { core := q.core, scope := k, groups := g, carry := (groupSlot g 0).map (fun x => (x, (s.arm x).interval)), serial := q.serial }

/-- An acquire synchronises with a release that its value carries: each scope covers the other core (R283). -/
def Res.syncs (r : Res) (c : CoreId) (scope : BitVec 3) (t : RelTag) : Bool :=
  covers t.scope t.core t.groups c r.groupSet && covers scope c r.groupSet t.core t.groups

/-- An acquire synchronises with the releases its value carries (R283): each of them raises the acquired interval of its
group, when the acquirer is a member (R294). -/
def Res.acquire (r : Res) (c : CoreId) (scope : BitVec 3) (tags : List RelTag) : Res :=
  tags.foldl (fun r t =>
    if r.syncs c scope t then
      match t.carry with
      | none => r
      | some (g, v) =>
        match slotOf r.groupSet g with
        | none => r
        | some i => if (v - r.acquired.get 0 i).toNat < 128 then { r with acquired := r.acquired.put 0 i v } else r
    else r) r

/-- The stores that a release of the core goes before keep the interval that their group had then: R294's interval ends with the release,
and they came before it (DEDUCED, log 103; R293 read by itself names the interval in which the home performs them). -/
def State.stampOlder (s : State) (q : Req) : State :=
  match q.rel, groupSlot (s.res q.core q.slot).groupSet 0 with
  | some _, some g =>
    { s with reqs := s.reqs.map (fun o =>
        if q.beforeRelease o && o.kind == .store && o.slot == q.slot && o.stamp.isNone then { o with stamp := some (s.arm g).interval } else o) }
  | _, _ => s

/-! ## Performing one part -/

/-- A write's effect at its home but for its data, where the core's race check is done. -/
def State.recordStore (s : State) (q : Req) (p : Piece) (keep : Bool) : State :=
  let g := (s.res q.core q.slot).groupSet
  let s := s.moveHome q.core q.path p
  let s := s.stampOlder q
  let s := match q.rel with | some k => s.releaseInterval g k | none => s
  let s := s.retag p.addr keep (s.tagOf q)
  if p.rc then s.recordWrite q.core g q.patinaScope p.addr q.stamp else s

/-- The parts whose sectors an access checks when some of it is performed: with the first of it all, so that its records come in
ascending order, and later none (R466; DEDUCED, log 86). -/
def Req.checks (q : Req) : List Piece := if q.pieces.all (fun p => !p.done) then q.pieces else []

/-- Everything a write of a part does at its home but for its data, and the sectors its access has now recorded. -/
def State.performWrite (s : State) (q : Req) (p : Piece) (keep : Bool) : State × List Nat :=
  if q.free then (s.recordStore q p keep, q.logged)
  else
    match s.logAccess q.core q.slot q.ctx q.path (q.kind != .store || q.rel.isSome) true q.pc q.logged q.checks with
    | (s, l) => (s.recordStore q p keep, l)

/-- Replace request n. -/
def State.setReq (s : State) (n : Nat) (q : Req) : State :=
  { s with reqs := s.reqs.map (fun o => if o.serial = n then q else o) }
def State.dropReq (s : State) (n : Nat) : State := { s with reqs := s.reqs.filter (fun o => o.serial != n) }
def State.req? (s : State) (n : Nat) : Option Req := s.reqs.find? (fun q => q.serial == n)

/-- Part k is done. -/
def Req.mark (q : Req) (k : Nat) (p : Piece) : Req := { q with pieces := q.pieces.set k { p with done := true } }
/-- The first part that is not done. -/
def Req.nextPart (q : Req) : Nat := q.pieces.findIdx (fun p => !p.done)

/-- The request brings a line's home to its core's L1 (R111): not a FLUSH, nor a PREF to the slice. -/
def Req.takesHome (q : Req) : Bool :=
  match q.kind with
  | .flush => false
  | .pref => q.pieces.all (fun p => p.data == 0)
  | _ => true

/-- The request whose parts are all done. -/
def Req.finished (q : Req) : Bool := q.pieces.all (fun p => p.done)

/-- A request that only the homes of its lines keep waiting takes its places in their FIFOs (R111). -/
def State.queueUp (s : State) (q : Req) (k : Nat) (p : Piece) : State :=
  if p.cached && s.inTurn q k p && !s.acquiring q then
    (sectorsOf p.addr).foldl (fun s a =>
      if s.lineTakes q.core q.serial (lineOf a) then s
      else { s with homes := s.homes.mod {} (lineOf a) (fun h =>
        let l := h.queue.filter (fun m => s.reqs.any (fun o => o.serial == m))
        { h with queue := if l.contains q.serial then l else l ++ [q.serial] }) }) s
  else s

/-- A request leaves the FIFOs of a part's lines. -/
def State.unqueue (s : State) (q : Req) (p : Piece) : State :=
  if p.cached then
    (sectorsOf p.addr).foldl (fun s a =>
      { s with homes := s.homes.mod {} (lineOf a) (fun h => { h with queue := h.queue.filter (fun m => m != q.serial) }) }) s
  else s

/-- The trap with which a home refuses an access that issued before it could be known: beyond the capacity that a re-stripe left, or to a
die fenced since, or a read of a bank that has an uncorrectable error (R117, R385, R387, R456): cause, sub-cause, TVAL. -/
def State.refusal (s : State) (q : Req) (p : Piece) : Option (Byte × Byte × W64) :=
  let a := p.addr.headD 0
  if p.addr.isEmpty then none
  else if inStk a && decide ((s.die (stkDie a)).stk.lines ≤ stkLine a) then some (cAccess, 2, p.va.setWidth 64)
  else if s.hwError (match q.kind with | .store => .store | .load => .load | _ => .atomic) a then some (cHw, 0, BitVec.ofNat 64 a)
  else none

/-- A request that a home refuses ends, its registers wait for nothing, and its context takes the trap at its next boundary, as an
asynchronous one: its group has committed (DESIGN CHOICE, log 91: the manual calls the trap of an LS or VS access precise and gives no
order for one refused after its group). A race record's write is dropped, which the dispatch log notes (R391). -/
def State.denyReq (s : State) (q : Req) (t : Byte × Byte × W64) : State :=
  let s := q.pieces.foldl (fun s p => s.unqueue q p) s
  let s := match s.task? (s.res q.core q.slot).task with
    | some k => if q.free then s.dropRecord k (q.pieces.headD { addr := [] }).va.toNat else s
    | none => s
  (s.modRes q.core q.slot (fun r =>
    { r with
      pend := r.pend.filter (fun e => !(e.2 == .req q.serial))
      denied := if q.free then r.denied else r.denied ++ [{ ctx := q.ctx, cause := t.1, sub := t.2.1, tval := t.2.2 }] })).dropReq q.serial

/-- A home performs part k of a posted store, where it may (R278); the request ends with its last. -/
def State.storePart (s : State) (q : Req) (k : Nat) (p : Piece) : State :=
  if q.kind != .store || p.done then s
  else if !s.mayPerform q k p then s.queueUp q k p
  else if let some t := s.refusal q p then s.denyReq q t
  else
    match s.performWrite q p false with
    | (s, l) =>
      let s := (s.writeHome (p.addr.zip (leBytes p.addr.length p.data.toNat))).unqueue q p
      let q' := { q.mark k p with logged := l }
      if q'.finished then s.dropReq q.serial else s.setReq q.serial q'

/-- The home performs the next part of a posted store (R278). -/
def State.performStore (s : State) (n : Nat) : State :=
  match s.req? n with
  | none => s
  | some q =>
    match q.pieces[q.nextPart]? with
    | none => s.dropReq n
    | some p => s.storePart q q.nextPart p

/-! ## Reads of the own scratchpad (R60, R119, R160) -/

/-- A request that a read of the own scratchpad on a path comes after: an older one of the path to the same home, or on LS a write of
the same cycle that reaches the same bytes before the VS path does (R108, R119, R279). -/
def State.readAfter (s : State) (path : Path) (l : List Nat) (q : Req) : Bool :=
  q.core == s.cur.core && q.pieces.any (fun p => !p.done &&
    ((q.path == path && q.serial < s.cur.base && p.addr.any (fun a => l.any (fun b => lineOf a == lineOf b))) ||
     (q.path == .ls && path == .vs && q.isWrite && q.cyc == s.here.cycle && s.cur.base ≤ q.serial && p.addr.any (fun a => l.contains a))))

/-! ## FLUSH and PREF (R273) -/

/-- The home of a line at HBM again, those that wait for it as before: a FLUSH (R111, R273). -/
def State.flushLine (s : State) (line : Nat) : State := { s with homes := s.homes.mod {} line (fun h => { queue := h.queue }) }

/-- Request n takes its place in the FIFO of a line (R111). -/
def State.standIn (s : State) (n line : Nat) : State :=
  { s with homes := s.homes.mod {} line (fun h =>
      let l := h.queue.filter (fun m => s.reqs.any (fun o => o.serial == m))
      { h with queue := if l.contains n then l else l ++ [n] }) }

/-- A FLUSH of core c, request n, may take a line's home away: no pin, no lease of another core's L1, no request before it (R111,
R118, R273). -/
def State.flushFree (s : State) (c : CoreId) (n line : Nat) : Bool :=
  let h := s.homes.get {} line
  h.pins.isEmpty && (match h.at_ with | .l1 o _ => o == c || s.leaseOver h | _ => true) && (s.headOf h).getD n == n

/-- A FLUSH or a PREF acts on its line, or waits in the line's FIFO (R111, R273). -/
def State.performCache (s : State) (n : Nat) : State :=
  match s.req? n with
  | none => s
  | some q =>
    match q.kind, q.pieces with
    | .flush, p :: _ =>
      let lines := p.addr.map lineOf
      if s.reqs.any (fun o => q.before p o || q.afterAcquire o) then s
      else if !p.cached then s.dropReq n
      else if lines.all (s.flushFree q.core n) then (lines.foldl (fun s l => s.flushLine l) (s.unqueue q p)).dropReq n
      else lines.foldl (fun s l => s.standIn n l) s
    | .pref, p :: _ =>
      -- data 0 brings the home to the L1, 1 from HBM to the staging slice; a pinned line makes it do nothing
      let lines := p.addr.map lineOf
      let pinned := lines.any (fun l => !(s.homes.get {} l).pins.isEmpty)
      if s.reqs.any (fun o => q.before p o || q.afterAcquire o) then s
      else if !p.cached || pinned then (s.unqueue q p).dropReq n
      else if p.data = 0 then
        if s.homeFree q.core n p then ((s.takeHome q.core p).unqueue q p).dropReq n else lines.foldl (fun s l => s.standIn n l) s
      else if lines.all (fun l => (s.headOf (s.homes.get {} l)).getD n == n) then
        ((lines.foldl (fun s l =>
          let h := s.homes.get {} l
          if h.at_ == .hbm then { s with homes := s.homes.put {} l { h with at_ := .slice } } else s) s).unqueue q p).dropReq n
      else lines.foldl (fun s l => s.standIn n l) s
    | _, _ => s

/-! ## Atomics (R41, R101, R161, R162, R211) -/

/-- The new value of AMO operation op on w bits, and its flags (R161). -/
def amoNew (op w : Nat) (old b : Nat) : Nat × Flags8 :=
  let o := old % 2 ^ w
  let y := b % 2 ^ w
  match op with
  | 0 => ((o + y) % 2 ^ w, 0)
  | 1 => (o &&& y, 0)
  | 2 => (o ||| y, 0)
  | 3 => (o ^^^ y, 0)
  | 4 => (if lowInt w o ≤ lowInt w y then o else y, 0)
  | 5 => (if lowInt w o ≤ lowInt w y then y else o, 0)
  | 6 => (Nat.min o y, 0)
  | 7 => (Nat.max o y, 0)
  | 8 => (y, 0)
  | _ =>
    match f32Add (BitVec.ofNat 32 o) (BitVec.ofNat 32 y) with
    | (z, g) => (z.toNat, g)

/-- ACLAIM on a counter (R41): the new counter; it answers NEXT and the chunk. -/
def aclaimNew (counter : W64) (cmin div : BitVec 16) : W64 × W32 × W32 :=
  let rem : Nat := (counter.extractLsb' 32 32).toNat
  let next : W32 := counter.extractLsb' 0 32
  let q := if div = 0 then 0xFFFFFFFF else rem / div.toNat
  let c := Nat.max cmin.toNat q
  let c := if c = 0 && 0 < rem then 1 else c
  let c := Nat.min c rem
  (BitVec.ofNat 32 (rem - c) ++ (next + BitVec.ofNat 32 c), next, BitVec.ofNat 32 c)

/-- What an atomic writes and reads at its home: the new bytes (none where it writes nothing), the old value, its flags. -/
def atomicStep (k : ReqKind) (p : Piece) (old : Nat) : Option Nat × W64 × Flags8 :=
  let n := p.addr.length
  match k with
  | .amo op => match amoNew op (8 * n) old p.data.toNat with | (y, g) => (some y, BitVec.ofNat 64 old, g)
  | .acas =>
    (if old = p.data.toNat % 2 ^ (8 * n) then some (p.data2.toNat % 2 ^ (8 * n)) else none, BitVec.ofNat 64 old, 0)
  | .aclaim cmin div =>
    match aclaimNew (BitVec.ofNat 64 old) cmin div with
    | (y, a, c) => (some y.toNat, c ++ a, 0)
  | _ => (none, 0, 0)

/-- An atomic's flags and, for one that returns nothing, its end. -/
def State.endAtomic (s : State) (q : Req) : State :=
  if q.finished && q.dest == .none then
    (s.modRes q.core q.slot (fun r => r.raise (q.pieces.foldl (fun g p => g ||| p.flags) 0))).dropReq q.serial
  else s

/-- The acquire of a request that reads bytes with these releases (R283, R294). -/
def State.acquireTags (s : State) (q : Req) (tags : List RelTag) : State :=
  match q.acq with
  | some k => s.modRes q.core q.slot (fun r => r.acquire q.core k tags)
  | none => s

/-- Part k of an atomic is performed at its home (R113, R161, R279). An ACAS whose comparison fails makes no release visible, so it
advances no interval (DESIGN CHOICE, log 60: R282 names ACAS, R294 speaks of a release becoming visible). -/
def State.atomicPart (s : State) (q : Req) (k : Nat) (p : Piece) : State :=
  if p.done then s
  else if !s.mayPerform q k p then s.queueUp q k p
  else if let some t := s.refusal q p then s.denyReq q t
  else
    match atomicStep q.kind p (s.readList p.addr) with
    | (new, old, g) =>
      let s := s.acquireTags q (s.tagsAt p.addr)
      let t : State × List Nat :=
        match new with
        | some y =>
          match s.performWrite q p true with
          | (s, l) => (s.writeHome (p.addr.zip (leBytes p.addr.length y)), l)
        | none =>
          match s.logAccess q.core q.slot q.ctx q.path true true q.pc q.logged q.checks with
          | (s, l) => (s.moveHome q.core q.path p, l)
      let q' := { q.mark k { p with old := old, flags := g } with logged := t.2 }
      ((t.1.unqueue q p).setReq q.serial q').endAtomic q'

/-- An atomic's next part is performed at its home. -/
def State.performAtomic (s : State) (n : Nat) : State :=
  match s.req? n with
  | none => s
  | some q =>
    match q.kind with
    | .store | .load | .flush | .pref => s
    | _ =>
      match q.pieces[q.nextPart]? with
      | none => s.endAtomic q
      | some p => s.atomicPart q q.nextPart p

/-- The home performs part k of an atomic; of another request, nothing. -/
def State.homeAtomic (s : State) (q : Req) (k : Nat) (p : Piece) : State :=
  match q.kind with
  | .store | .load | .flush | .pref => s
  | _ => s.atomicPart q k p

/-- The homes perform what such a read comes after, as far as they may. -/
def State.readReady (s : State) (path : Path) (l : List Nat) : State :=
  (s.reqs.filter (s.readAfter path l)).foldl (fun s q =>
    (List.range q.pieces.length).foldl (fun s k =>
      match s.req? q.serial with
      | none => s
      | some q => match q.pieces[k]? with | some p => if q.kind == .store then s.storePart q k p else s.homeAtomic q k p | none => s) s) s

/-- A request of an earlier group keeps another from being performed (R119, R279, R284). -/
def State.olderHolds (s : State) (q : Req) : Bool :=
  s.reqs.any (fun o => o.serial < s.cur.base &&
    (q.afterAcquire o || (q.rel.isSome && q.beforeRelease o) || q.pieces.any (fun p => !p.done && q.before p o)))

/-- A read of the own scratchpad would see a release that covers its core before a store that came earlier; the stores of the group
being issued, whose work the group awaits nowhere, apart (R57, R284). -/
def State.ownTooEarly (s : State) (l : List Nat) : Bool :=
  (s.tagsAt l).any (fun t => covers t.scope t.core t.groups s.cur.core s.rc.groupSet &&
    s.reqs.any (fun o => s.beforeTag t o && (o.core != s.cur.core || o.serial < s.cur.base)))

/-- A fixed-latency read of the own scratchpad must wait: an access it comes after is not performed, an acquire of its context is
pending (R284), an FPOST before it orders a write that is not performed (R286), or it would see a release too early (R284). A write of
its own group that only the group's own work keeps from the bank comes after it (R57, R108). -/
def State.readHeld (s : State) (path : Path) (l : List Nat) : Bool :=
  s.reqs.any (fun q => s.readAfter path l q && (q.serial < s.cur.base || s.olderHolds q)) ||
  (path != .ls && s.postHeld s.cur.core s.cur.slot s.cur.base) || s.ownTooEarly l ||
  (path == .ls && s.reqs.any (fun o => o.core == s.cur.core && o.slot == s.cur.slot && o.ctx == s.cur.ctx && o.acq.isSome &&
    o.unperformed && o.serial < s.cur.base))

/-- A fixed-latency read of the own scratchpad: the state in which what it comes after is performed, and the bytes; none while it
must wait. -/
def State.ownRead (s : State) (path : Path) (l : List Nat) : Option (State × List Byte) :=
  let t := s.readReady path l
  if t.readHeld path l then none else some (t, l.map t.byte)

/-! ## Landing (R64) -/

/-- Ext(x, w, sgn) (ch. 6). -/
def ext (w : Nat) (sgn : Bool) (x : Nat) : W64 := BitVec.ofInt 64 (lowOf w sgn (x : Int))

/-- The element's bits as a lane holds it (R186): floats at the bottom, integers extended by their type. -/
def placeLane (fmt x : Nat) : W32 :=
  match fmt with
  | 6 => BitVec.ofInt 32 (lowInt 16 x)
  | 7 => BitVec.ofInt 32 (lowInt 8 x)
  | _ => BitVec.ofNat 32 x

/-- A returned element of an atomic in a lane: sign-extended for MIN and MAX (R211). -/
def placeOld (op w x : Nat) : W32 := BitVec.ofInt 32 (lowOf w (op == 4 || op == 5) x)

/-- Write a landed request's result into its registers. -/
def Res.deliver (r : Res) (q : Req) (vals : List (Nat × Nat × Nat)) : Res :=
  match q.dest, vals with
  | .s k n w sgn, (_, _, x) :: _ => r.modCtx q.ctx (fun c => c.putS k n (ext w sgn x))
  | .pair k n, (_, _, x) :: _ =>
    r.modCtx q.ctx (fun c => (c.putS k n (BitVec.ofNat 64 (x % 2 ^ 32))).putS k (n + 1) (BitVec.ofNat 64 (x / 2 ^ 32)))
  | .v n fmt, l =>
    l.foldl (fun r e =>
      let x := match q.kind with | .amo op => placeOld op (8 * e.2.1) e.2.2 | _ => placeLane fmt e.2.2
      r.putV (e.1 / 16) n [(e.1 % 16, x)]) r
  | _, _ => r

/-- The registers that waited for request n wait no longer. -/
def Res.awaited (r : Res) (n : Nat) : Res := { r with pend := r.pend.filter (fun p => !(p.2 == .req n)) }

/-- A replica of an RO line may be held anywhere (R112). -/
def State.noteReplica (s : State) (p : Piece) : State :=
  if !p.ro then s
  else { s with replicas := p.addr.foldl (fun l a => if l.contains (lineOf a) then l else l ++ [lineOf a]) s.replicas }

/-- Parts of a load are performed together: their race check, their homes, what they read. -/
def State.readParts (s : State) (q : Req) (ks : List Nat) : State :=
  let ps := ks.filterMap (fun k => (q.pieces[k]?).map (fun p => (k, p)))
  match s.logAccess q.core q.slot q.ctx q.path q.acq.isSome false q.pc q.logged q.checks with
  | (s, l) =>
    let s := ps.foldl (fun s e => (((s.moveHome q.core q.path e.2).noteReplica e.2).unqueue q e.2)) s
    s.setReq q.serial { ps.foldl (fun q e => q.mark e.1 { e.2 with old := BitVec.ofNat 64 (s.readList e.2.addr) }) q with logged := l }

/-- A home performs part k of a load ahead of its landing (R280). -/
def State.loadPart (s : State) (q : Req) (k : Nat) (p : Piece) : State :=
  if p.done || q.acq.isSome || !s.inTurn q k p || s.acquiring q then s
  else if !s.homeFree q.core q.serial p then s.queueUp q k p
  else match s.refusal q p with
    | some t => s.denyReq q t
    | none => s.readParts q [k]

/-- The results of a request reach its registers, and it ends (R64). -/
def State.deliverReq (s : State) (q : Req) : State :=
  let vals := q.pieces.map (fun p => (p.lane, p.addr.length, p.old.toNat))
  (s.modRes q.core q.slot (fun r => (r.deliver q vals).awaited q.serial)).dropReq q.serial

/-- The parts of a request that are not done. -/
def Req.left (q : Req) : List Nat :=
  (List.range q.pieces.length).filter (fun k => match q.pieces[k]? with | some p => !p.done | none => false)

/-- A load lands: what is left of it is read, and its result is delivered. -/
def State.landLoad (s : State) (q : Req) : State :=
  let todo := q.left.filterMap (fun k => (q.pieces[k]?).map (fun p => (k, p)))
  -- parts of one load to one home are read in order, here together
  if !todo.all (fun e => s.mayPerform { q with pieces := [] } 0 e.2) then
    todo.foldl (fun s e => s.queueUp { q with pieces := [] } 0 e.2) s
  else if let some t := todo.findSome? (fun e => s.refusal q e.2) then s.denyReq q t
  else
    let tags := q.pieces.flatMap (fun p => s.tagsAt p.addr)
    let s := (s.readParts q q.left).acquireTags q tags
    match s.req? q.serial with
    | some q => s.deliverReq q
    | none => s

/-- A scoreboarded result lands (R64): a load has read its bytes or reads them now, an atomic has read them at its home. -/
def State.landReq (s : State) (n : Nat) : State :=
  match s.req? n with
  | none => s
  | some q =>
    match q.kind with
    | .load => s.landLoad q
    | .store | .flush | .pref => s
    | _ =>
      if !q.finished then s
      else (s.modRes q.core q.slot (fun r => r.raise (q.pieces.foldl (fun g p => g ||| p.flags) 0))).deliverReq q

/-- Whatever a home may do next for request n: the next part of a store, or the line a FLUSH or PREF names. -/
def State.perform (s : State) (n : Nat) : State :=
  match s.req? n with
  | none => s
  | some q =>
    match q.kind with
    | .store => s.performStore n
    | .flush | .pref => s.performCache n
    | _ => s

/-- A home performs part k of request n. -/
def State.performPiece (s : State) (n k : Nat) : State :=
  match s.req? n with
  | none => s
  | some q =>
    match q.pieces[k]? with
    | none => s
    | some p =>
      match q.kind with
      | .store => s.storePart q k p
      | .load => s.loadPart q k p
      | .flush | .pref => s
      | _ => s.atomicPart q k p

/-! ## Fences (R178, R285) -/

/-- A fence of a core's context is complete: every earlier access of the core on its paths has been performed, and the remote
writes it waits for have been acknowledged (R285, R289). Transfers use CE, or FB for SEND and SENDM; XFLAG counts on both. One to
another package has performed its reads here once its frames are queued. -/
def State.fenceDone (s : State) (c : CoreId) (r : Slot) (f : Fence) : Bool :=
  let onPath := fun (p : Path) => f.paths.getLsbD p.index
  !s.reqs.any (fun q => q.core == c && q.serial < f.serial && onPath q.path) &&
  (s.core c).all.all (fun e => !e.2.xfers.any (fun y =>
    match y.2 with
    | none => false
    | some x =>
      x.serial < f.serial && x.ins.paths.any (fun p => f.paths.getLsbD p) &&
        (!(remoteWrite x.ins && s.isRemote x.target) || x.st == .live || s.ackScope (s.res c r).groupSet f.scope x.target)))

/-- The fence of a context is not complete; one that names MF also waits for the routines called before it (R178). -/
def State.fenceOpen (s : State) (c : CoreId) (r : Slot) (f : Fence) : Bool :=
  !s.fenceDone c r f || (f.paths.getLsbD 2 && (s.res c r).eng.callBefore f.serial)

/-- The fences of a core's contexts that are complete hold nothing any longer. -/
def State.dropFences (s : State) (c : CoreId) : State :=
  s.modCore c (fun k => k.mapRes (fun r x => { x with
    posted := x.posted.filter (fun m => s.postWaits c r m)
    fences := x.fences.filter (fun f => s.fenceOpen c r f) }))

end Sys2Proof.Machine
end

