-- ==== Sys2Proof/Machine/Fetch.lean ====
section
/-! DEFINITION. Fetching: words at virtual addresses under PTE.X, the run of instructions that forms a group (R57, R121,
R135), and the group limits (R58, R59, R138, R325). -/

namespace Sys2Proof.Machine

inductive Fetched (α : Type) where
  | ok (x : α)
  | hold (h : Hold)
  | trap (t : Trap)
deriving Repr

/-- Translate an address for instruction fetch by the issuing context (R169, R173, R372). -/
def State.fetchPa (s : State) (va : VAddr) : Fetched Nat :=
  let rc := s.rc
  match s.look s.cur.core rc.root va.toNat with
  | .fault k => .trap { cause := cXlate, sub := k, tval := va.setWidth 64 }
  | .miss => .hold (.walk rc.root va)
  | .hit pa pte =>
    match s.denied rc.part s.cx.mode .fetch false pte pa with
    | some k => .trap { cause := cAccess, sub := k, tval := va.setWidth 64 }
    | none => if s.hwError .fetch pa then .trap { cause := cHw, tval := BitVec.ofNat 64 pa } else .ok pa

/-- One 32-bit word through instruction fetch. -/
def State.fetchWord (s : State) (va : VAddr) : Fetched W32 :=
  match s.fetchPa va with
  | .ok pa => .ok (BitVec.ofNat 32 (s.readNat pa 4))
  | .hold h => .hold h
  | .trap t => .trap t

/-- n consecutive words. -/
def State.fetchWords (s : State) : Nat → VAddr → Fetched (List W32)
  | 0, _ => .ok []
  | n + 1, va =>
    match s.fetchWord va with
    | .hold h => .hold h
    | .trap t => .trap t
    | .ok w =>
      match s.fetchWords n (va + 4) with
      | .ok l => .ok (w :: l)
      | .hold h => .hold h
      | .trap t => .trap t

/-- The instruction of the words fetched; what does not decode is an illegal encoding, whose one effect is its trap. -/
noncomputable def instrOf (ws : List W32) : Instr :=
  match decode ws with
  | .ok i _ => i
  | .bad _ => .illegalEncoding (ws.headD 0)

/-- A group as decoding finds it: its instructions with their addresses, the address after it, and whether it ran past 16
instructions or 96 bytes with no STOP (R135). -/
structure Group where
  is : List (VAddr × Instr)
  next : VAddr
  overlong : Bool := false
deriving DecidableEq, Repr

/-- The shape of a group: each instruction's address and words, from lengths and STOP bits alone (R121, R135). -/
structure Shape where
  parts : List (VAddr × List W32)
  next : VAddr
  overlong : Bool := false
deriving DecidableEq, Repr

/-- Scan a group from an address, with fuel for the instructions and the bytes it may still hold (R58, R135). An instruction
with LEN 11 is one word, and decoding stops at it. A group that ends by either limit ends where the scan stops, and an instruction
that would cross byte 96 is not read (DESIGN CHOICE, log 56). -/
def State.scan (s : State) : Nat → Nat → VAddr → Fetched Shape
  | 0, _, va => .ok { parts := [], next := va, overlong := true }
  | fuel + 1, room, va =>
    if room = 0 then .ok { parts := [], next := va, overlong := true }
    else
      match s.fetchWord va with
      | .hold h => .hold h
      | .trap t => .trap t
      | .ok w =>
        match lengthOf w with
        | none => .ok { parts := [(va, [w])], next := va + 4 }
        | some n =>
          if room < 4 * n then .ok { parts := [], next := va, overlong := true }
          else
            match s.fetchWords (n - 1) (va + 4) with
            | .hold h => .hold h
            | .trap t => .trap t
            | .ok ws =>
              let here := (va, w :: ws)
              let after := va + BitVec.ofNat 48 (4 * n)
              if w.getLsbD 2 then .ok { parts := [here], next := after }
              else
                match s.scan fuel (room - 4 * n) after with
                | .ok g => .ok { g with parts := here :: g.parts }
                | .hold h => .hold h
                | .trap t => .trap t

/-- The group at an address: at most 16 instructions and 96 bytes (R58). -/
def State.shapeAt (s : State) (pc : VAddr) : Fetched Shape := s.scan 16 96 pc

/-- The group at an address, decoded. -/
noncomputable def State.groupAt (s : State) (pc : VAddr) : Fetched Group :=
  match s.shapeAt pc with
  | .hold h => .hold h
  | .trap t => .trap t
  | .ok g => .ok { is := g.parts.map (fun p => (p.1, instrOf p.2)), next := g.next, overlong := g.overlong }

/-! ## The instruction cache (R1) -/

/-- 64 KiB of lines of 128 bytes. -/
def icacheSize : Nat := 512
/-- The lines that the words from one address to another lie in. -/
def State.codeLines (s : State) (pc next : VAddr) : List Nat :=
  ((List.range ((next - pc).toNat / 4)).filterMap (fun i =>
    match s.fetchPa (pc + BitVec.ofNat 48 (4 * i)) with
    | .ok pa => some (lineOf pa)
    | _ => none)).eraseDups
/-- A group's lines are in the core's instruction cache once the group is fetched, newest last. The cache holds which lines it has, and
a fetch reads memory (DESIGN CHOICE, log 62). -/
def Core.fetched (k : Core) (l : List Nat) : Core :=
  let c := k.icache.filter (fun a => !l.contains a) ++ l
  { k with icache := c.drop (c.length - icacheSize) }

/-! ## Group limits (R58, R59, R138, R325) -/

def isRep : Instr → Bool
  | .rep .. => true
  | _ => false
def isNop : Instr → Bool
  | .nop .. => true
  | .nop64 .. => true
  | .nop96 .. => true
  | _ => false
/-- EBREAK, SYSC and TRAP, the only instruction of their group but for a NOP (R325). -/
def isAlone : Instr → Bool
  | .ebreak .. => true
  | .sysc .. => true
  | .trap .. => true
  | _ => false

/-- How many instructions of a class a group may hold (R58). -/
def classLimit : Cls → Nat
  | .s => 2
  | .v => 8
  | .x => 2
  | _ => 1

def countCls (k : Cls) (is : List Instr) : Nat := (is.filter (fun i => i.cls? == some k)).length

/-- The instructions that count toward the class limits: the NOP that shares the group of EBREAK, SYSC or TRAP does not (R325). -/
def counted (is : List Instr) : List Instr := if is.any isAlone then is.filter (fun i => !isNop i) else is

/-- The GMASK fields of a group's V instructions are pairwise disjoint (R58). -/
def disjointMasks : List (BitVec 8) → Bool
  | [] => true
  | m :: t => t.all (fun n => m &&& n == 0) && disjointMasks t

/-- A register that one instruction names as a destination is named by another (R59). -/
def namesClash : List Instr → Bool
  | [] => false
  | i :: t =>
    t.any (fun j => i.names.dst.any (fun r => j.regs.contains r) || j.names.dst.any (fun r => i.regs.contains r)) ||
    namesClash t

/-- The stride fields a REP gives: D, A, B (R133). -/
def repStrides : Instr → Nat × Nat × Nat
  | .rep _ _ x => (x.sd.toNat, x.sa.toNat, x.sb.toNat)
  | _ => (0, 0, 0)

/-- D names a pattern, and A an engine micro-register: registers of none of the files for which R138 gives ILLEGAL_ENCODING. -/
def namesPattern : Instr → Bool
  | .bpld .. | .bpldL .. => true
  | _ => false
def namesMicro : Instr → Bool
  | .movms _ f => decide (16 ≤ f.a.toNat)
  | _ => false

/-- REP and its one S or V target form the whole group, and no stride falls on a pattern or a micro-register (R138). -/
def repArranged : List Instr → Bool
  | [.rep h f x, t] =>
    let k := repStrides (.rep h f x)
    !h.stop && (t.cls? == some .s || t.cls? == some .v) && !(k.1 != 0 && namesPattern t) && !(k.2.1 != 0 && namesMicro t)
  | is => is.all (fun i => !isRep i)

/-- A non-zero stride on a field that names a p, vm, stream, mp or f register, or that is unused (R138): ILLEGAL_ENCODING at the REP,
which ranks before the ILLEGAL_GROUP of a group arranged otherwise (R136). Where no S or V instruction follows the REP it has no
target, and the group is ILLEGAL_GROUP whatever the strides (DESIGN CHOICE, log 57). -/
def badStride : List Instr → Bool
  | r :: t :: _ =>
    let k := repStrides r
    isRep r && (t.cls? == some .s || t.cls? == some .v) &&
      ((k.1 != 0 && !t.names.strideD && !namesPattern t) || (k.2.1 != 0 && !t.names.strideA && !namesMicro t) ||
       (k.2.2 != 0 && !t.names.strideB))
  | _ => false

/-- ILLEGAL_GROUP for the group (R58, R59, R138, R325). -/
def groupIllegal (is : List Instr) (overlong : Bool) : Bool :=
  overlong || [Cls.s, .v, .m, .x, .y, .b, .c].any (fun k => classLimit k < countCls k (counted is)) ||
  !disjointMasks (is.map gmaskOf) || namesClash is || !repArranged is ||
  (is.any isAlone && (is.any (fun i => !isAlone i && !isNop i) || 1 < (is.filter isNop).length)) || 1 < (is.filter isAlone).length

end Sys2Proof.Machine
end

