-- ==== Sys2Proof/Machine/Tile.lean ====
section
/-! DEFINITION. Accumulator tiles in RANKED mode: order, insertion, merges and thresholds (R245 to R249). -/

namespace Sys2Proof.Machine

/-- The bits of minus infinity in f32. -/
def negInf : W32 := 0xFF800000

/-- An order of f32 values that are not NaN, through their bits: -0 equals +0 (R245). -/
def rankKey (v : W32) : Int :=
  let m : Int := (v.toNat % 2 ^ 31 : Nat)
  if v.getLsbD 31 then -m else m

def isNaN32 (v : W32) : Bool := 0x7F800000 < v.toNat % 2 ^ 31
/-- -0 is read as +0 (R246). -/
def plusZero (v : W32) : W32 := if v = 0x80000000 then 0 else v

/-- Pair (v, i) ranks above (w, j) (R245). -/
def ranksAbove (p q : W32 × W32) : Bool :=
  rankKey q.1 < rankKey p.1 || (rankKey p.1 == rankKey q.1 && p.2.toNat < q.2.toNat)

/-- Insert a pair at its place. -/
def insertPair (p : W32 × W32) : List (W32 × W32) → List (W32 × W32)
  | [] => [p]
  | q :: t => if ranksAbove p q then p :: q :: t else q :: insertPair p t

/-- Apply an offered pair that is not NaN to a row of length k (R246). -/
def offerPair (k : Nat) (row : List (W32 × W32)) (p : W32 × W32) : List (W32 × W32) :=
  let p := (plusZero p.1, p.2)
  if row.contains p then row else (insertPair p row).take k

def Tile.row (t : Tile) (i : Nat) : List (W32 × W32) := t.rows.get [] i
def Tile.setRow (t : Tile) (i : Nat) (r : List (W32 × W32)) : Tile := { t with rows := t.rows.put [] i r }
/-- Reject <- SatAdd(Reject, 1) (R246). -/
def Tile.rejectOne (t : Tile) : Tile := { t with reject := if t.reject = 0xFFFFFFFF then t.reject else t.reject + 1 }

/-- Offer a pair to row i (R246): a NaN is never inserted and is counted. -/
def Tile.offer (t : Tile) (i : Nat) (p : W32 × W32) : Tile :=
  if isNaN32 p.1 then t.rejectOne else t.setRow i (offerPair t.k (t.row i) p)

/-- Merge rows of pairs into a tile (R247). -/
def Tile.mergeRows (t : Tile) (src : List (Nat × List (W32 × W32))) : Tile :=
  src.foldl (fun t e => e.2.foldl (fun t p => t.offer e.1 p) t) t

/-- The threshold of a row, and of the tile (R248). -/
def Tile.rowThreshold (t : Tile) (i : Nat) : W32 :=
  if t.ranked && (t.row i).length = t.k && 0 < t.k then ((t.row i).getD (t.k - 1) (negInf, 0)).1 else negInf
def Tile.threshold (t : Tile) : W32 :=
  (List.range 64).foldl (fun m i => if rankKey (t.rowThreshold i) < rankKey m then t.rowThreshold i else m) (t.rowThreshold 0)

/-- A tile cleared (R228). -/
def Tile.clear (t : Tile) : Tile := { t with sum := [], rows := [], reject := 0 }

def Engine.tile (e : Engine) (n : Nat) : Tile := e.tiles.get {} (n % 8)
def Engine.setTile (e : Engine) (n : Nat) (t : Tile) : Engine := { e with tiles := e.tiles.put {} (n % 8) t }

end Sys2Proof.Machine
end

