-- ==== Sys2Proof/Machine/Control.lean ====
section
/-! DEFINITION. The meanings of the B class: branches, hardware loops, SWPT, BRT, EXIT and TRAP (R168 to R175), with their
costs (R69, R70). -/

namespace Sys2Proof.Machine

/-- Bubbles of a branch to b_n: 3 less the groups since its preparation, 3 where none is in force (R69). -/
def Ctx.bubbles (x : Ctx) (n : Nat) : Nat :=
  match x.prep with
  | some (m, k) => if m = n then 3 - k else 3
  | none => 3

/-- The context goes on at an address after some bubbles. -/
def State.jump (s : State) (target : VAddr) (bubbles : Nat) : State :=
  let t := s.modCx (fun x => { x with pc := target, ready := s.here.cycle + 1 + bubbles })
  { t with cur := { t.cur with taken := true, bubbles := bubbles } }

/-- A taken branch to an address; one that is not a multiple of 4 traps ALIGN (R169). -/
def State.branch (s : State) (target : VAddr) (bubbles : Nat) : State :=
  if target.toNat % 4 ≠ 0 then s.trap { cause := cAlign, tval := target.setWidth 64 } else s.jump target bubbles

/-- PBR: b_n takes the target, whose fetch starts (R69, R168). -/
def State.prepare (s : State) (n : Nat) (target : VAddr) : State :=
  s.modCx (fun x => { x.putB n target with prep := some (n, 0) })

def execPbrReg (h : Hdr) (f : BF) (s : State) : Out :=
  run (.pbrReg h f) s (fun s => s.prepare f.bt.toNat ((s.sreg f.sa).setWidth 48))
def execPbr (h : Hdr) (f : BF) (off : W32) (s : State) : Out :=
  run (.pbr h f off) s (fun s => s.prepare f.bt.toNat (s.cur.ipc + (off.signExtend 48 <<< 2)))
/-- BR (R169). -/
def execBr (h : Hdr) (f : BF) (s : State) : Out :=
  run (.br h f) s (fun s => s.branch (s.breg f.bt.toNat) (s.cx.bubbles f.bt.toNat))
/-- CALL (R170): b7 takes the return point, which counts as its preparation. -/
def execCall (h : Hdr) (f : BF) (s : State) : Out :=
  run (.call h f) s (fun s =>
    (s.prepare 7 s.cur.next).branch (s.breg f.bt.toNat) (s.cx.bubbles f.bt.toNat))

/-- The address after the group at an address (R135, R171). -/
def State.afterGroup (s : State) (va : VAddr) : Fetched VAddr :=
  match s.shapeAt va with
  | .ok g => .ok g.next
  | .hold h => .hold h
  | .trap t => .trap t

/-- Go on after the group at an address; a fault in reading it is reported here (DEDUCED, log 22). -/
def State.skipPast (s : State) (va : VAddr) (f : State → State) : State :=
  match s.afterGroup va with
  | .ok a => f (s.jump a 2)
  | .hold h => s.hold h
  | .trap t => s.trap t

/-- LOOP (R171); what makes it ILLEGAL_GROUP is decided at decode. -/
def loopAt (f : BF) (off : W32) (s : State) : State :=
  let stop := loopStop s.cur.ipc off
  let count : W32 := (s.sreg f.sa).setWidth 32
  if count = 0 then s.skipPast stop id
  else s.modCx (fun x => { x with loops := ⟨s.cur.next, stop, count, 0, f.yld⟩ :: x.loops })
def execLoop (h : Hdr) (f : BF) (off : W32) (s : State) : Out := run (.loop h f off) s (loopAt f off)

/-- LBRK (R172); with the stack empty it has trapped at decode. -/
def lbrk (s : State) : State :=
  match s.cx.loops with
  | [] => s
  | e :: _ => s.skipPast e.stop (fun t => t.modCx (fun x => { x with loops := x.loops.tail }))
def execLbrk (h : Hdr) (f : BF) (s : State) : Out := run (.lbrk h f) s lbrk

/-- SWPT (R173): the entry's target for PWR_GRANT.LEVEL, read through instruction fetch; 0 goes on with the next group. -/
def swpt (f : BF) (s : State) : State :=
  if s.rc.swtab = 0 then s
  else
    let n := (f.sb ++ f.sa).toNat
    let at_ := s.rc.swtab + BitVec.ofNat 48 (32 * n + 8 * Nat.min s.here.level.toNat 2)
    match s.fetchWords 2 at_ with
    | .hold h => s.hold h
    | .trap t => s.trap t
    | .ok ws =>
      let target : W64 := ws.getD 1 0 ++ ws.getD 0 0
      if target = 0 then s
      else if target.extractLsb' 48 16 ≠ 0 || target.toNat % 4 ≠ 0 then
        s.trap { cause := cAccess, sub := 8, tval := target }
      else s.jump (target.setWidth 48) 3
def execSwpt (h : Hdr) (f : BF) (s : State) : Out := run (.swpt h f) s (swpt f)

/-- BRT (R174): taken when the bound is at or below the tile's threshold; a NaN bound sets NV and does not branch. -/
def brt (f : BF) (s : State) : State :=
  let bound : W32 := (s.sreg f.sa).setWidth 32
  let t := (s.rc.eng.tile (f.sb.toNat % 8)).threshold
  if isNaN32 bound then s.modRc (fun r => r.raise fNV)
  else if rankKey bound ≤ rankKey t then s.branch (s.breg f.bt.toNat) (s.cx.bubbles f.bt.toNat)
  else s
def execBrt (h : Hdr) (f : BF) (s : State) : Out := run (.brt h f) s (brt f)

/-- The home of a line without the pins of a resident context. -/
def Home.unpin (h : Home) (c : CoreId) (r : Slot) : Home := { h with pins := h.pins.filter (fun p => !(p == (c, r))) }

/-- The pins that a resident context holds are released (R118). -/
def State.unpin (s : State) (c : CoreId) (r : Slot) : State :=
  { s with homes := (s.homes.map (fun e => (e.1, e.2.unpin c r))).filter (fun e => !(e.2 == {})) }

/-- What EXIT in a primary waits for (R175). -/
def Res.quiet (r : Res) : Bool :=
  r.eng.queue.isEmpty && r.eng.call.isNone && r.xfers.all (fun e => e.2.isNone) && r.pend.isEmpty

/-- The core leaves its task (R18): contexts and tiles are free, since a slot that is not occupied counts for none (R55), and the
scratchpad allocation is kept for the task. -/
def State.leaveTask (s : State) (c : CoreId) (r : Slot) : State :=
  let rs := s.res c r
  let s := s.modTask rs.task (fun t => if t.exited.contains c then t else { t with exited := t.exited ++ [c] })
  let s := s.modCore c (fun k => { k with kept := k.kept ++ [(rs.task, rs.spBase, rs.spSize)] })
  let s := s.modRes c r (fun x =>
    { x with occ := false, left := true, arrivals := [], withheld := []
             primary := { x.primary with run := .gone }, h1 := { x.h1 with run := .dormant }
             h2 := { x.h2 with run := .dormant }, waiters := [] })
  -- a pre-emption that the context has left no boundary for is over (R44)
  let s := s.modCore c (fun k => if k.act == r then { k with preempt := none, atYield := false } else k)
  s.unpin c r

/-- EXIT (R39, R175); in a primary in kernel mode it ends the whole task (R361, R363). -/
def exit (s : State) : State :=
  if s.cur.ctx = .primary then
    if s.cx.mode then (s.endTask s.rc.task 3 (s.cx.tcause.setWidth 8) 0).modCx (fun x => { x with run := .gone })
    else if s.rc.quiet then s.leaveTask s.cur.core s.cur.slot else s.hold
  else s.modCx (fun x => { x with run := .dormant })
def execExit (h : Hdr) (f : BF) (s : State) : Out := run (.exit h f) s exit

/-- TRAP (R175, R324): USER_TRAP with the code of bits [31:22]. -/
def execTrap (h : Hdr) (f : BF) (s : State) : Out :=
  run (.trap h f) s (fun s => s.trap { cause := cUser, code := (f.sb ++ f.sa).setWidth 16 })

end Sys2Proof.Machine
end

