-- ==== Sys2Proof/Machine/Operands.lean ====
section
/-! DEFINITION. Operand forms of the S class: widths, immediates, the second operand (R124), addresses, scopes, and the ALU
and float operations (R148, R157). -/

namespace Sys2Proof.Machine

/-- The operation width in bits from WID (ch. 6). -/
def widthOf (wid : BitVec 3) : Nat := 8 * 2 ^ wid.toNat
/-- Bytes of an access (ch. 6). -/
def bytesOf (wid : BitVec 3) : Nat := 2 ^ wid.toNat

/-- Sext() of an immediate (ch. 6). -/
def sext16 (x : BitVec 16) : W64 := x.signExtend 64
def sext32 (x : W32) : W64 := x.signExtend 64

/-- The ALU operations of opcodes 0x00 to 0x14 (R148). -/
inductive Alu where
  | add | sub | mul | mulh | mulhz | div | divz | rem | remz | and | or | xor | andn | shl | shr | sra | rotl
  | min | max | minz | maxz
deriving DecidableEq, Repr

/-- The latency of an ALU operation (R148). -/
def Alu.latency : Alu → Nat
  | .mul => 3 | .mulh => 3 | .mulhz => 3
  | .div => 24 | .divz => 24 | .rem => 24 | .remz => 24
  | _ => 1

/-- Op(a, b) exactly, on operands of w bits (R148, R83). -/
def Alu.apply (o : Alu) (w a b : Nat) : Int :=
  let x := lowInt w a
  let y := lowInt w b
  let k := b % w
  match o with
  | .add => (a : Int) + b
  | .sub => (a : Int) - b
  | .mul => (a : Int) * b
  | .mulh => (x * y) / ((2 ^ w : Nat) : Int)
  | .mulhz => ((a * b / 2 ^ w : Nat) : Int)
  | .div => divW w x y
  | .divz => if b = 0 then -1 else ((a / b : Nat) : Int)
  | .rem => remW x y
  | .remz => if b = 0 then (a : Int) else ((a % b : Nat) : Int)
  | .and => ((a &&& b : Nat) : Int)
  | .or => ((a ||| b : Nat) : Int)
  | .xor => ((a ^^^ b : Nat) : Int)
  | .andn => ((a ^^^ (a &&& b) : Nat) : Int)
  | .shl => ((a * 2 ^ k : Nat) : Int)
  | .shr => ((a / 2 ^ k : Nat) : Int)
  | .sra => x / ((2 ^ k : Nat) : Int)
  | .rotl => ((a * 2 ^ k % 2 ^ w + a / 2 ^ (w - k) : Nat) : Int)
  | .min => if x ≤ y then x else y
  | .max => if x ≤ y then y else x
  | .minz => ((Nat.min a b : Nat) : Int)
  | .maxz => ((Nat.max a b : Nat) : Int)

/-- Ext of the low w bits of an exact result (R148). -/
def extInt (w : Nat) (sgn : Bool) (y : Int) : W64 := BitVec.ofInt 64 (lowOf w sgn y)

/-- The register result of an ALU operation on two 64-bit operands at a width (R148). -/
def Alu.result (o : Alu) (w : Nat) (sgn : Bool) (a b : W64) : W64 :=
  extInt w sgn (o.apply w (a.toNat % 2 ^ w) (b.toNat % 2 ^ w))

/-- The 32-bit form: register B, 64 bits (R124). -/
def aluReg (o : Alu) (f : S32) (s : State) : State :=
  s.postS o.latency f.d (o.result 64 true (s.sreg f.a) (s.sreg f.b))
/-- The 64-bit form: IMM16 (R124). -/
def aluImm (o : Alu) (f : SF) (s : State) : State :=
  s.postS o.latency f.d (o.result (widthOf f.wid) f.sgn (s.sreg f.a) (sext16 f.imm))
/-- The 96-bit form: LIT32 (R124). -/
def aluLit (o : Alu) (f : SF) (s : State) : State :=
  s.postS o.latency f.d (o.result (widthOf f.wid) f.sgn (s.sreg f.a) (sext32 f.lit))

/-- CLZ, CTZ and POPC (R149). -/
inductive Count where
  | clz | ctz | popc
deriving DecidableEq, Repr

def Count.apply (o : Count) (w x : Nat) : Nat :=
  match o with
  | .clz => clzW w x
  | .ctz => ctzW w x
  | .popc => popW w x

def countReg (o : Count) (f : S32) (s : State) : State :=
  s.postS 1 f.d (BitVec.ofNat 64 (o.apply 64 (s.sreg f.a).toNat))
def countW (o : Count) (f : SF) (s : State) : State :=
  s.postS 1 f.d (BitVec.ofNat 64 (o.apply (widthOf f.wid) ((s.sreg f.a).toNat % 2 ^ widthOf f.wid)))

/-- LEA (R150). -/
def leaAt (f : SF) (off : W64) (s : State) : State :=
  s.postS 1 f.d (s.sreg f.a + (s.sreg f.b <<< (f.c.toNat % 8)) + off)

/-- The condition of CMP on two values of w bits (R155). -/
def cmpCond (c w : Nat) (sgn : Bool) (a b : W64) : Bool :=
  let x := lowOf w sgn a.toNat
  let y := lowOf w sgn b.toNat
  match c with
  | 0 => x == y
  | 1 => x != y
  | 2 => x < y
  | 3 => x ≤ y
  | 4 => y < x
  | _ => y ≤ x

/-- CMP with its immediate (R155). -/
def cmpAt (f : SF) (imm : W64) (s : State) : State :=
  s.postP 1 f.d (cmpCond f.md.toNat (widthOf f.wid) f.sgn (s.sreg f.a) (s.sreg f.b + imm))

/-- BFX (R151). -/
def bfx (x : W64) (pos len : Nat) (sgn : Bool) : W64 := extInt len sgn (((x.toNat / 2 ^ pos % 2 ^ len : Nat)) : Int)
/-- BFI (R151): the low len bits of x into old at pos; bits above 63 are not written. -/
def bfi (old x : W64) (pos len : Nat) : W64 :=
  let mask : W64 := BitVec.ofNat 64 ((2 ^ len - 1) * 2 ^ pos)
  (old &&& ~~~mask) ||| (BitVec.ofNat 64 (x.toNat % 2 ^ len * 2 ^ pos) &&& mask)

/-- Bit i of the result is bit index_i of the pattern of u (R154). -/
def bperm (pat : BitVec 448) (u : BitVec 128) : W64 :=
  BitVec.ofNat 64 ((List.range 64).foldl (fun n i =>
    if u.getLsbD (pat.extractLsb' (7 * i) 7).toNat then n + 2 ^ i else n) 0)

/-- A scalar f32 operation's result: bits [63:32] are 0 (R92). -/
def postF (s : State) (d : BitVec 5) (x : Nat × Flags8) : State := s.postS 4 d (BitVec.ofNat 64 x.1) x.2

/-- The f32 value in a scalar register (R92). -/
def State.fval (s : State) (n : BitVec 5) : Ex := Fmt.f32.value ((s.sreg n).toNat % 2 ^ 32)

def fadd2 (r : Rnd) (a b d : BitVec 5) (s : State) : State :=
  postF s d (Fmt.f32.finish r false (Ex.add r (s.fval a) (s.fval b)))
def fsub2 (r : Rnd) (a b d : BitVec 5) (s : State) : State :=
  postF s d (Fmt.f32.finish r false (Ex.add r (s.fval a) (s.fval b).negate))
def fmul2 (r : Rnd) (a b d : BitVec 5) (s : State) : State :=
  postF s d (Fmt.f32.finish r false (Ex.mul (s.fval a) (s.fval b)))
def fmin2 (a b d : BitVec 5) (s : State) : State := postF s d (Fmt.f32.finish .rne false (Ex.min (s.fval a) (s.fval b), 0))
def fmax2 (a b d : BitVec 5) (s : State) : State := postF s d (Fmt.f32.finish .rne false (Ex.max (s.fval a) (s.fval b), 0))

/-- RND of MOD[1:0] (R125). -/
def rndOf (md : BitVec 4) : Rnd := Rnd.ofCode (md.toNat % 4)

/-- FCVT (R157): MOD[2] gives the direction. -/
def fcvt (f : SF) (s : State) : State :=
  let w := widthOf f.wid
  if f.md.getLsbD 2 then
    postF s f.d (Fmt.f32.finish (rndOf f.md) false (Ex.ofInt (lowOf w f.sgn (s.sreg f.a).toNat), 0))
  else
    match Ex.toInt (rndOf f.md) w f.sgn (s.fval f.a) with
    | (y, g) => s.postS 4 f.d (extInt w f.sgn y) g

end Sys2Proof.Machine
end

