-- ==== Sys2Proof/Machine/Special.lean ====
section
/-! DEFINITION. The special functions (R201): reciprocal, reciprocal square root, 2^a, log2 a and tanh a, each the exact value
rounded once. The last three are enclosed between two fixed-point bounds; where both bounds round alike, that is the
result, else it is a free value (log 12). -/

namespace Sys2Proof.Machine

/-- Fraction bits of the fixed-point bounds. -/
def prec : Nat := 640
def oneP : Nat := 2 ^ prec

/-- The greatest r with r x r ≤ n, of k bits, from the highest bit down. -/
def isqrtGo : Nat → Nat → Nat → Nat
  | 0, _, r => r
  | k + 1, n, r => if (r + 2 ^ k) * (r + 2 ^ k) ≤ n then isqrtGo k n (r + 2 ^ k) else isqrtGo k n r
def isqrt (n : Nat) : Nat := isqrtGo (Nat.log2 n / 2 + 1) n 0

/-- The square root of a magnitude: exact, or a value strictly between the same two neighbours of 256 fraction bits. -/
def Mag.sqrt (a : Mag) : Mag :=
  let q := a.frac
  let n := q.1 * 4 ^ 256 / q.2
  let r := isqrt n
  if r * r * q.2 = q.1 * 4 ^ 256 then ⟨r, 1, -256⟩ else ⟨2 * r + 1, 1, -257⟩

/-- A pair of bounds, in units of 2^-prec. -/
abbrev Bounds := Nat × Nat

def Bounds.mul (x y : Bounds) : Bounds := (x.1 * y.1 / oneP, x.2 * y.2 / oneP + 1)
def Bounds.div (x y : Bounds) : Bounds := (x.1 * oneP / y.2, x.2 * oneP / y.1 + 1)
def Bounds.add (x y : Bounds) : Bounds := (x.1 + y.1, x.2 + y.2)
def Bounds.divNat (x : Bounds) (n : Nat) : Bounds := (x.1 / n, x.2 / n + 1)

/-- Terms of a series: from term k with power p, `next` gives the next power; each is divided by `den k`. The last addend
bounds what is cut off. -/
def seriesGo (step : Bounds → Nat → Bounds) (den : Nat → Nat) : Nat → Nat → Bounds → Bounds → Bounds
  | 0, _, p, acc => (acc.1, acc.2 + 2 * p.2 + 2)
  | n + 1, k, p, acc => seriesGo step den n (k + 1) (step p k) (acc.add (p.divNat (den k)))

/-- e^x for 0 ≤ x ≤ 1. -/
def expB (x : Bounds) : Bounds := seriesGo (fun p k => (p.mul x).divNat (k + 1)) (fun _ => 1) 140 0 (oneP, oneP) (0, 0)

/-- ln((1 + z) / (1 - z)) = 2 atanh z for 0 ≤ z ≤ 1/3. -/
def twoAtanhB (z : Bounds) : Bounds :=
  (seriesGo (fun p _ => (p.mul z).mul z) (fun k => 2 * k + 1) 210 0 z (0, 0)).add
    (seriesGo (fun p _ => (p.mul z).mul z) (fun k => 2 * k + 1) 210 0 z (0, 0))

def ln2B : Bounds := twoAtanhB (oneP / 3, oneP / 3 + 1)

/-- The bounds of a fraction n / d. -/
def fracB (n d : Nat) : Bounds := (n * oneP / d, n * oneP / d + 1)

/-- Square a pair of bounds n times. -/
def squareB : Nat → Bounds → Bounds
  | 0, x => x
  | n + 1, x => squareB n (x.mul x)

/-- Round two bounds of one sign at a scale; none where they differ. -/
def settleB (f : Fmt) (r : Rnd) (neg : Bool) (b : Bounds) (e : Int) : Option (Nat × Flags8) :=
  let lo := f.round r false (.num neg ⟨b.1, 1, e - prec⟩)
  let hi := f.round r false (.num neg ⟨b.2, 1, e - prec⟩)
  if lo = hi then some lo else none

/-- The floor of a signed magnitude, and what is above it as a fraction. -/
def floorOf (neg : Bool) (m : Mag) : Int × Nat × Nat :=
  let q := m.frac
  if neg then (if q.1 % q.2 = 0 then (-(q.1 / q.2 : Nat), 0, 1) else (-(q.1 / q.2 : Nat) - 1, q.2 - q.1 % q.2, q.2))
  else ((q.1 / q.2 : Nat), q.1 % q.2, q.2)

/-- 2^x of a magnitude: an integer exactly; beyond every format's range the sign of the exponent alone decides. -/
def exp2Of (f : Fmt) (r : Rnd) (neg : Bool) (m : Mag) : Option (Nat × Flags8) :=
  if Mag.lt (.ofNat 1024) m then some (f.round r false (.num false ⟨3, 1, if neg then -1024 else 1024⟩))
  else
    let k := floorOf neg m
    if k.2.1 = 0 then some (f.round r false (.num false ⟨1, 1, k.1⟩))
    else settleB f r false (expB ((fracB k.2.1 k.2.2).mul ln2B)) k.1

/-- log2 of a positive magnitude: of a power of two exactly. -/
def log2Of (f : Fmt) (r : Rnd) (m : Mag) : Option (Nat × Flags8) :=
  let e := floorLog2 m
  let q := (m.scale (-e)).frac
  if q.1 = q.2 then some (f.round r false (Ex.ofInt e))
  else
    let l := (twoAtanhB (fracB (q.1 - q.2) (q.1 + q.2))).div ln2B
    let k := e.natAbs * oneP
    if 0 ≤ e then settleB f r false (k + l.1, k + l.2) 0 else settleB f r true (k - l.2, k - l.1) 0

/-- tanh of a positive magnitude with its sign: 1 - 2 E / (1 + E), E = e^(-2x); past 64 it lies between 1 - 2^-128 and 1. -/
def tanhOf (f : Fmt) (r : Rnd) (neg : Bool) (m : Mag) : Option (Nat × Flags8) :=
  if Mag.lt (.ofNat 64) m then settleB f r neg (oneP - 2 ^ (prec - 128), oneP - 1) 0
  else
    let q := m.frac
    let p := squareB 8 (expB (fracB (2 * q.1) (256 * q.2)))
    -- (P - 1) / (P + 1), P = e^(2x)
    settleB f r neg (Bounds.div (p.1 - oneP, p.2 - oneP) (p.1 + oneP, p.2 + oneP)) 0

/-- The five functions of R201, by their opcodes 0x13 to 0x17. -/
inductive Spec where
  | rcp | rsq | exp2 | lg2 | tanh
deriving DecidableEq, Repr

def Spec.code : Spec → Nat
  | .rcp => 0 | .rsq => 1 | .exp2 => 2 | .lg2 => 3 | .tanh => 4
def Fmt.code : Fmt → Nat
  | .f32 => 0 | .bf16 => 1 | .f16 => 2 | .e4m3 => 3 | .e5m2 => 4
def Rnd.code : Rnd → Nat
  | .rne => 0 | .rtz => 1 | .rup => 2 | .rdn => 3

/-- The free value where the bounds do not decide: NX stands, since the exact value is not representable. -/
def Spec.open_ (k : Spec) (f : Fmt) (r : Rnd) (bits : Nat) : Nat × Flags8 :=
  (Config.unresolved k.code f.code r.code bits % 2 ^ f.width, fNX)

/-- A result that overflows differs from the exact value, so it sets NX beside OF, also where R88 alone finds the value exact
(R201). -/
def Spec.nxOnOf (x : Nat × Flags8) : Nat × Flags8 := if x.2 &&& fOF = 0 then x else (x.1, x.2 ||| fNX)

/-- A special function of an element's bits (R201). -/
def Spec.apply (k : Spec) (f : Fmt) (r : Rnd) (bits : Nat) : Nat × Flags8 :=
  let bad : Nat × Flags8 := (f.canonNaN, fNV)
  let out := fun (x : Ex) => Spec.nxOnOf (f.round r false x)
  match f.value bits with
  | .nan => (f.canonNaN, 0)
  | .inf neg =>
    match k with
    | .rcp => out (.num neg .zero)
    | .rsq => if neg then bad else out .zero
    | .exp2 => if neg then out .zero else out (.inf false)
    | .lg2 => if neg then bad else out (.inf false)
    | .tanh => out (.num neg (.ofNat 1))
  | .num neg m =>
    match k with
    | .rcp => Spec.nxOnOf (f.finish r false (Ex.div Ex.one (.num neg m)))
    | .rsq => if m.isZero then out (.inf neg) else if neg then bad else out (.num false (Mag.sqrt (Mag.div (.ofNat 1) m)))
    | .exp2 => if m.isZero then out .one else ((exp2Of f r neg m).map Spec.nxOnOf).getD (k.open_ f r bits)
    | .lg2 => if m.isZero then out (.inf true) else if neg then bad else (log2Of f r m).getD (k.open_ f r bits)
    | .tanh => if m.isZero then out (.num neg .zero) else (tanhOf f r neg m).getD (k.open_ f r bits)

end Sys2Proof.Machine
end

