-- ==== Sys2Proof/Machine/Vector.lean ====
section
/-! DEFINITION. The meanings of the V class (R185 to R221). -/

namespace Sys2Proof.Machine

/-! ## Elements (R9, R186) -/

/-- The effective element type: t5 is read as z8 (R187). -/
def tyOf (ty : BitVec 4) : Nat := if ty = 11 then 10 else ty.toNat
def isFloat (t : Nat) : Bool := t < 5
def fmtOf (t : Nat) : Fmt :=
  match t with
  | 0 => .f32 | 1 => .bf16 | 2 => .f16 | 3 => .e4m3 | _ => .e5m2
def elemBits (t : Nat) : Nat :=
  match t with
  | 0 => 32 | 5 => 32 | 8 => 32
  | 1 => 16 | 2 => 16 | 6 => 16 | 9 => 16
  | _ => 8
def elemSigned (t : Nat) : Bool := 5 ≤ t && t < 8
def elemBytes (t : Nat) : Nat := elemBits t / 8

/-- The low bits that are a lane's element. -/
def elem (t : Nat) (x : W32) : Nat := x.toNat % 2 ^ elemBits t
/-- The element as an integer, or as an exact value. -/
def intElem (t : Nat) (x : W32) : Int := lowOf (elemBits t) (elemSigned t) (elem t x)
def exElem (t : Nat) (x : W32) : Ex := (fmtOf t).value (elem t x)

/-- A lane's result: its bits and the flags it raises. -/
abbrev Lane := W32 × Flags8

/-- An integer result: wrapped, or under SAT clamped (R192). -/
def intLane (t : Nat) (sat : Bool) (y : Int) : Lane :=
  if sat then
    match clampInt (elemBits t) (elemSigned t) y with
    | (z, g) => (placeLane t (lowNat (elemBits t) z), g)
  else (placeLane t (lowNat (elemBits t) y), 0)
/-- A float result, rounded once. -/
def floatLane (t : Nat) (r : Rnd) (x : Ex × Flags8) : Lane :=
  match (fmtOf t).finish r false x with
  | (b, g) => (placeLane t b, g)

/-! ## Operands and results -/

/-- Warnings of a V instruction (R137, R187, R188), in the order of their codes. -/
def State.vwarn (s : State) (f : VF) (rounds satOk t5 : Bool) : State :=
  ((s.warnIf (f.sat && isFloat f.ty.toNat && !satOk) 0x10).warnIf (f.rnd != 0 && !rounds) 0x11).warnIf (f.ty == 11 && !t5) 0x12

/-- It rounds a floating-point result by RND (R188). -/
def vRounds (f : VF) : Bool := isFloat (tyOf f.ty)
def vMode (f : VF) : Rnd := Rnd.ofCode f.rnd.toNat

/-- Lane i of a V source in group g. -/
def State.lane (s : State) (n : BitVec 5) (g i : Nat) : W32 := s.rc.readV g n.toNat i
/-- VBOperand (R187): the literal, lane 0 of VB, or the lane of VB. -/
def State.vb (s : State) (f : VF) (lit : Option W32) (g i : Nat) : W32 :=
  match lit with
  | some x => x
  | none => if f.bsrc then s.lane f.vb g 0 else s.lane f.vb g i

/-- The lanes of a group that VM enables (R53). -/
def State.written (s : State) (vm : BitVec 3) (g : Nat) : List Nat :=
  (List.range 16).filter (fun i => (s.rc.readVm g vm.toNat).getLsbD i)

def orFlags (l : List Flags8) : Flags8 := l.foldl (fun a b => a ||| b) 0

/-- Each executing group's written lanes take fn's results (R53, R185). -/
def vmap (e : Eng) (lat : Nat) (f : VF) (fn : Nat → Nat → Lane) (s : State) : State :=
  (groupsOf f.gmask).foldl (fun t g =>
    let l := (s.written f.vm g).map (fun i => (i, fn g i))
    if l.isEmpty then t
    else t.post e lat (.v g f.vd.toNat (l.map (fun p => (p.1, p.2.1)))) (orFlags (l.map (fun p => p.2.2)))) s

/-! ## Arithmetic (R192 to R194) -/

/-- VADD, VSUB, VMUL, VFMA, VMIN, VMAX. -/
inductive VArith where
  | add | sub | mul | fma | min | max
deriving DecidableEq, Repr

def VArith.int (o : VArith) (a b c : Int) : Int :=
  match o with
  | .add => a + b | .sub => a - b | .mul => a * b | .fma => a * b + c
  | .min => if a ≤ b then a else b
  | .max => if a ≤ b then b else a
def VArith.float (o : VArith) (r : Rnd) (a b c : Ex) : Ex × Flags8 :=
  match o with
  | .add => Ex.add r a b | .sub => Ex.add r a b.negate | .mul => Ex.mul a b | .fma => Ex.fma r a b c
  | .min => (Ex.min a b, 0) | .max => (Ex.max a b, 0)
def VArith.selects : VArith → Bool
  | .min => true
  | .max => true
  | _ => false
def VArith.latency : VArith → Nat
  | .fma => 4
  | _ => 2

def varith (o : VArith) (f : VF) (lit : Option W32) (s : State) : State :=
  let t := tyOf f.ty
  let rounds := vRounds f && !o.selects
  let r := if rounds then vMode f else .rne
  vmap .vec o.latency f (fun g i =>
    let a := s.lane f.va g i
    let b := s.vb f lit g i
    let c := s.lane f.vc g i
    if isFloat t then floatLane t r (o.float r (exElem t a) (exElem t b) (exElem t c))
    else intLane t (f.sat && !o.selects) (o.int (intElem t a) (intElem t b) (intElem t c))) (s.vwarn f rounds false false)

def execVadd (h : Hdr) (f : VF) (s : State) : Out := run (.vadd h f) s (varith .add f none)
def execVaddL (h : Hdr) (f : VF) (lit : W32) (s : State) : Out := run (.vaddL h f lit) s (varith .add f (some lit))
def execVsub (h : Hdr) (f : VF) (s : State) : Out := run (.vsub h f) s (varith .sub f none)
def execVsubL (h : Hdr) (f : VF) (lit : W32) (s : State) : Out := run (.vsubL h f lit) s (varith .sub f (some lit))
def execVmul (h : Hdr) (f : VF) (s : State) : Out := run (.vmul h f) s (varith .mul f none)
def execVmulL (h : Hdr) (f : VF) (lit : W32) (s : State) : Out := run (.vmulL h f lit) s (varith .mul f (some lit))
def execVfma (h : Hdr) (f : VF) (s : State) : Out := run (.vfma h f) s (varith .fma f none)
def execVfmaL (h : Hdr) (f : VF) (lit : W32) (s : State) : Out := run (.vfmaL h f lit) s (varith .fma f (some lit))
def execVmin (h : Hdr) (f : VF) (s : State) : Out := run (.vmin h f) s (varith .min f none)
def execVminL (h : Hdr) (f : VF) (lit : W32) (s : State) : Out := run (.vminL h f lit) s (varith .min f (some lit))
def execVmax (h : Hdr) (f : VF) (s : State) : Out := run (.vmax h f) s (varith .max f none)
def execVmaxL (h : Hdr) (f : VF) (lit : W32) (s : State) : Out := run (.vmaxL h f lit) s (varith .max f (some lit))

/-- VABS and VNEG (R194): on a float only the sign bit changes. -/
def vsign (neg : Bool) (f : VF) (s : State) : State :=
  let t := tyOf f.ty
  vmap .vec 2 f (fun g i =>
    let a := s.lane f.va g i
    let top := 2 ^ (elemBits t - 1)
    if isFloat t then
      let low := elem t a % top
      (placeLane t (if neg then low + (if elem t a < top then top else 0) else low), 0)
    else intLane t f.sat (if neg then -(intElem t a) else ((intElem t a).natAbs : Int))) (s.vwarn f false false false)
def execVabs (h : Hdr) (f : VF) (s : State) : Out := run (.vabs h f) s (vsign false f)
def execVneg (h : Hdr) (f : VF) (s : State) : Out := run (.vneg h f) s (vsign true f)

/-! ## Logic, shifts and counts (R195, R196) -/

inductive VBits where
  | and | or | xor | shl | shr | sra
deriving DecidableEq, Repr

def VBits.apply (o : VBits) (t : Nat) (sat : Bool) (a b : W32) : Lane :=
  let w := elemBits t
  let x := elem t a
  let y := elem t b
  let n := y % w
  match o with
  | .and => (placeLane t (x &&& y), 0)
  | .or => (placeLane t (x ||| y), 0)
  | .xor => (placeLane t (x ^^^ y), 0)
  | .shl => intLane t sat (intElem t a * ((2 ^ n : Nat) : Int))
  | .shr => (placeLane t (x / 2 ^ n), 0)
  | .sra => (placeLane t (lowNat w (lowInt w x / ((2 ^ n : Nat) : Int))), 0)

def vbits (o : VBits) (f : VF) (lit : Option W32) (s : State) : State :=
  vmap .vec 2 f (fun g i => o.apply (tyOf f.ty) f.sat (s.lane f.va g i) (s.vb f lit g i)) (s.vwarn f false false false)

def execVand (h : Hdr) (f : VF) (s : State) : Out := run (.vand h f) s (vbits .and f none)
def execVandL (h : Hdr) (f : VF) (lit : W32) (s : State) : Out := run (.vandL h f lit) s (vbits .and f (some lit))
def execVor (h : Hdr) (f : VF) (s : State) : Out := run (.vor h f) s (vbits .or f none)
def execVorL (h : Hdr) (f : VF) (lit : W32) (s : State) : Out := run (.vorL h f lit) s (vbits .or f (some lit))
def execVxor (h : Hdr) (f : VF) (s : State) : Out := run (.vxor h f) s (vbits .xor f none)
def execVxorL (h : Hdr) (f : VF) (lit : W32) (s : State) : Out := run (.vxorL h f lit) s (vbits .xor f (some lit))
def execVshl (h : Hdr) (f : VF) (s : State) : Out := run (.vshl h f) s (vbits .shl f none)
def execVshlL (h : Hdr) (f : VF) (lit : W32) (s : State) : Out := run (.vshlL h f lit) s (vbits .shl f (some lit))
def execVshr (h : Hdr) (f : VF) (s : State) : Out := run (.vshr h f) s (vbits .shr f none)
def execVshrL (h : Hdr) (f : VF) (lit : W32) (s : State) : Out := run (.vshrL h f lit) s (vbits .shr f (some lit))
def execVsra (h : Hdr) (f : VF) (s : State) : Out := run (.vsra h f) s (vbits .sra f none)
def execVsraL (h : Hdr) (f : VF) (lit : W32) (s : State) : Out := run (.vsraL h f lit) s (vbits .sra f (some lit))

/-- VPOPC and VCLZ (R196). -/
def vcount (o : Count) (f : VF) (s : State) : State :=
  let t := tyOf f.ty
  vmap .vec 2 f (fun g i => (placeLane t (o.apply (elemBits t) (elem t (s.lane f.va g i))), 0)) (s.vwarn f false false false)
def execVpopc (h : Hdr) (f : VF) (s : State) : Out := run (.vpopc h f) s (vcount .popc f)
def execVclz (h : Hdr) (f : VF) (s : State) : Out := run (.vclz h f) s (vcount .clz f)

/-! ## Compares, selects, masks, moves (R197 to R199) -/

/-- An integer comparison by its condition code (R125, R155). -/
def intCond (c : Nat) (a b : Int) : Bool :=
  match c with
  | 0 => a == b | 1 => a != b | 2 => a < b | 3 => a ≤ b | 4 => b < a | _ => b ≤ a

/-- A result for vm_n of a group: vm0 takes none (R52, R197). -/
def vmWrite (g n : Nat) (mask x : BitVec 16) : Wr := if n = 0 then .none else .vm g n mask x

/-- VCMP: bit i of vm_D of each executing group. -/
def vcmp (f : VF) (lit : Option W32) (s : State) : State :=
  let t := tyOf f.ty
  let c := f.mod6.toNat
  (groupsOf f.gmask).foldl (fun u g =>
    let l := (s.written f.vm g).map (fun i =>
      let a := s.lane f.va g i
      let b := s.vb f lit g i
      let y : Bool × Flags8 := if isFloat t then Ex.cond c (exElem t a) (exElem t b) else (intCond c (intElem t a) (intElem t b), 0)
      (i, y))
    let bits := fun (p : Nat × Bool × Flags8 → Bool) => BitVec.ofNat 16 ((l.filter p).foldl (fun n e => n + 2 ^ e.1) 0)
    if l.isEmpty then u
    else u.post .vec 2 (vmWrite g (f.vd.toNat % 8) (bits (fun _ => true)) (bits (fun e => e.2.1))) (orFlags (l.map (fun e => e.2.2))))
    (s.vwarn f false false false)
def execVcmp (h : Hdr) (f : VF) (s : State) : Out := run (.vcmp h f) s (vcmp f none)
def execVcmpL (h : Hdr) (f : VF) (lit : W32) (s : State) : Out := run (.vcmpL h f lit) s (vcmp f (some lit))

/-- VSEL. -/
def vsel (f : VF) (lit : Option W32) (s : State) : State :=
  let t := tyOf f.ty
  vmap .vec 2 f (fun g i =>
    (placeLane t (elem t (if (s.rc.readVm g (f.vc.toNat % 8)).getLsbD i then s.lane f.va g i else s.vb f lit g i)), 0))
    (s.vwarn f false false false)
def execVsel (h : Hdr) (f : VF) (s : State) : Out := run (.vsel h f) s (vsel f none)
def execVselL (h : Hdr) (f : VF) (lit : W32) (s : State) : Out := run (.vselL h f lit) s (vsel f (some lit))

/-- VMLOG (R198): every lane of each executing group. -/
def vmlog (f : VF) (s : State) : State :=
  (groupsOf f.gmask).foldl (fun u g =>
    let a := s.rc.readVm g (f.va.toNat % 8)
    let b := s.rc.readVm g (f.vb.toNat % 8)
    let x := (List.range 16).foldl (fun n i =>
      if f.mod6.getLsbD (2 * (a.getLsbD i).toNat + (b.getLsbD i).toNat) then n + 2 ^ i else n) 0
    u.post .vec 2 (vmWrite g (f.vd.toNat % 8) 0xFFFF (BitVec.ofNat 16 x))) (s.vwarn f false false false)
def execVmlog (h : Hdr) (f : VF) (s : State) : Out := run (.vmlog h f) s (vmlog f)

def execVmov (h : Hdr) (f : VF) (s : State) : Out :=
  run (.vmov h f) s (fun s =>
    vmap .vec 2 f (fun g i => (placeLane (tyOf f.ty) (elem (tyOf f.ty) (s.lane f.va g i)), 0)) (s.vwarn f false false false))
def execVli (h : Hdr) (f : VF) (lit : W32) (s : State) : Out :=
  run (.vli h f lit) s (fun s =>
    vmap .vec 2 f (fun _ _ => (placeLane (tyOf f.ty) (elem (tyOf f.ty) lit), 0)) (s.vwarn f false false false))

/-! ## Conversions and special functions (R200, R201) -/

/-- VCVT of one element from type u to type t. -/
def convert (u t : Nat) (r : Rnd) (sat : Bool) (x : W32) : Lane :=
  let out := fun (y : Nat × Flags8) => ((placeLane t y.1, y.2) : Lane)
  if isFloat u && isFloat t then
    if u = t then out (if (exElem u x).isNaN then (fmtOf t).canonNaN else elem u x, 0)
    else out ((fmtOf t).round r (sat && t != 0) (exElem u x))
  else if isFloat u then
    match Ex.toInt r (elemBits t) (elemSigned t) (exElem u x) with
    | (y, g) => (placeLane t (lowNat (elemBits t) y), g)
  else if isFloat t then out ((fmtOf t).round r (sat && t != 0) (Ex.ofInt (intElem u x)))
  else intLane t sat (intElem u x)

/-- VCVT (R200): RND acts on every conversion that rounds (DEDUCED, log 26). -/
def vcvt (f : VF) (s : State) : State :=
  let t := tyOf f.ty
  let u := f.mod6.toNat % 16
  vmap .vec 3 f (fun g i => convert u t (vMode f) f.sat (s.lane f.va g i)) (s.vwarn f (isFloat t || isFloat u) true false)
def execVcvt (h : Hdr) (f : VF) (s : State) : Out := run (.vcvt h f) s (vcvt f)

def vspec (k : Spec) (f : VF) (s : State) : State :=
  let t := tyOf f.ty
  vmap .vec 8 f (fun g i =>
    match k.apply (fmtOf t) (vMode f) (elem t (s.lane f.va g i)) with
    | (b, x) => (placeLane t b, x)) (s.vwarn f (vRounds f) false false)
def execVrcp (h : Hdr) (f : VF) (s : State) : Out := run (.vrcp h f) s (vspec .rcp f)
def execVrsq (h : Hdr) (f : VF) (s : State) : Out := run (.vrsq h f) s (vspec .rsq f)
def execVexp2 (h : Hdr) (f : VF) (s : State) : Out := run (.vexp2 h f) s (vspec .exp2 f)
def execVlg2 (h : Hdr) (f : VF) (s : State) : Out := run (.vlg2 h f) s (vspec .lg2 f)
def execVtanh (h : Hdr) (f : VF) (s : State) : Out := run (.vtanh h f) s (vspec .tanh f)

/-! ## VDOT4 (R202) -/

def byteAt (x : W32) (j : Nat) : W32 := (x.extractLsb' (8 * j) 8).setWidth 32

def dot4 (t : Nat) (sat : Bool) (a b c : W32) : Lane :=
  let x := [0, 1, 2, 3].foldl (fun n j => n + intElem t (byteAt a j) * intElem t (byteAt b j)) (lowOf 32 (elemSigned t) c.toNat)
  intLane (if elemSigned t then 5 else 8) sat x
def vdot4 (f : VF) (lit : Option W32) (s : State) : State :=
  vmap .vec 4 f (fun g i => dot4 (tyOf f.ty) f.sat (s.lane f.va g i) (s.vb f lit g i) (s.lane f.vc g i)) (s.vwarn f false false false)
def execVdot4 (h : Hdr) (f : VF) (s : State) : Out := run (.vdot4 h f) s (vdot4 f none)
def execVdot4L (h : Hdr) (f : VF) (lit : W32) (s : State) : Out := run (.vdot4L h f lit) s (vdot4 f (some lit))

/-! ## Moving data between lanes (R203, R204) -/

def execVshuf (h : Hdr) (f : VF) (s : State) : Out :=
  run (.vshuf h f) s (fun s =>
    vmap .vec 2 f (fun g i => (s.lane f.va g ((s.lane f.vb g i).toNat % 16), 0)) (s.vwarn f false false false))
def execVbcst (h : Hdr) (f : VF) (s : State) : Out :=
  run (.vbcst h f) s (fun s => vmap .vec 2 f (fun g _ => (s.lane f.va g (f.mod6.toNat % 16), 0)) (s.vwarn f false false false))
def execVxg (h : Hdr) (f : VF) (s : State) : Out :=
  run (.vxg h f) s (fun s => vmap .vec 4 f (fun _ i => (s.lane f.va (f.mod6.toNat % 8) i, 0)) (s.vwarn f false false false))

/-! ## Reductions and scans (R205, R206) -/

/-- The exact sum of values in order; infinities of both signs give NaN with NV where no operand is a NaN. -/
def sumEx (r : Rnd) (l : List Ex) : Ex × Flags8 :=
  if l.any Ex.isNaN then (.nan, 0)
  else
    match l with
    | [] => (.zero, 0)
    | x :: t =>
      if t.any Ex.isInf || x.isInf then
        t.foldl (fun (a : Ex × Flags8) y => match Ex.add r a.1 y with | (z, g) => (z, a.2 ||| g)) (x, 0)
      else
        -- finite: the sum of the positive and the negative magnitudes; zeros of one sign keep it
        let same := t.all (fun y => y.neg == x.neg)
        let part := fun (n : Bool) => (x :: t).foldl (fun m y => match y with | .num k q => if k == n then m.add q else m | _ => m) Mag.zero
        if same then (.num x.neg (part x.neg), 0) else Ex.add r (.num false (part false)) (.num true (part true))

/-- The sum of a list of lanes as VRADD writes it. -/
def sumLane (t : Nat) (r : Rnd) (sat : Bool) (l : List W32) : Lane :=
  if isFloat t then floatLane t r (sumEx r (l.map (exElem t)))
  else intLane t sat (l.foldl (fun n x => n + intElem t x) 0)

/-- The greatest or the least of a list of lanes, with the empty list's value. -/
def pickLane (o : VArith) (t : Nat) (l : List W32) : Lane :=
  match l with
  | [] =>
    if isFloat t then floatLane t .rne (.inf (o == .max), 0)
    else (placeLane t (lowNat (elemBits t) (if o == .max then intLo (elemBits t) (elemSigned t) else intHi (elemBits t) (elemSigned t))), 0)
  | x :: u =>
    if isFloat t then floatLane t .rne (u.foldl (fun m y => (o.float .rne m (exElem t y) .zero).1) (exElem t x), 0)
    else (placeLane t (lowNat (elemBits t) (u.foldl (fun m y => o.int m (intElem t y) 0) (intElem t x))), 0)

/-- The spans (R205): each executing group alone, or all of them. -/
def vSpans (f : VF) : List (List Nat) :=
  if f.mod6.getLsbD 0 then [groupsOf f.gmask] else (groupsOf f.gmask).map (fun g => [g])

/-- The participating lanes of a span in ascending L, as (group, lane). -/
def State.lanesOf (s : State) (vm : BitVec 3) (span : List Nat) : List (Nat × Nat) :=
  span.flatMap (fun g => (s.written vm g).map (fun i => (g, i)))

/-- A reduction: one result for each span, written to every written lane of it; its flags are raised once, with the span's
first written group. -/
def vreduce (f : VF) (rounds : Bool) (fn : List W32 → Lane) (s : State) : State :=
  (vSpans f).foldl (fun u span =>
    let l := s.lanesOf f.vm span
    let y := fn (l.map (fun p => s.lane f.va p.1 p.2))
    span.foldl (fun u g =>
      let w := s.written f.vm g
      if w.isEmpty then u else u.post .vec 4 (.v g f.vd.toNat (w.map (fun i => (i, y.1)))) y.2) u) (s.vwarn f rounds false false)

def execVradd (h : Hdr) (f : VF) (s : State) : Out :=
  run (.vradd h f) s (fun s => vreduce f (vRounds f) (sumLane (tyOf f.ty) (vMode f) f.sat) s)
def execVrmax (h : Hdr) (f : VF) (s : State) : Out := run (.vrmax h f) s (vreduce f false (pickLane .max (tyOf f.ty)))
def execVrmin (h : Hdr) (f : VF) (s : State) : Out := run (.vrmin h f) s (vreduce f false (pickLane .min (tyOf f.ty)))

/-- VSCAN (R206). -/
def vscan (f : VF) (s : State) : State :=
  let t := tyOf f.ty
  let excl := f.mod6.getLsbD 1
  (vSpans f).foldl (fun u span =>
    let l := s.lanesOf f.vm span
    let xs := l.map (fun p => s.lane f.va p.1 p.2)
    let ys := (List.range l.length).map (fun k => sumLane t (vMode f) f.sat (xs.take (if excl then k else k + 1)))
    span.foldl (fun u g =>
      let mine := (l.zip ys).filter (fun p => p.1.1 == g)
      if mine.isEmpty then u
      else u.post .vec 4 (.v g f.vd.toNat (mine.map (fun p => (p.1.2, p.2.1)))) (orFlags (mine.map (fun p => p.2.2)))) u)
    (s.vwarn f (vRounds f) false false)
def execVscan (h : Hdr) (f : VF) (s : State) : Out := run (.vscan h f) s (vscan f)

/-! ## Streams (R207 to R212) -/

/-- The element count T of a stream (R208). -/
def Stream.total (t : Stream) : Nat :=
  if t.count0 = 0 then 2 ^ 48 else t.count0.toNat * Nat.max t.count1.toNat 1 * Nat.max t.count2.toNat 1

/-- The address of stream element e, in 64 bits (R207). -/
def Stream.addrOf (t : Stream) (e : Nat) : W64 :=
  let size := elemBytes t.format.toNat
  if t.count0 = 0 then BitVec.ofNat 64 (t.base.toNat + e % 2 ^ 48 * size)
  else
    let c0 := t.count0.toNat
    let c1 := Nat.max t.count1.toNat 1
    let k := e % t.total
    BitVec.ofInt 64 ((t.base.toNat : Int) + (k % c0 : Nat) * t.stride0.toInt + (k / c0 % c1 : Nat) * t.stride1.toInt +
      (k / (c0 * c1) : Nat) * t.stride2.toInt)

/-- One element's place: bytes to reach, none held there, or not to be reached. -/
inductive Spot where
  | ok (p : Piece)
  | empty
  | hold (h : Hold)
  | trap (t : Trap)
deriving DecidableEq, Repr

/-- An address of a stream's space (R105, R107, R207): n bytes, for lane L. -/
def State.spot (s : State) (t : Stream) (a : Acc) (va : W64) (n lane : Nat) : Spot :=
  match t.space.toNat with
  | 0 => .ok { spPiece (s.ownAddrs va.toNat n) with lane := lane }
  | 1 =>
    match s.selAddrs (sibling s.cur.core (va.toNat / 2 ^ 19)) (va.toNat % 2 ^ 19) n with
    | some l => .ok { spPiece l with lane := lane }
    | none => .empty
  | k =>
    match s.global a (a == .atomic) (k == 2) va n false with
    | .ok p => .ok { p with lane := lane }
    | .hold h => .hold h
    | .trap x => .trap { x with lane := some (BitVec.ofNat 7 lane) }

/-- The pieces of lanes in ascending L, an absent allocation's with no bytes; or the first hold or trap (R212). -/
def collect : List (Nat × Spot) → Except (Sum Hold Trap) (List Piece × Bool)
  | [] => .ok ([], false)
  | (_, .ok p) :: t => match collect t with | .ok (ps, w) => .ok (p :: ps, w) | .error e => .error e
  | (l, .empty) :: t => match collect t with | .ok (ps, _) => .ok ({ addr := [], lane := l } :: ps, true) | .error e => .error e
  | (_, .hold h) :: _ => .error (.inl h)
  | (_, .trap x) :: _ => .error (.inr x)

/-- Reach every lane's element, or stop as R212 gives. -/
def State.reach (s : State) (l : List (Nat × Spot)) (f : List Piece → Bool → State) : State :=
  match collect l with
  | .ok (ps, w) => f ps w
  | .error (.inl h) => s.hold h
  | .error (.inr x) => s.trap x

/-- The warnings of a stream instruction, in the order of their codes. -/
def State.swarn (s : State) (f : VF) (vm absent : Bool) : State :=
  ((s.vwarn f false false false).warnIf (vm && f.vm != 0) 0x13).warnIf absent 0x17

/-- The lanes a VSLD or VSST covers, L with the number of its element after CURSOR. -/
def vPositions (f : VF) : List (Nat × Nat) :=
  ((groupsOf f.gmask).zip (List.range 8)).flatMap (fun p => (List.range 16).map (fun i => (16 * p.1 + i, 16 * p.2 + i)))

/-- CURSOR advances past a VSLD or VSST (R208). -/
def State.advance (s : State) (f : VF) : State :=
  let t := s.stream f.va
  s.setStream f.va { t with cursor := BitVec.ofNat 48 ((t.cursor.toNat + 16 * (groupsOf f.gmask).length) % t.total) }

/-- The registers of a vector destination wait for the request posted next. -/
def State.awaitV (s : State) (f : VF) : State := (groupsOf f.gmask).foldl (fun s g => s.await (.v g f.vd.toNat)) s

/-- VSLD (R208). -/
def vsld (f : VF) (s : State) : State :=
  let t := s.stream f.va
  let fmt := t.format.toNat
  let n := elemBytes fmt
  let spots := (vPositions f).map (fun p => (p.1, s.spot t .load (t.addrOf (t.cursor.toNat + p.2)) n p.1))
  s.reach spots (fun ps absent =>
    let warned := fun (s : State) => (s.swarn f true absent).advance f
    if t.space = 0 then
      match s.ownRead .vs (ps.flatMap (fun p => p.addr)) with
      | none => s.hold
      | some (u, bytes) =>
        (groupsOf f.gmask).zip (List.range 8) |>.foldl (fun u p =>
          u.post .vec 6 (.v p.1 f.vd.toNat ((List.range 16).map (fun i =>
            (i, placeLane fmt (ofLe ((bytes.drop ((16 * p.2 + i) * n)).take n))))))) (warned u)
    else ((warned s).awaitV f).postReq .vs .load ps (.v f.vd.toNat fmt))
def execVsld (h : Hdr) (f : VF) (s : State) : Out := run (.vsld h f) s (vsld f)

/-- A lane that VM enables, by L. -/
def State.laneOn (s : State) (f : VF) (l : Nat) : Bool := (s.rc.readVm (l / 16) f.vm.toNat).getLsbD (l % 16)
/-- The enabled lanes of GMASK, ascending. -/
def State.onLanes (s : State) (f : VF) : List Nat := (s.lanesOf f.vm (groupsOf f.gmask)).map (fun p => 16 * p.1 + p.2)
/-- The lane L of a V source. -/
def State.laneL (s : State) (n : BitVec 5) (l : Nat) : W32 := s.lane n (l / 16) (l % 16)

/-- Post a store's pieces, each with its lane's element; those of an absent allocation write nothing. -/
def postStores (n : BitVec 5) (ps : List Piece) (s : State) : State :=
  let real := (ps.filter (fun p => !p.addr.isEmpty)).map (fun p => { p with data := (s.laneL n p.lane).setWidth 64 })
  if real.isEmpty then s else s.postReq .vs .store real

/-- VSST (R209). -/
def vsst (f : VF) (s : State) : State :=
  let t := s.stream f.va
  let spots := ((vPositions f).filter (fun p => s.laneOn f p.1)).map (fun p =>
    (p.1, s.spot t .store (t.addrOf (t.cursor.toNat + p.2)) (elemBytes t.format.toNat) p.1))
  s.reach spots (fun ps absent => postStores f.vb ps ((s.swarn f false absent).advance f))
def execVsst (h : Hdr) (f : VF) (s : State) : Out := run (.vsst h f) s (vsst f)

/-- The gather address of a lane (R210). -/
def State.gatherAddr (s : State) (t : Stream) (n : BitVec 5) (l : Nat) : W64 :=
  t.base.setWidth 64 + (s.laneL n l).signExtend 64

/-- VGLD (R210): always scoreboarded. -/
def vgld (f : VF) (s : State) : State :=
  let t := s.stream f.va
  let spots := (s.onLanes f).map (fun l => (l, s.spot t .load (s.gatherAddr t f.vb l) (elemBytes t.format.toNat) l))
  s.reach spots (fun ps absent => ((s.swarn f false absent).awaitV f).postReq .vs .load ps (.v f.vd.toNat t.format.toNat))
def execVgld (h : Hdr) (f : VF) (s : State) : Out := run (.vgld h f) s (vgld f)

/-- VSCT (R210): applied in ascending L. -/
def vsct (f : VF) (s : State) : State :=
  let t := s.stream f.va
  let spots := (s.onLanes f).map (fun l => (l, s.spot t .store (s.gatherAddr t f.vb l) (elemBytes t.format.toNat) l))
  s.reach spots (fun ps absent => postStores f.vc ps (s.swarn f false absent))
def execVsct (h : Hdr) (f : VF) (s : State) : Out := run (.vsct h f) s (vsct f)

/-- VSAMO (R211). -/
def vsamo (f : VF) (s : State) : State :=
  let t := s.stream f.va
  let op := f.mod6.toNat % 16
  let size := elemBytes t.format.toNat
  let n := if op = 9 then 4 else size
  let spots := (s.onLanes f).map (fun l => (l, s.spot t .atomic (s.gatherAddr t f.vb l) n l))
  s.reach spots (fun ps absent =>
    let ps := ps.map (fun p => { p with data := (s.laneL f.vc p.lane).setWidth 64 })
    let u := ((s.vwarn f false false false).warnIf (op == 9 && size != 4) 0x15).warnIf absent 0x17
    if f.mod6.getLsbD 4 then (u.awaitV f).postReq .vs (.amo op) ps (.v f.vd.toNat t.format.toNat)
    else
      let real := ps.filter (fun p => !p.addr.isEmpty)
      if real.isEmpty then u else u.postReq .vs (.amo op) real)
def execVsamo (h : Hdr) (f : VF) (s : State) : Out := run (.vsamo h f) s (vsamo f)

/-! ## The quantisation pipeline (R97, R213 to R216) -/

/-- VAMAX (R214). -/
def vamax (f : VF) (s : State) : State :=
  let l := (s.lanesOf f.vm (groupsOf f.gmask)).map (fun p => exElem 0 (s.lane f.va p.1 p.2))
  let q : Nat := if tyOf f.ty = 3 then 448 else 57344
  let nan := l.any Ex.isNaN
  let m := l.foldl (fun m x => Ex.max m x.abs) Ex.zero
  let x : W32 := if nan then 0x7FC00000 else (f32 (Ex.div m (Ex.ofInt q))).1
  (groupsOf f.gmask).foldl (fun u g => u.post .vec 3 (.sb g (f.mod6.toNat % 2) x) (if nan then fSCALENAN else 0)) (s.vwarn f false false false)
def execVamax (h : Hdr) (f : VF) (s : State) : Out := run (.vamax h f) s (vamax f)

/-- An element quantised by a scale (R97). -/
def quantiseBy (f : Fmt) (x s : Ex) : Nat × Flags8 :=
  if s.isNaN then (f.canonNaN, fSCALENAN)
  else if s.isZero then (0, 0)
  else f.finish .rne true (Ex.div x s)

/-- VQCVT (R215). -/
def vqcvt (f : VF) (s : State) : State :=
  let t := tyOf f.ty
  vmap .vec 3 f (fun g i =>
    match quantiseBy (fmtOf t) (exElem 0 (s.lane f.va g i)) (f32Val (s.rc.sb.get 0 (g * 2 + (f.mod6.toNat + 1) % 2))) with
    | (b, x) => (placeLane t b, x)) (s.vwarn f false true false)
def execVqcvt (h : Hdr) (f : VF) (s : State) : Out := run (.vqcvt h f) s (vqcvt f)

/-- VDQ (R216). -/
def dequantise (t : Nat) (q s : W32) : Lane :=
  let x := f32Val s
  let y := if isFloat t then exElem t q else Ex.ofInt (intElem t q)
  if x.isNaN then (0x7FC00000, fSCALENAN) else f32 (Ex.mul y x)
def vdq (f : VF) (lit : Option W32) (s : State) : State :=
  vmap .vec 3 f (fun g i => dequantise (tyOf f.ty) (s.lane f.va g i) (s.vb f lit g i)) (s.vwarn f false false false)
def execVdq (h : Hdr) (f : VF) (s : State) : Out := run (.vdq h f) s (vdq f none)
def execVdqL (h : Hdr) (f : VF) (lit : W32) (s : State) : Out := run (.vdqL h f lit) s (vdq f (some lit))

def execVsbr (h : Hdr) (f : VF) (s : State) : Out :=
  run (.vsbr h f) s (fun s =>
    vmap .vec 1 f (fun g _ => (s.rc.sb.get 0 (g * 2 + f.mod6.toNat % 2), 0)) (s.vwarn f false false false))

/-! ## Ternary, bit network, thresholds (R218 to R221) -/

/-- VUNP3 (R218): an illegal byte traps under TERN_TRAP, else decodes to 0 with TERN. -/
def vunp3 (f : VF) (s : State) : State :=
  let bad := (s.onLanes f).find? (fun l => 243 ≤ (s.laneL f.va l).toNat % 256)
  match (if s.rc.ternTrap then bad else none) with
  | some l => s.trap { cause := cUser, sub := 1, tval := (s.laneL f.va l).setWidth 64, lane := some (BitVec.ofNat 7 l) }
  | none =>
    vmap .vec 3 f (fun g i =>
      let b := (s.lane f.va g i).toNat % 256
      (BitVec.ofInt 32 (tritOf b (f.mod6.toNat % 8)), ternFlag b)) (s.vwarn f false false true)
def execVunp3 (h : Hdr) (f : VF) (s : State) : Out := run (.vunp3 h f) s (vunp3 f)

/-- VPACK3 (R219). -/
def pack3 (i : Nat) (v c : W32) : Lane :=
  let b0 := c.toNat % 256
  let b := if 242 < b0 then 0 else b0
  let old := b / 3 ^ i % 3
  let x := v.toInt
  (BitVec.ofNat 32 (b - old * 3 ^ i + tritDigit x * 3 ^ i), ternFlag b0 ||| (if 1 < x.natAbs then fSAT else 0))
def execVpack3 (h : Hdr) (f : VF) (s : State) : Out :=
  run (.vpack3 h f) s (fun s =>
    vmap .vec 3 f (fun g i => pack3 (f.mod6.toNat % 8) (s.lane f.va g i) (s.lane f.vc g i)) (s.vwarn f false true true))

/-- VBPERM (R220): the pattern applied to each pair of lanes. -/
def execVbperm (h : Hdr) (f : VF) (s : State) : Out :=
  run (.vbperm h f) s (fun s =>
    vmap .vec 2 f (fun g i =>
      let j := i / 2 * 2
      let u := s.lane f.va g (j + 1) ++ s.lane f.va g j ++ s.lane f.vb g (j + 1) ++ s.lane f.vb g j
      ((bperm (s.rc.pats.get 0 (f.mod6.toNat % 8)) u).extractLsb' (32 * (i % 2)) 32, 0)) (s.vwarn f false false false))

/-- VTHR (R221): rows 16 (g mod 4) + i, or the tile's. -/
def execVthr (h : Hdr) (f : VF) (s : State) : Out :=
  run (.vthr h f) s (fun s =>
    let t := s.rc.eng.tile (f.mod6.toNat % 8)
    vmap .matVec 6 f (fun g i => (if f.mod6.getLsbD 3 then t.threshold else t.rowThreshold (16 * (g % 4) + i), 0))
      (s.vwarn f false false false))

end Sys2Proof.Machine
end

