-- ==== Sys2Proof/Machine/Reach.lean ====
section
/-! DEFINITION. How the matrix engine, the copy engine and the fabric unit reach memory for a resident context (R105 to R107,
R118, R207, R237, R277): an access whole, or the fault that stops it. -/

namespace Sys2Proof.Machine

/-- One access: bytes; none, because the core named holds no allocation (R106); or a fault with the SUB of R330:
1 XLATE, 2 ACCESS, 3 ALIGN, 4 RACE, 5 uncorrectable error. -/
inductive Reached where
  | ok (p : Piece)
  | absent
  | fault (sub : BitVec 4) (va : VAddr)
deriving DecidableEq, Repr

/-- An access of n bytes at a virtual address of a resident context's space, as task code (R158, R207, R373). -/
def State.reachVa (s : State) (c : CoreId) (r : Slot) (a : Acc) (slice : Bool) (va : W64) (n : Nat) : Reached :=
  let rs := s.res c r
  let v : VAddr := va.setWidth 48
  if va.toNat % n ≠ 0 then .fault 3 v
  else
    match s.lookNow c rs.root va.toNat with
    | .hit pa pte =>
      if (s.denied rs.part false a slice pte pa).isSome then .fault 2 v
      else if s.hwError a pa then .fault 5 v
      else if (s.raceTrap rs c (a == .atomic) (pteRc pte) (span pa n)).isSome then .fault 4 v
      else .ok (ptePiece pte (span pa n) va)
    | _ => .fault 1 v

/-- An access of n bytes at an address of a stream's space. -/
def State.reachIn (s : State) (c : CoreId) (r : Slot) (t : Stream) (a : Acc) (va : W64) (n : Nat) : Reached :=
  let rs := s.res c r
  match t.space.toNat with
  | 0 => .ok (spPiece (spAddrs c rs.spBase rs.spSize va.toNat n))
  | 1 =>
    let d := sibling c (va.toNat / 2 ^ 19)
    if d = c then .ok (spPiece (spAddrs c rs.spBase rs.spSize (va.toNat % 2 ^ 19) n))
    else
      match s.allocOf d rs.task with
      | some e => .ok (spPiece (spAddrs d e.1 e.2 (va.toNat % 2 ^ 19) n))
      | none => .absent
  | k => s.reachVa c r a (k == 2) va n

/-- The lines of a piece may be reached by an engine of core c: on path MF one that the core has pinned, whoever waits for it;
else no pin, no lease of an L1, and no request before it in the line's FIFO (R111, R118, R258). The request of an engine, a transfer
or a dispatcher reaches the home in the turn in which it is served (DEDUCED, log 73). -/
def State.lineFree (s : State) (c : CoreId) (path : Path) (p : Piece) : Bool :=
  !p.cached || p.addr.all (fun a =>
    let h := s.homes.get {} (lineOf a)
    if h.pins.isEmpty then s.leaseOver h && (s.headOf h).isNone else h.pins.all (fun q => path == .mf && q.1 == c))

/-- The table lines of a walk may be reached now (R111, R118, R371). -/
def State.tablesFree (s : State) (root : BitVec 34) (va : Nat) : Bool :=
  (s.walkReads root va).all (fun a => s.lineFree 0 .ce (tablePiece a))
/-- An engine's access to a piece has its address walked: no TLB holds its translation (R374). -/
def State.walksFor (s : State) (c : CoreId) (r : Slot) (p : Piece) : Bool :=
  let root := (s.res c r).root
  let a := p.addr.headD 0
  !p.addr.isEmpty && !(p.va == 0 && inSp a) &&
  (match s.look c root p.va.toNat with
   | .miss => (match s.walk root p.va.toNat with | .leaf e l => leafPa e l p.va.toNat == a | .bad _ => false)
   | _ => false)
/-- An engine may reach a piece: its lines, and those of the tables that its walk reads. -/
def State.reachFree (s : State) (c : CoreId) (r : Slot) (path : Path) (p : Piece) : Bool :=
  s.lineFree c path p && (!s.walksFor c r p || s.tablesFree (s.res c r).root p.va.toNat)
/-- The walk for a piece leaves its table lines where the walker reaches them (R371). -/
def State.walkedFor (s : State) (c : CoreId) (r : Slot) (p : Piece) : State :=
  if s.walksFor c r p then s.walkHomes (s.res c r).root p.va.toNat else s

/-- What a read by an agent of a resident context does beside returning bytes: Patina's check, with the first part of an access of the
whole of it (R466), the lines' homes, replicas. The sectors recorded for the access so far are had, and come back with the new ones. -/
def State.agentReads (s : State) (c : CoreId) (r : Slot) (x : CtxId) (path : Path) (pc : VAddr) (had : List Nat) (ps : List Piece)
    (first : Bool := true) (all : List Piece := ps) : State × List Nat :=
  match s.logAccess c r x path false false pc had (if first then all else []) with
  | (s, l) =>
    let s := if path == .ce then s.modCore c (fun k => { k with moved := true }) else s
    (ps.foldl (fun s p => ((s.walkedFor c r p).moveHome c path p).noteReplica p) s, l)
def State.agentRead (s : State) (c : CoreId) (r : Slot) (x : CtxId) (path : Path) (pc : VAddr) (ps : List Piece) : State :=
  (s.agentReads c r x path pc [] ps).1

/-- A write by an agent of a resident context, performed at the homes of its places; the sectors as for a read. all are the places of
the whole access, which its first part checks together (R466). -/
def State.agentWrites (s : State) (c : CoreId) (r : Slot) (x : CtxId) (path : Path) (pc : VAddr) (had : List Nat)
    (l : List (Piece × List Byte)) (all : List Piece := l.map (fun e => e.1)) (first : Bool := true) : State × List Nat :=
  let q : Req := { serial := s.serial, core := c, slot := r, ctx := x, path := path, kind := .store, pieces := [], pc := pc }
  match s.logAccess c r x path false true pc had (if first then all else []) with
  | (s, k) => (l.foldl (fun s e => ((s.walkedFor c r e.1).recordStore q e.1 false).writeHome (e.1.addr.zip e.2)) s, k)
def State.agentWrite (s : State) (c : CoreId) (r : Slot) (x : CtxId) (path : Path) (pc : VAddr) (l : List (Piece × List Byte)) :
    State :=
  (s.agentWrites c r x path pc [] l).1

/-- A warning of a resident context at an address (R76, R137). -/
def State.warnAt (s : State) (c : CoreId) (r : Slot) (code : Nat) (pc : VAddr) : State := s.modRes c r (fun rs => rs.warn code pc)

end Sys2Proof.Machine
end

