-- ==== Sys2Proof/Machine/Engine.lean ====
section
/-! DEFINITION. The M class (R226 to R232) and the matrix engine: its commands, the micro-operations (R233 to R244) and its
faults (R250). A micro-operation acts for the resident context of `cur`, as the step at the engine's position. -/

namespace Sys2Proof.Machine

def State.eng (s : State) : Engine := s.rc.eng
def State.modEng (s : State) (f : Engine → Engine) : State := s.modRc (fun r => { r with eng := f r.eng })

/-- The engine is idle: no routine, no command (R230). -/
def Engine.idle (e : Engine) : Bool := e.call.isNone && e.queue.isEmpty

/-! ## Pins (R118, R238) -/

def Engine.bufs (e : Engine) : List Buf := [e.fa0, e.fa1, e.fb0, e.fb1].filterMap id

/-- The line's pin by a resident context is released. -/
def State.unpinLine (s : State) (c : CoreId) (r : Slot) (line : Nat) : State :=
  { s with homes := s.homes.mod {} line (fun h => h.unpin c r) }

/-- The pins of lines that no buffer of the engine needs any longer. -/
def State.unpinLines (s : State) (keep : List Nat) (lines : List Nat) : State :=
  (lines.filter (fun l => !keep.contains l)).foldl (fun s l => s.unpinLine s.cur.core s.cur.slot l) s

/-- Every pin of the core is released and the operand buffers are emptied (R232, R250). -/
def State.dropBuffers (s : State) : State :=
  ((s.unpin s.cur.core .a).unpin s.cur.core .b).modEng (fun e => { e with fa0 := none, fa1 := none, fb0 := none, fb1 := none })

/-! ## Issue (R223, R227, R230, R232) -/

/-- Put a command in the queue; the group stalls while it holds four, or while a fault's record is not yet delivered. -/
def enqueue (k : State → Cmd) (s : State) : State :=
  let e := s.eng
  if e.faulted || 4 ≤ e.queue.length then s.hold else s.modEng (fun e => { e with queue := e.queue ++ [k s] })

/-- The instruction of a command, where it stands and in its words (R453). -/
def State.source (s : State) (i : Instr) : Source :=
  { pc := s.cur.ipc, words := (encode i).getD 1 0 ++ (encode i).getD 0 0 }

/-- MCALL (R227): the parameters are captured at issue; an unbound entry traps ACCESS sub-cause 6. -/
def mcall (h : Hdr) (f : MF) (s : State) : State :=
  match s.eng.table.get none f.idx.toNat with
  | none => s.trap { cause := cAccess, sub := 6, tval := f.idx.setWidth 64 }
  | some _ => (enqueue (fun s => .call f.idx f.acc f.f s.rc.mp (s.source (.mcall h f)) s.serial) s).bump
def execMcall (h : Hdr) (f : MF) (s : State) : Out := run (.mcall h f) s (mcall h f)

/-- MMODE (R228). -/
def mmode (h : Hdr) (f : MF) (s : State) : State :=
  let ranked := f.mode == 1
  let k := f.k.toNat
  let k' := if !ranked then 0 else if k = 0 then 1 else Nat.min k 32
  let t := enqueue (fun s => .mode f.acc ranked k' (s.source (.mmode h f))) s
  if t.mark = .none then t.warnIf (ranked && k != k') 0x1B else t
def execMmode (h : Hdr) (f : MF) (s : State) : Out := run (.mmode h f) s (mmode h f)
def execMclr (h : Hdr) (f : MF) (s : State) : Out := run (.mclr h f) s (enqueue (fun s => .clr f.acc (s.source (.mclr h f))))
def execMmerge (h : Hdr) (f : MF) (s : State) : Out :=
  run (.mmerge h f) s (enqueue (fun s => .merge f.acc f.accb f.f (s.source (.mmerge h f))))

/-- MABORT (R232): a step is indivisible, so the routine has stopped when it issues. -/
def mabort (s : State) : State :=
  if s.eng.idle then s else (s.modEng (fun e => { e with queue := [], call := none, loops := [], stopped := false })).dropBuffers
def execMabort (h : Hdr) (f : MF) (s : State) : Out := run (.mabort h f) s mabort

/-! ## Routine images (R230, R231) -/

/-- A routine image as MPLD reads it. -/
structure Image where
  load : Nat
  offsets : List Nat
  words : List W32
deriving DecidableEq, Repr

/-- LENGTH, E and LOAD of the two header words; none where a bit that must be 0 is set or a count is out of range. -/
def imageHead (w0 w1 : W32) : Option (Nat × Nat × Nat) :=
  let len := (w0.extractLsb' 0 13).toNat
  let e := (w1.extractLsb' 0 6).toNat
  if w0.extractLsb' 28 4 ≠ 0 || w0.extractLsb' 13 3 ≠ 0 || w1.extractLsb' 6 26 ≠ 0 || len = 0 || 4096 < len || e = 0 then none
  else some (len, e, (w0.extractLsb' 16 12).toNat)

/-- A micro-operation as an image check reads it: its code and its fields (R129). -/
structure MicroOp where
  code : Nat
  f : UF
deriving DecidableEq, Repr

/-- The micro-operation of a word; none where it is ill-formed (check 2). -/
def microOp? (w : W32) : Option MicroOp :=
  let code := (fld w 0 6).toNat
  if fld w 6 2 == 0 && (unU w).okFor code then some ⟨code, unU w⟩ else none
def imageOps : List W32 → Option (List MicroOp)
  | [] => some []
  | w :: t =>
    match microOp? w, imageOps t with
    | some i, some l => some (i :: l)
    | _, _ => none

def uTloop : Nat := 9
def uTend : Nat := 10
def uTjmp : Nat := 11
def uTyld : Nat := 12
def uTret : Nat := 14

/-- The TLOOPs whose bodies hold each word, innermost first; a body runs from the word after its TLOOP to its TEND
(DEDUCED, log 29). None where the brackets do not nest, at most 4 deep (check 3). -/
def bodies : List MicroOp → Nat → List Nat → Option (List (List Nat))
  | [], _, open_ => if open_.isEmpty then some [] else none
  | i :: t, k, open_ =>
    if i.code = uTloop then
      if 4 ≤ open_.length then none else (bodies t (k + 1) (k :: open_)).map (fun l => open_ :: l)
    else if i.code = uTend then
      match open_ with
      | [] => none
      | _ :: up => (bodies t (k + 1) up).map (fun l => open_ :: l)
    else (bodies t (k + 1) open_).map (fun l => open_ :: l)

/-- A TYLD stands among the words from a to b. -/
def hasYield (ops : List MicroOp) (a b : Nat) : Bool := ((ops.drop a).take (b + 1 - a)).any (fun i => i.code = uTyld)

/-- The word of the TEND that closes the TLOOP at k. -/
def endOf (ops : List MicroOp) (bs : List (List Nat)) (k : Nat) : Nat :=
  ((List.range ops.length).find? (fun j => k < j && (match ops[j]? with | some i => i.code = uTend | none => false) &&
    (bs.getD j []).head? == some k)).getD 0

/-- Checks 4 and 5 at one word. -/
def wordOk (ops : List MicroOp) (bs : List (List Nat)) (k : Nat) (i : MicroOp) : Bool :=
  if i.code = uTjmp then
    let t : Int := (k : Int) + i.f.imm.toInt
    0 ≤ t && t < ops.length && bs.getD t.toNat [] == bs.getD k [] && (0 ≤ i.f.imm.toInt || hasYield ops t.toNat k)
  else if i.code = uTloop then hasYield ops (k + 1) (endOf ops bs k)
  else true

/-- Where a word may continue (R235). -/
def successors (ops : List MicroOp) (bs : List (List Nat)) (k : Nat) (i : MicroOp) : List Nat :=
  if i.code = uTret then []
  else if i.code = uTjmp then
    let t := ((k : Int) + i.f.imm.toInt).toNat
    if i.f.mb = 0 then [t] else [t, k + 1]
  else if i.code = uTloop then [k + 1, endOf ops bs k + 1]
  else if i.code = uTend then [k + 1, (bs.getD k []).headD 0 + 1]
  else [k + 1]

/-- The words reached from a list, with fuel for each word once. -/
def reachGo (ops : List MicroOp) (bs : List (List Nat)) : Nat → List Nat → List Nat → List Nat
  | 0, _, seen => seen
  | _, [], seen => seen
  | n + 1, k :: t, seen =>
    if seen.contains k then reachGo ops bs n t seen
    else
      match ops[k]? with
      | some i => reachGo ops bs n (successors ops bs k i ++ t) (k :: seen)
      | none => reachGo ops bs n t (k :: seen)

/-- Where the paths of checks 6 and 7 begin: the entries and the TYLDs. -/
def Image.starts (m : Image) (ops : List MicroOp) : List Nat :=
  m.offsets ++ ((ops.zip (List.range ops.length)).filter (fun p => p.1.code == uTyld)).map (fun p => p.2)

/-- The checks of R231 on an image for entry idx; check 6 refuses nothing that checks 1, 5 and 7 accept. -/
def Image.ok (m : Image) (idx : Nat) : Bool :=
  m.load + m.words.length ≤ 4096 && idx + m.offsets.length ≤ 1024 && m.offsets.all (fun o => o < m.words.length) &&
  (match imageOps m.words with
   | none => false
   | some ops =>
     match bodies ops 0 [] with
     | none => false
     | some bs =>
       (ops.zip (List.range ops.length)).all (fun p => wordOk ops bs p.2 p.1) &&
       (reachGo ops bs (4 * ops.length + (m.starts ops).length) (m.starts ops) []).all (fun k => k < ops.length))

/-- The 32-bit words of bytes. -/
def words32 (l : List Byte) : List W32 :=
  (List.range (l.length / 4)).map (fun i => BitVec.ofNat 32 (ofLe ((l.drop (4 * i)).take 4)))

/-- Load an image's words and bind its entries (R230). -/
def Engine.loadImage (e : Engine) (idx : Nat) (m : Image) : Engine :=
  { e with
    store := e.store.putAll 0 ((List.range m.words.length).zip m.words |>.map (fun p => (m.load + p.1, p.2)))
    table := e.table.putAll none ((List.range m.offsets.length).zip m.offsets |>.map
      (fun p => (idx + p.1, some (BitVec.ofNat 12 (m.load + p.2))))) }

def otherSlot : Slot → Slot
  | .a => .b
  | .b => .a
  | .out n => .out n

/-- The image reaches the store; the other resident context of the task loads it too while the two share one, and keeps the
old one as its own when it holds a routine position or a command (R222, R230). -/
def State.loadRoutine (s : State) (idx : Nat) (m : Image) : State :=
  let o := otherSlot s.cur.slot
  let other := (s.res s.cur.core o).eng
  let s := s.modEng (fun e => e.loadImage idx m)
  if !s.eng.shared then s
  else if other.idle then s.modRes s.cur.core o (fun r => { r with eng := r.eng.loadImage idx m })
  else (s.modEng (fun e => { e with shared := false })).modRes s.cur.core o (fun r => { r with eng := { r.eng with shared := false } })

/-- MPLD (R230): through path LS, once the engine is idle. -/
def mpld (f : MF) (word : W64) (s : State) : State :=
  let bad := s.trap { cause := cEncoding, tval := word }
  let o := (s.sreg f.sa).toNat
  if !s.eng.idle || s.eng.faulted then s.hold
  else
    match s.ownRead .ls (s.ownAddrs o 8) with
    | none => s.hold
    | some (s, h) =>
      match imageHead ((words32 h).getD 0 0) ((words32 h).getD 1 0) with
      | none => bad
      | some (len, e, load) =>
        match s.ownRead .ls (s.ownAddrs (o + 8) (4 * (e + len))) with
        | none => s.hold
        | some (s, b) =>
          let ws := words32 b
          let offs := ws.take e
          let m : Image := { load := load, offsets := offs.map (fun w => w.toNat), words := ws.drop e }
          if offs.any (fun w => 4096 ≤ w.toNat) || !m.ok f.idx.toNat then bad else s.loadRoutine f.idx.toNat m
def execMpld (h : Hdr) (f : MF) (s : State) : Out := run (.mpld h f) s (mpld f (Instr.mpld h f).firstWord)

/-! ## Commands (R223, R227 to R229) -/

/-- A fault of the engine (R250, R330): it stops, the queue is discarded, and its record waits for delivery. -/
def State.engFault (s : State) (code : Byte) (sub : BitVec 4) (stream : BitVec 4) (va : VAddr) (pc : VAddr) : State :=
  let e := s.eng
  let rec_ : AFault :=
    { stream := stream, step := if e.call.isSome then e.pos else 0, routine := (e.call.map (fun k => k.idx)).getD 0
      sub := sub, code := code, pc := pc, va := va }
  (s.modRc (fun r =>
    { r with faults := r.faults ++ [rec_]
             eng := { r.eng with queue := [], call := none, loops := [], faulted := true } })).dropBuffers

/-- Post a flag for the engine to the resident context (R31, R34). -/
def State.engPost (s : State) (f : BitVec 5) (pc : VAddr) : State :=
  s.postAt s.cur.core s.cur.slot f 1 pc

/-- Run the oldest command: none while a routine runs, or the engine has stopped for a save, a halt or a fault. -/
def State.command (s : State) (c : CoreId) (r : Slot) (f : Cmd → State → State) : State :=
  let u := { s with cur := { s.cur with core := c, slot := r, ctx := .primary } }
  let e := u.eng
  if e.call.isSome || e.stopped || e.faulted || u.rc.place != .here || (u.core c).halted then s
  else
    match e.queue with
    | [] => s
    | k :: t => { f k (u.modEng (fun e => { e with queue := t })) with cur := s.cur }

/-- MCALL_START (R227). -/
def mcallStart (k : Cmd) (s : State) : State :=
  match k with
  | .call idx acc f mp src serial =>
    s.modEng (fun e =>
      { e with call := some { idx := idx, acc := acc, f := f, mp := mp, pc := src.pc, serial := serial }, loops := []
               pos := (e.table.get none idx.toNat).getD 0, fa0 := none, fa1 := none, fb0 := none, fb1 := none
               rs := [], cs := [], x := none })
  | _ => s
/-- MMODE when its command runs (R228). -/
def mmodeRun (k : Cmd) (s : State) : State :=
  match k with
  | .mode acc ranked n _ => s.modEng (fun e => e.setTile acc.toNat { ranked := ranked, k := n })
  | _ => s
def mclrRun (k : Cmd) (s : State) : State :=
  match k with
  | .clr acc _ => s.modEng (fun e => e.setTile acc.toNat (e.tile acc.toNat).clear)
  | _ => s
/-- MMERGE when its command runs (R229). -/
def mmergeRun (k : Cmd) (s : State) : State :=
  match k with
  | .merge dst acc f src =>
    let e := s.eng
    let d := e.tile dst.toNat
    let t := e.tile acc.toNat
    if !d.ranked || !t.ranked then s.engFault 3 0 0 0 src.pc
    else (s.modEng (fun e => e.setTile dst.toNat (if dst = acc then d else d.mergeRows t.rows))).engPost f src.pc
  | _ => s

/-- The oldest command is of the kind an event runs. -/
def State.headIs (s : State) (c : CoreId) (r : Slot) (p : Cmd → Bool) : Bool :=
  match (s.res c r).eng.queue with
  | k :: _ => p k
  | [] => false

def execMcallStart (c : CoreId) (r : Slot) (s : State) : Out :=
  agent (if s.headIs c r (fun k => match k with | .call .. => true | _ => false) then s.command c r mcallStart else s)
def execMmodeExec (c : CoreId) (r : Slot) (s : State) : Out :=
  agent (if s.headIs c r (fun k => match k with | .mode .. => true | _ => false) then s.command c r mmodeRun else s)
def execMclrExec (c : CoreId) (r : Slot) (s : State) : Out :=
  agent (if s.headIs c r (fun k => match k with | .clr .. => true | _ => false) then s.command c r mclrRun else s)
def execMmergeExec (c : CoreId) (r : Slot) (s : State) : Out :=
  agent (if s.headIs c r (fun k => match k with | .merge .. => true | _ => false) then s.command c r mmergeRun else s)

/-! ## One step of a routine (R224) -/

/-- A micro-operation of the running routine: it moves to the next word unless it says otherwise. -/
def ustep (s : State) (body : Call → State → State) : Out :=
  let e := s.eng
  match e.call with
  | none => .next s
  | some k =>
    if e.stopped || e.faulted || (s.rc.place != .here && s.rc.place != .saving) then .next s
    else .next (body k (s.modEng (fun e => { e with pos := e.pos + 1, waits := false })))

/-- The state before the step, to wait in or to fault from. -/
def State.back (s : State) : State := s.modEng (fun e => { e with pos := e.pos - 1 })
/-- The step waits for memory, a pin or a bank (R434). -/
def State.stepWaits (s : State) : State := s.modEng (fun e => { e with pos := e.pos - 1, waits := true })

def State.mreg (s : State) (n : BitVec 4) : W32 := s.eng.m.get 0 n.toNat
def State.setM (s : State) (n : BitVec 4) (x : W32) : State := s.modEng (fun e => { e with m := e.m.put 0 n.toNat x })

/-- A step faults: it has no effect (R250). -/
def State.stepFault (s : State) (k : Call) (code : Byte) (sub stream : BitVec 4) (va : VAddr) : State :=
  s.back.engFault code sub stream va k.pc

/-- A memory fault of a step: MEMORY with its SUB, or HW_ERROR (R250, R330, R334). -/
def State.memFault (s : State) (k : Call) (stream sub : BitVec 4) (va : VAddr) : State :=
  s.stepFault k (if sub = 5 then 0x21 else 5) sub stream va

/-- The tile at an offset from the routine's base (R227), or the fault TILE. -/
def State.withTile (s : State) (k : Call) (off : Nat) (f : Nat → State) : State :=
  let n := (k.acc.toNat + off) % 8
  if s.rc.tiles ≤ n then s.stepFault k 1 0 0 0 else f n

/-! ### Control steps (R234 to R236) -/

def execTnop (_f : UF) (s : State) : Out := ustep s (fun _ s => s)

/-- TSET. -/
def tset (f : UF) (k : Call) (s : State) : State :=
  let imm := f.imm.extractLsb' 0 10
  match (f.imm.extractLsb' 10 2).toNat with
  | 0 =>
    let p := k.mp.get 0 (imm.toNat % 8)
    s.setM f.ma (if imm.getLsbD 3 then p.extractLsb' 32 32 else p.setWidth 32)
  | 1 => s.setM f.ma (imm.signExtend 32)
  | 2 => s.setM f.ma (s.mreg f.mb + imm.signExtend 32)
  | _ => s.withTile k (imm.toNat % 8) (fun n => s.setM f.ma (s.eng.tile n).reject)
def execTset (f : UF) (s : State) : Out := ustep s (tset f)

/-- The address after the TEND that matches a TLOOP: scan the store with a depth (R235). -/
def afterEnd (e : Engine) : Nat → Nat → Nat → Nat
  | 0, k, _ => k
  | n + 1, k, depth =>
    match (e.store.get 0 k).toNat % 64 with
    | 9 => afterEnd e n (k + 1) (depth + 1)
    | 10 => if depth = 0 then k + 1 else afterEnd e n (k + 1) (depth - 1)
    | _ => afterEnd e n (k + 1) depth

def tloop (f : UF) (s : State) : State :=
  let e := s.eng
  let n := s.mreg f.ma
  let after := BitVec.ofNat 12 (afterEnd e 4096 e.pos.toNat 0)
  if n = 0 then s.modEng (fun e => { e with pos := after })
  else s.modEng (fun e => { e with loops := (e.pos, after, n) :: e.loops })
def execTloop (f : UF) (s : State) : Out := ustep s (fun _ s => tloop f s)

/-- TEND (R235). With an empty loop stack, which an entry inside a body reaches, it falls through (DESIGN CHOICE, log 59). -/
def tend (s : State) : State :=
  s.modEng (fun e =>
    match e.loops with
    | [] => e
    | (start, stop, n) :: t => if n = 1 then { e with loops := t } else { e with pos := start, loops := (start, stop, n - 1) :: t })
def execTend (_f : UF) (s : State) : Out := ustep s (fun _ s => tend s)

def tjmp (f : UF) (s : State) : State :=
  let x := s.mreg f.ma
  let go := f.mb = 0 || (f.mb = 1 && x = 0) || (f.mb = 2 && x ≠ 0)
  if go then s.modEng (fun e => { e with pos := e.pos - 1 + f.imm }) else s
def execTjmp (f : UF) (s : State) : Out := ustep s (fun _ s => tjmp f s)

/-- TYLD (R236): the engine stops when a save or a halt waits for it. -/
def tyld (s : State) : State :=
  if s.rc.place == .saving || s.here.halted then s.modEng (fun e => { e with stopped := true }) else s
def execTyld (_f : UF) (s : State) : Out := ustep s (fun _ s => tyld s)

def execTflag (f : UF) (s : State) : Out := ustep s (fun k s => s.engPost (f.imm.setWidth 5) k.pc)

/-- TRET (R236). Loops still open end with the routine (DESIGN CHOICE, log 59). -/
def tret (k : Call) (s : State) : State :=
  let s := s.unpin s.cur.core s.cur.slot
  (s.modEng (fun e => { e with call := none, loops := [] })).engPost k.f k.pc
def execTret (_f : UF) (s : State) : Out := ustep s tret

/-! ### Fetching operands (R237 to R239) -/

/-- The address of element (plane, row, column) of a stream (R237). -/
def Stream.at3 (t : Stream) (p r c : Nat) : W64 :=
  BitVec.ofInt 64 ((t.base.toNat : Int) + (c : Int) * t.stride0.toInt + (r : Int) * t.stride1.toInt + (p : Int) * t.stride2.toInt)

/-- The element lies inside the stream's counts. -/
def Stream.inside (t : Stream) (p r c : Nat) : Bool :=
  c < t.count0.toNat && r < Nat.max t.count1.toNat 1 && p < Nat.max t.count2.toNat 1

/-- The chunk length of a FORMAT (R237). -/
def chunkOf (fmt : Nat) : Nat := if elemBytes fmt = 2 then 32 else 128

/-- Of two faults that one access meets: a race names the first conflicting sector in address order (R466); else the one met
first stands. -/
def firstFault (e : BitVec 4 × VAddr) (f : Option (BitVec 4 × VAddr)) : BitVec 4 × VAddr :=
  match f with
  | some g => if e.1 = 4 && g.1 = 4 && g.2.toNat < e.2.toNat then g else e
  | none => e

/-- What reading a list of addresses comes to: the pieces in order, absent ones with no bytes, or the first fault in the order of
the list (DESIGN CHOICE, log 58: R250 does not say which of several a record names). -/
def gatherAll : List Reached → Except (BitVec 4 × VAddr) (List Piece × Bool)
  | [] => .ok ([], false)
  | .ok p :: t => match gatherAll t with | .ok (l, w) => .ok (p :: l, w) | .error e => .error e
  | .absent :: t => match gatherAll t with | .ok (l, _) => .ok ({ addr := [] } :: l, true) | .error e => .error e
  | .fault sub va :: t => .error (firstFault (sub, va) (match gatherAll t with | .ok _ => none | .error e => some e))

/-- A step reads memory on path MF, each place with its stream: it waits for the lines and for the posts that an FPOST orders
(R118, R286), faults, or goes on with the pieces. The homes stay where they are: a fetch moves those it pins (R118). -/
def State.mfRead (s : State) (k : Call) (l : List (BitVec 4 × Reached)) (f : List Piece → Bool → State → State) : State :=
  match gatherAll (l.map (fun e => e.2)) with
  | .error (sub, va) =>
    let sn := ((l.find? (fun e => e.2 == .fault sub va)).map (fun e => e.1)).getD 0
    s.memFault k sn sub va
  | .ok (ps, absent) =>
    if s.postHeld s.cur.core s.cur.slot k.serial || !ps.all (s.reachFree s.cur.core s.cur.slot .mf) ||
       ps.any (s.tooEarly s.cur.core s.rc.groupSet) then s.stepWaits
    else
      let s := (s.logAccess s.cur.core s.cur.slot .primary .mf false false k.pc [] ps).1
      f ps absent (ps.foldl (fun (s : State) p => (s.walkedFor s.cur.core s.cur.slot p).noteReplica p) s)

/-- Warning 0x17 of a step that reads an absent allocation (R106). -/
def State.warnAbsent (s : State) (absent : Bool) (pc : VAddr) : State :=
  if absent then s.warnAt s.cur.core s.cur.slot 0x17 pc else s

/-- A fetch takes the home of its writable CACHED lines into the staging slice and pins them, at most 64 to a core (R118). -/
def State.pinAll (s : State) (lines : List Nat) : State × List Nat :=
  lines.foldl (fun (a : State × List Nat) line =>
    let s := a.1
    let h := s.homes.get {} line
    let held := (s.homes.filter (fun e => e.2.pins.any (fun p => p.1 == s.cur.core))).length
    let me := (s.cur.core, s.cur.slot)
    if h.pins.contains me then (s, a.2 ++ [line])
    else if 64 ≤ held then a
    else ({ s with homes := s.homes.put {} line { h with at_ := .slice, pins := h.pins ++ [me] } }, a.2 ++ [line])) (s, [])

/-- The elements a fetch reads: key in the buffer, and plane, row and column of the stream (bytes for t5). -/
def fetchPlan (t : Stream) (isA : Bool) (a b p : Nat) : List (Nat × Nat × Nat × Nat) :=
  let l := chunkOf t.format.toNat
  let rows := if isA then 64 else l
  let cols := if isA then l else 64
  let r0 := if isA then 64 * a else l * a
  let c0 := if isA then l * b else 64 * b
  (List.range rows).flatMap (fun r => (List.range cols).filterMap (fun c =>
    let col := if t.format = 11 then (c0 + c) / 5 else c0 + c
    if t.inside p (r0 + r) col then some (r * cols + c, p, r0 + r, col) else none))

/-- The bits a buffer holds for an element: a t5 byte gives its trit's weight as s8. -/
def fetchBits (t : Stream) (isA : Bool) (b key x : Nat) : Nat :=
  if t.format = 11 then
    let c := (if isA then chunkOf 11 else 64) * b + key % (if isA then chunkOf 11 else 64)
    lowNat 8 (tritOf x (c % 5))
  else x

/-- TFA and TFB (R237, R238). -/
def fetch (isA : Bool) (f : UF) (k : Call) (s : State) : State :=
  let sn : BitVec 4 := f.imm.setWidth 4
  let t := s.rc.streams.get {} sn.toNat
  let fmt := t.format.toNat
  let second := f.imm.getLsbD 4
  let a := (s.mreg f.ma).toNat
  let b := (s.mreg f.mb).toNat
  let p := if f.imm.getLsbD 5 then (s.mreg f.mc).toNat else 0
  let ok := [1, 2, 3, 4, 7, 10].contains fmt || (!isA && fmt == 11)
  if !ok || t.count0 = 0 then s.stepFault k 2 0 sn 0
  else
    let plan := fetchPlan t isA a b p
    let n := elemBytes fmt
    s.mfRead k (plan.map (fun e => (sn, s.reachIn s.cur.core s.cur.slot t .load (t.at3 e.2.1 e.2.2.1 e.2.2.2) n))) (fun ps absent s =>
      let s := s.warnAbsent absent k.pc
      let e := s.eng
      let old := if isA then (if second then e.fa1 else e.fa0) else (if second then e.fb1 else e.fb0)
      let rest := if isA then (if second then [e.fa0, e.fb0, e.fb1] else [e.fa1, e.fb0, e.fb1])
                  else (if second then [e.fa0, e.fa1, e.fb0] else [e.fa0, e.fa1, e.fb1])
      let keep := (rest.filterMap id).flatMap (fun b => b.pins)
      let s := s.unpinLines keep ((old.map (fun b => b.pins)).getD [])
      let lines := ((ps.filter (fun p => p.cached)).flatMap (fun p => p.addr.map lineOf)).eraseDups
      let pinned := s.pinAll lines
      let s := pinned.1
      let xs := ps.map (fun p => s.readList p.addr)
      let illegal := fmt == 11 && xs.any (fun x => 243 ≤ x)
      let data : Tab Nat := Tab.putAll 0 [] ((plan.zip xs).map (fun q => (q.1.1, fetchBits t isA b q.1.1 q.2)))
      let buf : Buf := { num := sn.toNat, desc := t, a := a, b := b, data := data, pins := pinned.2 }
      let s := s.modEng (fun e =>
        if isA then (if second then { e with fa1 := some buf } else { e with fa0 := some buf })
        else (if second then { e with fb1 := some buf } else { e with fb0 := some buf }))
      if illegal then s.modRc (fun r => r.raise fTERN) else s)
def execTfa (f : UF) (s : State) : Out := ustep s (fetch true f)
def execTfb (f : UF) (s : State) : Out := ustep s (fetch false f)

def Engine.fa (e : Engine) (second : Bool) : Option Buf := if second then e.fa1 else e.fa0
def Engine.fb (e : Engine) (second : Bool) : Option Buf := if second then e.fb1 else e.fb0

/-- Scales apply to a stream: SCALE_MODE not 0 and a float FORMAT (R96, R239). -/
def Stream.scaled (t : Stream) : Bool := t.scaleMode != 0 && isFloat t.format.toNat
/-- SCALE_MODE on an integer or t5 stream (R96). -/
def Stream.scaleIgnored (t : Stream) : Bool := t.scaleMode != 0 && !isFloat t.format.toNat
def Stream.block (t : Stream) : Nat := 2 ^ t.blklog.toNat

/-- The sub-chunk length U (R239). -/
def subLen (a b : Stream) : Nat :=
  let l := chunkOf a.format.toNat
  let u := if a.scaled then Nat.min l a.block else l
  if b.scaled then Nat.min u b.block else u

/-- The scale address of element (r, c) (R96). -/
def Stream.scaleAt (t : Stream) (r c : Nat) : W64 :=
  let row := if t.scaleMode = 1 then r else r / t.block
  BitVec.ofInt 64 ((t.scaleBase.toNat : Int) + (row : Int) * t.scaleStride.toInt + 4 * (c / t.block : Nat))

/-- A buffer's stream as TSCL reads it: the register, with the FORMAT, BLKLOG and SCALE_MODE that the buffer recorded. -/
def State.scaleStream (s : State) (b : Buf) : Stream :=
  { s.rc.streams.get {} b.num with format := b.desc.format, blklog := b.desc.blklog, scaleMode := b.desc.scaleMode }

/-- TSCL (R239). The L of the rule is that of the FORMAT of FA, where FB's chunks have another length (DESIGN CHOICE, log 96). -/
def tscl (f : UF) (k : Call) (s : State) : State :=
  match s.eng.fa (f.imm.getLsbD 0), s.eng.fb (f.imm.getLsbD 1) with
  | some fa, some fb =>
    let ta := s.scaleStream fa
    let tb := s.scaleStream fb
    let l := chunkOf ta.format.toNat
    let u := subLen ta tb
    let qs := List.range (l / u)
    let planA := if ta.scaled then (List.range 64).flatMap (fun r => qs.filterMap (fun q =>
      if ta.inside 0 (64 * fa.a + r) (l * fa.b + u * q) then some (r * 4 + q, ta.scaleAt (64 * fa.a + r) (l * fa.b + u * q)) else none)) else []
    let planB := if tb.scaled then qs.flatMap (fun q => (List.range 64).filterMap (fun j =>
      if tb.inside 0 (l * fb.a + u * q) (64 * fb.b + j) then some (q * 64 + j, tb.scaleAt (l * fb.a + u * q) (64 * fb.b + j)) else none)) else []
    let reach := fun (n : Nat) (t : Stream) (p : List (Nat × W64)) =>
      p.map (fun e => (BitVec.ofNat 4 n, s.reachIn s.cur.core s.cur.slot t .load e.2 4))
    s.mfRead k (reach fa.num ta planA ++ reach fb.num tb planB) (fun ps absent s =>
      let fill := fun (plan : List (Nat × W64)) (ps : List Piece) =>
        Tab.putAll (0x3F800000 : W32) [] ((plan.zip ps).map (fun q => (q.1.1, BitVec.ofNat 32 (s.readList q.2.addr))))
      let s := s.modEng (fun e => { e with rs := fill planA (ps.take planA.length), cs := fill planB (ps.drop planA.length) })
      let s := if ta.scaleIgnored then s.warnAt s.cur.core s.cur.slot 0x16 k.pc else s
      let s := if tb.scaleIgnored then s.warnAt s.cur.core s.cur.slot 0x16 k.pc else s
      s.warnAbsent absent k.pc)
  | _, _ => s.stepFault k 4 0 0 0
def execTscl (f : UF) (s : State) : Out := ustep s (tscl f)

/-! ### Multiplying and promoting (R240, R241) -/

/-- The operand kinds: FP8 or half (floating point), INT8, ternary; none for another pairing. -/
def operandKind (a b : Nat) : Option Bool :=
  if [3, 4].contains a && [3, 4].contains b then some true
  else if [1, 2].contains a && [1, 2].contains b then some true
  else if [7, 10].contains a && [7, 10, 11].contains b then some false
  else none

/-- A buffer element as an exact value. -/
def bufValue (fmt x : Nat) : Ex :=
  if isFloat fmt then (fmtOf fmt).value x
  else Ex.ofInt (lowOf 8 (fmt != 10) x)

/-- The exact sum of products (R98): NV for an infinity times 0 and for infinities of both signs. -/
def dotEx (ps : List (Ex × Ex)) : Ex × Flags8 :=
  let ms := ps.map (fun p => Ex.mul p.1 p.2)
  let vals := ms.map (fun m => m.1)
  let bad := orFlags (ms.map (fun m => m.2))
  let both := vals.any (fun v => v == .inf true) && vals.any (fun v => v == .inf false)
  if bad != 0 || both then (.nan, fNV) else ((sumEx .rne vals).1, 0)

/-- TMAC (R240). -/
def tmac (f : UF) (k : Call) (s : State) : State :=
  let sa := f.imm.getLsbD 0
  let sb := f.imm.getLsbD 1
  match s.eng.fa sa, s.eng.fb sb with
  | some fa, some fb =>
    let ta := fa.desc
    let tb := fb.desc
    match operandKind ta.format.toNat tb.format.toNat with
    | none => s.stepFault k 2 0 (BitVec.ofNat 4 fa.num) 0
    | some fp =>
      let l := chunkOf ta.format.toNat
      let u := if fp then subLen ta tb else l
      let rows := (List.range 64).map (fun i => (List.range l).map (fun c => bufValue ta.format.toNat (fa.data.get 0 (i * l + c))))
      let cols := (List.range 64).map (fun j => (List.range l).map (fun r => bufValue tb.format.toNat (fb.data.get 0 (r * 64 + j))))
      let sums := (rows.zip (List.range 64)).flatMap (fun a => (cols.zip (List.range 64)).flatMap (fun b =>
        (List.range (l / u)).map (fun q => ((a.2 * 64 + b.2) * 4 + q, dotEx (((a.1.zip b.1).drop (u * q)).take u)))))
      let g := orFlags (sums.map (fun e => e.2.2))
      let x : XSums := { fp := fp, subs := l / u, vals := (sums.filter (fun e => e.2.1 != Ex.zero)).map (fun e => (e.1, e.2.1)) }
      let e := s.eng
      let keep := (([e.fa (!sa), e.fb (!sb)]).filterMap id).flatMap (fun b => b.pins)
      let s := s.unpinLines keep (fa.pins ++ fb.pins)
      let free := fun (b : Buf) => { b with pins := [] }
      let s := s.modEng (fun e =>
        let e := if sa then { e with fa1 := e.fa1.map free } else { e with fa0 := e.fa0.map free }
        let e := if sb then { e with fb1 := e.fb1.map free } else { e with fb0 := e.fb0.map free }
        { e with x := some x })
      s.modRc (fun r => r.raise g)
  | _, _ => s.stepFault k 4 0 0 0
def execTmac (f : UF) (s : State) : Out := ustep s (tmac f)

/-- One promotion of a sub-chunk into a float entry (R98, R99, R241). -/
def promote (acc : W32) (x : Ex) (rs cs : W32) : W32 × Flags8 :=
  let nan : Flags8 := if (f32Val rs).isNaN || (f32Val cs).isNaN then fSCALENAN else 0
  match f32Mul rs cs with
  | (sc, g1) =>
    match f32 (Ex.mul x (f32Val sc)) with
    | (p, g2) =>
      match f32Add acc p with
      | (y, g3) => (y, g1 ||| g2 ||| g3 ||| nan)

/-- The integer that an exact value is. -/
def Ex.toIntExact : Ex → Int
  | .num neg m => if neg then -(m.frac.1 / m.frac.2 : Nat) else (m.frac.1 / m.frac.2 : Nat)
  | _ => 0

/-- The new entry (i, j) of a tile and its flags. -/
def promoteEntry (e : Engine) (x : XSums) (zero : Bool) (t : Tile) (i j : Nat) : W32 × Flags8 :=
  let a : W32 := if zero then 0 else t.sum.get 0 (i * 64 + j)
  let v := fun q => x.vals.get Ex.zero ((i * 64 + j) * 4 + q)
  if x.fp then
    (List.range x.subs).foldl (fun (y : W32 × Flags8) q =>
      match promote y.1 (v q) (e.rs.get 0x3F800000 (i * 4 + q)) (e.cs.get 0x3F800000 (q * 64 + j)) with
      | (z, g) => (z, y.2 ||| g)) (a, 0)
  else
    let y := a.toInt + (v 0).toIntExact
    (BitVec.ofInt 32 y, if lowInt 32 y = y then 0 else fINTOVF)

/-- TPROM (R241). -/
def tprom (f : UF) (k : Call) (s : State) : State :=
  s.withTile k (f.imm.toNat % 8) (fun n =>
    let e := s.eng
    let t := e.tile n
    if t.ranked then s.stepFault k 3 0 0 0
    else
      match e.x with
      | none => s.stepFault k 4 0 0 0
      | some x =>
        let out := (List.range 4096).map (fun i => (i, promoteEntry e x (f.imm.getLsbD 3) t (i / 64) (i % 64)))
        let sum : Tab W32 := (out.filter (fun o => o.2.1 != 0)).map (fun o => (o.1, o.2.1))
        (s.modEng (fun e => e.setTile n { t with sum := sum })).modRc (fun r => r.raise (orFlags (out.map (fun o => o.2.2)))))
def execTprom (f : UF) (s : State) : Out := ustep s (tprom f)

/-! ### Draining, ranking, walking (R242 to R244) -/

/-- TRANK (R243). -/
def trank (f : UF) (k : Call) (s : State) : State :=
  s.withTile k (f.imm.toNat % 8) (fun src =>
    s.withTile k (f.imm.toNat / 8 % 8) (fun dst =>
      let e := s.eng
      let t := e.tile src
      let d := e.tile dst
      if t.ranked || !d.ranked then s.stepFault k 3 0 0 0
      else
        let int := f.imm.getLsbD 6
        let base := s.mreg f.ma
        let pairs := (List.range 4096).map (fun i =>
          let v := t.sum.get 0 i
          let y : W32 × Flags8 := if int then f32 (Ex.ofInt v.toInt, 0) else (v, 0)
          (i / 64, (y.1, base + BitVec.ofNat 32 (i % 64)), y.2))
        let d := pairs.foldl (fun d p => d.offer p.1 p.2.1) d
        (s.modEng (fun e => e.setTile dst d)).modRc (fun r => r.raise (orFlags (pairs.map (fun p => p.2.2))))))
def execTrank (f : UF) (s : State) : Out := ustep s (trank f)

/-- An entry of a SUM tile as TDRAIN writes it in a FORMAT (R242). -/
def drainBits (int : Bool) (fmt : Nat) (w : W32) : Nat × Flags8 :=
  if int then
    if isFloat fmt then (fmtOf fmt).round .rne (fmt == 3 || fmt == 4) (Ex.ofInt w.toInt)
    else if fmt = 5 || fmt = 8 then (w.toNat, 0)
    else
      match clampInt (elemBits fmt) (elemSigned fmt) w.toInt with
      | (y, g) => (lowNat (elemBits fmt) y, g)
  else if fmt = 0 then (w.toNat, 0)
  else (fmtOf fmt).round .rne (fmt == 3 || fmt == 4) (f32Val w)

/-- What TDRAIN writes: row, column, bits, flags. -/
def drainPlan (t : Tile) (int : Bool) (fmt a b : Nat) : List (Nat × Nat × Nat × Flags8) :=
  if t.ranked then
    (List.range 64).flatMap (fun i => (List.range t.k).flatMap (fun n =>
      let p := (t.row i).getD n (negInf, 0xFFFFFFFF)
      [(64 * a + i, 2 * t.k * b + 2 * n, p.1.toNat, 0), (64 * a + i, 2 * t.k * b + 2 * n + 1, p.2.toNat, 0)]))
  else
    (List.range 4096).map (fun i =>
      match drainBits int fmt (t.sum.get 0 i) with
      | (x, g) => (64 * a + i / 64, 64 * b + i % 64, x, g))

/-- TDRAIN (R242): every address is translated before a byte is written. INT on a RANKED tile is the fault FORMAT of R242
(DEDUCED, log 28). -/
def tdrain (f : UF) (k : Call) (s : State) : State :=
  s.withTile k (f.imm.toNat % 8) (fun n =>
    let t := s.eng.tile n
    let sn : BitVec 4 := f.imm.extractLsb' 3 4
    let st := s.rc.streams.get {} sn.toNat
    let fmt := st.format.toNat
    let int := f.imm.getLsbD 8
    let ok := if t.ranked then !int && [0, 5, 8].contains fmt else fmt < 11 && (int || isFloat fmt)
    if !ok || st.count0 = 0 then s.stepFault k 2 0 sn 0
    else
      let plan := (drainPlan t int fmt (s.mreg f.ma).toNat (s.mreg f.mb).toNat).filter (fun e => st.inside 0 e.1 e.2.1)
      let w := elemBytes fmt
      match gatherAll (plan.map (fun e => s.reachIn s.cur.core s.cur.slot st .store (st.at3 0 e.1 e.2.1) w)) with
      | .error (sub, va) => s.memFault k sn sub va
      | .ok (ps, absent) =>
        if s.postHeld s.cur.core s.cur.slot k.serial || !ps.all (s.reachFree s.cur.core s.cur.slot .mf) || ps.any s.restriping then s.stepWaits
        else
          let s := s.agentWrite s.cur.core s.cur.slot .primary .mf k.pc ((plan.zip ps).map (fun e => (e.2, leBytes w e.1.2.2.1)))
          let s := if absent then s.warnAt s.cur.core s.cur.slot 0x17 k.pc else s
          let s := s.modRc (fun r => r.raise (orFlags (plan.map (fun e => e.2.2.2))))
          if f.imm.getLsbD 7 then s.modEng (fun e => e.setTile n (e.tile n).clear) else s)
def execTdrain (f : UF) (s : State) : Out := ustep s (tdrain f)

/-- TWALK (R244). -/
def twalk (f : UF) (k : Call) (s : State) : State :=
  let sn : BitVec 4 := f.imm.setWidth 4
  let st := s.rc.streams.get {} sn.toNat
  let ix : BitVec 4 := f.imm.extractLsb' 4 4
  if st.space ≠ 0 then s.stepFault k 6 0 sn 0
  else if s.postHeld s.cur.core s.cur.slot k.serial then s.stepWaits
  else
    let e : W64 := BitVec.ofNat 64 (s.readList (spAddrs s.cur.core s.rc.spBase s.rc.spSize (st.base.toNat + 8 * (s.mreg ix).toNat) 8))
    let t := ((s.setM f.ma ((e.extractLsb' 0 16).setWidth 32)).setM f.mb ((e.extractLsb' 16 16).setWidth 32)).setM f.mc
      ((e.extractLsb' 32 16).setWidth 32)
    t.setM ix (s.mreg ix + 1)
def execTwalk (f : UF) (s : State) : Out := ustep s (twalk f)

end Sys2Proof.Machine
end

