-- ==== Sys2Proof/Machine/Sync.lean ====
section
/-! DEFINITION. The meanings of the Y class: flags, barriers and fences (R29 to R33, R176 to R178), and the barrier's own
steps (R358, R30). -/

namespace Sys2Proof.Machine

/-- The operand of FWAIT, FPOST and FSET: N, or s_A[15:0] when A is not 0 (R176). -/
def State.flagArg (s : State) (f : YF) : BitVec 16 := if f.sa = 0 then f.n else (s.sreg f.sa).setWidth 16

/-- A context waits on the flag ahead of the issuing one: its FWAIT stands before it in line, and its guard still reads 1
(R33, R54). -/
def State.waitsAhead (s : State) (f : BitVec 5) : Bool :=
  (s.rc.waiters.takeWhile (fun w => !(w.1 == s.cur.ctx && w.2.1 == f))).any
    (fun w => w.2.1 == f && (s.rc.ctx w.1).readP w.2.2.2.toNat)

/-- FWAIT (R31, R33): 0 issues at once; else it waits behind older waiters on the flag until the flag holds n, and
subtracts n. -/
def fwait (pred : BitVec 3) (f : YF) (s : State) : State :=
  let n := s.flagArg f
  if n = 0 then s
  else
    if s.waitsAhead f.f || (s.rc.flag f.f).toNat < n.toNat then s.hold (.flag f.f n pred)
    else
      s.modRc (fun r =>
        { r.setFlag f.f (r.flag f.f - n) with
          waiters := r.waiters.filter (fun w => !(w.1 == s.cur.ctx && w.2.1 == f.f)) })
def execFwait (h : Hdr) (f : YF) (s : State) : Out := run (.fwait h f) s (fwait h.pred f)

/-- What an FPOST orders (R286): the writes on LS before it, and those on other paths before a FENCE that names LS too. -/
def Res.postsOrder (r : Res) (serial : Nat) : List (Nat × BitVec 5 × Nat) :=
  (serial, 1, serial) :: ((r.fences.filter (fun g => g.paths.getLsbD 0)).map (fun g => (serial, g.paths, g.serial)))

/-- FPOST (R31, R176, R286). -/
def fpost (f : YF) (s : State) : State :=
  let n := s.flagArg f
  if n = 0 then s
  else (s.modRc (fun r => { r.postFlag f.f n.toNat s.cur.ipc with posted := r.posted ++ r.postsOrder s.serial })).bump
def execFpost (h : Hdr) (f : YF) (s : State) : Out := run (.fpost h f) s (fpost f)

/-- FSET (R31, R176). -/
def execFset (h : Hdr) (f : YF) (s : State) : Out :=
  run (.fset h f) s (fun s => s.modRc (fun r => r.setFlag f.f (s.flagArg f)))

/-! ## Barriers (R29, R30, R177, R358) -/

/-- An entry that awaits arrivals: valid and ACTIVE (R29, R30). -/
def Arm.live (a : Arm) : Bool := a.v && !a.broken

/-- The dies of an entry's DIEMASK. -/
def Arm.dieList (a : Arm) : List Nat := (List.range 16).filter (fun d => a.dies.getLsbD d)

/-! Routes (R358): the tree of a group leads from a core's router along its mesh row, then along a column, to the router of its
die's dispatcher, and over the dies along the mesh row, then along a column, to the home die. -/

/-- The places from one coordinate to another, both included. -/
def between (a b : Nat) : List Nat :=
  if a ≤ b then (List.range (b - a + 1)).map (fun i => a + i) else (List.range (a - b + 1)).map (fun i => b + i)

/-- The routers of a die on a core's way to the die's dispatcher. -/
def routersOf (c : CoreId) : List Nat :=
  let x := (columnOf c).toNat
  let d := (Config.dispatcherColumn (dieOf c)).toNat
  (between (x % 16) (d % 16)).map (fun p => x / 16 * 16 + p) ++ (between (x / 16) (d / 16)).map (fun r => r * 16 + d % 16)

/-- The bridge ports on the way from die d to die h (R2): die and direction of each, on both sides of every boundary. -/
def bridgesOf (d h : Nat) : List (Nat × Nat) :=
  let row := d / 4
  let along := (List.range 3).flatMap (fun p =>
    if (d % 4 ≤ p && p < h % 4) || (h % 4 ≤ p && p < d % 4) then [(row * 4 + p, 3), (row * 4 + p + 1, 2)] else [])
  let down := (List.range 3).flatMap (fun r =>
    if (row ≤ r && r < h / 4) || (h / 4 ≤ r && r < row) then [(r * 4 + h % 4, 1), ((r + 1) * 4 + h % 4, 0)] else [])
  along ++ down

/-- The ports on a core's way to the home die: die and mark vector. -/
def Arm.route (a : Arm) (c : CoreId) : List (Nat × Nat) :=
  (routersOf c).map (fun k => ((dieOf c).toNat, k)) ++
  (bridgesOf (dieOf c).toNat ((a.dieList.head?).getD 0)).map (fun e => (e.1, 256 + e.2))

/-- The entry's routes are marked (R357, R358). -/
def State.markRoutes (s : State) (g : GroupId) (members : List CoreId) : State :=
  (members.flatMap (s.arm g).route).foldl (fun (s : State) e =>
    s.modDie (BitVec.ofNat 4 e.1) (fun d => { d with marks := d.marks.mod 0 e.2 (fun m => m ||| (1#256 <<< g.toNat)) })) s

/-- The route marks of an entry are released (R360). -/
def State.unmark (s : State) (g : GroupId) : State :=
  { s with dies := s.dies.map (fun (e : Nat × Die) =>
      (e.1, { e.2 with marks := (e.2.marks.map (fun m => (m.1, m.2 &&& ~~~(1#256 <<< g.toNat)))).filter (fun m => m.2 != 0) })) }

/-- Barrier traffic between a core and the home die runs on marked ports (R358). -/
def State.routed (s : State) (g : GroupId) (c : CoreId) : Bool :=
  ((s.arm g).route c).all (fun e => ((s.die (BitVec.ofNat 4 e.1)).marks.get 0 e.2).getLsbD g.toNat)

/-- The ID is in a valid slot of GROUP_SET (R177). -/
def State.isMember (s : State) (g : GroupId) : Bool := (validGroups s.rc.groupSet).contains g

/-- BARRIER_ARRIVAL_COUNT: an arrival of the issuing core is counted at its die (R358). -/
def Arm.arrive (a : Arm) (c : CoreId) (r : Slot) (serial : Nat) : Arm :=
  { a with arrived := a.arrived ++ [(c, r, serial)], count := a.count.mod 0 (dieOf c).toNat (fun n => n + 1) }

/-- The arrival half: a second arrival in one generation stalls; one at a BROKEN or invalid entry is discarded (R29, R30). -/
def State.arrive (s : State) (g : GroupId) : State :=
  let a := s.arm g
  if !a.live then s
  else if a.arrived.any (fun e => e.1 == s.cur.core && e.2.1 == s.cur.slot) then s.hold
  else (s.modArm g (fun a => a.arrive s.cur.core s.cur.slot s.serial)).bump

/-- The wait half: the predicate waits for the generation observed; 0 at once at a BROKEN or invalid entry (R29, R30). -/
def State.waitGen (s : State) (g : GroupId) (pd : BitVec 3) : State :=
  let a := s.arm g
  let k := s.cx.mode
  if !a.live then s.modCx (fun x => x.putP k pd.toNat false)
  else if pd = 0 then s.modRc (fun r => { r with watch := r.watch ++ [(g, a.gen)] })
  else s.modRc (fun r => { r with pend := r.pend ++ [(.p s.cur.ctx k pd.toNat, .bar g a.gen)] })

/-- Group membership, else ACCESS sub-cause 5 with the group ID (R177, R324). -/
def State.member (s : State) (g : GroupId) (f : State → State) : State :=
  if s.isMember g then f s else s.trap { cause := cAccess, sub := 5, tval := g.setWidth 64 }

def execBara (h : Hdr) (f : YF) (s : State) : Out := run (.bara h f) s (fun s => s.member f.gid (fun s => s.arrive f.gid))
def execBarw (h : Hdr) (f : YF) (s : State) : Out :=
  run (.barw h f) s (fun s => s.member f.gid (fun s => s.waitGen f.gid f.pd))
/-- BARAW: the wait observes the generation it arrived in (R177). -/
def execBaraw (h : Hdr) (f : YF) (s : State) : Out :=
  run (.baraw h f) s (fun s => s.member f.gid (fun s =>
    let t := s.arrive f.gid
    if t.mark = .none then t.waitGen f.gid f.pd else t))

/-- The predicates that wait for a generation of a group, or for any. -/
def Res.waitingOn (r : Res) (g : GroupId) (gen : Option W32) : List (SReg × Why) :=
  r.pend.filter (fun p => match p.2 with | .bar h n => h == g && (gen.isNone || gen == some n) | _ => false)

/-- A BARW to p0 observes a generation of the group, or any. -/
def watchOf (g : GroupId) (gen : Option W32) (w : GroupId × W32) : Bool := w.1 == g && (gen.isNone || gen == some w.2)
def Res.watches (r : Res) (g : GroupId) (gen : Option W32) : Bool := r.watch.any (watchOf g gen)

/-- A predicate that waited for a generation is written, wherever its context stands (R177, R337); 1 acquires the interval
that the completion carries (R294). -/
def State.barWrite (s : State) (g : GroupId) (gen : Option W32) (x : Bool) (interval : Byte) (e : CoreId × Slot) : State :=
  let mine := (s.res e.1 e.2).waitingOn g gen
  if mine.isEmpty && !(s.res e.1 e.2).watches g gen then s
  else
    let s := mine.foldl (fun (s : State) p =>
      match p.1 with
      | .p c k n => s.putPred e.1 e.2 c k n x
      | _ => s) s
    s.modRes e.1 e.2 (fun r =>
      let r := { r with pend := r.pend.filter (fun p => !mine.contains p), watch := r.watch.filter (fun w => !watchOf g gen w) }
      match slotOf r.groupSet g with
      | some i =>
        if x && (interval - r.acquired.get 0 i).toNat < 128 then { r with acquired := r.acquired.put 0 i interval } else r
      | none => r)

/-- Every context that the package's cores hold. -/
def State.seats (s : State) : List (CoreId × Slot) :=
  s.cores.flatMap (fun e => e.2.all.map (fun x => (BitVec.ofNat 12 e.1, x.1)))

/-- GROUP_BROKEN: the entry turns BROKEN, and every waiting predicate of it is written 0 (R30). -/
def State.breakGroup (s : State) (g : GroupId) : State :=
  let s := s.modArm g (fun a => { a with broken := true, count := [], arrived := [], reported := [], sent := false, releases := [] })
  s.seats.foldl (fun (s : State) e => s.barWrite g none false 0 e) s

/-- What an arrival releases has been performed: the core's accesses on LS before it, and those on other paths before a FENCE
that names LS; and the writes to the group's peers are acknowledged (R284, R289, R292). -/
def State.released (s : State) (c : CoreId) (r : Slot) (serial : Nat) : Bool :=
  !s.reqs.any (fun q => q.core == c && q.path == .ls && q.serial < serial && q.unperformed) &&
  !(s.core c).all.any (fun e => e.2.fences.any (fun f =>
    f.serial < serial && f.paths.getLsbD 0 && s.fenceOpen c e.1 f)) &&
  !s.awaitsAck c (s.res c r).groupSet 1 serial

/-- A die that reaches EXPECT reports; with the last die's report the package's arrival is queued for every other peer
(R358, R406). -/
def State.dieComplete (s : State) (g : GroupId) (d : DieId) : State :=
  let a := s.arm g
  if a.live && a.dies.getLsbD d.toNat && !a.reported.contains d && a.count.get 0 d.toNat == a.expect.get 0 d.toNat &&
     a.arrived.all (fun e => dieOf e.1 != d || (s.routed g e.1 && s.released e.1 e.2.1 e.2.2)) then
    let reported := a.reported ++ [d]
    let all := a.dieList.all (fun n => reported.contains (BitVec.ofNat 4 n))
    let s := s.modArm g (fun a => { a with reported := reported, sent := all })
    if all then
      let item : BitVec 16 := g ++ a.gen.setWidth 7 ++ 1#1
      let peers := (List.range 64).filter (fun n => a.peers.getLsbD n && n != s.peer.toNat)
      { s with fab := { s.fab with pairs := peers.foldl (fun t n => t.mod {} n (fun p => { p with items := p.items ++ [item] })) s.fab.pairs } }
    else s
  else s

/-- The cores whose contexts wait for a generation of a group. -/
def State.waitersOf (s : State) (g : GroupId) (gen : W32) : List CoreId :=
  (s.cores.filter (fun e => e.2.all.any (fun x => x.2.pend.any (fun p => p.2 == .bar g gen) || x.2.watches g (some gen)))).map (fun e => BitVec.ofNat 12 e.1)

/-- The generation completes (R29, R358): GEN and INTERVAL go up, the counts are reset, the release is multicast. -/
def State.generationComplete (s : State) (g : GroupId) : State :=
  let a := s.arm g
  let others := (List.range 64).filter (fun n => a.peers.getLsbD n && n != s.peer.toNat)
  if a.live && a.sent && others.all (fun n => a.came.contains (BitVec.ofNat 6 n)) then
    s.modArm g (fun a =>
      { a with gen := a.gen + 1, interval := a.interval + 1, count := [], arrived := [], reported := [], sent := false
               came := a.early, early := []
               releases := a.releases ++ (s.waitersOf g a.gen).map (fun c => (a.gen, c, a.interval + 1)) })
  else s

/-- A core receives the release of a generation: its predicates are written 1 (R177, R337). -/
def State.barrierRelease (s : State) (g : GroupId) (c : CoreId) : State :=
  let a := s.arm g
  match a.releases.find? (fun e => e.2.1 == c) with
  | none => s
  | some (gen, _, v) =>
    if !s.routed g c then s
    else
    let s := s.modArm g (fun a => { a with releases := a.releases.filter (fun e => !(e == (gen, c, v))) })
    (s.core c).all.foldl (fun (s : State) e => s.barWrite g (some gen) true v (c, e.1)) s

def execBarrierDieComplete (g : GroupId) (d : DieId) (s : State) : Out := agent (s.dieComplete g d)
def execBarrierGenerationComplete (g : GroupId) (s : State) : Out := agent (s.generationComplete g)
def execBarrierRelease (g : GroupId) (c : CoreId) (s : State) : Out := agent (s.barrierRelease g c)

/-! ## FENCE (R178) -/

/-- FENCE: its group issues at once; a mask of 0 is read as all paths, with fallback 0x1C. -/
def fence (f : YF) (s : State) : State :=
  let t := s.warnIf (f.f == 0) 0x1C
  (t.modRc (fun r => { r with fences := r.fences ++ [⟨s.serial, if f.f = 0 then 0x1F else f.f, f.scp⟩] })).bump
def execFence (h : Hdr) (f : YF) (s : State) : Out := run (.fence h f) s (fence f)

end Sys2Proof.Machine
end

