-- ==== Sys2Proof/Machine/Links.lean ====
section
/-! DEFINITION. Lines, ports, Friezes and LINK_STATE (R80, R392 to R398, R416), the fabric event ring (R423), and the record
of a transfer that fails (R276, R277, R330). -/

namespace Sys2Proof.Machine

/-! ## The fields of a target and of a window's address (R271, R308) -/

def tDom (t : BitVec 22) : BitVec 4 := t.extractLsb' 18 4
def tPeer (t : BitVec 22) : PeerId := t.extractLsb' 12 6
def tCore (t : BitVec 22) : CoreId := t.extractLsb' 0 12
/-- Window number and byte offset in an s_B of SEND. -/
def winNo (b : W64) : Nat := (b.extractLsb' 48 8).toNat
def winOff (b : W64) : Nat := (b.extractLsb' 0 48).toNat

/-! ## Armature ranges (R450) -/

/-- PART_CFG (R450). -/
def armBase (c : W64) : Nat := (c.extractLsb' 44 8).toNat
def armCount (c : W64) : Nat := (c.extractLsb' 52 9).toNat
def State.inArmRange (s : State) (p : PartId) (g : GroupId) : Bool :=
  armBase (s.part p).cfg ≤ g.toNat && g.toNat < armBase (s.part p).cfg + armCount (s.part p).cfg

/-! ## Lines and appearances (R393, R396) -/

/-- offset(L) of a line 0 to 71 (R393). -/
def offsetOf (line : Nat) : Nat := if line < 64 then line else line - 64

def idleEntry : W32 := 0xFFFF
def txLine (e : W32) : Nat := (e.extractLsb' 0 8).toNat
def rxLine (e : W32) : Nat := (e.extractLsb' 8 8).toNat
def relayBit (e : W32) : Bool := e.getLsbD 16
def frieze (tx rx : Nat) (relay : Bool) : W32 := 0#15 ++ BitVec.ofBool relay ++ BitVec.ofNat 8 rx ++ BitVec.ofNat 8 tx

/-- A line that nothing is listed for: GOOD, or for a spare SPARE idle (R409). -/
def freshLine (l : Nat) : Line := if 64 ≤ l then { state := 3 } else {}
def Port.line (p : Port) (l : Nat) : Line := p.lines.get (freshLine l) l
def Port.setLine (p : Port) (l : Nat) (x : Line) : Port := { p with lines := p.lines.put (freshLine l) l x }
def Port.entry (p : Port) (slot lane : Nat) : W32 := p.frieze.get idleEntry (slot * 16 + lane)

def Fabric.port (f : Fabric) (p : Nat) : Port := f.ports.get {} p
def Fabric.modPort (f : Fabric) (p : Nat) (g : Port → Port) : Fabric := { f with ports := f.ports.mod {} p g }
def Fabric.link (f : Fabric) (t : Nat) : Link := f.links.get {} t
def Fabric.modLink (f : Fabric) (t : Nat) (g : Link → Link) : Fabric := { f with links := f.links.mod {} t g }
def Fabric.pair (f : Fabric) (t : Nat) : Pair := f.pairs.get {} t
def Fabric.modPair (f : Fabric) (t : Nat) (g : Pair → Pair) : Fabric := { f with pairs := f.pairs.mod {} t g }
def State.modFab (s : State) (g : Fabric → Fabric) : State := { s with fab := g s.fab }

/-- A die's optical fabric unit, with counters of its own (R14, R395). -/
def Fabric.ofu (f : Fabric) (d : Nat) : Ofu := f.ofus.get {} d
def Fabric.modOfu (f : Fabric) (d : Nat) (g : Ofu → Ofu) : Fabric := { f with ofus := f.ofus.mod {} d g }
/-- The die whose counters time what belongs to no port: a hold, a silence, a time-out, the load of new tables. It is the lowest
die whose OFU is locked, else die 0 (DESIGN CHOICE, log 50: the spec does not say which OFU times them). -/
def Fabric.lead (f : Fabric) : Nat := ((f.ofus.find? (fun e => e.2.lock)).map (fun e => e.1)).getD 0
def Fabric.rot (f : Fabric) : W32 := (f.ofu f.lead).rot
def Fabric.slot (f : Fabric) : BitVec 6 := (f.ofu f.lead).slot
/-- The longest any OFU that lost lock has been without it, in slots; the package has lost lock when one has for more than 8 (R395;
DESIGN CHOICE, log 50). -/
def Fabric.unlocked (f : Fabric) : Nat := f.ofus.foldl (fun n e => Nat.max n (e.2.unlocked.getD 0)) 0
/-- DEPTH, which is equal across the domain (R404); it is read at the OFU whose counters time the package (DESIGN CHOICE, log 50). -/
def Fabric.depth (f : Fabric) : BitVec 11 := (f.ofu f.lead).depth
def Fabric.lost (f : Fabric) : Bool := 8 < f.unlocked
/-- The rotation and the slot of a port's OFU: port p lies on die p div 2 (R392). -/
def State.rotOf (s : State) (port : Nat) : W32 := (s.fab.ofu (port / 2)).rot
def State.slotOf (s : State) (port : Nat) : BitVec 6 := (s.fab.ofu (port / 2)).slot

/-- The peer that light of an offset reaches from this package, and the one that it comes from (R393, R396). -/
def State.targetOf (s : State) (o : Nat) : Nat := (s.peer.toNat + o) % 64
def State.sourceOf (s : State) (o : Nat) : Nat := (s.peer.toNat + 64 - o % 64) % 64
/-- The offset toward a peer. -/
def State.offsetTo (s : State) (t : Nat) : Nat := (t + 64 - s.peer.toNat) % 64

def Fabric.present (f : Fabric) (t : Nat) : Bool := f.peers.getLsbD t

/-- QUIESCED of a peer (R416): a TOPO quiesces the way to it, it awaits its relay's repair, it is under hold, or the marker is
unlocked. -/
def Fabric.quiesced (f : Fabric) (t : Nat) : Bool :=
  let l := f.link t
  l.topo || l.due || l.hold.isSome || (f.lost && f.present t)

/-- a is at or past b, as counts modulo 2^32. -/
def atOrPast (a b : W32) : Bool := (a - b).toNat < 2 ^ 31

/-- An entry of the port's Frieze sends on a line. -/
def Port.sendsOn (p : Port) (l : Nat) : Bool := p.frieze.any (fun e => txLine e.2 == l)
/-- A spare on which an entry sends is in use, for the line of its offset, and one that no entry uses is idle (R400, R409; DESIGN CHOICE,
log 89: what FOR names where a table and no repair uses the spare). -/
def Port.useSpare (p : Port) (l : Nat) : Port :=
  let x := p.line l
  if x.state = 3 && p.sendsOn l then p.setLine l { x with state := 4, forLine := BitVec.ofNat 8 (l - 64) }
  else if x.state = 4 && !p.sendsOn l then p.setLine l { x with state := 3, forLine := 0xFF }
  else p
def Port.useSpares (p : Port) : Port := (List.range 8).foldl (fun p i => p.useSpare (64 + i)) p

/-- A line carries light: GOOD and not muted, or a spare in use (R409, R410). -/
def Port.lineWorks (p : Port) (l : Nat) : Bool :=
  let x := p.line l
  !x.muted && (x.state == 0 || x.state == 4)

/-- A port holds a GOOD or substituted line of an offset (R416). -/
def Port.reaches (p : Port) (o : Nat) : Bool := p.lineWorks o || (o < 8 && (p.line (64 + o)).state == 4)
/-- It reaches through a spare. -/
def Port.spareUsed (p : Port) (o : Nat) : Bool := o < 8 && (p.line (64 + o)).state == 4

/-- The port is UP and reaches a peer directly (R416). -/
def State.portServes (s : State) (p t : Nat) : Bool :=
  let x := s.fab.port p
  let o := s.offsetTo t
  x.state == 2 && o != 0 && !x.retraining.contains (BitVec.ofNat 6 t) && x.reaches o

/-- A port that serves the peer exists. -/
def State.hasDirect (s : State) (t : Nat) : Bool := (List.range 32).any (fun p => s.portServes p t)

/-- The port is UP, and its Frieze holds an appearance to the peer on a GOOD or substituted line (R410). -/
def State.appearsOn (s : State) (port : Port) (t : Nat) : Bool :=
  port.state == 2 && port.frieze.any (fun w =>
    txLine w.2 < 72 && s.targetOf (offsetOf (txLine w.2)) == t && port.lineWorks (txLine w.2))
/-- Some port has an appearance to the peer. -/
def State.appearsTo (s : State) (t : Nat) : Bool := s.fab.ports.any (fun e => s.appearsOn e.2 t)

/-- PORTS of LINK_STATE for a partition (R80, R416, R449): port p lies on die p div 2. -/
def State.portCount (s : State) (part : PartId) (t : Nat) : Nat :=
  ((List.range 32).filter (fun p => s.dieOwner (BitVec.ofNat 4 (p / 2)) == some part && s.portServes p t)).length

/-- MODE of LINK_STATE for a partition (R416): while QUIESCED is 1 what it read when that was set, and kept while no port serves the
peer though it is not removed. A partition none of whose ports serves a peer that another partition's do, with no relay in use, reads 0, as one that has no path
(DESIGN CHOICE, log 52: R80 and R416 do not say). -/
def State.linkMode (s : State) (part : PartId) (t : Nat) : Nat :=
  let l := s.fab.link t
  if t = s.peer.toNat then 1
  else if s.fab.quiesced t then (match l.shown with | some m => (m.getD part.toNat l.mode).toNat | none => l.mode.toNat)
  else if l.mode == 0 then 0
  else if 0 < s.portCount part t then 1
  else if l.mode != 2 && s.hasDirect t then 0
  else l.mode.toNat

/-- LINK_STATE for a peer as a core of a partition reads it (R80). -/
def State.linkWord (s : State) (part : PartId) (t : Nat) : W64 :=
  if t = s.peer.toNat then 1
  else
    let m := s.linkMode part t
    let spare := (List.range 32).any (fun p => s.portServes p t && (s.fab.port p).spareUsed (s.offsetTo t))
    0#48 ++ BitVec.ofBool (s.fab.quiesced t) ++ BitVec.ofBool spare ++ (if m = 2 then (s.fab.link t).relay else 0) ++
      BitVec.ofNat 6 (s.portCount part t) ++ BitVec.ofNat 2 m

/-- What MODE reads of a peer in each partition, kept for while the peer reads QUIESCED; it is taken before what quiesces the peer (R416). -/
def State.keepMode (s : State) (t : Nat) : State :=
  if s.fab.quiesced t then s
  else s.modFab (fun f => f.modLink t (fun l =>
    { l with shown := some ((List.range 16).map (fun p => BitVec.ofNat 2 (s.linkMode (BitVec.ofNat 4 p) t))) }))

/-! ## Repair messages, and the rejoin of a stale peer (R379, R414, R418) -/

def msgPropose : Byte := 1
def msgAccept : Byte := 2
def msgDefer : Byte := 3
def msgRetune : Byte := 4
def msgPortdown : Byte := 5
def msgRetrain : Byte := 6
def msgRejoin : Byte := 7
def msgFlushed : Byte := 8

/-- Repeat a message in the headers to a peer, in place of an earlier one of its kind and RID (R414). -/
def State.say (s : State) (t : Nat) (k : Byte) (m : RepairMsg) : State :=
  s.modFab (fun f => f.modPair t (fun p =>
    { p with msgs := p.msgs.filter (fun e => !(e.1 == k && e.2.rid == m.rid)) ++ [(k, m)] }))
/-- Stop repeating a message. -/
def State.unsay (s : State) (t : Nat) (k : Byte) (rid : BitVec 16) : State :=
  s.modFab (fun f => f.modPair t (fun p => { p with msgs := p.msgs.filter (fun e => !(e.1 == k && e.2.rid == rid)) }))

/-- ACTION of a REJOIN: 4, that of a load, where the pair's counts begin anew (R418); else 0, where only translations are flushed
(R379; DESIGN CHOICE, log 75). -/
def rejoinAction (counts : Bool) : BitVec 4 := if counts then 4 else 0

/-- Begin the rejoin handshake with a peer (R379, R418). -/
def State.sayRejoin (s : State) (t : Nat) (counts : Bool) : State :=
  let m : RepairMsg :=
    { rn := s.fab.rot, action := rejoinAction counts, port := 0, line := 0xFF, owner := s.peer, rpeer := 0, rid := s.fab.rid }
  (s.say t msgRejoin m).modFab (fun b => { b with rid := b.rid + 1 })

/-- A stale peer whose link is there has not been asked to rejoin (R379). -/
def Fabric.rejoins (f : Fabric) (t : Nat) : Bool :=
  f.stale.getLsbD t && f.present t && !f.quiesced t && (f.link t).mode != 0 && !(f.pair t).msgs.any (fun e => e.1 == msgRejoin)
/-- The handshake of R379 begins when the link of a stale peer returns. -/
def State.rejoin (s : State) (t : Nat) : State := if s.fab.rejoins t then s.sayRejoin t false else s

/-- A peer under hold may stay: a direct line to it is there, the marker is locked, and where the hold began in silence a header has
come (R418). -/
def State.returns (s : State) (t : Nat) : Bool :=
  let l := s.fab.link t
  l.hold.isSome && s.hasDirect t && !s.fab.lost && !(l.silent && 8 ≤ (s.fab.rot - (s.fab.pair t).heard).toNat)

/-- LINK_STATE after a change of lines or ports (R416): a held peer whose direct line is back stays (R418), a peer with a direct line
reads MODE 1, and a stale one rejoins (R379). -/
def State.relink (s : State) (t : Nat) : State :=
  let s := if s.returns t then
      s.modFab (fun f => (f.modLink t (fun l => { l with hold := none, due := false, silent := false })).modPair t
        (fun p => { p with heard := f.rot }))
    else s
  if s.fab.quiesced t || !s.fab.present t then s
  else
    let s := if s.hasDirect t && ((s.fab.link t).mode != 2 || s.appearsTo t) then
        s.modFab (fun f => f.modLink t (fun l => { l with mode := 1, relay := 0 }))
      else s
    s.rejoin t
def State.relinkAll (s : State) : State := (List.range 64).foldl State.relink s

/-- A record of the fabric event ring of a die (R423). -/
def State.dieLog (s : State) (d : DieId) (type port line peer rid : Nat) : State :=
  let k := s.die d
  (s.writeNat (ringAddr k.fabLog k.fabLogN) 32 (Config.fabricRecord type port line peer rid (s.fab.ofu d.toNat).rot.toNat).toNat).modDie d
    (fun k => { k with fabLogN := k.fabLogN + 1 })
/-- A record of the ring of a port's die. -/
def State.fabLog (s : State) (type port line peer rid : Nat) : State := s.dieLog (BitVec.ofNat 4 (port / 2)) type port line peer rid

/-! ## Transfers that fail (R276, R277, R330) -/

def CtxId.code : CtxId → Nat
  | .primary => 0
  | .h1 => 1
  | .h2 => 2

/-- A transfer stops with a fault: its record enters the queue of the resident context that issued it (R277, R330). SRC names the copy
engine for every transfer inside the package, a SEND or SENDM that loops back among them (DESIGN CHOICE, log 98). -/
def State.failXfer (s : State) (c : CoreId) (r : Slot) (n : Nat) (x : XferFault) : State :=
  match (s.res c r).xfers.get none n with
  | none => s
  | some t =>
    if t.st == .faulted then s else
    let rec_ : AFault :=
      { landed := BitVec.ofNat 32 (Nat.min x.landed 0xFFFFFFFF), target := t.target, stream := x.stream
        sub := x.sub, ctx := BitVec.ofNat 2 (CtxId.code t.ctx), src := if s.isRemote t.target then 2 else 1
        code := x.cause, pc := t.pc, va := x.va, xfer := some n }
    s.modRes c r (fun rs =>
      { rs with faults := rs.faults ++ [rec_]
                xfers := rs.xfers.put none n (some { t with st := .faulted, landed := x.landed }) })

/-- Every transfer slot of the package: core, resident context, slot, transfer. -/
def State.allXfers (s : State) : List (CoreId × Slot × Nat × Xfer) :=
  s.cores.flatMap (fun e => [Slot.a, Slot.b].flatMap (fun r =>
    (e.2.res r).xfers.filterMap (fun t => t.2.map (fun x => (BitVec.ofNat 12 e.1, r, t.1, x)))))

/-- The circuit of a domain (R408): up, the gateway peer and its port. -/
def circuitUp (w : W64) : Bool := w.getLsbD 0
def circuitGateway (w : W64) : PeerId := w.extractLsb' 1 6
def circuitPort (w : W64) : Nat := (w.extractLsb' 7 5).toNat
def State.circuit (s : State) (dom : BitVec 4) : W64 := s.fab.circuits.get 0 dom.toNat

/-- The pair of counts with a package: peer t of the own domain at t, of domain d at 64 + 64 d + t. -/
def State.pairKey (s : State) (dom : BitVec 4) (t : PeerId) : Nat :=
  if dom == s.domain then t.toNat else 64 + 64 * dom.toNat + t.toNat

/-- What goes to a package goes by a peer: the peer itself, or the gateway of the package's domain (R408). -/
def State.goesBy (s : State) (t : Nat) (dom : BitVec 4) (dst : PeerId) : Bool :=
  if dom == s.domain then dst.toNat == t else circuitUp (s.circuit dom) && (circuitGateway (s.circuit dom)).toNat == t

/-- The frames a test picks are held no longer, and the transfers to the packages it picks fail with FABRIC_UNREACHABLE (R276). -/
def State.failAll (s : State) (gone : BitVec 4 → PeerId → Bool) : State :=
  let s := s.modFab (fun f => { f with out := f.out.filter (fun o => !(gone o.frame.ddom o.frame.dst)) })
  s.allXfers.foldl (fun s e =>
    match e with
    | (c, r, n, x) =>
      if s.isRemote x.target && gone (x.target.extractLsb' 18 4) (x.target.extractLsb' 12 6) && x.st != .faulted then
        s.failXfer c r n { cause := 0x20, sub := 0, va := 0, stream := 0, landed := x.landed }
      else s) s

/-- The transfers to a peer that is gone, and to a domain whose gateway it was, fail (R276, R408). -/
def State.failTo (s : State) (t : Nat) : State := s.failAll (s.goesBy t)

/-- Every frame of a transfer has been acknowledged. -/
def State.acked (s : State) (c : CoreId) (r : Slot) (n : Nat) : Bool :=
  !s.fab.out.any (fun o => o.xfer == some (c, r, n) && !o.acked)

/-- A frame that may be sent again belongs to a held transfer: not every frame of it has been acknowledged, or it is a GET's. -/
def State.heldFrame (s : State) (o : OutFrame) : Bool :=
  match o.xfer with
  | some e => !s.acked e.1 e.2.1 e.2.2 || o.frame.kind == 3
  | none => !o.acked

/-- The held transfers to the packages picked are replayed from their first frame, with new SEQ numbers; what they landed is landed
again (R276, R420). The first of the new numbers is the ACK of the next header that comes, as after an OFU's reset (R404; DEDUCED,
log 51: a number that was sent and lost must not stay missing at the receiver). -/
def State.replay (s : State) (picks : BitVec 4 → PeerId → Bool) : State :=
  let mine := fun (o : OutFrame) => picks o.frame.ddom o.frame.dst && s.heldFrame o
  let held := s.fab.out.filter mine
  let keys := held.map (fun o => s.pairKey o.frame.ddom o.frame.dst)
  let s := (held.filterMap (fun o => o.xfer)).foldl (fun (s : State) e =>
    s.modRes e.1 e.2.1 (fun r => { r with xfers := r.xfers.mod none e.2.2 (fun x => x.map (fun y => { y with landed := 0 })) })) s
  s.modFab (fun f =>
    { f with
      out := f.out.map (fun o => if mine o then { o with seq := none, sentAt := none, via := none, again := false, acked := false } else o)
      pairs := f.pairs.map (fun e => (e.1, if keys.contains e.1 then { e.2 with mute := true } else e.2)) })
def State.replayTo (s : State) (t : Nat) : State := s.replay (s.goesBy t)

end Sys2Proof.Machine
end

