-- ==== Sys2Proof/Machine/Fabric.lean ====
section
/-! DEFINITION. The optical fabric's link layer: slots and sending (R394 to R408), translations of remote pages (R376), retransmission,
line and port faults (R409 to R413), repair messages (R414 to R417), silence, hold and removal (R418). -/

namespace Sys2Proof.Machine

/-! ## Pairs and permits (R402, R404) -/

/-- DEPTH's share apart, what a pair leaves of its permits: FREED - SENT modulo 2^32. -/
def Pair.slack (p : Pair) : W32 := p.freedIn - p.sent
/-- The pairs with the packages of a remote domain. -/
def Fabric.domainPairs (f : Fabric) (dom : BitVec 4) : List Pair :=
  (f.pairs.filter (fun e => 64 + 64 * dom.toNat ≤ e.1 && e.1 < 128 + 64 * dom.toNat)).map (fun e => e.2)
/-- Permits toward a destination modulo 2^32: FREED + DEPTH - SENT of the pair; that the packages of a remote domain share DEPTH buffers
is the receiver's (R404). -/
def State.permits (s : State) (dom : BitVec 4) (t : PeerId) : W32 :=
  s.fab.depth.setWidth 32 + (s.fab.pair (s.pairKey dom t)).slack
/-- A count of permits that is positive. -/
def positive (n : W32) : Bool := 0 < n.toNat && n.toNat < 2 ^ 31

/-- Where a frame goes next: a peer by a direct appearance, or this package's own circuit port, or nowhere now (R407, R408). -/
inductive Hop where
  | peer (t : Nat)
  | circuit (port : Nat)
  | nowhere
deriving DecidableEq, Repr

/-- Toward a peer of the own domain: directly, or by its relay. -/
def State.hopToPeer (s : State) (t : Nat) : Hop :=
  let l := s.fab.link t
  if s.fab.quiesced t || l.mode == 0 then .nowhere
  else if l.mode == 2 && !s.appearsTo t then (if s.fab.quiesced l.relay.toNat then .nowhere else .peer l.relay.toNat)
  else .peer t

def State.nextHop (s : State) (f : Frame) : Hop :=
  if f.ddom == s.domain then s.hopToPeer f.dst.toNat
  else if s.fab.heldDomains.contains f.ddom || !circuitUp (s.circuit f.ddom) then .nowhere
  else if circuitGateway (s.circuit f.ddom) == s.peer then .circuit (circuitPort (s.circuit f.ddom))
  else s.hopToPeer (circuitGateway (s.circuit f.ddom)).toNat

/-- Where a frame that is relayed here goes: by an appearance to its destination or to the gateway, or on the circuit (R407, R408). -/
def State.relayHop (s : State) (f : Frame) : Hop :=
  if f.ddom == s.domain then .peer f.dst.toNat
  else if s.fab.heldDomains.contains f.ddom || !circuitUp (s.circuit f.ddom) then .nowhere
  else if circuitGateway (s.circuit f.ddom) == s.peer then .circuit (circuitPort (s.circuit f.ddom))
  else .peer (circuitGateway (s.circuit f.ddom)).toNat

/-! ## Frames, and the translations they carry (R376, R401) -/

/-- An empty frame toward a peer (R401). -/
def State.emptyFrame (s : State) (dom : BitVec 4) (t : PeerId) : Frame :=
  { repair := 0, barr := [], freed := 0, ack := 0, seq := 0, addr := 0, kind := 0, relayed := false, retx := false
    rot := 0, slot := 0, lane := 0, port := 0, ddom := dom, dst := t, src := s.peer, sdom := s.domain, xid := 0
    payload := [], cmd := default, fecOk := true }

/-- A frame toward a package, before its link fields are stamped. -/
def State.frameTo (s : State) (t : BitVec 22) (kind : Byte) (xid : BitVec 12) (addr : VAddr) (cmd : Carried) (payload : List Byte) :
    Frame :=
  { s.emptyFrame (tDom t) (tPeer t) with kind := kind, xid := xid, addr := addr, cmd := cmd, payload := payload }

/-- The key of a remote-window translation: the window or the task's space, and the page (R376). A window's 64 KiB of offsets lie on two
pages where its base is no multiple of 64 KiB, so that its first and its last byte have a key each; of a SENDM the key is the window
and the mask, and the page that of the first expert's area (DEDUCED, log 45). -/
def rwtKey (kind : Byte) (cmd : Carried) (off : Nat) : Nat :=
  if kind = 6 then 2 ^ 101 + winNo cmd.va * 2 ^ 32 + cmd.mask.toNat
  else if kind = 5 then 2 ^ 100 + winNo cmd.va * 2 ^ 49 + off / 2 ^ 16 * 2 + (if off % 2 ^ 16 = 0xFFFF then 1 else 0)
  else cmd.task.toNat * 2 ^ 48 + (cmd.va.toNat + off) / 2 ^ 16
/-- A frame of a PUT or GET of a global address, a SEND or a SENDM: its sender asks for a translation first (R376). -/
def translates (kind : Byte) (cmd : Carried) : Bool := kind = 1 || kind = 5 || kind = 6 || (kind = 3 && cmd.glob)

/-- The offsets, one in each page, at which an access of n bytes needs a translation. -/
def pageOffsets (va n : Nat) : List Nat :=
  (List.range ((va % 2 ^ 16 + n + 2 ^ 16 - 1) / 2 ^ 16)).map (fun i => if i = 0 then 0 else i * 2 ^ 16 - va % 2 ^ 16)
/-- The first and the last offset of each 64 KiB of a window that n bytes from an offset on reach. -/
def windowOffsets (a n : Nat) : List Nat :=
  (List.range ((a % 2 ^ 16 + n + 2 ^ 16 - 1) / 2 ^ 16)).flatMap (fun i => [(a / 2 ^ 16 + i) * 2 ^ 16, (a / 2 ^ 16 + i) * 2 ^ 16 + 0xFFFF])
/-- The offsets of the pages that n bytes of a transfer from an offset on reach: in the transfer, or in the window of a SEND. -/
def pagesFrom (kind : Byte) (cmd : Carried) (first n : Nat) : List Nat :=
  if !translates kind cmd then []
  else if kind = 6 then [0]
  else if kind = 5 then windowOffsets (winOff cmd.va + first) n
  else (pageOffsets (cmd.va.toNat + first) n).map (fun o => first + o)
/-- Those of a frame: a read request reaches all that its transfer does. -/
def carriedAt (f : Frame) : List Nat := pagesFrom f.kind f.cmd f.cmd.first (if f.kind = 3 then f.cmd.total else f.payload.length)

/-- The translation that the OFU of a die holds for a key of another package. -/
def State.rwtAt (s : State) (d : DieId) (dom : BitVec 4) (t : PeerId) (key : Nat) : Option W64 :=
  ((s.die d).rwt.find? (fun e => e.1 == dom && e.2.1 == t && e.2.2.1 == key)).map (fun e => e.2.2.2)

/-- The frame with translations: ADDR of a global write is the physical address (R401). -/
def withPages (f : Frame) (l : List W64) : Frame :=
  { f with
    addr := if f.kind = 1 then BitVec.ofNat 48 (ptePa (l.headD 0) + (f.cmd.va.toNat + f.cmd.first) % 2 ^ 16) else f.addr
    cmd := { f.cmd with pages := l } }
/-- The frame with the translations that its OFU holds. -/
def State.carry (s : State) (f : Frame) : Frame :=
  withPages f ((carriedAt f).map (fun o => (s.rwtAt (dieOf (tCore f.cmd.source)) f.ddom f.dst (rwtKey f.kind f.cmd o)).getD 0))

/-- Every translation that the frame needs is held. -/
def OutFrame.translated (o : OutFrame) : Bool := !o.frame.cmd.pages.contains 0

/-- Ask the destination of a frame of a transfer for the page at an offset (R376), once. -/
def State.askFor (s : State) (o : OutFrame) (off : Nat) : State :=
  let f := o.frame
  if s.fab.out.any (fun p => p.frame.kind == 8 && p.xfer == o.xfer && p.frame.xid == f.xid && p.frame.cmd.first == off) then s
  else
    let ask : Frame :=
      { s.emptyFrame f.ddom f.dst with kind := 8, xid := f.xid, addr := BitVec.ofNat 48 f.kind.toNat, cmd := { f.cmd with first := off, pages := [] } }
    s.modFab (fun b => { b with out := b.out ++ [{ frame := ask, part := o.part, xfer := o.xfer }] })

/-- The frames picked lose their translations and ask afresh (R379). -/
def State.untell (s : State) (picks : OutFrame → Bool) : State :=
  let mine := fun (o : OutFrame) => picks o && translates o.frame.kind o.frame.cmd && !o.acked
  let s := s.modFab (fun b => { b with out := b.out.map (fun o => if mine o then { o with frame := withPages o.frame (o.frame.cmd.pages.map (fun _ => 0)) } else o) })
  (s.fab.out.filter mine).foldl (fun s o => (carriedAt o.frame).foldl (fun s n => s.askFor o n) s) s

/-! ## Sending in a slot (R400, R402, R403, R406) -/

/-- A frame as it leaves: its place in the schedule and the counts its header carries (R401). -/
def State.stamp (s : State) (f : Frame) (seq : W32) (port lane : Nat) (retx : Bool) : Frame :=
  let p := s.fab.pair (s.pairKey f.ddom f.dst)
  { f with ack := p.expect, freed := p.freedOut, seq := seq, rot := s.rotOf port, slot := s.slotOf port
           lane := BitVec.ofNat 4 lane, port := BitVec.ofNat 5 port, retx := retx
           repair := match p.msgs.head? with
             | some (k, m) =>
               k ++ m.rn ++ m.action ++ m.port ++ m.line ++ m.owner ++ m.rpeer ++ m.rid ++ 0#43
             | none => 0 }
/-- A header to a pair has carried its next repair message: the others follow in turn (R414). -/
def State.turnMsgs (s : State) (k : Nat) : State :=
  s.modFab (fun f => f.modPair k (fun p => { p with msgs := p.msgs.tail ++ p.msgs.head?.toList }))

/-- The port belongs to the frame's partition (R449). -/
def State.ownPort (s : State) (p : Nat) (o : OutFrame) : Bool := s.dieOwner (BitVec.ofNat 4 (p / 2)) == some o.part

/-- A frame that may leave for the first time toward a hop (R400, R404). -/
def State.mayLeave (s : State) (p : Nat) (hop : Hop) (o : OutFrame) : Bool :=
  o.seq.isNone && o.translated && s.nextHop o.frame == hop && s.ownPort p o && positive (s.permits o.frame.ddom o.frame.dst) &&
  !(s.fab.pair (s.pairKey o.frame.ddom o.frame.dst)).mute

/-- Change the first entry that a test picks. -/
def modFirst {α : Type} (t : α → Bool) (g : α → α) : List α → List α
  | [] => []
  | x :: r => if t x then g x :: r else x :: modFirst t g r

/-- The first n entries that a test picks, and the others in their order. -/
def takeFit {α : Type} (t : α → Bool) : Nat → List α → List α × List α
  | _, [] => ([], [])
  | 0, l => ([], l)
  | n + 1, x :: r =>
    if t x then (x :: (takeFit t n r).1, (takeFit t n r).2) else ((takeFit t (n + 1) r).1, x :: (takeFit t (n + 1) r).2)

/-- The partition whose Armature range holds a group (R450). -/
def State.groupPart (s : State) (g : GroupId) : Option PartId :=
  ((List.range 16).map (BitVec.ofNat 4)).find? (fun p => (s.part p).cfg.getLsbD 63 && s.inArmRange p g)
/-- A barrier item may leave by a port of its group's partition (R406, R449). -/
def State.itemFits (s : State) (p : Nat) (b : BitVec 16) : Bool :=
  s.groupPart (b.extractLsb' 8 8) == s.dieOwner (BitVec.ofNat 4 (p / 2))

/-- A frame has left now, by a port and a line. -/
def State.left (s : State) (o : OutFrame) (f : Frame) (seq : W32) (p : Nat) (line : Byte) : OutFrame :=
  { o with frame := f, seq := some seq, sentAt := some (s.rotOf p), sentSlot := s.slotOf p, via := some (BitVec.ofNat 5 p, line), again := false }

/-- Send one new frame: it takes the next SEQ of its pair, and up to four barrier items with those it has (R402, R406). -/
def State.sendNew (s : State) (p lane : Nat) (line : Byte) (hop : Hop) : State :=
  match s.fab.out.find? (s.mayLeave p hop) with
  | none => s
  | some o =>
    let k := s.pairKey o.frame.ddom o.frame.dst
    let pr := s.fab.pair k
    let items := takeFit (s.itemFits p) (4 - o.frame.barr.length) pr.items
    let f := { s.stamp o.frame pr.sent p lane false with barr := o.frame.barr ++ items.1 }
    (s.modFab (fun fb =>
      { fb with out := modFirst (s.mayLeave p hop) (fun o => s.left o f pr.sent p line) fb.out,
                pairs := fb.pairs.mod {} k (fun q => { q with sent := q.sent + 1, items := items.2 }) })).turnMsgs k

/-- Peers whose barrier items wait with no frame to carry them, and go by a hop and a port. -/
def State.itemPeers (s : State) (p : Nat) (hop : Hop) : List Nat :=
  (List.range 64).filter (fun k =>
    let pr := s.fab.pair k
    !pr.mute && pr.items.any (s.itemFits p) && s.nextHop (s.emptyFrame s.domain (BitVec.ofNat 6 k)) == hop)

/-- Otherwise a header-only frame: one that carries waiting barrier items becomes sequenced (R400, R402, R406). -/
def State.sendHeader (s : State) (p lane : Nat) (line : Byte) (hop : Hop) : State :=
  match (s.itemPeers p hop).head?, hop with
  | some k, _ =>
    let pr := s.fab.pair k
    let items := takeFit (s.itemFits p) 4 pr.items
    let f := { s.stamp (s.emptyFrame s.domain (BitVec.ofNat 6 k)) pr.sent p lane false with barr := items.1 }
    let sent := s.left { frame := f, part := (s.dieOwner (BitVec.ofNat 4 (p / 2))).getD 0 } f pr.sent p line
    (s.modFab (fun fb =>
      { fb with out := fb.out ++ [sent],
                pairs := fb.pairs.mod {} k (fun q => { q with sent := q.sent + 1, items := items.2 }) })).turnMsgs k
  | none, .peer t => s.turnMsgs t
  | none, _ => s

/-- Frames to be sent again by a port and a hop. -/
def State.mayResend (s : State) (p : Nat) (hop : Hop) (o : OutFrame) : Bool :=
  o.again && o.translated && s.nextHop o.frame == hop && s.ownPort p o
/-- The one that goes first: of the pair of the first, in SEQ order from the ACK that the pair holds (R403). -/
def State.resendNext (s : State) (p : Nat) (hop : Hop) : Option OutFrame :=
  match s.fab.out.filter (s.mayResend p hop) with
  | [] => none
  | o :: l =>
    let k := s.pairKey o.frame.ddom o.frame.dst
    let rank := fun (x : OutFrame) => (x.seq.getD 0 - (s.fab.pair k).acked).toNat
    some (l.foldl (fun a x => if s.pairKey x.frame.ddom x.frame.dst == k && rank x < rank a then x else a) o)

/-- What one appearance sends (R400, R403, R407): on a RELAY entry a relayed frame first; a frame to be sent again; the oldest own
frame that may leave; a relayed frame; else a header. -/
def State.appear (s : State) (p lane : Nat) (line : Byte) (relay : Bool) (hop : Hop) : State :=
  let relayed := fun (f : Frame) => s.relayHop f == hop
  let pass := s.modFab (fun fb => { fb with relay := fb.relay.eraseP relayed })
  if relay && s.fab.relay.any relayed then pass
  else match s.resendNext p hop with
    | some o =>
      let f := s.stamp o.frame (o.seq.getD 0) p lane true
      (s.modFab (fun fb => { fb with out := modFirst (· == o) (fun o => s.left o f (o.seq.getD 0) p line) fb.out })).turnMsgs
        (s.pairKey o.frame.ddom o.frame.dst)
    | none =>
      if s.fab.out.any (s.mayLeave p hop) then s.sendNew p lane line hop
      else if s.fab.relay.any relayed then pass
      else s.sendHeader p lane line hop

/-- The OFU has the marker's counters, its own since lock was lost. -/
def Ofu.runs (o : Ofu) : Bool := o.lock || o.unlocked.isSome

/-- The appearances of one slot: lane, port, line, RELAY, hop, in ascending port number for each lane (R396, R400). A muted, BAD,
RETUNE or DARK line is idle, as is one toward a peer with which the port retrains (R410, R411, R417). -/
def State.appearances (s : State) : List (Nat × Nat × Nat × Bool × Hop) :=
  (List.range 16).flatMap (fun lane =>
    s.fab.ports.filterMap (fun e =>
      let x := e.2
      let o := s.fab.ofu (e.1 / 2)
      let w := x.entry o.slot.toNat lane
      let t := s.targetOf (offsetOf (txLine w))
      if !o.runs then none
      else if x.state == 4 then some (lane, e.1, lane, false, .circuit e.1)
      else if x.state == 2 && txLine w < 72 && x.lineWorks (txLine w) && !x.retraining.contains (BitVec.ofNat 6 t) then
        some (lane, e.1, txLine w, relayBit w, .peer t)
      else none))

/-- The sending of one slot; a package that has lost lock for more than 8 slots sends nothing (R395). -/
def State.transmit (s : State) : State :=
  if s.fab.lost then s else s.appearances.foldl (fun s a => s.appear a.2.1 a.1 (BitVec.ofNat 8 a.2.2.1) a.2.2.2.1 a.2.2.2.2) s

/-- One marker pulse at an OFU: it counts the slot, and without lock how long that lasts (R395). -/
def Ofu.pulse (o : Ofu) : Ofu :=
  if o.runs then
    { o with slot := o.slot + 1, rot := if o.slot = 63 then o.rot + 1 else o.rot
             unlocked := if o.lock then none else o.unlocked.map (fun n => n + 1) }
  else o

/-- Every present peer but this package. -/
def State.peerList (s : State) : List Nat := (List.range 64).filter (fun t => s.fab.present t && t != s.peer.toNat)

/-- MARKER_LOCK_LOSS (R395, R416): a die's OFU loses lock and counts on; after more than 8 slots the package sends nothing, and every
peer reads QUIESCED. -/
def State.lockLoss (s : State) (d : Nat) : State :=
  s.modFab (fun f => f.modOfu d (fun o => { o with lock := false, unlocked := if o.lock then some 0 else o.unlocked }))
def execMarkerLockLoss (s : State) : Out := agent (s.lockLoss s.cur.die.toNat)

/-- MARKER_LOCK_ACQUIRED (R395): a die's OFU takes the marker's counters, and LINK_STATE follows (R416). -/
def State.lockAcquired (s : State) (d : Nat) (rot : W32) (slot : BitVec 6) : State :=
  (s.modFab (fun f => f.modOfu d (fun o => { o with lock := true, rot := rot, slot := slot, unlocked := none }))).relinkAll
def execMarkerLockAcquired (rot : W32) (slot : BitVec 6) (s : State) : Out :=
  agent (s.lockAcquired s.cur.die.toNat rot slot)

/-- The slots since a frame was sent. -/
def State.slotsSince (s : State) (o : OutFrame) : Nat :=
  match o.sentAt, o.via with
  | some r, some v => ((s.rotOf v.1.toNat ++ s.slotOf v.1.toNat) - (r ++ o.sentSlot)).toNat
  | _, _ => 0

/-- RETRANSMIT_TIMEOUT (R403): 2 rotations after a frame to a package of a peer number, of any domain, was sent and not acknowledged,
every unacknowledged frame to that package is to be sent again. -/
def State.retransmit (s : State) (t : Nat) : State :=
  let open_ := fun (o : OutFrame) => o.frame.dst.toNat == t && o.seq.isSome && !o.acked
  let late := ((s.fab.out.filter (fun o => open_ o && 128 ≤ s.slotsSince o)).map (fun o => s.pairKey o.frame.ddom o.frame.dst))
  s.modFab (fun f => { f with out := f.out.map (fun o =>
    if open_ o && late.contains (s.pairKey o.frame.ddom o.frame.dst) then { o with again := true } else o) })
def execRetransmitTimeout (t : PeerId) (s : State) : Out := agent (s.onceReady (fun s => s.retransmit t.toNat))

/-- Frames that left in this slot on a line or port now faulted are sent again with all that are not acknowledged (R403). -/
def State.resendVia (s : State) (via : PortId × Byte → Bool) : State :=
  let hit := fun (o : OutFrame) => !o.acked && (match o.via with | some v => via v && o.sentAt.isSome && s.slotsSince o == 0 | none => false)
  let peers := (s.fab.out.filter hit).map (fun o => (o.frame.ddom, o.frame.dst))
  s.modFab (fun f => { f with out := f.out.map (fun o =>
    if o.seq.isSome && !o.acked && peers.contains (o.frame.ddom, o.frame.dst) then { o with again := true } else o) })

/-! ## Repairs proposed (R410, R413, R414) -/

def Repair.msg (r : Repair) : RepairMsg :=
  { rn := r.rn, action := r.action, port := r.port, line := r.line, owner := r.owner, rpeer := r.relay, rid := r.rid }

/-- Propose a repair of this package's own to the members of its repair set: the target, the relay, and for DRIFT the targets of the
adjacent offsets (R413, R414). -/
def State.proposeRepair (s : State) (action : BitVec 4) (port line target : Nat) (relay : Option Nat) (drift : Bool) : State :=
  let o := offsetOf line
  let near := if drift then [s.targetOf (o + 63), s.targetOf (o + 1)].filter (fun t => t != s.peer.toNat && t != target) else []
  let members := (target :: relay.toList ++ near).eraseDups.filter (fun t => s.fab.present t)
  let r : Repair :=
    { owner := s.peer, rid := s.fab.rid, rn := s.rotOf port + 3, action := action, port := BitVec.ofNat 5 port
      line := BitVec.ofNat 8 line, target := BitVec.ofNat 6 target, relay := BitVec.ofNat 6 (relay.getD 0)
      waiting := members.map (BitVec.ofNat 6), members := members.map (BitVec.ofNat 6) }
  let s := s.modFab (fun f => { f with rid := f.rid + 1, repairs := f.repairs ++ [r] })
  members.foldl (fun s t => s.say t msgPropose r.msg) s

/-- A peer is left with no direct line until its relay takes effect (R410, R416). -/
def State.awaitRelay (s : State) (t : Nat) : State := s.modFab (fun f => f.modLink t (fun l => { l with due := true }))
/-- The hold of 8 rotations before removal (R418). -/
def State.holdPeer (s : State) (t : Nat) (silent : Bool := false) : State :=
  s.modFab (fun f => f.modLink t (fun l => if l.hold.isSome then l else { l with hold := some 8, silent := silent }))

/-- A peer that may relay to a target on a port: present, and the lines of both hops are good (R410). -/
def State.mayRelay (s : State) (port r t : Nat) : Bool :=
  s.fab.present r && r != s.peer.toNat && r != t && (s.fab.port port).state == 2 && (s.fab.port port).reaches (s.offsetTo r) &&
  Config.peerLineGood (s.rotOf port).toNat r port t
/-- The relay for a target on a port: the lowest such peer (R410). -/
def State.relayFor (s : State) (port t : Nat) : Option Nat := (List.range 64).find? (fun r => s.mayRelay port r t)

/-- Another UP port holds an appearance to the target on a GOOD or substituted line (R410). -/
def State.otherAppearance (s : State) (port t : Nat) : Bool := s.fab.ports.any (fun e => e.1 != port && s.appearsOn e.2 t)

/-- Steps 3 and 4 of R410 for a target: a relay is proposed and the peer quiesced until then, or the peer is held. -/
def State.relayOrHold (s : State) (port line t : Nat) (drift : Bool := false) : State :=
  match s.relayFor port t with
  | some r => (s.proposeRepair 3 port line t (some r) drift).awaitRelay t
  | none => s.holdPeer t
/-- A port on which a relay for the target exists. -/
def State.relayPort (s : State) (t : Nat) : Option Nat := (List.range 32).find? (fun p => (s.relayFor p t).isSome)
/-- The same where no line is named: on the first port with a relay (R412, R418). -/
def State.relayAny (s : State) (t : Nat) : State :=
  match s.relayPort t with
  | some p => s.relayOrHold p (s.offsetTo t) t
  | none => s.holdPeer t

/-- The peers that a relay brings, and that have no direct line: with it gone each is relayed anew or held (R410, R418). -/
def State.relayLost (s : State) (r : Nat) : State :=
  (s.peerList.filter (fun u => u != r && (s.fab.link u).mode == 2 && (s.fab.link u).relay.toNat == r && !s.hasDirect u)).foldl
    (fun (s : State) u => (s.keepMode u).relayAny u) s

/-! ## Lines (R409 to R411) -/

/-- A spare is in use, whatever its STATE reads for now. -/
def Line.inUse (x : Line) : Bool := x.forLine != 0xFF
/-- STATE of a line that is well: GOOD, or for a spare in use or idle. -/
def Line.well (l : Nat) (x : Line) : BitVec 4 := if l < 64 then 0 else if x.inUse then 4 else 3

/-- A pending SUBSTITUTE of this package's own moves entries to the spare (R415). -/
def State.spareAwaited (s : State) (port line : Nat) : Bool :=
  s.fab.repairs.any (fun r => r.owner == s.peer && r.action == 1 && r.port.toNat == port && 64 + r.line.toNat == line)

/-- A line is declared DRIFT (R410, R413, R415): it becomes BAD and is muted, its frames are sent again, and a repair is proposed. A
spare that no appearance uses or is about to use has nothing to repair. -/
def State.declareDrift (s : State) (port line : Nat) : State :=
  let x := (s.fab.port port).line line
  let t := s.targetOf (offsetOf line)
  let sub := line < 8 && ((s.fab.port port).line (64 + line)).state == 3
  let idle := 64 ≤ line && !x.inUse && !s.spareAwaited port line && !(s.fab.port port).sendsOn line
  let s := s.keepMode t
  let s := s.modFab (fun f => f.modPort port (fun p => p.setLine line { x with state := 2, muted := true, retune := none, forLine := 0xFF }))
  let s := (s.fabLog 1 port line t 0).resendVia (fun v => v.1.toNat == port && v.2.toNat == line)
  if idle || !s.fab.present t || offsetOf line = 0 then s
  else if sub then s.proposeRepair 1 port line t none true
  else if s.otherAppearance port t then s.proposeRepair 2 port line t none true
  else
    let s := s.relayOrHold port line t true
    if s.hasDirect t then s else s.relayLost t

/-- DRIFT's absolute value is beyond 8,000 MHz. -/
def drifted (mhz : BitVec 16) : Bool := 8000 < mhz.toInt.natAbs

/-- LINE_DRIFT (R409, R410): the monitor's offset; beyond 8,000 MHz the line is declared DRIFT. -/
def State.lineDrift (s : State) (port line : Nat) (mhz : BitVec 16) : State :=
  let s := s.modFab (fun f => f.modPort port (fun p => p.setLine line { p.line line with drift := mhz }))
  let st := ((s.fab.port port).line line).state
  if drifted mhz && line < 72 && (st == 0 || st == 3 || st == 4) then s.declareDrift port line else s
def execLineDrift (port : PortId) (line : Byte) (mhz : BitVec 16) (s : State) : Out :=
  agent (s.onceReady (fun s => s.lineDrift port.toNat line.toNat mhz))

/-- LINE_RETUNE_START (R411): at most one line of a port; the RETUNE message names the next rotation, and the event ring has a record
(R423). -/
def State.retuneStart (s : State) (port line : Nat) : State :=
  let p := s.fab.port port
  let st := (p.line line).state
  if p.lines.any (fun l => l.2.retune.isSome) || 72 ≤ line || !(st == 0 || st == 3 || st == 4) then s
  else
    let rn := s.rotOf port + 1
    let s := s.modFab (fun f => f.modPort port (fun p => p.setLine line { p.line line with retune := some rn }))
    let m : RepairMsg := { rn := rn, action := 0, port := BitVec.ofNat 5 port, line := BitVec.ofNat 8 line, owner := s.peer, rpeer := 0, rid := s.fab.rid }
    ((s.say (s.targetOf (offsetOf line)) msgRetune m).modFab (fun f => { f with rid := f.rid + 1 })).fabLog 7 port line
      (s.targetOf (offsetOf line)) m.rid.toNat
def execLineRetuneStart (port : PortId) (line : Byte) (s : State) : Out :=
  agent (s.onceReady (fun s => s.retuneStart port.toNat line.toNat))

/-- RETUNE_END (R411): 3 rotations after RN the line is well again, of which the event ring has a record too, or is declared DRIFT. -/
def State.retuneEnd (s : State) (port line : Nat) (mhz : BitVec 16) : State :=
  let x := (s.fab.port port).line line
  match x.retune with
  | none => s
  | some rn =>
    if (s.rotOf port - rn).toNat < 3 || x.state != 1 then s
    else
      let t := s.targetOf (offsetOf line)
      let s := s.modFab (fun f => f.modPort port (fun p => p.setLine line { x with drift := mhz, state := x.well line, retune := none }))
      let s := s.modFab (fun f => f.modPair t (fun p => { p with msgs := p.msgs.filter (fun e => !(e.1 == msgRetune && e.2.port.toNat == port && e.2.line.toNat == line)) }))
      if drifted mhz then s.declareDrift port line else (s.fabLog 8 port line t 0).relink t
def execRetuneEnd (port : PortId) (line : Byte) (mhz : BitVec 16) (s : State) : Out :=
  agent (s.onceReady (fun s => s.retuneEnd port.toNat line.toNat mhz))

/-! ## Ports (R412) -/

/-- A peer has lost its path: its direct line, or the way to its relay. -/
def State.pathLost (s : State) (had : List Nat) (t : Nat) : Bool :=
  !s.hasDirect t && (had.contains t || ((s.fab.link t).mode == 2 && had.contains (s.fab.link t).relay.toNat && !s.hasDirect (s.fab.link t).relay.toNat))

/-- A port goes DOWN with every line DARK: PORTDOWN to every present peer, two rotations ahead; a peer left with no path is relayed or
held (R412). -/
def State.portFails (s : State) (port : Nat) : State :=
  let had := (List.range 64).filter s.hasDirect
  let s := s.peerList.foldl State.keepMode s
  let s := s.modFab (fun f => f.modPort port (fun p =>
    { p with state := 0, lines := (List.range 72).foldl (fun t l => t.put (freshLine l) l { p.line l with state := 5, retune := none, forLine := 0xFF }) [] }))
  let s := (s.fabLog 2 port 0xFF 0 0).resendVia (fun v => v.1.toNat == port)
  let m : RepairMsg := { rn := s.rotOf port + 2, action := 0, port := BitVec.ofNat 5 port, line := 0xFF, owner := s.peer, rpeer := 0, rid := s.fab.rid }
  let s := s.modFab (fun f => { f with rid := f.rid + 1 })
  s.peerList.foldl (fun s t =>
    let s := s.say t msgPortdown m
    if s.pathLost had t then s.relayAny t else s) s
def State.combFailure (s : State) (port : Nat) : State := if (s.fab.port port).state == 0 then s else s.portFails port
def execCombFailure (port : PortId) (s : State) : Out := agent (s.onceReady (fun s => s.combFailure port.toNat))

/-! ## Repair messages received (R412, R414, R417, R418) -/

/-- A rotation is ahead of a port's OFU. -/
def State.ahead (s : State) (port : PortId) (rn : W32) : Bool := !atOrPast (s.rotOf port.toNat) rn

/-- The member can apply its part: a target, a relay, or a member of a load can; an adjacent target once its receive lanes on the port
are clean, which no register shows (R413, R414; log 23). -/
def State.mayAccept (s : State) (r : Repair) : Bool :=
  r.target == s.peer || r.action == 4 || (r.action == 3 && r.relay == s.peer) || Config.lanesClean (s.rotOf r.port.toNat).toNat r.port.toNat

/-- A TOPO of this package is at step 5: its tables wait for their rotation (R420). -/
def State.awaitsLoad (s : State) : Bool := match s.fab.topo with | some x => x.step == 5 | none => false

/-- PROPOSE: a member keeps a repair whose RN is ahead, that of a load once its own TOPO is at step 5, a later proposal of its RID in place of the earlier, and answers ACCEPT once
it can apply its part (R414). -/
def State.onPropose (s : State) (t : PeerId) (m : RepairMsg) : State :=
  let r : Repair := { owner := m.owner, rid := m.rid, rn := m.rn, action := m.action, port := m.port, line := m.line
                      target := if m.action = 4 then s.peer else BitVec.ofNat 6 ((m.owner.toNat + offsetOf m.line.toNat) % 64), relay := m.rpeer }
  if !s.ahead m.port m.rn || (m.action = 4 && !s.awaitsLoad) then s
  else
    let same := fun (x : Repair) => x.owner == m.owner && x.rid == m.rid
    let kept := fun (l : List Repair) => if l.any same then l.map (fun x => if same x then r else x) else l ++ [r]
    let s := s.modFab (fun f => { f with repairs := kept f.repairs })
    if s.mayAccept r then s.say t.toNat msgAccept m else s
def execPropose (t : PeerId) (m : RepairMsg) (s : State) : Out := agent (s.onceReady (fun s => s.onPropose t m))

/-- ACCEPT: a member of the repair set has accepted, or the other end of a retraining has, for the RN that stands (R414, R417). -/
def State.onAccept (s : State) (t : PeerId) (m : RepairMsg) : State :=
  let s := s.modFab (fun f =>
    { f with
      repairs := f.repairs.map (fun r =>
        if r.owner == s.peer && r.rid == m.rid && r.rn == m.rn then { r with waiting := r.waiting.erase t } else r)
      retrains := f.retrains.map (fun a => if a.own && a.peer == t && a.port == m.port && a.rn == m.rn then { a with accepted := true } else a) })
  let said := fun (e : Byte × RepairMsg) => (e.1 == msgPropose || e.1 == msgRetrain) && e.2.rid == m.rid && e.2.rn == m.rn
  s.modFab (fun f => f.modPair t.toNat (fun p => { p with msgs := p.msgs.filter (fun e => !said e) }))
def execAccept (t : PeerId) (m : RepairMsg) (s : State) : Out := agent (s.onceReady (fun s => s.onAccept t m))

/-- DEFER of the request that stands: the retraining is put off by one rotation and requested again; after four, the fifth request
stands whatever the answer (R417). -/
def State.onDefer (s : State) (t : PeerId) (m : RepairMsg) : State :=
  let hit := fun (a : Announced) => a.own && a.peer == t && a.port == m.port && a.rn == m.rn && !a.accepted && a.defers < 4
  if s.fab.retrains.any hit then
    (s.modFab (fun f => { f with retrains := f.retrains.map (fun a => if hit a then { a with rn := a.rn + 1, defers := a.defers + 1 } else a) })).say
      t.toNat msgRetrain { m with rn := m.rn + 1, owner := s.peer }
  else s
def execDefer (t : PeerId) (m : RepairMsg) (s : State) : Out := agent (s.onceReady (fun s => s.onDefer t m))

/-- RETUNE: a peer retunes its own line; no entry changes and no answer is needed (R411). -/
def execRetune (_t : PeerId) (_m : RepairMsg) (s : State) : Out := agent s

/-- PORTDOWN: from RN the peer's entries on that plane are idle (R412). -/
def State.onPortdown (s : State) (t : PeerId) (m : RepairMsg) : State :=
  s.modFab (fun f =>
    if f.portdowns.any (fun a => a.peer == t && a.port == m.port) then f
    else { f with portdowns := f.portdowns ++ [{ port := m.port, peer := t, rn := m.rn }] })
def execPortdown (t : PeerId) (m : RepairMsg) (s : State) : Out := agent (s.onceReady (fun s => s.onPortdown t m))

/-- A repair of this package's own is pending on a port (R417). -/
def State.ownRepairOn (s : State) (port : PortId) : Bool := s.fab.repairs.any (fun r => r.owner == s.peer && r.port == port)

/-- The answer to a new request after n DEFERs (R417). -/
def State.answerRetrain (s : State) (t : PeerId) (m : RepairMsg) (n : Nat) : State :=
  let defer := s.ownRepairOn m.port && n < 4
  let a : Announced := { port := m.port, peer := t, rn := m.rn, defers := if defer then n + 1 else n, accepted := !defer, deferred := defer }
  let s := s.modFab (fun f => { f with retrains := f.retrains.filter (fun b => b.own || b.begun || !(b.peer == t && b.port == m.port)) ++ [a] })
  if defer then (s.unsay t.toNat msgAccept m.rid).say t.toNat msgDefer m else (s.unsay t.toNat msgDefer m.rid).say t.toNat msgAccept m

/-- RETRAIN, a request of the other end's, whatever this end has asked for: ACCEPT, or DEFER while an own repair on the port is pending, but for the fifth request; a repeat of a request that is
answered, or of an older one, changes nothing (R417). -/
def State.onRetrain (s : State) (t : PeerId) (m : RepairMsg) : State :=
  let mine := fun (a : Announced) => !a.own && a.peer == t && a.port == m.port
  if s.fab.retrains.any (fun a => mine a && a.begun && atOrPast a.rn m.rn) then s
  else match s.fab.retrains.find? (fun a => mine a && !a.begun) with
  | some a =>
    if a.rn != m.rn && atOrPast a.rn m.rn then s
    else if a.rn == m.rn && (a.accepted || a.deferred) then s
    else s.answerRetrain t m a.defers
  | none => s.answerRetrain t m 0
def execRetrain (t : PeerId) (m : RepairMsg) (s : State) : Out := agent (s.onceReady (fun s => s.onRetrain t m))

/-- The pair's counts are discarded (R418). -/
def State.resetPair (s : State) (t : Nat) : State := s.modFab (fun f => { f with pairs := f.pairs.drop t })
/-- SEQ, ACK, FREED and SENT of a pair are 0 again; what is to be said and the items that wait stay (R418). -/
def Pair.anew (p : Pair) : Pair :=
  { p with sent := 0, acked := 0, freedIn := 0, expect := 0, freedOut := 0, early := [], mute := false, blocked := false, failed := [] }

/-- A die without the remote-window translations for a peer. -/
def Die.dropPeer (d : Die) (dom : BitVec 4) (t : PeerId) : Die := { d with rwt := d.rwt.filter (fun w => !(w.1 == dom && w.2.1 == t)) }

/-- The remote-window translations held for a peer leave, and the frames that carry one ask afresh (R379). -/
def State.flushPeer (s : State) (t : PeerId) : State :=
  let s := { s with dies := s.dies.map (fun (e : Nat × Die) => (e.1, e.2.dropPeer s.domain t)) }
  s.untell (fun o => o.frame.ddom == s.domain && o.frame.dst == t)

/-- REJOIN: the rejoining end flushes the remote-window translations it holds for the peer and answers FLUSHED; where the peer's counts
begin anew, so do this end's, if they have not, and its held transfers are replayed. A repeat that it has answered changes nothing (R379,
R414, R418). -/
def State.onRejoin (s : State) (t : PeerId) (m : RepairMsg) : State :=
  if (s.fab.pair t.toNat).msgs.any (fun e => e.1 == msgFlushed && e.2.rid == m.rid) then s
  else
    let anew := m.action == rejoinAction true && !(s.fab.pair t.toNat).fresh
    let s := if anew then (s.replayTo t.toNat).modFab (fun f => f.modPair t.toNat Pair.anew) else s
    ((s.modFab (fun f => f.modPair t.toNat (fun p => { p with fresh := false }))).flushPeer t).say t.toNat msgFlushed m
def execRejoin (t : PeerId) (m : RepairMsg) (s : State) : Out := agent (s.onceReady (fun s => s.onRejoin t m))

/-- FLUSHED answers the REJOIN that stands: the peer's STALE bit is cleared and its transfers proceed; a repeat of an earlier answer changes
nothing (R379, R414, R418). -/
def State.onFlushed (s : State) (t : PeerId) (m : RepairMsg) : State :=
  if !(s.fab.pair t.toNat).msgs.any (fun e => e.1 == msgRejoin && e.2.rid == m.rid) then s
  else (s.unsay t.toNat msgRejoin m.rid).modFab (fun f => { f with stale := f.stale &&& ~~~(BitVec.ofNat 64 (2 ^ t.toNat)) })
def execFlushed (t : PeerId) (m : RepairMsg) (s : State) : Out := agent (s.onceReady (fun s => s.onFlushed t m))

/-! ## Repairs taking effect (R410, R414, R415) -/

/-- Change the Frieze entries of a port. -/
def Port.mapFrieze (p : Port) (g : Nat → W32 → W32) : Port :=
  { p with frieze := (p.frieze.map (fun e => (e.1, g e.1 e.2))).filter (fun e => e.2 != idleEntry) }

def setTx (e : W32) (l : Nat) : W32 := frieze l (rxLine e) (l != 0xFF && relayBit e)
def setRx (e : W32) (l : Nat) : W32 := frieze (txLine e) l (relayBit e)

/-- RELAY = 1 on a port's appearances to a peer on lanes 0 to 3 (R410). -/
def State.relayEntries (s : State) (port t : Nat) : State :=
  s.modFab (fun f => f.modPort port (fun p => p.mapFrieze (fun k e =>
    if k % 16 < 4 && txLine e < 72 && s.targetOf (offsetOf (txLine e)) == t then e ||| 0x10000 else e)))

/-- A spare takes the place of a line: in use, unless it has gone BAD in the meantime (R409, R410). -/
def Line.takeOver (x : Line) (line : Byte) : Line := if x.state = 3 || x.state = 1 then { x with state := if x.state = 3 then 4 else 1, forLine := line } else x

/-- This package's part of a repair (R410). -/
def State.applyRepair (s : State) (r : Repair) : State :=
  let port := r.port.toNat
  let bad := r.line.toNat
  let t := r.target.toNat
  let sendOn := fun (s : State) (l : Nat) => s.modFab (fun f => f.modPort port (fun p => p.mapFrieze (fun _ e => if txLine e == bad then setTx e l else e)))
  if r.owner == s.peer then
    match r.action.toNat with
    | 1 => ((sendOn s (64 + bad)).modFab (fun f => f.modPort port (fun p => p.setLine (64 + bad) ((p.line (64 + bad)).takeOver r.line)))).relink t
    | 2 => (sendOn s 0xFF).relink t
    | 3 =>
      ((sendOn s 0xFF).relayEntries port r.relay.toNat).modFab (fun f =>
        f.modLink t (fun l => { l with mode := 2, relay := r.relay, due := false, hold := none, silent := false }))
    | _ => s
  else if r.target == s.peer then
    let out := if r.action = 1 then 64 + bad else 0xFF
    s.modFab (fun f => f.modPort port (fun p => p.mapFrieze (fun _ e => if rxLine e == bad then setRx e out else e)))
  else if r.action = 3 && r.relay == s.peer then s.relayEntries port t
  else s

/-- A repair whose RN has come (R414). -/
def Repair.due (r : Repair) (rot : W32) : Bool := r.waiting.isEmpty && r.action != 4 && atOrPast rot r.rn
/-- Repairs in RN order, and of one RN in RID order (R415). -/
def Repair.first (rot : W32) (a b : Repair) : Bool :=
  (rot - b.rn).toNat < (rot - a.rn).toNat || (a.rn == b.rn && a.rid.toNat ≤ b.rid.toNat)
/-- Every repair that is due, in its order. -/
def State.dueRepairs (s : State) : List Repair :=
  (s.fab.repairs.filter (fun r => r.due (s.rotOf r.port.toNat))).mergeSort (Repair.first s.fab.rot)
/-- REPAIR_APPLY: at slot 0 of rotation RN (R414, R415). -/
def State.repairApply (s : State) : State :=
  let due := s.dueRepairs
  let s := due.foldl (fun s r => (s.applyRepair r).fabLog 3 r.port.toNat r.line.toNat r.target.toNat r.rid.toNat) s
  let s := s.modFab (fun f => { f with repairs := f.repairs.filter (fun r => !due.contains r) })
  due.foldl (fun s r => s.unsay r.owner.toNat msgAccept r.rid) s
def execRepairApply (s : State) : Out := agent (s.onceReady State.repairApply)

/-- An ACCEPT of an own repair is missing at the start of rotation RN - 1 (R414). -/
def State.lateRepair (s : State) (r : Repair) : Bool :=
  let rot := s.rotOf r.port.toNat
  r.owner == s.peer && !r.waiting.isEmpty && atOrPast (rot + 1) r.rn && (s.slotOf r.port.toNat = 0 || rot + 1 != r.rn)
/-- The relay sought for a peer held in silence has no ACCEPT as the hold ends: it is given up, and removal proceeds (R418; DESIGN CHOICE,
log 90). -/
def State.vain (s : State) (r : Repair) : Bool :=
  let l := s.fab.link r.target.toNat
  s.lateRepair r && r.action == 3 && l.silent && l.hold == some 0
/-- REPAIR_REPROPOSE: such a repair is proposed again for 3 rotations on (R414). -/
def State.repairRepropose (s : State) : State :=
  let s := (s.fab.repairs.filter s.vain).foldl (fun (s : State) r =>
    (r.members.foldl (fun (s : State) m => s.unsay m.toNat msgPropose r.rid) s).modFab (fun f => { f with repairs := f.repairs.filter (fun x => !(x == r)) })) s
  let moved := fun (r : Repair) => { r with rn := s.rotOf r.port.toNat + 3 }
  let s' := (s.fab.repairs.filter s.lateRepair).foldl (fun s r => r.members.foldl (fun s t => s.say t.toNat msgPropose (moved r).msg) s) s
  s'.modFab (fun f => { f with repairs := f.repairs.map (fun r => if s.lateRepair r then { moved r with waiting := r.members } else r) })
def execRepairRepropose (s : State) : Out := agent (s.onceReady State.repairRepropose)

/-- PORTDOWN_APPLY: from RN the RXLINEs of a plane that receive from a DOWN owner are idle (R412). -/
def State.portdownApply (s : State) : State :=
  let due := s.fab.portdowns.filter (fun a => !s.ahead a.port a.rn)
  let s := due.foldl (fun s a => s.modFab (fun f => f.modPort a.port.toNat (fun p => p.mapFrieze (fun _ e =>
    if rxLine e < 72 && s.sourceOf (offsetOf (rxLine e)) == a.peer.toNat then setRx e 0xFF else e)))) s
  s.modFab (fun f => { f with portdowns := f.portdowns.filter (fun a => !due.contains a) })
def execPortdownApply (s : State) : Out := agent (s.onceReady State.portdownApply)

/-! ## Retraining (R417) -/

/-- A retraining takes effect: its RN has come, and it is agreed on or is the fifth request of this end. -/
def State.retrainDue (s : State) (a : Announced) : Bool :=
  !a.begun && !s.ahead a.port a.rn && (a.accepted || (a.own && 4 ≤ a.defers))
/-- The retrainings that are due begin: the two packages' appearances to each other on the port are idle. -/
def State.retrainBegin (s : State) : State :=
  (s.fab.retrains.filter s.retrainDue).foldl (fun s a =>
    s.modFab (fun f =>
      { f.modPort a.port.toNat (fun p => { p with retraining := if p.retraining.contains a.peer then p.retraining else p.retraining ++ [a.peer] }) with
        retrains := f.retrains.map (fun b => if b == a then { b with rn := s.rotOf a.port.toNat, begun := true } else b) })) s

/-- A line after calibration: a spare in use stays in use. -/
def trainedLine (l : Nat) (x : Line) : Line :=
  if x.state = 4 then { x with muted := false } else { freshLine l with drift := x.drift }
/-- The lines toward a peer after calibration: the one of its offset, and its spare. -/
def Port.trainedTo (p : Port) (o : Nat) : Port :=
  let p := p.setLine o (trainedLine o (p.line o))
  if o < 8 then (p.setLine (64 + o) (trainedLine (64 + o) (p.line (64 + o)))).useSpare (64 + o) else p

/-- RETRAIN_END (R417): a retraining begins at its RN, takes 2 rotations, and leaves the port UP with its lines toward the peer GOOD. -/
def State.retrainEnd (s : State) (port : PortId) (t : PeerId) : State :=
  let s := s.retrainBegin
  let mine := fun (a : Announced) => a.begun && a.port == port && a.peer == t
  if !s.fab.retrains.any mine || s.fab.retrains.any (fun a => mine a && (s.rotOf port.toNat - a.rn).toNat < 2) then s
  else
      let s := s.modFab (fun f => f.modPort port.toNat (fun p =>
        { p.trainedTo (s.offsetTo t.toNat) with retraining := p.retraining.erase t, state := if p.state = 0 then 2 else p.state }))
      let left := s.fab.retrains.filter (fun a => !mine a)
      -- a request that stands keeps its messages
      let said := fun (e : Byte × RepairMsg) => (e.1 == msgRetrain || e.1 == msgAccept || e.1 == msgDefer) && e.2.line == 0xFF && e.2.port == port &&
        !left.any (fun a => a.port == port && a.peer == t && a.rn == e.2.rn)
      let s := s.modFab (fun f => { f.modPair t.toNat (fun p => { p with msgs := p.msgs.filter (fun e => !said e) }) with retrains := left })
      (s.fabLog 4 port.toNat 0xFF t.toNat 0).relink t.toNat
def execRetrainEnd (port : PortId) (t : PeerId) (s : State) : Out := agent (s.onceReady (fun s => s.retrainEnd port t))

/-! ## Silence and removal (R418) -/

/-- PEER_SILENCE_TIMEOUT: no header from the peer for 8 rotations begins its hold. -/
def State.silence (s : State) (t : Nat) : State :=
  if s.fab.present t && t != s.peer.toNat && (s.fab.link t).mode != 0 && 8 ≤ (s.fab.rot - (s.fab.pair t).heard).toNat then
    (s.keepMode t).holdPeer t true
  else s
def execPeerSilenceTimeout (t : PeerId) (s : State) : Out := agent (s.onceReady (fun s => s.silence t.toNat))

/-- A repair without a member that answers no more. -/
def Repair.without (r : Repair) (t : PeerId) : Repair := { r with waiting := r.waiting.erase t, members := r.members.erase t }

/-- A peer leaves this package's view: MODE 0, its held transfers fail, groups that await it turn BROKEN, the pair's counts
go (R30, R276, R418). -/
def State.removePeer (s : State) (t : Nat) : State :=
  let p := BitVec.ofNat 6 t
  let s := s.modFab (fun f =>
    { f.modLink t (fun _ => {}) with
      peers := f.peers &&& ~~~(BitVec.ofNat 64 (2 ^ t))
      owed := f.owed.filter (fun x => x != p)
      repairs := (f.repairs.filter (fun r => r.owner != p && !(r.owner == s.peer && r.target == p && r.action != 4))).map (fun r => r.without p) })
  let s := s.failTo t
  let broken := (s.arms.filter (fun e => e.2.live && e.2.peers.getLsbD t)).map (fun e => BitVec.ofNat 8 e.1)
  let s := ((broken.foldl State.breakGroup s).resetPair t).relayLost t
  (List.range 16).foldl (fun s d => s.dieLog (BitVec.ofNat 4 d) 5 0 0xFF t 0) s

/-- The repair of this package's own that brings a relay for a peer. -/
def State.ownRelay (s : State) (t : Nat) : Option Repair :=
  s.fab.repairs.find? (fun r => r.owner == s.peer && r.target.toNat == t && r.action == 3)

/-- PEER_REMOVAL: the hold has ended with no path; where a path has returned the peer stays, where a relay's repair is pending the hold
goes on (R418). -/
def State.peerRemoval (s : State) (t : Nat) : State :=
  if t = s.peer.toNat then s
  else
    let s := s.relink t
    if (s.fab.link t).hold != some 0 || (s.ownRelay t).isSome then s else s.removePeer t
def execPeerRemoval (t : PeerId) (s : State) : Out := agent (s.onceReady (fun s => s.peerRemoval t.toNat))

/-- A held peer's relay is proposed as soon as one is there, also where the peer is held in silence (DESIGN CHOICE, log 90); one that is lost before its RN ends the hold, or is sought anew (R410,
R418). -/
def State.seekRelay (s : State) (t : Nat) : State :=
  let l := s.fab.link t
  match s.ownRelay t with
  | some r =>
    if s.mayRelay r.port.toNat r.relay.toNat t then s
    else
      let s := r.members.foldl (fun (s : State) m => s.unsay m.toNat msgPropose r.rid) s
      let s := s.modFab (fun f => { f with repairs := f.repairs.filter (fun x => !(x == r)) })
      if l.hold.isSome then s.modFab (fun f => f.modLink t (fun l => { l with hold := some 0 }))
      else if l.due then (s.modFab (fun f => f.modLink t (fun l => { l with due := false }))).relayAny t
      else s
  | none =>
    if 0 < l.hold.getD 0 && (l.silent || !s.hasDirect t) && !s.fab.lost then
      match s.relayPort t with
      | some p => match s.relayFor p t with
        | some r => s.proposeRepair 3 p (s.offsetTo t) t (some r) false
        | none => s
      | none => s
    else s

/-! ## A rotation begins -/

/-- A port's part of a new rotation: the counters of PORT_STAT and the announced retunes (R411, R423). -/
def Port.newRotation (p : Port) (rot : W32) : Port :=
  { p with fecerr := 0, mismatch := 0
           lines := p.lines.map (fun l => (l.1, if l.2.retune = some rot then { l.2 with state := 1 } else l.2)) }
/-- A rotation of a die's OFU begins: its ports', and at the OFU that times them the holds' (R418). A PORTDOWN whose RN has come is
repeated no longer (R412). -/
def State.newRotation (s : State) (d : Nat) : State :=
  s.modFab (fun f =>
    let rot := (f.ofu d).rot
    let f := { f with ports := f.ports.map (fun e => (e.1, if e.1 / 2 = d then e.2.newRotation rot else e.2)) }
    if f.lead = d then
      { f with
        links := f.links.map (fun e => (e.1, { e.2 with hold := e.2.hold.map (fun n => n - 1) }))
        pairs := f.pairs.map (fun e => (e.1, { e.2 with msgs := e.2.msgs.filter (fun m => !(m.1 == msgPortdown && atOrPast rot m.2.rn)) })) }
    else f)

/-- The peers of the package as a rotation of its leading OFU begins: after 64 rotations without lock each is held; held ones return
or seek a relay; stale ones rejoin (R379, R418). -/
def State.peerWork (s : State) : State :=
  let s := if 64 * 64 ≤ s.fab.unlocked then s.peerList.foldl (fun s t => s.holdPeer t) s else s
  let s := s.relinkAll
  s.peerList.foldl State.seekRelay s

/-- What takes effect as a rotation begins at the OFUs of some dies, before the frames of its slot 0 leave (R411, R412, R414, R417). -/
def State.rotationBegins (s : State) (ds : List Nat) : State :=
  let s := (ds.foldl State.newRotation s).repairRepropose.repairApply.portdownApply.retrainBegin
  if ds.contains s.fab.lead then s.peerWork else s

/-- OFU_RESET (R404): a die's OFU has lost its frames, its relay buffers and its translations. A pair's SEQ numbers are the package's,
so it sends nothing to any package until a header comes, and the transfers it held are sent again from the first (DEDUCED, log 51). -/
def State.ofuReset (s : State) (d : DieId) : State :=
  let s := s.modDie d (fun k => { k with rwt := [] })
  let s := s.modFab (fun f =>
    { f with pairs := f.pairs.map (fun e => (e.1, { e.2 with mute := true }))
             relay := f.relay.filter (fun g => g.atPort.toNat / 2 != d.toNat) })
  s.replay (fun _ _ => true)
def execOfuReset (d : DieId) (s : State) : Out := agent (s.onceReady (fun s => s.ofuReset d))

end Sys2Proof.Machine
end

