-- ==== Sys2Proof/Machine/Xfer.lean ====
section
/-! DEFINITION. The meanings of the X class (R252 to R275), and what a transfer inside the package reads and writes (R258,
R261 to R266, R271). -/

namespace Sys2Proof.Machine

/-! ## Issue (R252 to R255, R259, R274, R275) -/

/-- The target of R254: the system core ID in s_XC, the issuing core's own for XC = 0. -/
def State.xTarget (s : State) (f : XF) : BitVec 22 :=
  if f.xc = 0 then s.sysId s.cur.core else (s.sreg f.xc).setWidth 22
/-- The package that SEND and SENDM name (R271): peer K of the domain in s_XC, the own domain for XC = 0. -/
def State.sendTarget (s : State) (f : XF) : BitVec 22 :=
  (if f.xc = 0 then s.domain else (s.sreg f.xc).setWidth 4) ++ f.k ++ 0#12


/-- What the way to another package does to an issue (R274, R275): a trap, a hold, or nothing. -/
def State.gate (s : State) (t : BitVec 22) (k : State → State) : State :=
  let gone := s.trap { cause := cFabric, sub := (tPeer t).setWidth 8 }
  let link := fun (p : PeerId) =>
    if s.linkMode s.rc.part p.toNat = 0 then gone
    else if s.fab.quiesced p.toNat then s.hold
    else k s
  if !s.isRemote t then k s
  else if tDom t == s.domain then link (tPeer t)
  else if s.fab.heldDomains.contains (tDom t) then s.hold
  else if !circuitUp (s.circuit (tDom t)) then gone
  else if circuitGateway (s.circuit (tDom t)) == s.peer then k s
  else link (circuitGateway (s.circuit (tDom t)))

/-- The first free transfer slot (R253). -/
def Res.freeSlot (r : Res) : Option Nat := (List.range 16).find? (fun n => (r.xfers.get none n).isNone)

/-- A free transfer slot for an instruction of the issuing group: those that a SENDM of mask 0 of the group has taken are counted,
since the group needs them all (R253). -/
def State.freeSlot (s : State) : Option Nat :=
  if ((List.range 16).filter (fun n => (s.rc.xfers.get none n).isNone)).length ≤ s.cur.spent then none else s.rc.freeSlot

/-- Take a transfer slot with all the instruction captures (R252, R253); hold when none is free. -/
def capture (i : Instr) (f : XF) (target : BitVec 22) (s : State) : State :=
  match s.freeSlot with
  | none => s.hold
  | some n =>
    let x : Xfer :=
      { serial := s.serial, ins := i, ctx := s.cur.ctx, pc := s.cur.ipc
        xa := s.sreg f.xa, xb := s.sreg f.xb, xc := s.sreg f.xc, xh := s.sreg f.xh
        sa := s.stream f.xa, sb := s.stream f.xb, target := target, xid := s.fab.xid }
    let s := s.modRc (fun r => { r with xfers := r.xfers.put none n (some x) })
    (s.modFab (fun b => { b with xid := b.xid + 1 })).bump

/-- CPY PLAIN and CONVERT: the core of XC lies in this package, else ACCESS 9 (R259); K other than 0 is ignored with fallback
0x1D (R137). -/
def cpy (i : Instr) (f : XF) (s : State) : State :=
  let t := s.xTarget f
  if s.isRemote t then s.trap { cause := cAccess, sub := 9, tval := s.sreg f.xc }
  else capture i f t (s.warnIf (f.k != 0) 0x1D)

def execCpyPlain (h : Hdr) (f : XF) (s : State) : Out := run (.cpyPlain h f) s (cpy (.cpyPlain h f) f)
/-- CPY CONVERT: an integer or t5 source has its SCALE_MODE ignored with fallback 0x16 (R263). -/
def execCpyConvert (h : Hdr) (f : XF) (s : State) : Out :=
  run (.cpyConvert h f) s (fun s => cpy (.cpyConvert h f) f (s.warnIf (s.stream f.xa).scaleIgnored 0x16))
def execCpyRank (h : Hdr) (f : XF) (s : State) : Out :=
  run (.cpyRank h f) s (fun s => capture (.cpyRank h f) f (s.sysId s.cur.core) s)

/-- CPY RANKMERGE (R259, R265): a target outside the cluster is ACCESS 7 (TVAL is s_XC, DEDUCED, log 31); the own tile must be
allocated and is none of a handler's. -/
def execCpyRankmerge (h : Hdr) (f : XF) (s : State) : Out :=
  run (.cpyRankmerge h f) s (fun s =>
    let t := s.xTarget f
    let i : Instr := .cpyRankmerge h f
    if s.isRemote t || (tCore t).toNat / 64 ≠ s.cur.core.toNat / 64 then
      s.trap { cause := cAccess, sub := 7, tval := s.sreg f.xc }
    else capture i f t s)

/-- PUT (R266, R267): a handler address that is not a multiple of 4 traps ALIGN. -/
def put (i : Instr) (f : XF) (s : State) : State :=
  let x := s.sreg f.xh
  if f.xh ≠ 0 && x.toNat % 4 ≠ 0 then s.trap { cause := cAlign, tval := x }
  else s.gate (s.xTarget f) (capture i f (s.xTarget f))
def execPut (h : Hdr) (f : XF) (s : State) : Out := run (.put h f) s (put (.put h f) f)
def execPutGlob (h : Hdr) (f : XF) (s : State) : Out := run (.putGlob h f) s (put (.putGlob h f) f)
def execGet (h : Hdr) (f : XF) (s : State) : Out :=
  run (.get h f) s (fun s => s.gate (s.xTarget f) (capture (.get h f) f (s.xTarget f)))
def execGetGlob (h : Hdr) (f : XF) (s : State) : Out :=
  run (.getGlob h f) s (fun s => s.gate (s.xTarget f) (capture (.getGlob h f) f (s.xTarget f)))
def execXflag (h : Hdr) (f : XF) (s : State) : Out :=
  run (.xflag h f) s (fun s => s.gate (s.xTarget f) (capture (.xflag h f) f (s.xTarget f)))
def execSend (h : Hdr) (f : XF) (s : State) : Out :=
  run (.send h f) s (fun s => s.gate (s.sendTarget f) (capture (.send h f) f (s.sendTarget f)))
/-- SENDM (R272): a mask of 0 sends nothing and posts at once. -/
def execSendm (h : Hdr) (f : XF) (lit : W32) (s : State) : Out :=
  run (.sendm h f lit) s (fun s => s.gate (s.sendTarget f) (fun s =>
    -- a slot is taken, and free again with the group's issue (R253)
    if lit = 0 then
      if s.freeSlot.isNone then s.hold
      else
        let t := { s with cur := { s.cur with spent := s.cur.spent + 1 } }
        if f.fnone then t else t.postAt s.cur.core s.cur.slot f.f 1 s.cur.ipc
    else capture (.sendm h f lit) f (s.sendTarget f) s))

/-! ## PREF and FLUSH (R273) -/

/-- The line of an address as a piece. -/
def linePiece (pa : Nat) (va : W64) (pte : W64) (mode : W64) : Piece :=
  { addr := [pa / 128 * 128], data := mode, va := va.setWidth 48, cached := pteHome pte == 0 && !pteRo pte, ro := pteRo pte }

/-- PREF: a hint that never traps (R273, R373). -/
def pref (f : XF) (mode : W64) (s : State) : State :=
  let va := s.sreg f.xa
  match s.look s.cur.core s.rc.root va.toNat with
  | .fault _ => s
  | .miss => s.hold (.walk s.rc.root (va.setWidth 48))
  | .hit pa pte =>
    if (s.denied s.rc.part s.cx.mode .load false pte pa).isSome then s else s.postReq .ls .pref [linePiece pa va pte mode]
def execPref (h : Hdr) (f : XF) (s : State) : Out := run (.pref h f) s (pref f 0)
def execPrefSlice (h : Hdr) (f : XF) (s : State) : Out := run (.prefSlice h f) s (pref f 1)

/-- FLUSH: XLATE, ACCESS and the HW_ERROR of a fenced die are precise, as for LD; ALIGN is never raised (R273, R456). -/
def flush (f : XF) (s : State) : State :=
  let va := s.sreg f.xa
  match s.look s.cur.core s.rc.root va.toNat with
  | .fault k => s.trap { cause := cXlate, sub := k, tval := va }
  | .miss => s.hold (.walk s.rc.root (va.setWidth 48))
  | .hit pa pte =>
    match s.denied s.rc.part s.cx.mode .load false pte pa with
    | some k => s.trap { cause := cAccess, sub := k, tval := va }
    | none =>
      if (s.die (s.homeDie pa)).fenced then s.trap { cause := cHw, tval := BitVec.ofNat 64 pa }
      else s.postReq .ls .flush [linePiece pa va pte 0]
def execFlush (h : Hdr) (f : XF) (s : State) : Out := run (.flush h f) s (flush f)

/-! ## What a transfer moves (R261) -/

/-- The X fields of a transfer's instruction. -/
def xfOf : Instr → XF
  | .cpyPlain _ f | .cpyConvert _ f | .cpyRank _ f | .cpyRankmerge _ f | .put _ f | .putGlob _ f | .get _ f
  | .getGlob _ f | .xflag _ f | .send _ f | .sendm _ f _ => f
  | _ => default

/-- Its path (R256, R269). -/
def xPath (i : Instr) : Path := if i.paths.contains 3 then .ce else .fb

/-- The number of a stream that a record names (R277). -/
def streamNo (r : BitVec 5) : BitVec 4 := r.setWidth 4

/-- What a transfer inside the package reads and writes, each place with its stream (0 for an address) and the cause of
its faults, and how the values read give the bytes of each place written and their flags. -/
structure Plan where
  reads  : List (Byte × BitVec 4 × Reached)
  writes : List (Byte × BitVec 4 × Reached)
  put    : List Nat → List (List Byte × Flags8)

/-- The value of element k that a transfer has read ahead (R280). -/
def Xfer.earlyAt (x : Xfer) (k : Nat) : Option Nat := (x.early.find? (fun e => e.1 == k)).map (fun e => e.2)

/-- The places that a transfer reads; it reaches one that it has read ahead no more (R280). -/
def Xfer.unread (x : Xfer) (l : List (Byte × BitVec 4 × Reached)) : List (Byte × BitVec 4 × Reached) :=
  (l.zip (List.range l.length)).map (fun e =>
    if (x.earlyAt e.2).isSome && e.1.2.2 != .absent then (e.1.1, e.1.2.1, .ok { addr := [] }) else e.1)

/-- The values of a transfer's reads: those it has read ahead, and what its other places hold. -/
def State.valuesOf (s : State) (x : Xfer) (rs : List Piece) : List Nat :=
  (rs.zip (List.range rs.length)).map (fun e => (x.earlyAt e.2).getD (s.readList e.1.addr))

/-- A fault before any byte moves: its cause and the stream at fault (R277). -/
abbrev Early := Byte × BitVec 4

def xFORMAT : Byte := 0x10
def xMODE : Byte := 0x11
def xTILE : Byte := 0x12
def xMEMORY : Byte := 0x13
def xREMOTE : Byte := 0x14
def xTARGET : Byte := 0x15
def xWINDOW : Byte := 0x16
def xEXPERT : Byte := 0x17
def xLENGTH : Byte := 0x18

/-- The elements of a stream that a transfer walks: T of them (R261), or FORMAT for COUNT0 = 0, LENGTH beyond 2^32 bytes. -/
def walked (t : Stream) (n : BitVec 4) : Except Early Nat :=
  if t.count0 = 0 then .error (xFORMAT, n)
  else if 2 ^ 32 < t.total * elemBytes t.format.toNat then .error (xLENGTH, n)
  else .ok t.total

/-- Element e of a stream, reached for its context: a fault in this package is MEMORY, a SEND's or SENDM's too, for which the table of
R277 names no cause of a source here (DESIGN CHOICE, log 67). -/
def State.elemAt (s : State) (c : CoreId) (r : Slot) (t : Stream) (n : BitVec 4) (a : Acc) (e : Nat) : Byte × BitVec 4 × Reached :=
  (xMEMORY, n, s.reachIn c r t a (t.addrOf e) (elemBytes t.format.toNat))

/-- Bits copied: each value read is written in w bytes. -/
def copyBytes (w : Nat) (l : List Nat) : List (List Byte × Flags8) := l.map (fun v => (leBytes w v, 0))

/-- CPY PLAIN (R262). -/
def State.planPlain (s : State) (c : CoreId) (r : Slot) (x : Xfer) : Except Early Plan :=
  let f := xfOf x.ins
  let a := streamNo f.xa
  let b := streamNo f.xb
  match walked x.sa a with
  | .error e => .error e
  | .ok n =>
    let w := elemBytes x.sa.format.toNat
    if x.sb.count0 = 0 || elemBytes x.sb.format.toNat ≠ w then .error (xFORMAT, b)
    else .ok { reads := (List.range n).map (s.elemAt c r x.sa a .load), writes := (List.range n).map (s.elemAt c r x.sb b .store)
               put := copyBytes w }

/-! ### CPY CONVERT (R263) -/

def isT5 (t : Stream) : Bool := t.format.toNat == 11

/-- An exact element of the source: a float's value or an integer's, with the flags of decoding. -/
inductive SrcVal where
  | flt (x : Ex)
  | int (v : Int)

/-- Decode a source element: for a t5 source e numbers a trit and b is its byte. -/
def srcVal (t : Stream) (e b : Nat) : SrcVal × Flags8 :=
  let f := t.format.toNat
  if f = 11 then (.int (tritOf b (e % 5)), ternFlag b)
  else if isFloat f then (.flt ((fmtOf f).value b), 0)
  else (.int (lowOf (elemBits f) (elemSigned f) (b : Int)), 0)

/-- The value times its scale (R96, R263): a NaN scale gives the canonical NaN with SCALE_NAN. -/
def scaled (v : SrcVal) (scale : Option Nat) : SrcVal × Flags8 :=
  match v, scale with
  | .flt x, some k =>
    let z := f32Val (BitVec.ofNat 32 k)
    if z.isNaN then (.flt .nan, fSCALENAN) else (match Ex.mul x z with | (y, g) => (.flt y, g))
  | v, _ => (v, 0)

/-- An element in the destination FORMAT (not t5), with its flags. -/
def destBits (fmt : Nat) (v : SrcVal) : Nat × Flags8 :=
  if isFloat fmt then
    (fmtOf fmt).round .rne (fmt == 3 || fmt == 4) (match v with | .flt x => x | .int k => Ex.ofInt k)
  else
    match (match v with
      | .flt x => x.toInt .rne (elemBits fmt) (elemSigned fmt)
      | .int k => clampInt (elemBits fmt) (elemSigned fmt) k) with
    | (y, g) => (lowNat (elemBits fmt) y, g)

/-- A trit of a t5 destination: its digit and flags. -/
def destTrit (v : SrcVal) : Nat × Flags8 :=
  match v with
  | .flt .nan => (0, fNV)
  | .flt (.inf neg) => (if neg then 2 else 1, fSAT)
  | .flt (.num neg m) =>
    if m.isZero then (0, 0) else (if neg then 2 else 1, if Mag.lt (.ofNat 1) m then fSAT else 0)
  | .int k => (tritDigit k, if 1 < k.natAbs then fSAT else 0)

/-- The source element that gives trit p of a t5 destination of m trits: the last that falls on it; none past N. -/
def tritFrom (n m p : Nat) : Option Nat := if p < n then some (p + m * ((n - 1 - p) / m)) else none

/-- The bytes a t5 destination of m trits takes from digits with their flags; a byte raises those of every element that falls on
it. -/
def tritBytes (ds : List (Nat × Flags8)) (m : Nat) : List (List Byte × Flags8) :=
  let digit := fun (p : Nat) => match tritFrom ds.length m p with | some e => (ds.getD e (0, 0)).1 | none => 0
  (List.range ((Nat.min ds.length m + 4) / 5)).map (fun b =>
    ([BitVec.ofNat 8 ((List.range 5).foldl (fun v i => v + digit (5 * b + i) * 3 ^ i) 0)],
     orFlags (((List.range ds.length).filter (fun e => e % m / 5 == b)).map (fun e => (ds.getD e (0, 0)).2))))

/-- Element e's row and column in the two innermost dimensions. -/
def Stream.rowCol (t : Stream) (e : Nat) : Nat × Nat :=
  (e / t.count0.toNat % Nat.max t.count1.toNat 1, e % t.count0.toNat)

/-- The bytes and flags that CPY CONVERT writes, from the source's bytes and its scales. -/
def convertPut (a b : Stream) (n m : Nat) (l : List Nat) : List (List Byte × Flags8) :=
  let src := if isT5 a then a.total else n
  let vals := (List.range n).map (fun e =>
    let (v, g) := srcVal a e (l.getD (if isT5 a then e / 5 else e) 0)
    let (y, h) := scaled v (if a.scaled then some (l.getD (src + e) 0) else none)
    (y, g ||| h))
  if isT5 b then
    tritBytes (vals.map (fun v => match destTrit v.1 with | (d, g) => (d, v.2 ||| g))) m
  else
    let f := b.format.toNat
    vals.map (fun v => match destBits f v.1 with | (d, g) => (leBytes (elemBytes f) d, v.2 ||| g))

def State.planConvert (s : State) (c : CoreId) (r : Slot) (x : Xfer) : Except Early Plan :=
  let f := xfOf x.ins
  let a := streamNo f.xa
  let b := streamNo f.xb
  match walked x.sa a with
  | .error e => .error e
  | .ok t =>
    let n := if isT5 x.sa then 5 * t else t
    let m := if isT5 x.sb then 5 * x.sb.total else x.sb.total
    if x.sb.count0 = 0 then .error (xFORMAT, b)
    else if 2 ^ 32 < n * elemBytes x.sa.format.toNat then .error (xLENGTH, a)
    else
      let scales := if x.sa.scaled then
        (List.range n).map (fun e => (xMEMORY, a, s.reachIn c r x.sa .load (x.sa.scaleAt (x.sa.rowCol e).1 (x.sa.rowCol e).2) 4)) else []
      let outs := if isT5 x.sb then (Nat.min n m + 4) / 5 else n
      .ok { reads := (List.range t).map (s.elemAt c r x.sa a .load) ++ scales
            writes := (List.range outs).map (s.elemAt c r x.sb b .store), put := convertPut x.sa x.sb n m }

/-! ### CPY RANK (R264) and RANKMERGE (R265) -/

/-- The k highest pairs of a row of a SUM tile. -/
def rankRow (t : Tile) (base : W32) (cols k i : Nat) : List (W32 × W32) :=
  (List.range cols).foldl (fun l c =>
    let v := t.sum.get 0 (64 * i + c)
    if isNaN32 v then l else (insertPair (plusZero v, base + BitVec.ofNat 32 c) l).take k) []

/-- A FORMAT whose elements hold a pair's words. -/
def pairFormat (t : Stream) : Bool := [0, 5, 8].contains t.format.toNat

def State.planRank (s : State) (c : CoreId) (r : Slot) (x : Xfer) : Except Early Plan :=
  let f := xfOf x.ins
  let b := streamNo f.xb
  let t := (s.res c r).eng.tile f.acc.toNat
  let k := f.k.toNat
  if x.sa.count0 = 0 then .error (xFORMAT, streamNo f.xa)
  else if !pairFormat x.sb || x.sb.count0 = 0 then .error (xFORMAT, b)
  else if t.ranked && x.early.isEmpty then .error (xMODE, 0)
  else
    let cols := Nat.min x.sa.count0.toNat 64
    let rows := Nat.min (Nat.max x.sa.count1.toNat 1) 64
    let all := (List.range rows).flatMap (fun i =>
      let l := rankRow t (x.sa.base.setWidth 32) cols k i
      (List.range k).flatMap (fun n =>
        let p := l.getD n (negInf, 0xFFFFFFFF)
        [(i, 2 * n, p.1), (i, 2 * n + 1, p.2)]))
    let plan := all.filter (fun e => x.sb.inside 0 e.1 e.2.1)
    .ok { reads := []
          writes := plan.map (fun e => (xMEMORY, b, s.reachIn c r x.sb .store (x.sb.at3 0 e.1 e.2.1) 4))
          put := fun _ => (plan.zip (List.range plan.length)).map (fun e => (leBytes 4 ((x.earlyAt e.2).getD e.1.2.2.toNat), 0)) }

/-- The places of the pairs that a RANKMERGE's source offers: row, then slot. -/
def mergePlaces (t : Stream) (k : Nat) : List (Nat × Nat) :=
  (List.range (Nat.min 64 (Nat.max t.count1.toNat 1))).flatMap (fun i =>
    ((List.range k).filter (fun n => t.inside 0 i (2 * n) && t.inside 0 i (2 * n + 1))).map (fun n => (i, n)))

/-- The pairs by row that a RANKMERGE reads, without the padding pair. -/
def mergePairs (places : List (Nat × Nat)) (l : List Nat) : List (Nat × List (W32 × W32)) :=
  (places.zip (List.range places.length)).filterMap (fun p =>
    let v : W32 × W32 := (BitVec.ofNat 32 (l.getD (2 * p.2) 0), BitVec.ofNat 32 (l.getD (2 * p.2 + 1) 0))
    if v == (negInf, 0xFFFFFFFF) then none else some (p.1.1, [v]))

def State.planRankmerge (s : State) (c : CoreId) (r : Slot) (x : Xfer) : Except Early Plan :=
  let f := xfOf x.ins
  let a := streamNo f.xa
  let task := (s.res c r).task
  if !pairFormat x.sa || x.sa.count0 = 0 then .error (xFORMAT, a)
  else
    match s.seat task (tCore x.target) with
    | none => .error (xTARGET, 0)
    | some none => .error (xTILE, 0)
    | some (some d) =>
      let o := s.res (tCore x.target) d
      if o.tiles ≤ f.acc.toNat then .error (xTILE, 0)
      else if !(o.eng.tile f.acc.toNat).ranked then .error (xMODE, 0)
      else
        let at_ := fun (i n : Nat) => (xMEMORY, a, s.reachIn c r x.sa .load (x.sa.at3 0 i n) 4)
        .ok { reads := x.unread ((mergePlaces x.sa f.k.toNat).flatMap (fun p => [at_ p.1 (2 * p.2), at_ p.1 (2 * p.2 + 1)]))
              writes := [], put := fun _ => [] }

/-! ### PUT, GET, SEND (R266, R271) -/

/-- n bytes at an offset of an allocation of a core: an uncorrectable error where the core's die is fenced (R456). -/
def State.reachSp (s : State) (c : CoreId) (base size o n : Nat) : Reached :=
  if (s.die (dieOf c)).fenced then .fault 5 0 else .ok (spPiece (spAddrs c base size o n))

/-- n bytes at an offset of the target core's allocation for the task, or at an address of the package (R266). -/
def State.atTarget (s : State) (c : CoreId) (r : Slot) (x : Xfer) (glob : Bool) (a : Acc) (at_ : W64) (e w : Nat) : Option Reached :=
  if glob then some (s.reachVa c r a false (at_ + BitVec.ofNat 64 (e * w)) w)
  else
    (s.allocOf (tCore x.target) (s.res c r).task).map (fun l =>
      s.reachSp (tCore x.target) l.1 l.2 ((at_.setWidth 48).toNat + e * w) w)

/-- A post or an arrival of the transfer needs a context of the task at the target (R254, R277). -/
def State.targetOk (s : State) (c : CoreId) (r : Slot) (x : Xfer) : Bool :=
  let f := xfOf x.ins
  !(f.frem || f.xh != 0) || (s.seat (s.res c r).task (tCore x.target)).isSome

def isGlob : Instr → Bool
  | .putGlob .. => true
  | .getGlob .. => true
  | _ => false

def State.planPut (s : State) (c : CoreId) (r : Slot) (x : Xfer) : Except Early Plan :=
  let a := streamNo (xfOf x.ins).xa
  let w := elemBytes x.sa.format.toNat
  match walked x.sa a with
  | .error e => .error e
  | .ok n =>
    let out := (List.range n).map (fun e => s.atTarget c r x (isGlob x.ins) .store x.xb e w)
    if !s.targetOk c r x || out.any (fun o => o.isNone) then .error (xTARGET, 0)
    else .ok { reads := (List.range n).map (s.elemAt c r x.sa a .load)
               writes := out.filterMap (fun o => o.map (fun p => (xMEMORY, 0, p))), put := copyBytes w }

def State.planGet (s : State) (c : CoreId) (r : Slot) (x : Xfer) : Except Early Plan :=
  let b := streamNo (xfOf x.ins).xb
  let w := elemBytes x.sb.format.toNat
  match walked x.sb b with
  | .error e => .error e
  | .ok n =>
    let src := (List.range n).map (fun e => s.atTarget c r x (isGlob x.ins) .load x.xa e w)
    if !s.targetOk c r x || src.any (fun o => o.isNone) then .error (xTARGET, 0)
    else .ok { reads := src.filterMap (fun o => o.map (fun p => (xMEMORY, 0, p)))
               writes := (List.range n).map (s.elemAt c r x.sb b .store), put := copyBytes w }

/-! ### Receive windows (R270, R271, R422) -/

def winOwner (w : BitVec 256) : BitVec 22 := w.extractLsb' 96 22
def winLength (w : BitVec 256) : Nat := (w.extractLsb' 64 32).toNat
def winBase (w : BitVec 256) : W64 := (w.extractLsb' 0 48).setWidth 64

/-- A plain window that holds n bytes at an offset (R271). -/
def winTakes (w : BitVec 256) (off n : Nat) : Bool := winKind w == 1 && off + n ≤ winLength w

/-- An access of n bytes in a space, walked at once and checked as task code; Patina's check is the caller's (R258, R376). -/
def State.reachSpaceAs (s : State) (kernel : Bool) (root : BitVec 34) (part : PartId) (a : Acc) (va : W64) (n : Nat) : Reached :=
  let v : VAddr := va.setWidth 48
  if va.toNat % n ≠ 0 then .fault 3 v
  else
    match s.walk root va.toNat with
    | .bad _ => .fault 1 v
    | .leaf pte log =>
      let pa := leafPa pte log va.toNat
      if (s.denied part kernel a false pte pa).isSome then .fault 2 v
      else if s.hwError a pa then .fault 5 v
      else .ok (ptePiece pte (span pa n) va)
def State.reachSpace (s : State) (root : BitVec 34) (part : PartId) (a : Acc) (va : W64) (n : Nat) : Reached :=
  s.reachSpaceAs false root part a va n

/-- The same, with Patina's trap for an access of a resident context here. -/
def State.reachOwn (s : State) (c : CoreId) (r : Slot) (root : BitVec 34) (part : PartId) (a : Acc) (va : W64) (n : Nat) : Reached :=
  match s.reachSpace root part a va n with
  | .ok p => if (s.raceTrap (s.res c r) c false p.rc p.addr).isSome then .fault 4 p.va else .ok p
  | x => x

/-- SEND to the own package, looped back (R271). -/
def State.planSend (s : State) (c : CoreId) (r : Slot) (x : Xfer) : Except Early Plan :=
  let f := xfOf x.ins
  let a := streamNo f.xa
  let w := elemBytes x.sa.format.toNat
  let part := (s.res c r).part
  let win := s.window part (winNo x.xb)
  match walked x.sa a with
  | .error e => .error e
  | .ok n =>
    if !winTakes win (winOff x.xb) (n * w) then .error (xWINDOW, 0)
    else if f.frem && (s.seat (s.res c r).task (tCore (winOwner win))).isNone then .error (xTARGET, 0)
    else
      let at_ := winBase win + BitVec.ofNat 64 (winOff x.xb)
      .ok { reads := (List.range n).map (s.elemAt c r x.sa a .load)
            writes := (List.range n).map (fun e =>
              (xREMOTE, 0, s.reachOwn c r (s.part part).winRoot part .store (at_ + BitVec.ofNat 64 (e * w)) w))
            put := copyBytes w }

/-- SENDM's payload (R272); its rows are written as their blocks allow. -/
def State.planSendm (s : State) (c : CoreId) (r : Slot) (x : Xfer) : Except Early Plan :=
  let a := streamNo (xfOf x.ins).xa
  match walked x.sa a with
  | .error e => .error e
  | .ok n => .ok { reads := x.unread ((List.range n).map (s.elemAt c r x.sa a .load)), writes := [], put := fun _ => [] }

/-- XFLAG moves no data (R269). -/
def State.planXflag (s : State) (c : CoreId) (r : Slot) (x : Xfer) : Except Early Plan :=
  if (s.seat (s.res c r).task (tCore x.target)).isNone then .error (xTARGET, 0)
  else .ok { reads := [], writes := [], put := fun _ => [] }

/-- What a transfer inside the package reads and writes. -/
def State.planOf (s : State) (c : CoreId) (r : Slot) (x : Xfer) : Except Early Plan :=
  match x.ins with
  | .cpyPlain _ f => if !f.frem || s.targetOk c r x then s.planPlain c r x else .error (xTARGET, 0)
  | .cpyConvert _ f => if !f.frem || s.targetOk c r x then s.planConvert c r x else .error (xTARGET, 0)
  | .cpyRank .. => s.planRank c r x
  | .cpyRankmerge .. => s.planRankmerge c r x
  | .put .. | .putGlob .. => s.planPut c r x
  | .get .. | .getGlob .. => s.planGet c r x
  | .xflag .. => s.planXflag c r x
  | .send .. => s.planSend c r x
  | .sendm .. => s.planSendm c r x
  | _ => .error (xFORMAT, 0)

/-- The part of a transfer to another package that lies here: the source stream's bytes; of a GET, nothing. -/
def State.planAway (s : State) (c : CoreId) (r : Slot) (x : Xfer) : Except Early Plan :=
  match x.ins with
  | .put .. | .putGlob .. | .send .. | .sendm .. => s.planSendm c r x
  | .get .. | .getGlob .. =>
    match walked x.sb (streamNo (xfOf x.ins).xb) with
    | .error e => .error e
    | .ok n => .ok { reads := [], writes := (List.range n).map (s.elemAt c r x.sb (streamNo (xfOf x.ins).xb) .store), put := fun _ => [] }
  | _ => .ok { reads := [], writes := [], put := fun _ => [] }

/-- What a transfer reaches in this package. -/
def State.planHere (s : State) (c : CoreId) (r : Slot) (x : Xfer) : Except Early Plan :=
  if s.isRemote x.target then s.planAway c r x else s.planOf c r x

end Sys2Proof.Machine
end

