-- ==== Sys2Proof/Machine/Land.lean ====
section
/-! DEFINITION. Landing: arrival records (R35 to R38), expert blocks and their release (R272, R313, R314, R367 to R369, R465),
and the completion and the faults of transfers (R255, R256, R265, R267, R277). -/

namespace Sys2Proof.Machine

/-! ## Writes that arrive through the fabric (R256, R258, R293) -/

/-- A write performed at its home for a writer of any package. -/
def State.landWrite (s : State) (writer : CoreId) (groups : W64) (p : Piece) (data : List Byte) : State :=
  let s := (s.returnHome p).retag p.addr false none
  let s := if p.rc then s.recordWrite writer groups 0 p.addr else s
  s.writeHome (p.addr.zip data)

/-! ## Arrivals (R35 to R38) -/

/-- A record takes its place in the queue; the queue of a saved context is the image in its save area, whose layout is open (R38,
log 16). -/
def State.queueRecord (s : State) (c : CoreId) (r : Slot) (a : Arrival) : State :=
  let rs := s.res c r
  let s := if rs.place == .here then s else s.writeFree (rs.saveBase.toNat + 0x1000) 512
  s.modRes c r (fun x => { x with arrivals := x.arrivals ++ [a] })

/-- The record enters the queue, or is withheld when the queue is full, a save is in progress or records of a save's course are still
to be appended ahead of it (R38); the answer is whether the arrival is acknowledged. One at a core that left the task is discarded (R18). -/
def State.queueArrival (s : State) (c : CoreId) (r : Option Slot) (a : Withheld) : State × Bool :=
  match r with
  | none => (s, true)
  | some r =>
    let rs := s.res c r
    if rs.place == .saving || !rs.heldArrivals.isEmpty then (s.modRes c r (fun x => { x with heldArrivals := x.heldArrivals ++ [a] }), false)
    else if rs.arrivals.length < 16 && rs.withheld.isEmpty then (s.queueRecord c r a.arr, true)
    else (s.modRes c r (fun x => { x with withheld := x.withheld ++ [a] }), false)

/-- The resident contexts of the package. -/
def State.allRes (s : State) : List (CoreId × Slot × Res) :=
  s.cores.flatMap (fun e => e.2.all.map (fun x => (BitVec.ofNat 12 e.1, x.1, x.2)))

/-- Some context still withholds the acknowledgement of a local transfer. -/
def State.isWithheld (s : State) (c : CoreId) (r : Slot) (n : Nat) : Bool :=
  s.allRes.any (fun e => (e.2.2.withheld ++ e.2.2.heldArrivals).any (fun w => w.core == some c && w.slot == r && w.xfer == n))

/-! ## Expert blocks -/

def expertCore (x : BitVec 256) : CoreId := x.extractLsb' 138 12
def expertFlag (x : BitVec 256) : BitVec 5 := x.extractLsb' 133 5
def expertSlots (x : BitVec 256) : Nat := (x.extractLsb' 129 4).toNat + 1
def expertArea (x : BitVec 256) : W64 := (x.extractLsb' 0 48).setWidth 64

/-- PF, the bytes of a row's payload field (R465). -/
def payloadField (r : Nat) : Nat := if 136 ≤ r then 128 * ((r - 8) / 128) else if 8 ≤ r then r - 8 else r

/-- The bytes of a landing row of r bytes (R313, R465). -/
def rowBytes (r : Nat) (payload : List Byte) (tag : W32) (src : BitVec 22) : List Byte :=
  let pf := payloadField r
  let body := (List.range pf).map (fun i => payload.getD i 0)
  let tail := if r < 8 then [] else leBytes 4 tag.toNat ++ leBytes 4 src.toNat
  (List.range r).map (fun i => (body ++ tail).getD i 0)

/-- Bytes of the windows' space, one by one. -/
def State.spaceBytes (s : State) (p : PartId) (va : W64) (n : Nat) : List Reached :=
  (List.range n).map (fun i => s.reachSpace (s.part p).winRoot p .store (va + BitVec.ofNat 64 i) 1)

/-- An open block is sealed (R313, R368): the count goes to CTRL, then the flag is posted with the rows it holds. The OFU has no core and
no GROUP_SET, so its write leaves an RC sector at SCOPE 7 (DESIGN CHOICE, log 68: R293 and R368 name no writer). -/
def State.sealBlock (s : State) (p : PartId) (w e : Nat) : State :=
  let k := landKey p w e
  let l := s.lands.get {} k
  let x := s.expert p w e
  match l.rows with
  | none => s
  | some n =>
    let count := l.sealed + 1
    let s := match s.reachSpace (s.part p).winRoot p .store (expertCtrl x + 8) 4 with
      | .ok q => s.landWrite (expertCore x) 0 q (leBytes 4 count.toNat)
      | _ => s
    let s := { s with lands := s.lands.mod {} k (fun l => { l with sealed := count, block := l.block + 1, rows := none }) }
    s.postTask l.task (expertCore x) (expertFlag x) n

/-- The OFU's write of the sealed count may be performed: it waits as other writes to the line of CTRL do (R111, R117). -/
def State.sealReady (s : State) (p : PartId) (w e : Nat) : Bool :=
  match s.reachSpace (s.part p).winRoot p .store (expertCtrl (s.expert p w e) + 8) 4 with
  | .ok q => s.lineFree 0 .fb q && !s.restriping q
  | _ => true

/-- The open blocks of a partition that hold rows: window, expert, rows. -/
def State.openBlocks (s : State) (p : PartId) : List (Nat × Nat × Nat) :=
  s.lands.filterMap (fun e =>
    match e.2.rows with
    | some n => if e.1 / 8192 = p.toNat && 0 < n then some (e.1 / 32 % 256, e.1 % 32, n) else none
    | none => none)

/-- The block that R314 seals first: the most rows, then the lower expert, then the lower window (DESIGN CHOICE, log 69). -/
def fullest (l : List (Nat × Nat × Nat)) : Option (Nat × Nat × Nat) :=
  l.foldl (fun m b =>
    match m with
    | none => some b
    | some a => if a.2.2 < b.2.2 || (a.2.2 = b.2.2 && b.2.1 < a.2.1) then some b else some a) none

/-- While the pool is exhausted and no open block is full, open blocks are sealed (R314). -/
def State.starve (s : State) (p : PartId) : Nat → State
  | 0 => s
  | k + 1 =>
    if !(s.part p).pool.isEmpty then s
    else match fullest (s.openBlocks p) with
      | none => s
      | some b => if s.sealReady p b.1 b.2.1 then (s.sealBlock p b.1 b.2.1).starve p k else s

/-- With the pool of a partition exhausted its open blocks are sealed, as far as the lines of their CTRL may be written now (R314). -/
def State.exhausted (p : PartId) (s : State) : State := s.starve p (s.lands.length + 1)

/-- What becomes of a row offered to its expert. -/
inductive RowEnd where
  | landed (s : State)
  | waits
  | fault (sub : BitVec 4) (va : VAddr)

/-- Open a block for a row of a task where none is open: a free page and a released slot (R368); its rows read 0 (R313). -/
def State.openBlock (s : State) (p : PartId) (w e : Nat) (task : W32) : Option State :=
  let k := landKey p w e
  let l := s.lands.get {} k
  let x := s.expert p w e
  match l.rows, (s.part p).pool with
  | some _, _ => some s
  | none, [] => none
  | none, pg :: rest =>
    if (l.block - l.released).toNat < expertSlots x then
      let va := expertArea x + BitVec.ofNat 64 (65536 * (l.block.toNat % expertSlots x))
      let old := (s.spaceBytes p va 65536).flatMap (fun r => match r with | .ok q => q.addr | _ => [])
      let s := s.modPart p (fun q => { q with pool := rest })
      some { s with
        mem := s.mem.filter (fun c => !old.contains c.1)
        lands := s.lands.put {} k { l with rows := some 0, pages := l.pages ++ [(l.block, pg, task)] } }
    else none

/-- The interval against which an access conflicts with a sector, for an accessor of any package, known by its GROUP_SET and its
acquired intervals (R295). -/
def sectorConflicts (groups : W64) (acquired : List Byte) (core : CoreId) (x : BitVec 31) : Bool :=
  secScope x != 7 && secWriter x != core &&
    (match slotOf groups (secGroup x) with
     | none => false
     | some i => (secInterval x - acquired.getD i 0).toNat < 128)

/-- A row's write conflicts where its sender's task traps races (R296). -/
def State.rowRace (s : State) (row : LandRow) (p : Piece) : Bool :=
  p.rc && row.trap && (sectorsOf p.addr).any (fun a => sectorConflicts row.groups row.acquired (tCore row.src) (s.sector a))

/-- In log mode the row of a sender of this package is recorded (R296). -/
def State.logRow (s : State) (row : LandRow) (ps : List Piece) : State :=
  match row.xfer with
  | some (c, r, n) =>
    match (s.res c r).xfers.get none n with
    | some x => (s.logAccess c r x.ctx .fb false true x.pc [] ps).1
    | none => s
  | none => s

/-- A row of a local SENDM has been written: its payload counts among the bytes that its transfer has landed (R277; DESIGN CHOICE, log
87: the bytes of each row). -/
def State.countRow (s : State) (row : LandRow) : State :=
  match row.xfer with
  | some (c, r, n) => s.modRes c r (fun y =>
      { y with xfers := y.xfers.mod none n (fun x => x.map (fun x => { x with landed := x.landed + row.payload.length })) })
  | none => s

/-- Append a row to its expert's open block (R313); a block of 64 rows is sealed. -/
def State.placeRow (s : State) (p : PartId) (w e : Nat) (row : LandRow) : RowEnd :=
  match s.openBlock p w e row.task with
  | none => .waits
  | some t =>
    let k := landKey p w e
    let l := t.lands.get {} k
    let x := t.expert p w e
    let size := winLength (t.window p w)
    let n := l.rows.getD 0
    let va := expertArea x + BitVec.ofNat 64 (65536 * (l.block.toNat % expertSlots x) + size * n)
    match gatherAll (t.spaceBytes p va size) with
    | .error (sub, v) => .fault sub v
    | .ok (ps, _) =>
      match ps.find? (t.rowRace row) with
      | some q => .fault 4 q.va
      | none =>
      if !ps.all (t.lineFree 0 .fb) || ps.any t.restriping || (n + 1 = 64 && !t.sealReady p w e) then .waits
      else
      let s := (ps.zip (rowBytes size row.payload row.tag row.src)).foldl (fun s q =>
        s.landWrite (tCore row.src) row.groups q.1 [q.2]) (t.logRow row ps)
      let s := { s with lands := s.lands.mod {} k (fun l => { l with rows := some (n + 1), task := row.task }) }.countRow row
      let s := if n + 1 = 64 then s.sealBlock p w e else s
      .landed (s.exhausted p)

/-- A row that cannot be written fails its transfer with REMOTE, and no other row of it that waits is written (R277). -/
def State.failRow (s : State) (row : LandRow) (sub : BitVec 4) (va : VAddr) : State :=
  let others := fun (w : LandRow) => !(w.xfer == row.xfer && w.pair == row.pair)
  let s := { s with lands := s.lands.map (fun (e : Nat × Landing) => (e.1, { e.2 with waiting := e.2.waiting.filter others })) }
  match row.xfer with
  | some (c, r, n) =>
    let had := match (s.res c r).xfers.get none n with | some x => x.landed | none => 0
    s.failXfer c r n { cause := xREMOTE, sub := sub, va := va, stream := 0, landed := had }
  | none => s

/-- A row arrives for an expert: it lands, or waits behind the rows that wait (R368), and with the pool exhausted blocks are sealed
(R314); the answer is whether it faults. -/
def State.acceptRow (s : State) (p : PartId) (w e : Nat) (row : LandRow) : State × Bool :=
  let k := landKey p w e
  let wait := State.exhausted p { s with lands := s.lands.mod {} k (fun l => { l with waiting := l.waiting ++ [row] }) }
  if !(s.lands.get {} k).waiting.isEmpty then (wait, false)
  else match s.placeRow p w e row with
    | .landed t => (t, false)
    | .waits => (wait, false)
    | .fault sub va => (s.failRow row sub va, true)

/-- The oldest row of each expert of a partition that waits, oldest first. -/
def State.waitingHeads (s : State) (p : PartId) : List (Nat × Nat × LandRow) :=
  let l := s.lands.filterMap (fun e =>
    match e.2.waiting with
    | r :: _ => if e.1 / 8192 = p.toNat then some (e.1 / 32 % 256, e.1 % 32, r) else none
    | [] => none)
  l.mergeSort (fun a b => a.2.2.order ≤ b.2.2.order)

/-- Waiting rows land while blocks open for them, in the order of arrival (R368). -/
def State.drainRows (s : State) (p : PartId) : Nat → State
  | 0 => s
  | k + 1 =>
    let ready := (s.waitingHeads p).findSome? (fun h =>
      match s.placeRow p h.1 h.2.1 h.2.2 with
      | .landed t => some { t with lands := t.lands.mod {} (landKey p h.1 h.2.1) (fun l => { l with waiting := l.waiting.tail }) }
      | .fault sub va => some (s.failRow h.2.2 sub va)
      | .waits => none)
    match ready with
    | none => s
    | some t => t.drainRows p k

def State.rowsWaiting (s : State) : Nat := s.lands.foldl (fun n e => n + e.2.waiting.length) 0

/-- What the landings of a partition may do now: blocks are sealed while the pool is exhausted, waiting rows land (R314, R368). -/
def State.settleRows (s : State) (p : PartId) : State := (s.exhausted p).drainRows p s.rowsWaiting
/-- The same of every partition. -/
def State.settleAllRows (s : State) : State := (List.range 16).foldl (fun (s : State) p => s.settleRows (BitVec.ofNat 4 p)) s

/-- The oldest write of CTRL bytes 0-3 that was passed to the OFU is applied (R369): the blocks below its value are released. -/
def State.releaseBlocks (s : State) (p : PartId) (w e : Nat) : State :=
  let k := landKey p w e
  let l := s.lands.get {} k
  match l.writes with
  | [] => s.settleRows p
  | v :: later =>
    if 2 ^ 31 ≤ (v - l.released).toNat then
      State.settleRows { s with lands := s.lands.put {} k { l with writes := later } } p
    else
      let v := if (l.sealed - l.released).toNat < (v - l.released).toNat then l.sealed else v
      let gone := fun (b : W32 × Nat × W32) => (b.1 - l.released).toNat < (v - l.released).toNat
      let s := s.modPart p (fun y => { y with pool := y.pool ++ (l.pages.filter gone).map (fun b => b.2.1) })
      let s := { s with lands := s.lands.put {} k { l with released := v, writes := later, pages := l.pages.filter (fun b => !gone b) } }
      s.settleRows p

/-! ## SENDM at its destination (R272) -/

/-- The experts a mask names. -/
def maskExperts (mask : W32) : List Nat := (List.range 32).filter (fun e => mask.getLsbD e)

/-- An expert window that takes a payload of n bytes. -/
def expertTakes (w : BitVec 256) (n : Nat) : Bool := winKind w == 2 && n ≤ payloadField (winLength w)

/-- The rows of one SENDM, in ascending expert number, for the experts this package holds; after one that faults no more are written
(R277). -/
def State.landSendm (s : State) (p : PartId) (b : W64) (mask : W32) (row : LandRow) : State :=
  let w := winNo b
  (((maskExperts mask).filter (fun e => expertHere s (s.expert p w e))).foldl (fun (a : State × Bool) e =>
    if a.2 then a
    else match a.1.acceptRow p w e { row with tag := b.setWidth 32, order := a.1.serial } with
      | (t, bad) => (t.bump, bad)) (s, false)).1

/-- Some expert of the mask is not placed here (R272). -/
def State.misplaced (s : State) (p : PartId) (b : W64) (mask : W32) : Bool :=
  (maskExperts mask).any (fun e => !expertHere s (s.expert p (winNo b) e))

/-- A row of the transfer still waits. -/
def State.rowPending (s : State) (c : CoreId) (r : Slot) (n : Nat) : Bool :=
  s.lands.any (fun e => e.2.waiting.any (fun w => w.xfer == some (c, r, n)))

def maskOf : Instr → W32
  | .sendm _ _ m => m
  | _ => 0

/-! ## Completion (R255, R256) -/

/-- The transfer's slot is free again (R253). -/
def State.freeXfer (s : State) (c : CoreId) (r : Slot) (n : Nat) : State :=
  s.modRes c r (fun x => { x with xfers := x.xfers.put none n none })
def State.setXfer (s : State) (c : CoreId) (r : Slot) (n : Nat) (x : Xfer) : State :=
  s.modRes c r (fun y => { y with xfers := y.xfers.put none n (some x) })

/-- The post at the issuing context, and the end of the transfer. -/
def State.finishXfer (s : State) (c : CoreId) (r : Slot) (n : Nat) (x : Xfer) : State :=
  let f := xfOf x.ins
  let near := !x.stopped && !f.fnone && !f.frem && (match x.ins with | .xflag .. => false | _ => true)
  let s := s.modFab (fun b => { b with out := b.out.filter (fun o => o.xfer != some (c, r, n)) })
  (if near then s.postAt c r f.f 1 x.pc else s).freeXfer c r n

/-- The core whose flag FREM 1 posts: the target; for SEND, the window's owner (R255, R271). -/
def State.farCore (s : State) (c : CoreId) (r : Slot) (x : Xfer) : CoreId :=
  match x.ins with
  | .send .. => tCore (winOwner (s.window (s.res c r).part (winNo x.xb)))
  | _ => tCore x.target

/-- The last byte of a local transfer has landed: the far post, then the arrival record (R35), then the near post. -/
def State.landed (s : State) (c : CoreId) (r : Slot) (n : Nat) (x : Xfer) (len : Nat) : State :=
  let f := xfOf x.ins
  let task := (s.res c r).task
  let far := s.farCore c r x
  let s := if f.frem then s.postTask task far f.f 1 (if far == c then x.pc else 0) else s
  let handled := f.xh != 0 && (match x.ins with | .put .. => true | .putGlob .. => true | _ => false)
  if handled then
    let a : Arrival := { handler := x.xh.setWidth 48, addr := x.xb, len := BitVec.ofNat 64 len, src := s.sysId c }
    let seat := (s.seat task (tCore x.target)).getD none
    match s.queueArrival (tCore x.target) seat { arr := a, core := some c, slot := r, xfer := n } with
    | (s, true) => s.finishXfer c r n x
    | (s, false) => s.setXfer c r n { x with st := .withheld, landed := len }
  else s.finishXfer c r n x

/-- The homes that a transfer reaches here, by line (R278). -/
def Plan.homes (p : Plan) : List Nat :=
  ((p.reads ++ p.writes).flatMap (fun e => match e.2.2 with | .ok q => q.addr.map lineOf | _ => [])).eraseDups

/-- A GET. -/
def isGet : Instr → Bool
  | .get .. => true
  | .getGlob .. => true
  | _ => false

/-- An older transfer of the core on the path reaches a home that this one reaches (R119, R256, R280). One whose frames have left
still writes here if it is a GET. -/
def State.behind (s : State) (c : CoreId) (x : Xfer) (p : Plan) : Bool :=
  let me := p.homes
  (s.core c).all.any (fun d => d.2.xfers.any (fun e =>
    let r := d.1
    match e.2 with
    | none => false
    | some y =>
      y.serial < x.serial && (y.st == .live || (y.st == .sent && isGet y.ins)) && xPath y.ins == xPath x.ins &&
        (match s.planHere c r y with
         | .ok q => q.homes.any (fun a => me.contains a)
         | .error _ => false)))

def isRank : Instr → Bool
  | .cpyRank .. => true
  | _ => false

/-- The places of a plan are free to be reached now (R117, R118, R286). -/
def State.planReady (s : State) (c : CoreId) (r : Slot) (x : Xfer) (p : Plan) (reads writes : List Piece) : Bool :=
  -- the tile that CPY RANK reads waits until its context is active again (R251)
  !(isRank x.ins && x.early.isEmpty && ((s.res c r).place != .here || (s.core c).act != r)) &&
  !s.postHeld c r x.serial && !reads.any (s.tooEarly c (s.res c r).groupSet) && (reads ++ writes).all (s.reachFree c r (xPath x.ins)) && !writes.any s.restriping && !s.behind c x p

/-- Some elements of a local transfer are read and written: those numbered in ks, whose places ws are reached. The answer holds
the transfer with the sectors it has now recorded, and its length. -/
def State.moveElements (s : State) (c : CoreId) (r : Slot) (x : Xfer) (p : Plan) (rs ws : List Piece) (ks : List Nat) :
    State × Xfer × Nat :=
  let path := xPath x.ins
  match s.agentReads c r x.ctx path x.pc x.readLog rs x.parts.isEmpty with
  | (s, rl) =>
    let out := p.put (rs.map (fun q => s.readList q.addr))
    let todo := ((ws.zip out).zip (List.range ws.length)).filter (fun e => ks.contains e.2)
    match s.agentWrites c r x.ctx path x.pc x.writeLog (todo.map (fun e => (e.1.1, e.1.2.1))) ws x.parts.isEmpty with
    | (s, wl) =>
      (s.modRes c r (fun y => y.raise (orFlags (todo.map (fun e => e.1.2.2)))), { x with readLog := rl, writeLog := wl },
       out.foldl (fun k b => k + b.1.length) 0)

/-- A local transfer lands: what is left of it (R255); one whose places fault waits for its fault. -/
def State.landLocal (s : State) (c : CoreId) (r : Slot) (n : Nat) (x : Xfer) : State :=
  match s.planOf c r x with
  | .error _ => s
  | .ok p =>
    match gatherAll (p.reads.map (fun e => e.2.2)), gatherAll (p.writes.map (fun e => e.2.2)) with
    | .ok (rs, noRead), .ok (ws, noWrite) =>
      if !s.planReady c r x p rs ws then s
      else
        match s.moveElements c r x p rs ws ((List.range ws.length).filter (fun k => !x.parts.contains k)) with
        | (s, x, len) =>
          let s := if noRead || noWrite then s.warnAt c r 0x17 x.pc else s
          s.landed c r n x len
    | _, _ => s

/-- A transfer's elements are read one by one before anything else becomes of it: one to another package, SENDM, RANKMERGE. -/
def State.readsFirst (s : State) (x : Xfer) : Bool :=
  s.isRemote x.target || (match x.ins with | .sendm .. | .cpyRankmerge .. => true | _ => false)

/-- Element k of a transfer is read ahead of the rest (R280); elements with one home are read in their order (R119). -/
def State.readElement (s : State) (c : CoreId) (r : Slot) (n k : Nat) (x : Xfer) : State :=
  match s.planHere c r x with
  | .error _ => s
  | .ok p =>
    match gatherAll (p.reads.map (fun e => e.2.2)) with
    | .error _ => s
    | .ok (rs, _) =>
      let q := rs.getD k { addr := [] }
      let first := (List.range k).all (fun j => (x.earlyAt j).isSome || !(rs.getD j { addr := [] }).meets q)
      if rs.length ≤ k || (x.earlyAt k).isSome || !first || !s.planReady c r x { p with writes := [] } [q] [] then s
      else
        match s.agentReads c r x.ctx (xPath x.ins) x.pc x.readLog [q] x.early.isEmpty rs with
        | (s, rl) => s.setXfer c r n { x with readLog := rl, early := x.early ++ [(k, s.readList q.addr)] }

/-- What CPY RANK has read of its tile once its first element lands: all its pairs, read whole between two steps of the engine
(R247, R264). -/
def Xfer.tileRead (x : Xfer) (p : Plan) : List (Nat × Nat) :=
  if isRank x.ins && x.early.isEmpty then
    let out := p.put []
    (List.range out.length).zip (out.map (fun e => ofLe e.1))
  else x.early

/-- Element k of a transfer lands ahead of the rest, or is read ahead of it (R280): other elements may have other homes. -/
def State.landElement (s : State) (c : CoreId) (r : Slot) (n k : Nat) : State :=
  match (s.res c r).xfers.get none n with
  | none => s
  | some x =>
    if x.st != .live || x.parts.contains k then s
    else if s.readsFirst x then s.readElement c r n k x
    else match x.ins, s.planOf c r x with
      | .xflag .., _ => s
      | _, .error _ => s
      | _, .ok p =>
        match gatherAll (p.reads.map (fun e => e.2.2)), gatherAll (p.writes.map (fun e => e.2.2)) with
        | .ok (rs, _), .ok (ws, _) =>
          -- elements with one home land in their order (R119)
          let first := (List.range k).all (fun j => x.parts.contains j || !(ws.getD j { addr := [] }).meets (ws.getD k { addr := [] }))
          if ws.length ≤ k || !first || !s.planReady c r x p rs [ws.getD k { addr := [] }] then s
          else
            match s.moveElements c r x p rs ws [k] with
            | (s, x, _) => s.setXfer c r n { x with parts := x.parts ++ [k], early := x.tileRead p }
        | _, _ => s

/-- The payload of a transfer whose source elements of w bytes lie here; an absent one reads 0. -/
def State.payload (s : State) (w : Nat) (x : Xfer) (ps : List Piece) : List Byte := (s.valuesOf x ps).flatMap (leBytes w)

/-- SENDM to the own package, looped back (R272, R314). -/
def State.sendmLocal (s : State) (c : CoreId) (r : Slot) (n : Nat) (x : Xfer) : State :=
  match s.planSendm c r x with
  | .error _ => s
  | .ok p =>
    match gatherAll (p.reads.map (fun e => e.2.2)) with
    | .error _ => s
    | .ok (ps, absent) =>
      let rs := s.res c r
      let data := s.payload (elemBytes x.sa.format.toNat) x ps
      if !s.planReady c r x p ps [] || !expertTakes (s.window rs.part (winNo x.xb)) (x.sa.total * elemBytes x.sa.format.toNat) then s
      else
        let s := (s.agentReads c r x.ctx .fb x.pc x.readLog ps x.early.isEmpty).1
        let s := if absent then s.warnAt c r 0x17 x.pc else s
        let s := s.setXfer c r n { x with st := .sent }
        s.landSendm rs.part x.xb (maskOf x.ins)
          { payload := data, tag := 0, src := s.sysId c, xfer := some (c, r, n), pair := none, order := 0, task := rs.task
            groups := rs.groupSet, acquired := [0, 1, 2, 3].map (fun i => rs.acquired.get 0 i), trap := s.raceMode rs.task == 2 }

/-- RANKMERGE_APPLY (R247, R251, R265): one merge, whole, once the target's context is active. -/
def State.rankmergeApply (s : State) (c : CoreId) (r : Slot) (n : Nat) : State :=
  match (s.res c r).xfers.get none n with
  | none => s
  | some x =>
    match x.ins, s.planRankmerge c r x, (s.seat (s.res c r).task (tCore x.target)).getD none with
    | .cpyRankmerge _ f, .ok p, some d =>
      match gatherAll (p.reads.map (fun e => e.2.2)) with
      | .error _ => s
      | .ok (rs, absent) =>
        let k := s.core (tCore x.target)
        if x.st != .live || k.act != d || (k.res d).place != .here || !s.planReady c r x p rs [] ||
           (f.frem && !s.targetOk c r x) then s
        else
          let s := (s.agentReads c r x.ctx .ce x.pc x.readLog rs x.early.isEmpty).1
          let rows := mergePairs (mergePlaces x.sa f.k.toNat) (s.valuesOf x rs)
          let s := s.modRes (tCore x.target) d (fun y =>
            { y with eng := y.eng.setTile f.acc.toNat ((y.eng.tile f.acc.toNat).mergeRows rows) })
          let s := if absent then s.warnAt c r 0x17 x.pc else s
          s.landed c r n x (4 * rs.length)
    | _, _, _ => s
def execRankmergeApply (c : CoreId) (r : Slot) (n : BitVec 4) (s : State) : Out := agent (s.rankmergeApply c r n.toNat)

/-! ## Frames of a transfer to another package (R268, R376, R400) -/

/-- The record that a transfer's frames carry (log 30). -/
def State.carried (s : State) (c : CoreId) (r : Slot) (x : Xfer) (total : Nat) : Carried :=
  let f := xfOf x.ins
  let rs := s.res c r
  { source := s.sysId c, task := rs.task, core := tCore x.target, glob := isGlob x.ins
    va := match x.ins with | .get .. | .getGlob .. => x.xa | _ => x.xb
    size := match x.ins with | .get .. | .getGlob .. => elemBytes x.sb.format.toNat | _ => elemBytes x.sa.format.toNat
    first := 0, total := total
    flag := match x.ins with | .xflag .. => some f.f | _ => if f.frem then some f.f else none
    amount := x.xa.setWidth 16
    handler := match x.ins with | .put .. | .putGlob .. => if f.xh = 0 then none else some (x.xh.setWidth 48) | _ => none
    mask := maskOf x.ins, groups := rs.groupSet
    acquired := [0, 1, 2, 3].map (fun i => rs.acquired.get 0 i), trap := s.raceMode rs.task == 2 }

/-- KIND of a transfer's frames (R401). -/
def kindOf : Instr → Byte
  | .putGlob .. => 1
  | .put .. => 2
  | .get .. => 3
  | .getGlob .. => 3
  | .send .. => 5
  | .sendm .. => 6
  | _ => 7

/-- A payload cut into fields of 1,792 bytes, each with the bytes before it; one empty field for no payload (R400). -/
def chunks (l : List Byte) : List (Nat × List Byte) :=
  if l.isEmpty then [(0, [])]
  else (List.range ((l.length + 1791) / 1792)).map (fun i => (1792 * i, (l.drop (1792 * i)).take 1792))

/-- ADDR of a frame before a translation is put into it (R401): the request tag, or the low bits of the address or offset. -/
def frameAddr (kind : Byte) (xid : BitVec 12) (cmd : Carried) (off : Nat) : VAddr :=
  if kind = 3 then xid.setWidth 48 else (cmd.va + BitVec.ofNat 64 off).setWidth 48

/-- The frames of a transfer, with the translations held. -/
def State.framesOf (s : State) (c : CoreId) (r : Slot) (n : Nat) (x : Xfer) (cmd : Carried) (data : List Byte) : List OutFrame :=
  let kind := kindOf x.ins
  (chunks data).map (fun d =>
    { frame := s.carry (s.frameTo x.target kind x.xid (frameAddr kind x.xid cmd d.1) { cmd with first := d.1 } d.2)
      part := (s.res c r).part, xfer := some (c, r, n) })

/-- An older transfer of the core on the path to that package has not queued its frames (R256). -/
def State.behindAway (s : State) (c : CoreId) (x : Xfer) : Bool :=
  (s.core c).all.any (fun d => d.2.xfers.any (fun e =>
    match e.2 with
    | none => false
    | some y => y.serial < x.serial && y.st == .live && xPath y.ins == xPath x.ins && y.target.extractLsb' 12 10 == x.target.extractLsb' 12 10))

/-- A transfer to another package queues its frames in the OFU, once the source is read and every page is translated. -/
def State.sendAway (s : State) (c : CoreId) (r : Slot) (n : Nat) (x : Xfer) : State :=
  match s.planAway c r x with
  | .error _ => s
  | .ok p =>
    match gatherAll (p.reads.map (fun e => e.2.2)) with
    | .error _ => s
    | .ok (ps, absent) =>
      if !s.planReady c r x { p with writes := [] } ps [] || s.behindAway c x then s
      else
        let data := s.payload (elemBytes x.sa.format.toNat) x ps
        let total := match x.ins with
          | .get .. | .getGlob .. => x.sb.total * elemBytes x.sb.format.toNat
          | _ => data.length
        let kind := kindOf x.ins
        let cmd := s.carried c r x total
        let held := fun (o : Nat) => (s.rwtAt (dieOf c) (tDom x.target) (tPeer x.target) (rwtKey kind cmd o)).isSome
        match (pagesFrom kind cmd 0 total).find? (fun o => !held o) with
        | some o =>
          -- the destination is asked for the first page whose translation is not held (R376)
          if x.far.isSome then s
          else s.askFor { frame := s.frameTo x.target kind x.xid 0 cmd [], part := (s.res c r).part, xfer := some (c, r, n) } o
        | none =>
          let s := (s.agentReads c r x.ctx (xPath x.ins) x.pc x.readLog ps x.early.isEmpty).1
          let s := if absent then s.warnAt c r 0x17 x.pc else s
          (s.modFab (fun b => { b with out := b.out ++ s.framesOf c r n x cmd data })).setXfer c r n { x with st := .sent }

/-- TRANSFER_COMPLETE (R255, R256): the next thing that happens to a transfer that does not fault. -/
def State.transferComplete (s : State) (c : CoreId) (r : Slot) (n : Nat) : State :=
  let s := s.settleRows (s.res c r).part
  match (s.res c r).xfers.get none n with
  | none => s
  | some x =>
    let away := s.isRemote x.target
    match x.st with
    | .live =>
      if away then s.sendAway c r n x
      else match x.ins with
        | .xflag .. => s
        | .cpyRankmerge .. => s
        | .sendm .. => s.sendmLocal c r n x
        | _ => s.landLocal c r n x
    | .sent =>
      if away then
        let got := match x.ins with
          | .get .. | .getGlob .. => x.sb.total * elemBytes x.sb.format.toNat ≤ x.landed
          | _ => true
        if s.acked c r n && got then s.finishXfer c r n x else s
      else match x.ins with
        | .sendm _ _ m => if s.rowPending c r n || s.misplaced (s.res c r).part x.xb m then s else s.finishXfer c r n x
        | _ => s.finishXfer c r n x
    | .withheld => if s.isWithheld c r n then s else s.finishXfer c r n x
    | .faulted => s
def execTransferComplete (c : CoreId) (r : Slot) (n : BitVec 4) (s : State) : Out := agent (s.transferComplete c r n.toNat)

/-- REMOTE_FLAG_POST: the post of an XFLAG of this package reaches its target's flag or image (R34, R269). -/
def State.remoteFlagPost (s : State) (c : CoreId) (task : W32) (f : BitVec 5) (amt : BitVec 16) : State :=
  let mine := s.allXfers.find? (fun e =>
    let x := e.2.2.2
    x.st == .live && !s.isRemote x.target && tCore x.target == c && (s.res e.1 e.2.1).task == task && x.xa.setWidth 16 == amt &&
      (match x.ins with | .xflag _ g => g.f == f | _ => false) && (s.seat task c).isSome && !s.postHeld e.1 e.2.1 x.serial)
  match mine with
  | none => s
  | some (o, r, n, x) => (s.postTask task c f amt.toNat (if o == c then x.pc else 0)).setXfer o r n { x with st := .sent }
def execRemoteFlagPost (c : CoreId) (task : W32) (f : BitVec 5) (amt : BitVec 16) (s : State) : Out :=
  agent (s.remoteFlagPost c task f amt)

/-! ## Faults after issue (R276, R277) -/

/-- The faults that the places of a plan meet: cause, SUB, address, stream; an uncorrectable error is HW_ERROR (R330). Of several
races the one at the lowest address counts (R466). -/
def placeFaults (l : List (Byte × BitVec 4 × Reached)) : List (Byte × BitVec 4 × VAddr × BitVec 4) :=
  let all := l.filterMap (fun e => match e.2.2 with
    | .fault sub va => some (if sub = 5 then 0x21 else e.1, sub, va, e.2.1)
    | _ => none)
  all.filter (fun f => f.2.1 != 4 || all.all (fun g => g.2.1 != 4 || f.2.2.1.toNat ≤ g.2.2.1.toNat))

/-- A CPY RANKMERGE waits until its target's context is active; the mode that its tile is in before is no fault (R251, R265). -/
def State.mergeWaits (s : State) (c : CoreId) (r : Slot) (x : Xfer) : Bool :=
  match x.ins, (s.seat (s.res c r).task (tCore x.target)).getD none with
  | .cpyRankmerge .., some d => (s.core (tCore x.target)).act != d || (s.res (tCore x.target) d).place != .here
  | _, _ => false

/-- The faults a transfer may stop with, as far as this package decides them. -/
def State.xferFaults (s : State) (c : CoreId) (r : Slot) (n : Nat) (x : Xfer) : List (Byte × BitVec 4 × VAddr × BitVec 4) :=
  let part := (s.res c r).part
  match s.planHere c r x with
  | .error (k, t) => if k == xMODE && s.mergeWaits c r x then [] else [(k, 0, 0, t)]
  | .ok p =>
    let more := match x.ins with
      | .sendm _ _ m =>
        if s.isRemote x.target then []
        else if !expertTakes (s.window part (winNo x.xb)) (x.sa.total * elemBytes x.sa.format.toNat) then [(xWINDOW, 0, 0, 0)]
        else if x.st == .sent && !s.rowPending c r n && s.misplaced part x.xb m then [(xEXPERT, 0, 0, 0)] else []
      | _ => []
    placeFaults (p.reads ++ p.writes) ++ more

/-- The causes that another package may answer with (R277), an uncorrectable error of it among them (R330, R456). -/
def awayCause (i : Instr) (k : Byte) (sub : BitVec 4) : Bool :=
  let remote := (k == xREMOTE && 1 ≤ sub.toNat && sub.toNat ≤ 4) || (k == 0x21 && sub == 5)
  match i with
  | .put .. | .putGlob .. | .get .. | .getGlob .. => remote || (k == xTARGET && sub == 0)
  | .send .. => remote || ((k == xTARGET || k == xWINDOW) && sub == 0)
  | .sendm .. => remote || ((k == xTARGET || k == xWINDOW || k == xEXPERT) && sub == 0)
  | .xflag .. => k == xTARGET && sub == 0
  | _ => false

/-- Bytes of an element at a local transfer's destination. -/
def Xfer.destSize (x : Xfer) : Nat :=
  match x.ins with
  | .put .. | .putGlob .. | .send .. => elemBytes x.sa.format.toNat
  | _ => elemBytes x.sb.format.toNat

/-- Bytes that a transfer has landed so far, the elements that landed ahead of the rest among them. -/
def Xfer.landedNow (x : Xfer) : Nat := Nat.max x.landed (x.parts.length * x.destSize)

/-- A place that does not fault. -/
def Reached.good : Reached → Bool
  | .fault .. => false
  | _ => true

/-- The elements that have landed before a local transfer's fault: at most `landed` bytes, in element order, before the first place
that faults (R277), with their flags (R93); none where they may not be reached yet. Element k is read at place k where the transfer
reads an element for each it writes. -/
def State.landSome (s : State) (c : CoreId) (r : Slot) (x : Xfer) (landed : Nat) : Option (State × Nat) :=
  match s.planOf c r x with
  | .error _ => some (s, x.parts.length * x.destSize)
  | .ok p =>
    let paired := p.reads.length == p.writes.length
    let from_ := (p.reads.map (fun e => e.2.2)).takeWhile (fun e => !paired || e.good)
    let dst := ((p.writes.map (fun e => e.2.2)).takeWhile Reached.good).take (if paired then from_.length else p.writes.length)
    match gatherAll from_, gatherAll dst with
    | .ok (rs, _), .ok (ws, _) =>
      let w := x.destSize
      let ks := (List.range ws.length).filter (fun k => !x.parts.contains k && (k + 1) * w ≤ landed)
      if !s.planReady c r x p rs (ks.filterMap (fun k => ws[k]?)) then none
      else some ((s.moveElements c r x p rs ws ks).1, (ks.length + x.parts.length) * w)
    | _, _ => some (s, x.parts.length * x.destSize)

/-- A race that a transfer's access meets in another package, where its task logs races (R258, R296): a record enters its own task's
ring and counts, and the transfer goes on. The sector's content there is a free value (log 45). -/
def State.logAway (s : State) (c : CoreId) (r : Slot) (t : Xfer) (va : VAddr) : State :=
  let sec := Config.farSector s.steps
  match (s.res c r).conflict c false sec with
  | some aint => s.logRace c r t.ctx (raceRecord (remoteWrite t.ins) (xPath t.ins) sec aint (s.sysId c) t.pc va) t.pc
  | none => s

/-- TRANSFER_FAULT: the transfer stops with a fault it meets here, or with one that its destination answers. A race at the destination
stops it where its task traps races, is recorded where it logs them, and is nothing where it does neither (R277, R296). -/
def State.transferFault (s : State) (c : CoreId) (r : Slot) (n : Nat) (x : XferFault) : State :=
  match (s.res c r).xfers.get none n with
  | none => s
  | some t =>
    let away := s.isRemote t.target
    let here := (t.st == .live || (t.st == .sent && (!away || !(remoteWrite t.ins)))) &&
      (s.xferFaults c r n t).contains (x.cause, x.sub, x.va, x.stream)
    if here && !away then
      match if t.st == .live then s.landSome c r t x.landed else some (s, t.landed) with
      | some (s, k) => s.failXfer c r n { x with landed := k }
      | none => s
    else if away && x.cause == xREMOTE && x.sub == 4 && s.raceMode (s.res c r).task != 2 then
      if t.st == .sent && awayCause t.ins x.cause x.sub && s.raceMode (s.res c r).task == 1 then s.logAway c r t x.va else s
    else if here || (away && t.st == .sent && awayCause t.ins x.cause x.sub) ||
        (away && t.st == .live && t.far == some (x.cause, x.sub)) then
      let mine := fun (o : OutFrame) => o.xfer == some (c, r, n)
      let s := s.modFab (fun b => { b with out := (b.out.filter (fun o => !(mine o && (o.seq.isNone || o.acked)))).map (fun o =>
        if mine o then { o with xfer := none } else o) })
      s.failXfer c r n { x with landed := if here then t.landed else x.landed }
    else s
def execTransferFault (c : CoreId) (r : Slot) (n : BitVec 4) (x : XferFault) (s : State) : Out :=
  agent (s.transferFault c r n.toNat x)

/-! ## Handlers (R36, R39) -/

/-- HANDLER_START: the oldest record starts a dormant handler, h1 before h2, in task mode whatever mode its last run ended in (DESIGN
CHOICE, log 72). -/
def Ctx.start (x : Ctx) (a : Arrival) (cycle : Nat) : Ctx :=
  let x := { x with pc := a.handler, loops := [], run := .live, mode := false, rep := none, repAt := none, repIdx := 0, ready := cycle + 3, late := 0 }
  ((x.putS false 1 a.addr).putS false 2 a.len).putS false 3 (a.src.setWidth 64)
def State.handlerStart (s : State) (c : CoreId) (r : Slot) : State :=
  let k := s.core c
  let rs := k.res r
  if k.act != r || rs.place != .here || k.halted || k.fenced || k.coolHalt || !rs.occ then s
  else
    match rs.arrivals with
    | [] => s
    | a :: t =>
      let go := fun (x : CtxId) => s.setRes c r ({ rs with arrivals := t }.modCtx x (fun y => y.start a k.cycle))
      if rs.h1.run == .dormant then go .h1 else if rs.h2.run == .dormant then go .h2 else s
def execHandlerStart (c : CoreId) (r : Slot) (s : State) : Out := agent (s.handlerStart c r)

/-! ## Blocks released -/

/-- EXPERT_BLOCK_RELEASE, in every partition that has the window (R369). -/
def State.expertRelease (s : State) (w e : Nat) : State :=
  (List.range 16).foldl (fun s p => s.releaseBlocks (BitVec.ofNat 4 p) w e) s

end Sys2Proof.Machine
end

