-- ==== Sys2Proof/Machine/Frames.lean ====
section
/-! DEFINITION. Receiving frames (R399, R401 to R407): the checks of a header, acknowledgements and permits, barrier items, repair
messages, applying in SEQ order, relaying, and what each KIND does at its destination (R266 to R272, R376). -/

namespace Sys2Proof.Machine

/-! ## The repair message of a header (R414) -/

def repairOf (b : BitVec 128) : RepairMsg :=
  { rn := b.extractLsb' 88 32, action := b.extractLsb' 84 4, port := b.extractLsb' 79 5, line := b.extractLsb' 71 8
    owner := b.extractLsb' 65 6, rpeer := b.extractLsb' 59 6, rid := b.extractLsb' 43 16 }

def State.onMessage (s : State) (t : PeerId) (b : BitVec 128) : State :=
  let m := repairOf b
  match (b.extractLsb' 120 8).toNat with
  | 1 => s.onPropose t m
  | 2 => s.onAccept t m
  | 3 => s.onDefer t m
  | 5 => s.onPortdown t m
  | 6 => s.onRetrain t m
  | 7 => s.onRejoin t m
  | 8 => s.onFlushed t m
  | _ => s

/-! ## Counts (R402 to R404) -/

def State.modPairAt (s : State) (k : Nat) (f : Pair → Pair) : State := s.modFab (fun b => b.modPair k f)

/-- A shootdown of a peer is acknowledged once every frame that used what it removed is (R378). -/
def State.settleOwed (s : State) : State :=
  s.modFab (fun b => { b with owed := b.owed.filter (fun t => b.out.any (fun o => o.owed && !o.acked && o.frame.dst == t)) })

/-- A frame that ACK has passed is kept while its transfer may be replayed: a request for a translation is not (R376, R420). -/
def OutFrame.kept (o : OutFrame) : Bool := !o.acked || (o.frame.kind != 8 && o.xfer.isSome)

/-- ACK and FREED of a header, and the round that ends an OFU's silence after its reset. -/
def State.onCounts (s : State) (k : Nat) (f : Frame) : State :=
  let s := s.modPairAt k (fun p =>
    { p with
      heard := s.fab.rot
      acked := if atOrPast f.ack p.acked then f.ack else p.acked
      freedIn := if atOrPast f.freed p.freedIn then f.freed else p.freedIn
      sent := if p.mute then f.ack else p.sent
      mute := false })
  let passed := fun (o : OutFrame) => s.pairKey o.frame.ddom o.frame.dst == k &&
    (match o.seq with | some q => q != f.ack && atOrPast f.ack q | none => false)
  (s.modFab (fun b => { b with out := (b.out.map (fun o => if passed o then { o with acked := true, again := false } else o)).filter OutFrame.kept })).settleOwed

/-- A barrier item: counted once for a group and generation (R358, R406). One for an entry that no launch has loaded yet counts
for the generation 0 it will be loaded with (DEDUCED, log 32). -/
def Arm.onItem (a : Arm) (t : PeerId) (gen : BitVec 7) : Arm :=
  if a.v && a.broken then a
  else if gen == a.gen.setWidth 7 then { a with came := if a.came.contains t then a.came else a.came ++ [t] }
  else if gen == (a.gen + 1).setWidth 7 then { a with early := if a.early.contains t then a.early else a.early ++ [t] }
  else a
def State.onItems (s : State) (t : PeerId) (l : List (BitVec 16)) : State :=
  l.foldl (fun s b => if b.getLsbD 0 then s.modArm (b.extractLsb' 8 8) (fun a => a.onItem t (b.extractLsb' 1 7)) else s) s

/-! ## What a frame does at its destination -/

/-- The task here of the job that a frame belongs to (R308). -/
def State.jobOf (s : State) (f : Frame) : Option Task := s.task? (Config.jobTask (f.sdom ++ f.src) f.cmd.task)

/-- Patina's trap for an access of another package's core (R258, R295, R296). -/
def State.farRace (s : State) (m : Carried) (p : Piece) : Bool :=
  p.rc && m.trap && (sectorsOf p.addr).any (fun a => sectorConflicts m.groups m.acquired (tCore m.source) (s.sector a))

/-- An element's place, with that check. -/
def State.farReach (s : State) (m : Carried) (root : BitVec 34) (part : PartId) (a : Acc) (va : W64) (n : Nat) : Reached :=
  match s.reachSpace root part a va n with
  | .ok p => if s.farRace m p then .fault 4 p.va else .ok p
  | x => x

/-- The places before the first that faults, and whether one does. -/
def upToFault : List Reached → List Piece × Bool
  | [] => ([], false)
  | .ok p :: t => ((upToFault t).1 |> (p :: ·), (upToFault t).2)
  | .absent :: t => upToFault t
  | .fault .. :: _ => ([], true)

/-- The frame's transfer writes nothing further here (R277). -/
def State.failFrame (s : State) (k : Nat) (f : Frame) : State :=
  s.modPairAt k (fun p => { p with failed := if p.failed.contains f.xid then p.failed else p.failed ++ [f.xid] })

/-- A payload's elements of w bytes. -/
def elements (w : Nat) (l : List Byte) : List (List Byte) := (List.range (l.length / w)).map (fun i => (l.drop (w * i)).take w)

/-- Write a frame's elements at its places; none when a line is not free yet: the frame is then not applied. -/
def State.landFrame (s : State) (k : Nat) (f : Frame) (places : List Reached) : Option (State × Bool) :=
  match upToFault places with
  | (ps, bad) =>
    if !ps.all (s.lineFree 0 .fb) || ps.any s.restriping then none
    else
      let s := (ps.zip (elements f.cmd.size f.payload)).foldl (fun s q => s.landWrite (tCore f.cmd.source) f.cmd.groups q.1 q.2) s
      some (if bad then s.failFrame k f else s, !bad)

/-- The frame is the last of its transfer. -/
def isLast (f : Frame) : Bool := f.cmd.total ≤ f.cmd.first + f.payload.length

/-- The offsets of a frame's elements in the transfer. -/
def frameOffsets (f : Frame) : List Nat := (List.range (f.payload.length / f.cmd.size)).map (fun i => f.cmd.first + f.cmd.size * i)

/-- After a PUT's last byte: the far post, then the arrival record (R35); the answer is whether it is acknowledged. -/
def State.putLanded (s : State) (k : Nat) (t : Task) (f : Frame) : State × Bool :=
  let m := f.cmd
  let s := match m.flag with | some g => s.postTask t.id m.core g 1 | none => s
  match m.handler with
  | none => (s, true)
  | some h =>
    s.queueArrival m.core ((s.seat t.id m.core).getD none)
      { arr := { handler := h, addr := m.va, len := BitVec.ofNat 64 m.total, src := m.source }, core := none, slot := .a, xfer := k }

/-- A PUT's frame (R266 to R268): to an address, or to an allocation. -/
def State.applyPut (s : State) (k : Nat) (f : Frame) : Option (State × Bool) :=
  let m := f.cmd
  match s.jobOf f with
  | none => some (s.failFrame k f, true)
  | some t =>
    if (m.flag.isSome || m.handler.isSome) && (s.seat t.id m.core).isNone then some (s.failFrame k f, true)
    else
      let places :=
        if f.kind = 1 then some ((frameOffsets f).map (fun o => s.farReach m t.root t.part .store (m.va + BitVec.ofNat 64 o) m.size))
        else (s.allocOf m.core t.id).map (fun a =>
          (frameOffsets f).map (fun o => s.reachSp m.core a.1 a.2 ((m.va.setWidth 48).toNat + o) m.size))
      match places with
      | none => some (s.failFrame k f, true)
      | some l =>
        match s.landFrame k f l with
        | none => none
        | some (s, ok) => if ok && isLast f then some (s.putLanded k t f) else some (s, true)

/-- A SEND's frame (R271): the window in force when it is applied (R421). -/
def State.applySend (s : State) (k : Nat) (f : Frame) : Option (State × Bool) :=
  let m := f.cmd
  match s.jobOf f with
  | none => some (s.failFrame k f, true)
  | some t =>
    let win := s.window t.part (winNo m.va)
    let owner := tCore (winOwner win)
    if !winTakes win (winOff m.va) m.total || (m.flag.isSome && (s.seat t.id owner).isNone) then some (s.failFrame k f, true)
    else
      let base := winBase win + BitVec.ofNat 64 (winOff m.va)
      match s.landFrame k f ((frameOffsets f).map (fun o =>
        s.farReach m (s.part t.part).winRoot t.part .store (base + BitVec.ofNat 64 o) m.size)) with
      | none => none
      | some (s, ok) =>
        if ok && isLast f then some (match m.flag with | some g => s.postTask t.id owner g 1 | none => s, true) else some (s, true)

/-- A SENDM's frame (R272): rows for the experts named; the acknowledgement waits for rows that wait. -/
def State.applySendm (s : State) (k : Nat) (f : Frame) : State × Bool :=
  let m := f.cmd
  match s.jobOf f with
  | none => (s, true)
  | some t =>
    if m.first ≠ 0 || !expertTakes (s.window t.part (winNo m.va)) m.total then (s, true)
    else
      let s := s.landSendm t.part m.va m.mask
        { payload := f.payload, tag := 0, src := m.source, xfer := none, pair := some k, order := 0, task := t.id, groups := m.groups
          acquired := m.acquired, trap := m.trap }
      (s, !s.lands.any (fun e => e.2.waiting.any (fun w => w.pair == some k)))

/-- An XFLAG's frame (R269). -/
def State.applyXflag (s : State) (f : Frame) : State :=
  match s.jobOf f, f.cmd.flag with
  | some t, some g => s.postTask t.id f.cmd.core g f.cmd.amount.toNat
  | _, _ => s

/-- A read for another package would see a release at group scope before a store that its core issued earlier, which a release of that
scope may go before here (R284): of the groups that span the package. -/
def State.farTooEarly (s : State) (m : Carried) (p : Piece) : Bool :=
  (s.tagsAt p.addr).any (fun t => t.scope == 1 && (validGroups t.groups).any (fun g => (validGroups m.groups).contains g) &&
    s.reqs.any (s.beforeTag t))

/-- A read request (R266, R268): answered with the data; a request that faults is answered with none. -/
def State.applyRead (s : State) (f : Frame) : Option State :=
  let m := f.cmd
  match s.jobOf f with
  | none => some s
  | some t =>
    let offs := (List.range (m.total / m.size)).map (fun i => m.size * i)
    let places :=
      if m.glob then some (offs.map (fun o => s.farReach m t.root t.part .load (m.va + BitVec.ofNat 64 o) m.size))
      else (s.allocOf m.core t.id).map (fun a =>
        offs.map (fun o => s.reachSp m.core a.1 a.2 ((m.va.setWidth 48).toNat + o) m.size))
    match places with
    | none => some s
    | some l =>
      match gatherAll l with
      | .error _ => some s
      | .ok (ps, _) =>
        if m.flag.isSome && (s.seat t.id m.core).isNone then some s
        else if !ps.all (s.lineFree 0 .fb) || ps.any (s.farTooEarly m) then none
        else
          let s := ps.foldl (fun s p => (s.returnHome p).noteReplica p) s
          let data := ps.flatMap (fun p => p.addr.map s.byte)
          let s := match m.flag with | some g => s.postTask t.id m.core g 1 | none => s
          let back : BitVec 22 := f.sdom ++ f.src ++ 0#12
          let outs := (chunks data).map (fun d =>
            ({ frame := s.frameTo back 4 f.xid (f.xid.setWidth 48) { m with first := d.1 } d.2, part := t.part } : OutFrame))
          some (s.modFab (fun b => { b with out := b.out ++ outs }))

/-- A read response (R266): the bytes land in the GET's destination stream. -/
def State.applyAnswer (s : State) (f : Frame) : Option State :=
  let mine := s.allXfers.find? (fun e =>
    let x := e.2.2.2
    x.st == .sent && x.xid == f.addr.setWidth 12 && x.target.extractLsb' 12 10 == f.sdom ++ f.src &&
      (match x.ins with | .get .. => true | .getGlob .. => true | _ => false))
  match mine with
  | none => some s
  | some (c, r, n, x) =>
    let w := elemBytes x.sb.format.toNat
    let places := (List.range (f.payload.length / w)).map (fun i => (s.elemAt c r x.sb 0 .store (f.cmd.first / w + i)).2.2)
    match gatherAll places with
    | .error _ => some s
    | .ok (ps, absent) =>
      let here : Plan := { reads := [], writes := ps.map (fun p => (0, 0, .ok p)), put := fun _ => [] }
      let all := match s.planAway c r x with
        | .ok p => (match gatherAll (p.writes.map (fun e => e.2.2)) with | .ok (l, _) => l | .error _ => ps)
        | .error _ => ps
      if !ps.all (s.lineFree c .ce) || ps.any s.restriping || s.behind c x here then none
      else
        match s.agentWrites c r x.ctx .ce x.pc x.writeLog (ps.zip (elements w f.payload)) all (x.landed == 0) with
        | (s, wl) =>
          let s := if absent then s.warnAt c r 0x17 x.pc else s
          some (s.setXfer c r n { x with landed := Nat.max x.landed (f.cmd.first + f.payload.length), writeLog := wl })

/-- The entry for a 64 KiB page of a space: the leaf with the page's own address; 0 for none. -/
def State.pageAnswer (s : State) (root : BitVec 34) (va : W64) : W64 :=
  match s.walk root va.toNat with
  | .leaf pte log =>
    let pa := leafPa pte log va.toNat / 2 ^ 16 * 2 ^ 16
    (pte &&& ~~~(0x3FFFFFFFF000#64)) ||| BitVec.ofNat 64 pa
  | .bad _ => 0

/-- Of the experts a SENDM names the first that is placed here. -/
def State.firstExpert (s : State) (p : PartId) (m : Carried) : Option (BitVec 256) :=
  ((maskExperts m.mask).map (s.expert p (winNo m.va))).find? (expertHere s)
/-- The space and the address at which a transfer to this package reaches a page, by an offset (R258, R271): of a SEND the byte of its
window nearest the offset, of a SENDM the area of its first expert. None where no expert named is placed here. -/
def State.pageAt (s : State) (t : Task) (kind : Byte) (m : Carried) (off : Nat) : Option (BitVec 34 × W64) :=
  let root := (s.part t.part).winRoot
  if kind = 5 then
    let o := Nat.min (Nat.max off (winOff m.va)) (winOff m.va + (m.total - 1))
    some (root, winBase (s.window t.part (winNo m.va)) + BitVec.ofNat 64 o)
  else if kind = 6 then (s.firstExpert t.part m).map (fun x => (root, expertArea x))
  else some (t.root, m.va + BitVec.ofNat 64 off)
/-- The entry for that page; 0 for none. -/
def State.pageFor (s : State) (t : Task) (kind : Byte) (m : Carried) (off : Nat) : W64 :=
  match s.pageAt t kind m off with
  | some (root, va) => s.pageAnswer root va
  | none => 0

/-- A window takes what a transfer brings: a SEND's bytes, or a SENDM's payload (R271, R272). -/
def windowTakes (win : BitVec 256) (kind : Byte) (m : Carried) : Bool :=
  if kind = 5 then winTakes win (winOff m.va) m.total else if kind = 6 then expertTakes win m.total else true
/-- The space and the address that a translation request walks, or the cause of the fault that its transfer takes (R277, R376): TARGET
where the package holds no context of the job, WINDOW where the window is not defined, of the wrong kind or too small, EXPERT where no
expert named is placed here. -/
def State.askPage (s : State) (f : Frame) : Except Byte (BitVec 34 × W64) :=
  match s.jobOf f with
  | none => .error xTARGET
  | some t =>
    if !windowTakes (s.window t.part (winNo f.cmd.va)) (f.addr.setWidth 8) f.cmd then .error xWINDOW
    else match s.pageAt t (f.addr.setWidth 8) f.cmd f.cmd.first with
      | some e => .ok e
      | none => .error xEXPERT
/-- What a translation request finds: the entry, or the cause and SUB of that fault, REMOTE naming XLATE where no leaf is found. -/
def State.askAnswer (s : State) (f : Frame) : W64 × Byte × BitVec 4 :=
  match s.askPage f with
  | .error k => (0, k, 0)
  | .ok (root, va) =>
    let pte := s.pageAnswer root va
    if pteV pte then (pte, 0, 0) else (0, xREMOTE, 1)

/-- A translation answer to the sender of a frame (R376, R401). -/
def State.tell (s : State) (f : Frame) (addr : VAddr) (m : Carried) (pte : W64) : State :=
  let part := match s.jobOf f with | some t => t.part | none => 0
  let back := s.frameTo (f.sdom ++ f.src ++ 0#12) 9 f.xid addr m (leBytes 8 pte.toNat)
  s.modFab (fun b => { b with out := b.out ++ [{ frame := back, part := part }] })

/-- A translation request (R376): the destination walks its own tables, as the copy engine reaches their lines, and answers; none while
a table line is not free. -/
def State.applyAsk (s : State) (f : Frame) : Option State :=
  let told := fun (s : State) => s.tell f f.addr { f.cmd with cause := (s.askAnswer f).2.1, sub := (s.askAnswer f).2.2 } (s.askAnswer f).1
  match s.askPage f with
  | .ok (root, va) => if s.tablesFree root va.toNat then some (told (s.walkHomes root va.toNat)) else none
  | .error _ => some (told s)

/-- The translations that a frame carries and that this package holds no longer: the offset and the entry now. One whose page has no
leaf any more is no such; its access faults (R277). -/
def State.outdated (s : State) (f : Frame) : List (Nat × W64) :=
  if f.cmd.pages.isEmpty then [] else
  match s.jobOf f with
  | none => []
  | some t =>
    if !windowTakes (s.window t.part (winNo f.cmd.va)) f.kind f.cmd then []
    else ((carriedAt f).zip f.cmd.pages).filterMap (fun e =>
      let now := s.pageFor t f.kind f.cmd e.1
      if pteV now && now != e.2 then some (e.1, now) else none)

/-- The frame is refused, and its sender is told the translations that stand now, once for each refusal (R376). -/
def State.retell (s : State) (f : Frame) : State :=
  (s.outdated f).foldl (fun s e =>
    if s.fab.out.any (fun o => o.frame.kind == 9 && o.frame.xid == f.xid && o.frame.ddom == f.sdom && o.frame.dst == f.src &&
        o.frame.cmd.first == e.1) then s
    else s.tell f (f.kind.setWidth 48) { f.cmd with first := e.1, pages := [] } e.2) s

/-- A frame that is kept with the translation now told. -/
def toldTo (f : Frame) (key : Nat) (pte : W64) (g : Frame) : Frame :=
  if g.ddom == f.sdom && g.dst == f.src then
    withPages g (((carriedAt g).zip g.cmd.pages).map (fun e => if rwtKey g.kind g.cmd e.1 == key then pte else e.2))
  else g

/-- A translation answer fills the cache of the OFU that asked, 4,096 entries (R376), and the frames that wait for it; one that fails
gives its transfer the fault that stops it (R277). -/
def State.applyTold (s : State) (f : Frame) : State :=
  let pte : W64 := BitVec.ofNat 64 (ofLe f.payload)
  let key := rwtKey (f.addr.setWidth 8) f.cmd f.cmd.first
  if f.cmd.cause != 0 then
    match s.allXfers.find? (fun e =>
      let x := e.2.2.2
      (x.st == .live || x.st == .sent) && x.xid == f.xid && x.target.extractLsb' 12 10 == f.sdom ++ f.src) with
    | some (c, r, n, x) => s.setXfer c r n { x with far := some (f.cmd.cause, f.cmd.sub) }
    | none => s
  else if !pteV pte then s
  else
    let s := s.modDie (dieOf (tCore f.cmd.source)) (fun d =>
      { d with rwt := ((f.sdom, f.src, key, pte) :: d.rwt.filter (fun e => !(e.1 == f.sdom && e.2.1 == f.src && e.2.2.1 == key))).take 4096 })
    s.modFab (fun b => { b with out := b.out.map (fun o =>
      if !o.acked && translates o.frame.kind o.frame.cmd && !o.frame.cmd.pages.isEmpty then { o with frame := toldTo f key pte o.frame } else o) })

/-- What a frame does, and whether it is acknowledged; none when it is not applied now. A frame that a replay sends anew has its effect
anew, a flag's post, an arrival's record and a row too (DESIGN CHOICE, log 97: R276 speaks of the bytes alone). -/
def State.applyKind (s : State) (k : Nat) (f : Frame) : Option (State × Bool) :=
  let dead := (s.fab.pair k).failed.contains f.xid && f.cmd.first != 0
  match f.kind.toNat with
  | 1 | 2 => if dead then some (s, true) else s.applyPut k f
  | 3 => (s.applyRead f).map (fun t => (t, true))
  | 4 => (s.applyAnswer f).map (fun t => (t, true))
  | 5 => if dead then some (s, true) else s.applySend k f
  | 6 => some (s.applySendm k f)
  | 7 => some (s.applyXflag f, true)
  | 8 => (s.applyAsk f).map (fun t => (t, true))
  | 9 => some (s.applyTold f, true)
  | _ => some (s, true)

/-! ## SEQ order (R402) -/

/-- A frame is sequenced. -/
def isSequenced (f : Frame) : Bool := f.kind != 0 || f.barr.any (fun b => b.getLsbD 0)

/-- A frame of a stale peer that carries a translation is refused (R379). -/
def State.refused (s : State) (f : Frame) : Bool :=
  f.sdom == s.domain && s.fab.stale.getLsbD f.src.toNat && translates f.kind f.cmd
/-- So is one whose translation stands no longer (R376). -/
def State.refuses (s : State) (f : Frame) : Bool := s.refused f || !(s.outdated f).isEmpty

/-- The frame has been applied: the next SEQ is expected and its buffer is free. -/
def Pair.applied (p : Pair) : Pair := { p with expect := p.expect + 1, freedOut := p.freedOut + 1, blocked := false }

/-- Apply the frame whose SEQ is expected; none when it cannot be applied now. -/
def State.applyFrame (s : State) (k : Nat) (f : Frame) : Option State :=
  if s.refuses f then none
  else
    let s := if f.cmd.first = 0 then s.modPairAt k (fun p => { p with failed := p.failed.filter (fun x => x != f.xid) }) else s
    match s.applyKind k f with
    | none => none
    | some (s, acked) =>
      let s := s.onItems f.src f.barr
      some (s.modPairAt k (fun p => if acked then p.applied else { p with blocked := true }))

/-- Apply the frames held early, while the one expected is there. -/
def State.applyEarly (s : State) (k : Nat) : Nat → State
  | 0 => s
  | n + 1 =>
    let p := s.fab.pair k
    if p.blocked then s
    else match p.early.find? (fun f => f.seq == p.expect) with
      | none => s
      | some f =>
        if s.refuses f then (s.retell f).modPairAt k (fun p => { p with early := p.early.filter (fun g => g.seq != f.seq) })
        else match s.applyFrame k f with
        | none => s
        | some s => (s.modPairAt k (fun p => { p with early := p.early.filter (fun g => g.seq != f.seq) })).applyEarly k n

/-- Something still withholds the acknowledgement of the frame last applied of a pair (R37, R272). -/
def State.pairWaits (s : State) (k : Nat) : Bool :=
  s.allRes.any (fun e => (e.2.2.withheld ++ e.2.2.heldArrivals).any (fun w => w.core.isNone && w.xfer == k)) ||
  s.lands.any (fun e => e.2.waiting.any (fun w => w.pair == some k))

/-- A pair whose withheld acknowledgement may go goes on. -/
def State.unblock (s : State) (k : Nat) : State :=
  let p := s.fab.pair k
  if p.blocked && !s.pairWaits k then (s.modPairAt k Pair.applied).applyEarly k (p.early.length + 1) else s
def State.unblockAll (s : State) : State :=
  let s := s.settleAllRows
  (s.fab.pairs.map (fun e => e.1)).foldl State.unblock s

/-- The frames held early from the package of a pair: those of one remote domain share their buffers (R404). -/
def State.heldEarly (s : State) (f : Frame) : Nat :=
  if f.sdom == s.domain then (s.fab.pair f.src.toNat).early.length
  else (s.fab.domainPairs f.sdom).foldl (fun n p => n + p.early.length) 0

/-- A sequenced frame: applied in SEQ order, refused, held early, or discarded as a duplicate (R376, R402, R404). -/
def State.sequence (s : State) (k : Nat) (f : Frame) : State :=
  let s := s.unblock k
  let p := s.fab.pair k
  if f.seq == p.expect then
    if p.blocked then s
    else if s.refuses f then s.retell f
    else match s.applyFrame k f with
      | none => s
      | some s => s.applyEarly k (p.early.length + 1)
  else if !atOrPast f.seq p.expect || p.early.any (fun g => g.seq == f.seq) || s.fab.depth.toNat ≤ s.heldEarly f then s
  else s.modPairAt k (fun p => { p with early := p.early ++ [f] })

/-! ## A frame arrives -/

/-- The frame agrees with the RXLINE of the port, the slot and the lane at which it arrives: its PORT, SLOT and LANE name them, and its
SRC is the peer whose light the line brings (R399). A circuit port has no Frieze, and a relayed frame comes from the relay, whatever its
SRC (DEDUCED, log 33). -/
def State.rxAgrees (s : State) (f : Frame) : Bool :=
  let p := s.fab.port f.atPort.toNat
  let slot := s.slotOf f.atPort.toNat
  let w := p.entry slot.toNat f.atLane.toNat
  p.state == 4 ||
    (f.port == f.atPort && f.slot == slot && f.lane == f.atLane && rxLine w < 72 &&
      (f.relayed || (s.sourceOf (offsetOf (rxLine w)) == f.src.toNat && f.sdom == s.domain)))

/-- A saturating count of PORT_STAT. -/
def bumpCount (x : BitVec 16) : BitVec 16 := if x = 0xFFFF then x else x + 1

/-- There is no way on from here for a frame that comes relayed: no appearance to its destination, or to its gateway, and no circuit
(R407, R408). -/
def State.noWayOn (s : State) (f : Frame) : Bool :=
  match s.relayHop f with
  | .peer t => !s.appearsTo t
  | .circuit _ => false
  | .nowhere => !s.fab.heldDomains.contains f.ddom

/-- A frame for another package is held for relay, 64 to a source (R407, R408). -/
def State.relayFrame (s : State) (f : Frame) : State :=
  let full := 64 ≤ (s.fab.relay.filter (fun g => g.sdom == f.sdom && g.src == f.src)).length
  if full || (f.relayed && s.noWayOn f) then s
  else s.modFab (fun b => { b with relay := b.relay ++ [{ f with relayed := true }] })

/-- A header from a peer of the domain: a peer held in silence may stay (R418). -/
def State.heardFrom (s : State) (f : Frame) : State :=
  if f.sdom == s.domain && (s.fab.link f.src.toNat).hold.isSome then s.relink f.src.toNat else s

/-- One more in a count of SOFTERR, the count at bit 16 k; it saturates (R454). -/
def bumpSoft (w : W64) (k : Nat) : W64 := if w.extractLsb' (16 * k) 16 = 0xFFFF then w else w + (1#64 <<< (16 * k))
/-- A frame that FEC has corrected counts at the die of the port (R454, R455). -/
def State.countFec (s : State) (f : Frame) : State :=
  if f.fecFixed then s.modDie (BitVec.ofNat 4 (f.atPort.toNat / 2)) (fun k => { k with softerr := bumpSoft k.softerr 0 }) else s
/-- ECC may correct a soft error in what a home reads (R455). -/
def State.softError (s : State) : State :=
  match Config.softError s.steps with
  | some (d, k) => s.modDie d (fun x => { x with softerr := bumpSoft x.softerr (3 - k.val) })
  | none => s

/-- Every step of receiving a frame. -/
def State.receive (s : State) (f : Frame) : State :=
  let port := f.atPort.toNat
  let live := (s.fab.port port).state == 2 || (s.fab.port port).state == 4
  let s := if live then s.countFec f else s
  if !live then s
  else if !f.fecOk || !f.hcrcOk then s.modFab (fun b => b.modPort port (fun p => { p with fecerr := bumpCount p.fecerr }))
  else if 10 ≤ f.kind.toNat then s.fabLog 6 port 0xFF f.src.toNat 0
  else if !s.rxAgrees f then s.modFab (fun b => b.modPort port (fun p => { p with mismatch := bumpCount p.mismatch }))
  else if f.ddom != s.domain || f.dst != s.peer then s.relayFrame f
  else
    let k := s.pairKey f.sdom f.src
    let s := ((s.onCounts k f).onMessage f.src f.repair).heardFrom f
    if isSequenced f then s.sequence k f else s

/-- A frame of one KIND arrives. -/
def State.receiveKind (s : State) (n : Nat) (f : Frame) : State := if s.ready && f.kind.toNat = n then s.receive f else s

/-- FRAME_HEADER: a header-only frame, or one of an unknown KIND (R401). -/
def execFrameHeader (f : Frame) (s : State) : Out := agent (if s.ready && (f.kind = 0 || 10 ≤ f.kind.toNat) then s.receive f else s)
def execFrameGlobalWrite (f : Frame) (s : State) : Out := agent (s.receiveKind 1 f)
def execFrameScratchpadWrite (f : Frame) (s : State) : Out := agent (s.receiveKind 2 f)
def execFrameReadRequest (f : Frame) (s : State) : Out := agent (s.receiveKind 3 f)
def execFrameReadResponse (f : Frame) (s : State) : Out := agent (s.receiveKind 4 f)
def execFrameSend (f : Frame) (s : State) : Out := agent (s.receiveKind 5 f)
def execFrameSendm (f : Frame) (s : State) : Out := agent (s.receiveKind 6 f)
def execFrameXflag (f : Frame) (s : State) : Out := agent (s.receiveKind 7 f)
def execFrameTranslationRequest (f : Frame) (s : State) : Out := agent (s.receiveKind 8 f)
def execFrameTranslationResponse (f : Frame) (s : State) : Out := agent (s.receiveKind 9 f)

/-! ## Room and releases that let an acknowledgement go -/

/-- ARRIVAL_QUEUE_ROOM: the oldest withheld record enters the queue, and its arrival is acknowledged (R37). -/
def State.arrivalRoom (s : State) (c : CoreId) (r : Slot) : State :=
  let rs := s.res c r
  match rs.withheld with
  | [] => s
  | w :: t =>
    if 16 ≤ rs.arrivals.length || rs.place == .saving then s
    else ((s.modRes c r (fun x => { x with withheld := t })).queueRecord c r w.arr).unblockAll
def execArrivalQueueRoom (c : CoreId) (r : Slot) (s : State) : Out := agent (s.arrivalRoom c r)

/-- EXPERT_BLOCK_RELEASE (R368, R369). -/
def execExpertBlockRelease (w : BitVec 8) (e : BitVec 5) (s : State) : Out := agent (s.expertRelease w.toNat e.toNat).unblockAll

end Sys2Proof.Machine
end

