-- ==== Sys2Proof/Machine/System.lean ====
section
/-! DEFINITION. The meanings of the C class but for REP: NOP, RDC and WRC (R71 to R80, R322, R323), CLKDIV and PWRQ (R180, R181,
R429, R437), EBREAK, SYSC, RFE, IDLE (R183, R325, R332, R339, R340) and TLBI (R377, R378). -/

namespace Sys2Proof.Machine

def execNop (h : Hdr) (f : CF) (s : State) : Out := run (.nop h f) s id
def execNop64 (h : Hdr) (f : CF) (s : State) : Out := run (.nop64 h f) s id
def execNop96 (h : Hdr) (f : CF) (s : State) : Out := run (.nop96 h f) s id

/-! ## RDC and WRC -/

/-- PWR_GRANT, CLK_DIV and STALL_RATIO as a core reads them (R78). -/
def pwrWord (req level : BitVec 2) : W64 := 0#54 ++ req ++ 0#6 ++ level
def Divs.word (d : Divs) : W64 :=
  0#48 ++ BitVec.ofNat 4 d.cpy ++ BitVec.ofNat 4 d.vec ++ BitVec.ofNat 4 d.mat ++ BitVec.ofNat 4 d.ctl
/-- KSTATUS (R323). -/
def Ctx.kstatus (x : Ctx) (i : CtxId) : W64 :=
  0#58 ++ BitVec.ofBool x.async ++ BitVec.ofBool x.pmode ++ 0#1 ++ BitVec.ofNat 2 (CtxId.code i) ++ BitVec.ofBool x.mode
/-- TREG_P (R322). -/
def Ctx.tregP (x : Ctx) (i : CtxId) : W64 :=
  BitVec.ofNat 64 ((List.range (if isHandler i then 4 else 8)).foldl
    (fun n k => if k = 0 || x.p.get false k then n + 2 ^ k else n) 0)

/-- A CSR's value in the cycle RDC issues (R71 to R80, R322, R323). -/
def State.csr (s : State) (n : Nat) : W64 :=
  let r := s.rc
  let x := s.cx
  match n with
  | 0x000 => (s.sysId s.cur.core).setWidth 64
  | 0x001 => r.tci.setWidth 64
  | 0x002 => r.ncores.setWidth 64
  | 0x003 => r.task.setWidth 64
  | 0x004 => r.groupSet
  | 0x008 => BitVec.ofNat 64 s.here.cycle
  | 0x010 => r.warnWord
  | 0x011 => r.warnPc.setWidth 64
  | 0x012 => r.fstatWord
  | 0x018 => pwrWord r.req s.here.level
  | 0x019 => s.here.divs.word
  | 0x01A => 0#16 ++ (s.die (dieOf s.cur.core)).stallSeq ++ s.here.stall
  | 0x020 => r.yieldBound.setWidth 64
  | 0x021 => x.repIdx.setWidth 64
  | 0x022 => ((s.task? r.task).map (fun t => t.raceCount.setWidth 64)).getD 0
  | 0x100 => x.kstatus s.cur.ctx
  | 0x101 => x.tcause.setWidth 64
  | 0x102 => x.tepc.setWidth 64
  | 0x103 => x.tnpc.setWidth 64
  | 0x104 => x.tval
  | 0x105 => x.tinfo.setWidth 64
  | 0x108 => (s.part r.part).tvec.extractLsb' 12 36 ++ 0#12 |>.setWidth 64
  | 0x109 => r.pdid.setWidth 64
  | 0x110 => r.arec.extractLsb' 0 64
  | 0x111 => r.arec.extractLsb' 64 64
  | 0x112 => r.arec.extractLsb' 128 64
  | 0x113 => r.arec.extractLsb' 192 64
  | 0x114 => BitVec.ofNat 64 r.faults.length
  | 0x118 => r.saveBase.setWidth 64
  | 0x220 => x.tregP s.cur.ctx
  | n =>
    if 0x040 ≤ n && n < 0x080 then s.linkWord r.part (n - 0x040)
    else if 0x200 ≤ n && n < (if isHandler s.cur.ctx then 0x210 else 0x220) then x.s.get 0 (n - 0x200)
    else if 0x228 ≤ n && n < 0x230 then (x.readB (n - 0x228)).setWidth 64
    else 0

def execRdc (h : Hdr) (f : CF) (csr : BitVec 12) (s : State) : Out :=
  run (.rdc h f csr) s (fun s => s.postS 2 f.d (s.csr csr.toNat))

/-- BOUND as the writes to YIELD_BOUND on their way leave it (R73). -/
def Res.boundAhead (r : Res) : Nat :=
  (r.inflight.map (fun f => f.w)).foldl (fun n w =>
    match w with
    | .csr 0x020 v => if v.toNat < n then Nat.max v.toNat 256 else n
    | _ => n) r.yieldBound.toNat

/-- WRC (R73, R179): written with latency 2; a write that would raise YIELD_BOUND warns. -/
def wrc (f : CF) (csr : Nat) (s : State) : State :=
  let v := s.sreg f.a
  (s.warnIf (csr == 0x020 && s.rc.boundAhead < v.toNat) 0x03).post .ctl 2 (.csr csr v)
def execWrc (h : Hdr) (f : CF) (csr : BitVec 12) (s : State) : Out := run (.wrc h f csr) s (wrc f csr.toNat)

/-! ## CLKDIV and PWRQ -/

/-- CLKDIV (R180, R429): one outstanding request per column. -/
def clkdiv (f : CF) (s : State) : State :=
  if s.here.clk.isSome then s.hold
  else
    let k := s.cx.mode
    let pd := f.d.toNat % 8
    let s := s.modHere (fun c =>
      { c with clk := some { eng := some (f.a.setWidth 2), div := f.e.toNat, slot := s.cur.slot, ctx := s.cur.ctx, k := k, pd := pd } })
    if pd = 0 then s else s.modRc (fun r => { r with pend := r.pend ++ [(.p s.cur.ctx k pd, .clk)] })
def execClkdiv (h : Hdr) (f : CF) (s : State) : Out := run (.clkdiv h f) s (clkdiv f)
/-- PWRQ (R181, R437). -/
def execPwrq (h : Hdr) (f : CF) (s : State) : Out :=
  run (.pwrq h f) s (fun s => s.modRc (fun r => { r with req := f.e.setWidth 2 }))

/-! ## EBREAK, SYSC, RFE, IDLE -/

/-- A context that stops amid a REP keeps the next repetition's index, its preparation is lost (R47, R69), and the bubbles that it
has left at cycle t, in which the resident context's next group would have issued, wait for the resumption (R46; DEDUCED, log 81). -/
def Ctx.park (x : Ctx) (t : Nat) : Ctx :=
  { x with
    repIdx := x.repNext, repAt := if x.rep.isSome then some x.pc else x.repAt, rep := none, prep := none
    late := if x.late = 0 then x.ready - t else x.late, ready := 0 }

/-- The bubbles of a context that was stopped go on from cycle t (R46). -/
def Ctx.wake (x : Ctx) (t : Nat) : Ctx := if x.late = 0 then x else { x with ready := t + x.late, late := 0 }
/-- A resident context has its first issue opportunity after a stop, at cycle t (R46). -/
def Res.wake (r : Res) (t : Nat) : Res := { r with primary := r.primary.wake t, h1 := r.h1.wake t, h2 := r.h2.wake t }

/-- The cycle in which the resident context's next group would issue (R45): the first in which a live context is ready that no hold
keeps at issue; with every one of them held, whose issue no rule tells, the cycle of the stop (DESIGN CHOICE, log 85). -/
def Res.nextIssue (r : Res) (stuck : List CtxId) (cycle : Nat) : Nat :=
  let l := ([CtxId.primary, .h1, .h2].filter (fun x => (r.ctx x).run == .live && !stuck.contains x)).map (fun x => (r.ctx x).ready)
  Nat.max cycle (l.foldl Nat.min (l.headD 0))

/-- Every context of a resident context stops and its fixed-latency results are captured, to resume with the first group that
the resident context issues again (R45, R46, R336 step 1, R340). -/
def Res.captureAll (r : Res) (stuck : List CtxId) (cycle : Nat) : Res :=
  let t := r.nextIssue stuck cycle
  let r := ((r.captureAs .primary t .first).captureAs .h1 t .first).captureAs .h2 t .first
  { r with primary := r.primary.park t, h1 := r.h1.park t, h2 := r.h2.park t }

/-- The core halts for the debugger, its next group being one of cycle t or later (R45, R340). -/
def Core.halt (k : Core) (t : Nat) : Core :=
  { k.setRes k.act ((k.res k.act).captureAll k.stuck t) with halted := true, dbgStep := false }

/-- EBREAK (R183, R339, R340): a trap, or with EBRK a halt from which RESUME goes on after the group. -/
def ebreak (s : State) : State :=
  if s.here.dbgEbrk then
    let s := s.modCx (fun x => { x with pc := s.cur.next })
    let s := s.modHere (fun k => { k.halt (k.cycle + 1) with dbgEbh := true, haltedAt := s.steps })
    { s with cur := { s.cur with taken := true } }
  else s.trap { cause := cEbreak }
def execEbreak (h : Hdr) (f : CF) (s : State) : Out := run (.ebreak h f) s ebreak
def execSysc (h : Hdr) (f : CF) (s : State) : Out :=
  run (.sysc h f) s (fun s => s.trap { cause := cSysc, code := (f.e ++ f.a).setWidth 16 })

/-- RFE (R332). -/
def rfe (s : State) : State :=
  let t := s.modCx (fun x => x.leave s.here.cycle)
  { t with cur := { t.cur with taken := true } }
def execRfe (h : Hdr) (f : CF) (s : State) : Out := run (.rfe h f) s rfe

/-- What ends an IDLE (R332; DEDUCED, log 25: a flag that is not 0 holds a post). -/
def State.awake (s : State) : Bool :=
  let r := s.rc
  !r.flags.isEmpty || !r.arrivals.isEmpty || !r.faults.isEmpty || s.here.preempt.isSome || s.here.dbgHalt
/-- IDLE has the format and the checks of RFE (R332); RFE stands for it here, with the word that is IDLE's own, because Lean's
code generator builds no constructor past the 245th. -/
def execIdle (h : Hdr) (f : CF) (s : State) : Out :=
  runAs (.rfe h f) (((pkC 10 h f).headD 0).setWidth 64) s (fun s => if s.awake then s else s.hold)

/-! ## TLBI (R377 to R379) -/

/-- Peers that a partition's shootdown must reach: those of SHOOT_MASK on its dies (R378, R423). -/
def State.shootPeers (s : State) (p : PartId) : List Nat :=
  (List.range 64).filter (fun t => t != s.peer.toNat && (List.range 16).any (fun d =>
    s.dieOwner (BitVec.ofNat 4 d) == some p && (s.die (BitVec.ofNat 4 d)).shootMask.getLsbD t))

/-- A peer is unreachable for a shootdown: MODE 0, or quiesced by a TOPO (R379). -/
def State.shootUnreachable (s : State) (p : PartId) (t : Nat) : Bool :=
  s.linkMode p t == 0 || (s.fab.link t).topo

/-- Mark a peer stale (R379). A REJOIN that stands is sent under a new RID, so that no FLUSHED sent before the mark answers it. -/
def State.markStale (s : State) (t : Nat) : State :=
  s.modFab (fun f =>
    { f.modPair t (fun p => { p with msgs := p.msgs.map (fun e => if e.1 == msgRejoin then (e.1, { e.2 with rid := f.rid }) else e) }) with
      stale := f.stale ||| BitVec.ofNat 64 (2 ^ t), rid := f.rid + 1 })

/-- A TLBI begins; its context is held until it is complete. RWFLUSH alone acts at no peer (R378). -/
def startTlbi (kind : BitVec 3) (root : BitVec 34) (va : W64) (s : State) : State :=
  let r := s.rc
  let all := if kind = 4 then [] else s.shootPeers r.part
  let gone := all.filter (s.shootUnreachable r.part)
  let s := gone.foldl State.markStale s
  let n := s.serial
  let sh : Shoot :=
    { num := n, core := s.cur.core, slot := s.cur.slot, ctx := s.cur.ctx, kind := kind, root := root, va := va, part := r.part
      serial := n, peers := (all.filter (fun t => !gone.contains t)).map (BitVec.ofNat 6), since := s.fab.rot }
  ({ s with shoots := s.shoots ++ [sh] }.modRc (fun r => { r with tlbis := r.tlbis ++ [(s.cur.ctx, n)] })).bump

def execTlbiPage (h : Hdr) (f : CF) (s : State) : Out :=
  run (.tlbiPage h f) s (fun s => startTlbi 0 s.rc.root (s.sreg f.a) s)
def execTlbiSpace (h : Hdr) (f : CF) (s : State) : Out :=
  run (.tlbiSpace h f) s (fun s => startTlbi 1 ((s.sreg f.a).extractLsb' 12 34) 0 s)
def execTlbiPart (h : Hdr) (f : CF) (s : State) : Out := run (.tlbiPart h f) s (startTlbi 2 0 0)
def execTlbiReplica (h : Hdr) (f : CF) (s : State) : Out :=
  run (.tlbiReplica h f) s (fun s => startTlbi 3 s.rc.root (s.sreg f.a) s)
/-- RWFLUSH removes the translations of the package's OFUs. -/
def execTlbiRwflush (h : Hdr) (f : CF) (s : State) : Out := run (.tlbiRwflush h f) s (startTlbi 4 0 0)
/-- RCINIT is the TLBI of E 5; REPLICA, whose E is 3, stands for its format and checks (see `execIdle`). -/
def execTlbiRcinit (h : Hdr) (f : CF) (s : State) : Out :=
  runAs (.tlbiReplica h { f with e := if f.e = 5 then 3 else 0 }) (((pkC 9 h f).headD 0).setWidth 64) s
    (fun s => startTlbi 5 s.rc.root (s.sreg f.a) s)

end Sys2Proof.Machine
end

