-- ==== Sys2Proof/Machine/Zones.lean ====
section
/-! DEFINITION. Coolant zones and the coolant allocation table (R3, R426, R439 to R441). -/

namespace Sys2Proof.Machine

/-- The zone of a core's column (R3): die x 16 + local zone. -/
def zoneOf (c : CoreId) : Nat :=
  let x := (columnOf c).toNat
  (dieOf c).toNat * 16 + x / 16 / 4 * 4 + x % 16 / 4

/-- The zone flow of a class in mL/min (R426). -/
def flowOf (cls : Nat) : Nat :=
  match cls with
  | 0 => 32
  | 1 => 48
  | _ => 80

def zoneDie (z : Nat) : DieId := BitVec.ofNat 4 (z / 16)
def State.zone (s : State) (z : Nat) : Zone := (s.die (zoneDie z)).zones.get {} (z % 16)
def State.modZone (s : State) (z : Nat) (f : Zone → Zone) : State :=
  s.modDie (zoneDie z) (fun d => { d with zones := d.zones.mod {} (z % 16) f })

def zFree : BitVec 3 := 0
def zHeld : BitVec 3 := 1
def zEvac : BitVec 3 := 2
def zFenced : BitVec 3 := 3

/-- COOL_BUDGET.HELD: the sum of MINFLOW, the host die's 400 mL/min included (R447). -/
def State.heldFlow (s : State) : Nat := (List.range 256).foldl (fun n z => n + (s.zone z).minflow.toNat) 400

/-- The tasks that hold a zone. -/
def State.zoneTasks (s : State) (z : Nat) : List Task := s.tasks.filter (fun t => t.zones.contains z)

/-- The entry follows the tasks that hold cores in the zone (R441), at most the class to which a lack of supply has lowered it
(R442). -/
def State.rezone (s : State) (z : Nat) : State :=
  match s.zoneTasks z with
  | [] =>
    s.modZone z (fun n =>
      { n with state := if n.state = zHeld then zFree else n.state, cls := 0, prio := 0, owner := 0, minflow := 0, lowered := 0 })
  | t :: ts =>
    let cls := (t :: ts).foldl (fun m x => Nat.max m x.cls.toNat) 0
    let prio := (t :: ts).foldl (fun m x => Nat.max m x.prio.toNat) 0
    s.modZone z (fun n =>
      let c := Nat.min cls (2 - n.lowered)
      { n with
        state := if n.state = zFree then zHeld else n.state
        owner := t.part, prio := BitVec.ofNat 3 prio, cls := BitVec.ofNat 2 c
        minflow := if n.state = zFenced then 0 else BitVec.ofNat 11 (flowOf c) })

/-- A launch of a class by a partition is granted the zones (R441). -/
def State.grantsZones (s : State) (p : PartId) (cls : Nat) (zones : List Nat) : Bool :=
  zones.all (fun z =>
    let n := s.zone z
    n.state == zFree || (n.state == zHeld && n.owner == p)) &&
  s.heldFlow + zones.foldl (fun k z => k + (flowOf cls - (s.zone z).minflow.toNat)) 0 ≤ s.budget.toNat

end Sys2Proof.Machine
end

