-- ==== Sys2Proof/Machine/Save.lean ====
section
/-! DEFINITION. Results that land, pre-emption (R43 to R50), the context save area (R335 to R337), posts held during a save (R34,
R38), and the debugger's control of a core (R339, R340). -/

namespace Sys2Proof.Machine

/-! ## Results (R45, R46, R60, R64) -/

/-- The results in flight that are due at a core, of those that a test takes, reach their registers. -/
def State.landAt (s : State) (c : CoreId) (t : Fly → Bool) : State :=
  let k := s.core c
  let go := fun (r : Res) =>
    let due := r.inflight.filter (fun f => f.due ≤ k.cycle && t f)
    due.foldl (fun (r : Res) f => r.land f.ctx f.w f.flags)
      { r with inflight := r.inflight.filter (fun f => !(f.due ≤ k.cycle && t f)) }
  s.modRes c k.act go

def execFixedResultWriteback (c : CoreId) (s : State) : Out := agent (s.landAt c (fun f => !f.shadow))
def execShadowResultLand (c : CoreId) (s : State) : Out := agent (s.landAt c (fun f => f.shadow))
def execScoreboardResultLand (n : Nat) (s : State) : Out := agent (s.landReq n)
def execAtomicAtHome (n : Nat) (s : State) : Out := agent (s.performAtomic n)

/-! ## Homes of CACHED lines (R111) -/

/-- The request at the head of a line's FIFO, if it is another core's and that core's L1 has room (R1, R111). -/
def State.homeWaiter (s : State) (line : Nat) (o : CoreId) : Option Req :=
  ((s.headOf (s.homes.get {} line)).bind s.req?).filter (fun q => q.core != o && q.takesHome && decide (s.l1Lines q.core < l1Size))

/-- The lease is over: the home passes to the request at the head of the line's FIFO. -/
def State.handover (s : State) (line : Nat) : State :=
  let h := s.homes.get {} line
  match h.at_ with
  | .l1 o _ =>
    if !s.leaseOver h || !h.pins.isEmpty then s
    else match s.homeWaiter line o with
      | some q => { s with homes := s.homes.put {} line { h with at_ := .l1 q.core (s.core q.core).cycle } }
      | none => s
  | _ => s
def execLineHomeHandover (line : Nat) (s : State) : Out := agent (s.handover line)

/-- A line evicted from an L1 returns its home to the staging slice, when its lease is over (R111). -/
def State.evictL1 (s : State) (line : Nat) : State :=
  let h := s.homes.get {} line
  match h.at_ with
  | .l1 .. => if h.pins.isEmpty && s.leaseOver h then { s with homes := s.homes.put {} line { h with at_ := .slice } } else s
  | _ => s
def execL1Eviction (line : Nat) (s : State) : Out := agent (s.evictL1 line)

/-- A line evicted from the staging slice is written back to HBM. -/
def State.evictSlice (s : State) (line : Nat) : State :=
  let h := s.homes.get {} line
  if h.at_ == .slice && h.pins.isEmpty then s.flushLine line else s
def execSliceEviction (line : Nat) (s : State) : Out := agent (s.evictSlice line)

/-! ## The save area (R335; its register images take eight bytes each, log 16) -/

/-- PC, s, p and b of a context. -/
def Ctx.fileImage (x : Ctx) (i : CtxId) : List W64 :=
  [x.pc.setWidth 64] ++ (List.range (if isHandler i then 16 else 32)).map (fun n => x.s.get 0 n) ++ [x.tregP i] ++
  (List.range 8).map (fun n => (x.readB n).setWidth 64)
/-- Kernel s and p, and the trap CSRs of a context. -/
def Ctx.kernelImage (x : Ctx) (i : CtxId) : List W64 :=
  let kp : Nat := (List.range 4).foldl (fun n k => if k = 0 || x.kp.get false k then n + 2 ^ k else n) 0
  (List.range 16).map (fun n => x.ks.get 0 n) ++
  [BitVec.ofNat 64 kp, x.kstatus i, x.tcause.setWidth 64, x.tepc.setWidth 64, x.tval, x.tinfo.setWidth 64]
/-- The register images of a resident context, in the order of R335. -/
def Res.image (r : Res) : List W64 :=
  r.primary.fileImage .primary ++ r.h1.fileImage .h1 ++ r.h2.fileImage .h2 ++
  r.primary.kernelImage .primary ++ r.h1.kernelImage .h1 ++ r.h2.kernelImage .h2

/-- The contexts' fields from their images. -/
def Ctx.loadFile (x : Ctx) (i : CtxId) (l : List W64) : Ctx :=
  let n := if isHandler i then 16 else 32
  let w : Nat → W64 := fun k => l.getD k 0
  let x := { x with pc := (w 0).setWidth 48 }
  let x := (List.range n).foldl (fun (x : Ctx) k => x.putS false k (w (1 + k))) x
  let x := (List.range (if isHandler i then 4 else 8)).foldl (fun (x : Ctx) k => x.putP false k ((w (1 + n)).getLsbD k)) x
  (List.range 8).foldl (fun (x : Ctx) k => x.putB k ((w (2 + n + k)).setWidth 48)) x
def Ctx.loadKernel (x : Ctx) (l : List W64) : Ctx :=
  let w : Nat → W64 := fun k => l.getD k 0
  let x := (List.range 16).foldl (fun (x : Ctx) k => x.putS true k (w k)) x
  let x := (List.range 4).foldl (fun (x : Ctx) k => x.putP true k ((w 16).getLsbD k)) x
  { x with mode := (w 17).getLsbD 0, pmode := (w 17).getLsbD 4, async := (w 17).getLsbD 5
           tcause := (w 18).setWidth 32, tepc := (w 19).setWidth 48, tval := w 20, tinfo := (w 21).setWidth 16 }
def Res.loadImage (r : Res) (l : List W64) : Res :=
  { r with
    primary := (r.primary.loadFile .primary l).loadKernel (l.drop 94)
    h1 := (r.h1.loadFile .h1 (l.drop 42)).loadKernel (l.drop 116)
    h2 := (r.h2.loadFile .h2 (l.drop 68)).loadKernel (l.drop 138) }

/-- ECRC: the CRC-32 of the engine region's bytes (log 9). -/
def State.engineCrc (s : State) (base : Nat) : W32 := Config.crc32 ((span (base + 0x8000) 0xF8000).map s.byte)

/-- Doubleword n of the lane state, from 0x2000 of the save area on: v, vm and the scale bypass in the order and with the widths of
R335, the lane groups one after another (log 16). -/
def Res.laneWord (r : Res) (n : Nat) : W64 :=
  let vm : Nat → BitVec 16 := fun k => r.readVm (k / 8) (k % 8)
  if n < 2048 then r.v.get 0 (2 * n + 1) ++ r.v.get 0 (2 * n)
  else if n < 2064 then
    let k := 4 * (n - 2048)
    vm (k + 3) ++ vm (k + 2) ++ vm (k + 1) ++ vm k
  else r.sb.get 0 (2 * (n - 2064) + 1) ++ r.sb.get 0 (2 * (n - 2064))
/-- Doublewords of the lane state. -/
def laneWords : Nat := 2072

/-- The regions beyond the registers' (R335): the lane state, and as free values those of which R335 lays out no field. -/
def State.writeRegions (s : State) (c : CoreId) (r : Slot) : State :=
  let x := s.res c r
  let base := x.saveBase.toNat
  let s := s.writeFree (base + 0x1000) 512
  let s := (List.range laneWords).foldl (fun (s : State) n => s.writeNat (base + 0x2000 + 8 * n) 8 (x.laneWord n).toNat) s
  (s.writeFree (base + 0x60C0) 1000).writeFree (base + 0x8000) 126976

/-- The save writes its header, the flags and the register images (R335, R336 step 3). -/
def State.writeImage (s : State) (c : CoreId) (r : Slot) : State :=
  let x := s.res c r
  let base := x.saveBase.toNat
  let kernel := x.primary.mode || x.h1.mode || x.h2.mode
  let head : W64 := x.saveSeq ++ 0#29 ++ BitVec.ofBool x.savedHalted ++ BitVec.ofBool kernel ++ 1#1
  let s := s.writeNat base 8 head.toNat
  let s := s.writeNat (base + 8) 4 (s.engineCrc base).toNat
  let s := (List.range 32).foldl (fun (s : State) n => s.writeNat (flagImage x.saveBase (BitVec.ofNat 5 n)) 2 (x.flags.get 0 n).toNat) s
  (x.image.zip (List.range 160)).foldl (fun (s : State) e => s.writeNat (base + 0x80 + 8 * e.2) 8 e.1.toNat) s

/-- The flags, the registers and the lane state as the save area holds them. -/
def State.readImage (s : State) (x : Res) : Res :=
  let base := x.saveBase.toNat
  let l : List W64 := (List.range 160).map (fun n => BitVec.ofNat 64 (s.readNat (base + 0x80 + 8 * n) 8))
  let flags := (List.range 32).foldl (fun (t : Tab (BitVec 16)) n =>
    t.put 0 n (BitVec.ofNat 16 (s.readNat (flagImage x.saveBase (BitVec.ofNat 5 n)) 2))) ([] : Tab (BitVec 16))
  let v := (List.range 4096).foldl (fun (t : Tab W32) k =>
    t.put 0 k (BitVec.ofNat 32 (s.readNat (base + 0x2000 + 4 * k) 4))) ([] : Tab W32)
  let vm := (List.range 64).foldl (fun (t : Tab (BitVec 16)) k =>
    if k % 8 = 0 then t else t.put 0 k (BitVec.ofNat 16 (s.readNat (base + 0x6000 + 2 * k) 2))) ([] : Tab (BitVec 16))
  let sb := (List.range 16).foldl (fun (t : Tab W32) k =>
    t.put 0 k (BitVec.ofNat 32 (s.readNat (base + 0x6080 + 4 * k) 4))) ([] : Tab W32)
  { x.loadImage l with flags := flags, v := v, vm := vm, sb := sb }

/-! ## Pre-emption (R43 to R45, R336) -/

/-- The resident context that is not active. -/
def Core.idleSlot (k : Core) : Slot := otherSlot k.act
/-- The core issues for its tasks: neither fenced nor halted by a lost zone. -/
def Core.runs (k : Core) : Bool := !k.fenced && !k.coolHalt && !k.absent

/-- Issue of the active context stops at this boundary, and its save begins (R45, R336 step 1). -/
def Core.stopForSave (k : Core) : Core :=
  let r := (k.res k.act).captureAll k.stuck k.cycle
  { k.setRes k.act { r with place := .saving, savedHalted := k.halted } with
    preempt := k.preempt.map (fun p => { p with landed := true }), atYield := false }

/-- A request to pre-empt the active context for the other one, of a higher priority (R44, R355); it reaches a halted core at
once (R340). -/
def State.preemptionRequest (s : State) (c : CoreId) : State :=
  let k := s.core c
  let r := k.res k.act
  let o := k.res k.idleSlot
  if k.preempt.isSome || !r.occ || r.place != .here || !o.occ || o.place != .saved || o.prio ≤ r.prio || !k.runs then s
  else
    let k := { k with preempt := some { since := k.cycle, bound := r.yieldBound.toNat }, atYield := false }
    s.setCore c (if k.halted then k.stopForSave else k)
def execPreemptionRequest (c : CoreId) (s : State) : Out := agent (s.preemptionRequest c)

/-- An event of the active context's boundary that comes before a pre-emption (R329). -/
def Core.beforePreempt (k : Core) : Bool :=
  (k.res k.act).machine.isSome && (k.res k.act).primary.run == .live || (k.dbgHalt && !k.halted)

/-- The request waits for its landing. -/
def Core.preemptOpen (k : Core) : Bool := (match k.preempt with | some p => !p.landed | none => false) && (k.res k.act).place == .here

/-- The primary is at a yield point: a YP group or a YIELDABLE loop's last group has issued or stalls, or it is in kernel mode
(R43, R333). -/
def Core.mayYield (k : Core) : Bool := k.atYield || (k.res k.act).primary.mode

def State.preemptionLanding (s : State) (c : CoreId) : State :=
  let k := s.core c
  if k.preemptOpen && k.mayYield && !k.beforePreempt then s.setCore c k.stopForSave else s
def execPreemptionLanding (c : CoreId) (s : State) : Out := agent (s.preemptionLanding c)

/-- YIELD_BOUND cycles have passed since the request (R44). -/
def Core.forced (k : Core) : Bool :=
  match k.preempt with
  | some p => p.since + p.bound ≤ k.cycle
  | none => false

def State.forcedPreemption (s : State) (c : CoreId) : State :=
  let k := s.core c
  if k.preemptOpen && k.forced && !k.beforePreempt then s.setCore c k.stopForSave else s
def execForcedPreemption (c : CoreId) (s : State) : Out := agent (s.forcedPreemption c)

/-- What a save waits for has happened (R336 step 2, R337): an atomic's or a load's result, the engine at TYLD or TRET. -/
def Res.settled (r : Res) : Bool :=
  r.pend.all (fun p => match p.2 with | .req _ => false | _ => true) && (r.eng.call.isNone || r.eng.stopped)

/-- The buffers of an engine hold no pin any longer (R251). -/
def Engine.noPins (e : Engine) : Engine :=
  let free := fun (b : Buf) => { b with pins := [] }
  { e with fa0 := e.fa0.map free, fa1 := e.fa1.map free, fb0 := e.fb0.map free, fb1 := e.fb1.map free }

/-- The register, engine and queue state is written; pins are released (R251, R336 step 3). -/
def State.contextSave (s : State) (c : CoreId) : State :=
  match [Slot.a, Slot.b].find? (fun r => (s.res c r).place == .saving) with
  | none => s
  | some r =>
    if !(s.res c r).settled then s
    else
      let s := s.modRes c r (fun x => { x with saveSeq := x.saveSeq + 1 })
      let s := ((s.writeRegions c r).writeImage c r).unpin c r
      (s.modRes c r (fun x => { x with place := .saved, eng := x.eng.noPins })).modCore c
        (fun k => { k with preempt := none, atYield := false, halted := false, dbgStep := false })
def execContextSave (c : CoreId) (s : State) : Out := agent (s.contextSave c)

/-- A change of divisors that the controller makes of its own: one engine's, or all four (R433). -/
def ownChange (e : Option (BitVec 2)) (div : Nat) : ClkReq :=
  { eng := e, div := div, slot := .a, ctx := .primary, k := false, pd := 0, granted := true }
/-- The controller makes changes of its own: a CLKDIV that is granted and has not switched is decided again against what they
leave (R433, R446). -/
def Core.change (k : Core) (l : List ClkReq) : Core :=
  { k with own := k.own ++ l, clk := k.clk.map (fun q => { q with granted := false }) }
/-- DIVISOR_RESET (R433): every engine to 4, which the incoming context's first group awaits; in an evacuating zone the clock
floor follows at once (R446). -/
def State.resetDivs (s : State) (c : CoreId) : State :=
  let floor := if (s.zone (zoneOf c)).state = zEvac then [ownChange none 8] else []
  s.modCore c (fun k =>
    { k.change ((if k.divs = {} && k.own.isEmpty then [] else [ownChange none 4]) ++ floor) with fourDue := true })

/-- A position of a scratchpad allocation of size bytes on a core: a multiple of the size that meets no other allocation
(R22, R104, R18). -/
def Core.positions (k : Core) (skip : Option Slot) (size : Nat) : List Nat :=
  let used := ([Slot.a, Slot.b].filter (fun r => (k.res r).occ && some r != skip)).map
    (fun r => ((k.res r).spBase, (k.res r).spSize)) ++ k.kept.map (fun e => e.2)
  ((List.range (0x80000 / size)).map (fun n => n * size)).filter
    (fun p => used.all (fun u => p + size ≤ u.1 || u.1 + u.2 ≤ p))

/-- The accumulator tiles that the core's resident contexts leave free (R55, R354; DEDUCED, log 35). -/
def Core.tilesFree (k : Core) (skip : Option Slot) : Nat :=
  8 - (([Slot.a, Slot.b].filter (fun r => (k.res r).occ && some r != skip)).foldl (fun n r => n + (k.res r).tiles) 0)

/-- Move n bytes of memory (a scratchpad's to its evicted copy or back). -/
def State.moveBytes (s : State) (src dst n : Nat) : State :=
  s.writeList ((span dst n).zip ((span src n).map s.byte))

/-- A free slot of a core. -/
def Core.freeSlot (k : Core) : Option Slot := [Slot.a, Slot.b].find? (fun r => !(k.res r).occ)

/-- A context that moves to another slot of its core takes what names its slot with it: its arrivals at barriers, its outstanding
CLKDIV, its posted writes and its TLBIs (R29, R180, R354, R378). -/
def State.reseat (s : State) (c : CoreId) (old new : Slot) : State :=
  let s := s.modCore c (fun k => { k with clk := k.clk.map (fun q => if q.slot == old then { q with slot := new } else q) })
  { s with
    reqs := s.reqs.map (fun (q : Req) => if q.core == c && q.slot == old then { q with slot := new } else q)
    shoots := s.shoots.map (fun (x : Shoot) => if x.core == c && x.slot == old then { x with slot := new } else x)
    arms := s.arms.map (fun (e : Nat × Arm) =>
      (e.1, { e.2 with arrived := e.2.arrived.map (fun a => if a.1 == c && a.2.1 == old then (c, new, a.2.2) else a) })) }

/-- The protection domain of a resident context: partition and PDID (R320). -/
def Res.domain (x : Res) : BitVec 20 := x.part ++ x.pdid

/-- The 4 KiB pages of an allocation are a protection domain's. -/
def Core.ownPages (k : Core) (base size : Nat) (dom : BitVec 20) : Core :=
  { k with spDom := (List.range (size / 4096)).foldl (fun t i => t.put none (base / 4096 + i) (some dom)) k.spDom }

/-- What the occupant that was active last left is kept when another context takes slot r (R24). -/
def Core.keepPrev (k : Core) (r : Slot) : Core := if r == k.act && k.prev.isNone then { k with prev := some (k.res r) } else k
/-- The registers that the core's previous occupant left (R24, R25). -/
def Core.last (k : Core) : Res := k.prev.getD (k.res k.act)

/-- The oldest evicted context for which the core has room: a scratchpad allocation and accumulator tiles (R354). -/
def Core.returning (k : Core) : Option (Nat × Res) :=
  k.evicted.find? (fun e => !(k.positions none e.2.spSize).isEmpty && decide (e.2.tiles ≤ k.tilesFree none))

/-- An evicted context returns to a free slot of its core, saved, with its scratchpad, once no core's access is on its way to the
scratchpad (R106, R354). -/
def State.placeBack (s : State) (c : CoreId) : State :=
  let k := s.core c
  match k.freeSlot, k.returning with
  | some r, some (n, x) =>
    if s.allocBusy c x.spBase x.spSize then s
    else
      let l := k.positions none x.spSize
      let base := l.getD (Config.placement s.steps % l.length) 0
      let s := (s.moveBytes (coreBase c + x.spBase) (coreBase c + base) x.spSize).reseat c (.out n) r
      let s := s.modCore c (fun k =>
        { ((k.keepPrev r).setRes r { x with spBase := base, place := .saved }).ownPages base x.spSize x.domain with evicted := k.evicted.drop n })
      s.modTask x.task (fun t => { t with cores := t.cores.map (fun e => if e.1 == c then (c, r) else e) })
  | _, _ => s

/-- The saved context of the higher priority. -/
def Core.nextSaved (k : Core) : Option Slot :=
  let ok := fun (r : Slot) => (k.res r).occ && (k.res r).place == .saved
  if ok .a && ok .b then some (if k.a.prio < k.b.prio then .b else .a)
  else if ok .a then some .a else if ok .b then some .b else none

/-- The context's registers where it first issues: its task registers where the protection domain is the previous occupant's, its
kernel bank where the partition is (R24, R25, R320); those that R26 sets are set. -/
def Ctx.inherit (x prev : Ctx) (same samePart : Bool) : Ctx :=
  { x with
    s := if same then prev.s else x.s, p := if same then prev.p else x.p, b := if same then prev.b else x.b
    ks := if samePart then prev.ks else x.ks, kp := if samePart then prev.kp else x.kp }

/-- The engine at a launch (R24 to R26, R222): tiles in SUM mode. -/
def Engine.atLaunch (e : Engine) (same : Bool) : Engine :=
  if same then
    { store := e.store, table := e.table, m := e.m
      tiles := (List.range 8).foldl (fun t n => t.put {} n { sum := (e.tile n).sum }) ([] : Tab Tile) }
  else {}

/-- A launched context takes over the registers that the core's previous occupant left (R24, R25). -/
def Res.inherit (x prev : Res) : Res :=
  let samePart := prev.part == x.part
  let same := samePart && prev.pdid == x.pdid
  { x with
    primary := (x.primary.inherit prev.primary same samePart).putS false 1 (x.primary.s.get 0 1)
    h1 := x.h1.inherit prev.h1 same samePart, h2 := x.h2.inherit prev.h2 same samePart
    v := if same then prev.v else x.v, vm := if same then prev.vm else x.vm, sb := if same then prev.sb else x.sb
    mp := if same then prev.mp else x.mp, pats := if same then prev.pats else x.pats
    streams := if same then prev.streams else x.streams, eng := prev.eng.atLaunch same }

/-- Two resident contexts of one task, whose engines are idle, hold one store and table: the active one's (R222, R230). -/
def Core.shareStore (k : Core) : Core :=
  let x := k.res k.act
  let y := k.res k.idleSlot
  if x.occ && y.occ && x.task == y.task && x.eng.call.isNone && x.eng.queue.isEmpty && y.eng.call.isNone && y.eng.queue.isEmpty then
    (k.setRes k.act { x with eng := { x.eng with shared := true } }).setRes k.idleSlot
      { y with eng := { y.eng with shared := true, store := x.eng.store, table := x.eng.table } }
  else k

/-- The context of a slot becomes active: its state comes from its save area, a failed ECRC ends its task with HW_ERROR
(R335), and its preparations are lost (R69). One that a launch has left waiting finds the registers as the core's previous
occupant leaves them now (R24; log 35). One saved HALTED is halted again with EBH 0, for the header holds HALTED alone (R335, R340;
DESIGN CHOICE, log 100). -/
def State.restoreInto (s : State) (c : CoreId) (r : Slot) : State :=
  let x := s.res c r
  if BitVec.ofNat 32 (s.readNat (x.saveBase.toNat + 8) 4) != s.engineCrc x.saveBase.toNat then s.endTask x.task 4 cHw 2
  else
    let halted := (s.readNat x.saveBase.toNat 1) / 4 % 2 == 1
    let y := s.readImage x
    let y := if x.blank then y.inherit (s.core c).last else y
    let y := { y with
      place := .here, blank := false, savedHalted := false, eng := { y.eng with stopped := halted }
      primary := { y.primary with prep := none }, h1 := { y.h1 with prep := none }, h2 := { y.h2 with prep := none } }
    (s.modCore c (fun k =>
      { k.setRes r y with
        act := r, prev := none, halted := halted, dbgEbh := false, hRun := 0, atYield := false, preempt := none }.shareStore)).resetDivs c

/-- A saved context resumes where no context is active (R46, R354, R355), the held posts applied first (R34). -/
def State.contextRestore (s : State) (c : CoreId) : State :=
  let s := s.placeBack c
  let k := s.core c
  if [Slot.a, Slot.b].any (fun r => (k.res r).occ && ((k.res r).place == .here || (k.res r).place == .saving)) || !k.runs then s
  else match k.nextSaved with
    | none => s
    | some r =>
      if !(k.res r).heldPosts.isEmpty || !(k.res r).heldArrivals.isEmpty then s else s.restoreInto c r
def execContextRestore (c : CoreId) (s : State) : Out := agent (s.contextRestore c)

/-- Posts and arrivals held during a save reach the images once it is complete (R34, R38). -/
def State.heldApply (s : State) (c : CoreId) (r : Slot) : State :=
  let x := s.res c r
  if x.place == .saving then s
  else
    let s := s.modRes c r (fun y => { y with heldPosts := [], heldArrivals := [] })
    let s := x.heldPosts.foldl (fun (s : State) p => s.postAt c r p.1 p.2.1.toNat p.2.2) s
    x.heldArrivals.foldl (fun (s : State) a => (s.queueArrival c (some r) a).1) s
def execHeldPostApply (c : CoreId) (r : Slot) (s : State) : Out := agent (s.heldApply c r)

/-! ## Delivery of asynchronous and machine traps (R329 to R334) -/

/-- The address after the group at a context's pc, as far as fetch can tell. -/
def State.nextOf (s : State) (c : CoreId) (r : Slot) (x : CtxId) : VAddr :=
  let t := { s with cur := { s.cur with core := c, slot := r, ctx := x } }
  match t.afterGroup ((s.res c r).ctx x).pc with
  | .ok a => a
  | _ => Config.nextOfUnread s.steps

/-- The context that a record goes to (R331). -/
def Res.receiver (r : Res) (f : AFault) : CtxId :=
  let x : CtxId := if f.ctx = 1 then .h1 else if f.ctx = 2 then .h2 else .primary
  if (r.ctx x).run == .dormant then .primary else x

/-- Cause and sub-cause of a record's trap (R331). -/
def AFault.cause (f : AFault) : Byte × Byte :=
  if f.code = 0x20 then (cFabric, (f.target.extractLsb' 12 6).setWidth 8) else if f.code = 0x21 then (cHw, 0) else (cEngine, 0)

/-- A trap of an earlier access or command may be delivered to a context now: the context runs, in task mode (R331). -/
def State.mayDeliver (s : State) (c : CoreId) (r : Slot) (i : CtxId) : Bool :=
  let k := s.core c
  let x := k.res r
  let y := x.ctx i
  !(k.act != r || !x.occ || x.place != .here || (k.halted && !k.dbgStep) || !k.runs || y.mode || y.run != .live || k.beforePreempt ||
    (k.preemptOpen && (k.mayYield || k.forced)))

/-- ASYNC_FAULT_DELIVERY: first an access that its home refused (R387, R456), else the oldest record (R331). -/
def State.asyncDelivery (s : State) (c : CoreId) (r : Slot) : State :=
  let x := s.res c r
  match x.denied.find? (fun d => s.mayDeliver c r d.ctx) with
  | some d =>
    let y := x.ctx d.ctx
    (s.modRes c r (fun z => { z with denied := z.denied.erase d })).takeTrapAt c r d.ctx
      { cause := d.cause, sub := d.sub, tval := d.tval } true y.pc y.pc 0
  | none =>
    match x.faults with
    | [] => s
    | f :: _ =>
      let i := x.receiver f
      let y := x.ctx i
      if !s.mayDeliver c r i then s
      else
        (s.modRes c r Res.takeRecord).takeTrapAt c r i
          { cause := f.cause.1, sub := f.cause.2, code := f.code.setWidth 16 } true y.pc y.pc 0
def execAsyncFaultDelivery (c : CoreId) (r : Slot) (s : State) : Out := agent (s.asyncDelivery c r)

/-- COOLANT_LOST reaches another core of an affected task, at its primary's boundary (R324, R329, R334). -/
def State.machineTrap (s : State) (c : CoreId) (zone : BitVec 9) : State :=
  let k := s.core c
  let x := k.res k.act
  if x.machine != some (cCoolant, zone) || !x.occ || x.place != .here || x.primary.run != .live || !k.runs then s
  else
    (s.modRes c k.act (fun y => { y with machine := none })).takeTrapAt c k.act .primary
      { cause := cCoolant, sub := zone.setWidth 8, tval := zone.setWidth 64 } true x.primary.pc x.primary.pc 0
def execMachineTrap (c : CoreId) (zone : BitVec 9) (s : State) : Out := agent (s.machineTrap c zone)

/-! ## The debugger's control (R339, R340) -/

def execDbgHalt (c : CoreId) (on : Bool) (s : State) : Out := agent (s.atReady (fun s => s.modCore c (fun k => { k with dbgHalt := on })))

/-- A requested halt lands at a group boundary, after a machine trap (R329). -/
def State.haltLanding (s : State) (c : CoreId) : State :=
  let k := s.core c
  let x := k.res k.act
  if !k.dbgHalt || k.halted || x.place == .saving || (x.machine.isSome && x.primary.run == .live) then s
  else s.setCore c { k.halt k.cycle with dbgEbh := false, haltedAt := s.steps }
def execDebugHaltLanding (c : CoreId) (s : State) : Out := agent (s.haltLanding c)

/-- RESUME lets a halted core go on (R69, R340). -/
def State.dbgResume (s : State) (c : CoreId) : State :=
  s.modCore c (fun k =>
    if k.halted then
      { k.setRes k.act { k.res k.act with eng := { (k.res k.act).eng with stopped := false } } with
        halted := false, dbgStep := false, dbgEbh := false }
    else k)
def execDbgResume (c : CoreId) (s : State) : Out := agent (s.atReady (fun s => s.dbgResume c))
/-- STEP lets a halted core issue one group of the primary, and halts again (R339). -/
def State.debugStep (s : State) (c : CoreId) : State := s.modCore c (fun k => if k.halted then { k with dbgStep := true } else k)
def execDbgStep (c : CoreId) (s : State) : Out := agent (s.atReady (fun s => s.debugStep c))
def execDbgEbrk (c : CoreId) (on : Bool) (s : State) : Out := agent (s.atReady (fun s => s.modCore c (fun k => { k with dbgEbrk := on })))

end Sys2Proof.Machine
end

