-- ==== Sys2Proof/Machine/Queue.lean ====
section
/-! DEFINITION. Queues: doorbells and commands (R341 to R343, R359, R364), a dispatcher's accesses, and the fields of packets
(R345 to R347). -/

namespace Sys2Proof.Machine

/-! ## Queues -/

/-- Address of packet n (R341). -/
def Queue.addrOf (k : Queue) (n : W32) : VAddr := k.base + BitVec.ofNat 48 (64 * (n.toNat % 2 ^ k.sizelog.toNat))

/-- A DESTROYED queue with no task left is FREE (R364). -/
def State.settleQueue (s : State) (q : QueueId) : State :=
  s.modQueue q (fun k => if k.state = 3 && k.open_.isEmpty && k.head.isNone then { k with state := 0 } else k)

/-- The queue's waiting LAUNCH is a packet not started again (R343, R348); a WAITSIG or a TOPO that has started goes on. -/
def Queue.takeBack (k : Queue) : Queue :=
  match k.head with
  | some p => if ((p.getD 0 0).setWidth 4).toNat = 1 then { k with head := none, waiting := false } else k
  | none => k

/-- The queue enters ERROR, which the dispatch log records (R365, R366). -/
def State.queueError (s : State) (q : QueueId) (code : Byte) : State :=
  let k := s.queue q
  ((s.modQueue q (fun k =>
    { k.takeBack with state := if k.state = 3 then 3 else 2, err := code })).settleQueue q).dispatchLog k.part 2 q.toNat 0
    (k.addrOf k.rptr).toNat code.toNat

/-- The next packet starts: RPTR counts it (R341, R348). -/
def State.started (s : State) (q : QueueId) (task : Option W32) : State :=
  s.modQueue q (fun k => { k with rptr := k.rptr + 1, open_ := k.open_ ++ [(k.rptr, task)] })
/-- Packet n of the queue is complete (R348). -/
def State.completed (s : State) (q : QueueId) (n : W32) : State :=
  (s.modQueue q (fun k => { k with open_ := k.open_.filter (fun e => e.1 != n) })).settleQueue q

/-- The 256 bits of a queue descriptor (R341). -/
def Queue.descriptor (k : Queue) : BitVec 256 :=
  0#30 ++ k.state ++ k.rptr ++ k.wptr ++ k.err ++ 0#6 ++ k.root ++ k.homedie ++ k.maxprio ++ k.sizelog ++ 0#53 ++ k.base

/-! ## DOORBELL and QCMD -/

/-- A write of the host still waits: a doorbell after it rings once it is performed (R344). -/
def State.hostWrites (s : State) : Bool := s.hostQueue.any (fun x => x.write)
/-- A doorbell (R342, R343); one that rings while firmware holds the partition's, or after a write of the host that still waits, is kept
for later (R344, R454). Bits [31:10], of which the
manual says nothing, are taken as 0 (DESIGN CHOICE, log 82). -/
def State.doorbell (s : State) (p : PartId) (w : W64) : State :=
  let q : QueueId := w.setWidth 10
  let v : W32 := w.extractLsb' 32 32
  let k := s.queue q
  if (s.part p).held || s.hostWrites then s.modPart p (fun k => { k with bells := k.bells ++ [w] })
  else if k.state != 1 || k.part != p then s.dispatchLog p 3 q.toNat 0 0 0
  else if (v - k.rptr).toNat ≤ 2 ^ k.sizelog.toNat then
    s.modQueue q (fun k => if v = k.rptr then { k.takeBack with wptr := v } else { k with wptr := v })
  else s.queueError q 3
/-- The doorbells that were held ring, oldest first (R344, R454). -/
def State.ringHeld (s : State) (p : PartId) : State :=
  if (s.part p).held || s.hostWrites then s
  else (s.part p).bells.foldl (fun (s : State) w => s.doorbell p w) (s.modPart p (fun k => { k with bells := [] }))
def execDoorbell (p : PartId) (w : W64) (s : State) : Out := agent (s.atReady (fun s => s.doorbell p w))

/-- A queue command (R342): refused, it sets QSTAT to 2 and changes nothing else; done, QSTAT is 1. A word whose OP names
another command is none of this row's. -/
def State.qcmd (s : State) (p : PartId) (w : W64) (op : Nat) (ok : Bool) (f : State → State) : State :=
  if !s.ready then s.rejected
  else if (w.setWidth 8).toNat != op then s
  else if w.extractLsb' 18 14 != 0 || !ok then s.modPart p (fun k => { k with qstat := 2 })
  else (f s).modPart p (fun k => { k with qstat := 1 })

def cmdQueue (w : W64) : QueueId := w.extractLsb' 8 10
/-- A queue that the partition owns: one it has created and that is not FREE (R341). -/
def State.ownsQueue (s : State) (p : PartId) (q : QueueId) : Bool := (s.queue q).state != 0 && (s.queue q).part == p

/-- CREATE: the descriptor of QCMD_ARG0 to QCMD_ARG3 (R341, R342). A SIZELOG below 4 and a BASE that is not aligned to the ring are taken
as asked (DESIGN CHOICE, log 101: the manual gives no outcome). -/
def State.createQueue (s : State) (p : PartId) (q : QueueId) : State :=
  let a : Nat → W64 := fun i => (s.part p).args.get 0 i
  let d : BitVec 256 := a 3 ++ a 2 ++ a 1 ++ a 0
  s.modQueue q (fun _ =>
    { state := 1, part := p, root := d.extractLsb' 112 34, homedie := d.extractLsb' 108 4, maxprio := d.extractLsb' 105 3
      sizelog := d.extractLsb' 101 4, base := d.extractLsb' 0 48 })
def State.qcmdCreate (s : State) (p : PartId) (w : W64) : State :=
  let q := cmdQueue w
  let a : Nat → W64 := fun i => (s.part p).args.get 0 i
  let d : BitVec 256 := a 3 ++ a 2 ++ a 1 ++ a 0
  s.qcmd p w 1 ((s.queue q).state == 0 && d.extractLsb' 48 53 == 0) (fun s => s.createQueue p q)
def execQcmdCreate (p : PartId) (w : W64) (s : State) : Out := agent (s.qcmdCreate p w)

/-- DESTROY (R364): later packets are not started; a packet already read goes on. -/
def State.qcmdDestroy (s : State) (p : PartId) (w : W64) : State :=
  s.qcmd p w 2 (s.ownsQueue p (cmdQueue w))
    (fun s => (s.modQueue (cmdQueue w) (fun k => { k with state := 3 })).settleQueue (cmdQueue w))
def execQcmdDestroy (p : PartId) (w : W64) (s : State) : Out := agent (s.qcmdDestroy p w)
/-- KILL of a task of the partition (R342, R361). -/
def State.qcmdKill (s : State) (p : PartId) (w : W64) : State :=
  s.qcmd p w 3 (match s.task? (w.extractLsb' 32 32) with | some t => t.part == p | none => false)
    (fun s => s.endTask (w.extractLsb' 32 32) 2 0 0)
def execQcmdKill (p : PartId) (w : W64) (s : State) : Out := agent (s.qcmdKill p w)
/-- CLEARERR (R364). -/
def State.qcmdClearerr (s : State) (p : PartId) (w : W64) : State :=
  s.qcmd p w 4 (s.ownsQueue p (cmdQueue w) && (s.queue (cmdQueue w)).state == 2)
    (fun s => s.modQueue (cmdQueue w) (fun k => { k with state := 1, err := 0 }))
def execQcmdClearerr (p : PartId) (w : W64) (s : State) : Out := agent (s.qcmdClearerr p w)
/-- ARMRELOAD (R359): ACTIVE again with every die's count cleared; GEN and INTERVAL are kept. -/
def State.qcmdArmreload (s : State) (p : PartId) (w : W64) : State :=
  let g : GroupId := w.extractLsb' 8 8
  let mine := w.extractLsb' 16 2 == 0 && (s.arm g).v &&
    (match s.task? (s.arm g).owner with | some t => t.part == p | none => false)
  s.qcmd p w 5 mine (fun s => s.modArm g (fun a => { a with broken := false, count := [], arrived := [] }))
def execQcmdArmreload (p : PartId) (w : W64) (s : State) : Out := agent (s.qcmdArmreload p w)
/-- The 512 bits of an Armature entry (R356). -/
def Arm.bits (a : Arm) : BitVec 512 :=
  let expect : BitVec 144 := (List.range 16).foldl (fun b d => b ||| (BitVec.ofNat 144 (a.expect.get 0 d) <<< (9 * d))) 0
  0#128 ++ expect ++ a.peers ++ a.dies ++ a.owner ++ a.gen ++ a.interval ++ 0#86 ++ BitVec.ofBool a.broken ++ BitVec.ofBool a.v

/-- 256 bits go to QCMD_ARG0 to QCMD_ARG3 (R342). -/
def State.queried (s : State) (p : PartId) (d : BitVec 256) : State :=
  s.modPart p (fun k =>
    { k with args := k.args.putAll 0 ((List.range 4).map (fun i => (i, d.extractLsb' (64 * i) 64))) })
/-- QUERY of a queue: its descriptor (R342). -/
def State.queryQueue (s : State) (p : PartId) (q : QueueId) : State := s.queried p (s.queue q).descriptor
/-- QUERY of a group, for a task of the partition that owns it: half of its Armature entry (R356). -/
def State.queryGroup (s : State) (p : PartId) (g : GroupId) (high : Bool) : State :=
  s.queried p ((s.arm g).bits.extractLsb' (if high then 256 else 0) 256)
/-- A task of the partition owns the group (R342, R356). -/
def State.taskOwns (s : State) (p : PartId) (task : W32) (g : GroupId) : Bool :=
  (s.arm g).v && (s.arm g).owner == task && (match s.task? task with | some t => t.part == p | none => false)
/-- With TASK 0 a QUERY names a queue; else ID[7:0] names a group that the task owns, ID[8] the upper half of its entry, and ID[9] is 0
(DESIGN CHOICE, log 88: the manual gives QUERY of a task no form). -/
def State.qcmdQuery (s : State) (p : PartId) (w : W64) : State :=
  let task : W32 := w.extractLsb' 32 32
  if task = 0 then s.qcmd p w 6 (s.ownsQueue p (cmdQueue w)) (fun s => s.queryQueue p (cmdQueue w))
  else
    s.qcmd p w 6 (!w.getLsbD 17 && s.taskOwns p task (w.extractLsb' 8 8)) (fun s => s.queryGroup p (w.extractLsb' 8 8) (w.getLsbD 16))
def execQcmdQuery (p : PartId) (w : W64) (s : State) : Out := agent (s.qcmdQuery p w)

/-! ## The dispatcher's accesses -/

/-- n bytes at an address of a space as a dispatcher reaches them: it holds the permissions of the page but for U (R347). -/
def State.dispBytes (s : State) (root : BitVec 34) (p : PartId) (a : Acc) (va n : Nat) : Option (List Nat) :=
  ((List.range n).map (fun i => s.reachSpaceAs true root p a (BitVec.ofNat 64 (va + i)) 1)).foldl
    (fun acc x => match acc, x with | some l, .ok q => some (l ++ q.addr) | _, _ => none) (some [])
/-- A dispatcher's read of n bytes may be performed now, or faults: no lease, no pin and no request before it holds a line of it. The
read leaves a line's home where it is (R111, R118; DESIGN CHOICE, log 84). -/
def State.dispReadable (s : State) (root : BitVec 34) (p : PartId) (va n : Nat) : Bool :=
  (List.range n).all (fun i =>
    match s.reachSpaceAs true root p .load (BitVec.ofNat 64 (va + i)) 1 with
    | .ok q => s.lineFree 0 .ce q
    | _ => true)
/-- The number in n bytes that a dispatcher reads. -/
def State.dispRead (s : State) (root : BitVec 34) (p : PartId) (va n : Nat) : Option Nat :=
  (s.dispBytes root p .load va n).map s.readList

/-- A dispatcher's write of a doubleword may be performed now (R111, R117, R118). -/
def State.dispFree (s : State) (p : Piece) : Bool := s.lineFree 0 .ce p && !s.restriping p
/-- A dispatcher's write, performed at the home as a release: all it covers has been performed before. -/
def State.dispWrite (s : State) (p : Piece) (x : Nat) : State :=
  ((s.returnHome p).retag p.addr false none).writeHome (p.addr.zip (leBytes p.addr.length x))

/-! ## Packets (R345 to R347) -/

def dw (p : Packet) (n : Nat) : W64 := p.getD n 0
def pktType (p : Packet) : Nat := ((dw p 0).setWidth 4).toNat
def pktBarrier (p : Packet) : Bool := (dw p 0).getLsbD 4
def pktPrio (p : Packet) : Nat := ((dw p 0).extractLsb' 8 3).toNat
def pktClass (p : Packet) : Nat := ((dw p 0).extractLsb' 11 2).toNat
def pktAddr (p : Packet) : W64 := ((dw p 1).setWidth 48).setWidth 64
/-- ACTION of a TOPO packet (R419). -/
def topoAction (p : Packet) : Nat := ((dw p 1).extractLsb' 56 8).toNat
def pktOp (p : Packet) : Nat := ((dw p 1).extractLsb' 48 4).toNat

/-- TYPE is 5 to 15, or a must-be-0 bit is set: error 0x01 (R345 to R347, R419). -/
def pktBad (p : Packet) : Bool :=
  let h := dw p 0
  h.extractLsb' 13 3 != 0 || h.extractLsb' 5 3 != 0 ||
  (match pktType p with
   | 1 => (dw p 3).extractLsb' 49 15 != 0 || (dw p 5).extractLsb' 48 16 != 0 || (dw p 6).extractLsb' 34 30 != 0 ||
          (dw p 7).extractLsb' 56 8 != 0
   | 0 => h.extractLsb' 16 48 != 0 || [1, 2, 3, 4, 5, 6, 7].any (fun n => dw p n != 0)
   | 2 => h.extractLsb' 16 48 != 0 || (dw p 1).extractLsb' 52 12 != 0 || [3, 4, 5, 6, 7].any (fun n => dw p n != 0) ||
          1 < pktOp p || (pktAddr p).toNat % 8 != 0
   | 3 => h.extractLsb' 16 48 != 0 || (dw p 1).extractLsb' 52 12 != 0 || [4, 5, 6, 7].any (fun n => dw p n != 0) ||
          3 < pktOp p || (pktAddr p).toNat % 8 != 0
   | 4 => h.extractLsb' 16 48 != 0 || (dw p 1).extractLsb' 32 8 != 0 || (dw p 3).extractLsb' 48 16 != 0 ||
          (dw p 4).extractLsb' 48 16 != 0 || (dw p 6).extractLsb' 48 16 != 0 || (dw p 7).extractLsb' 32 32 != 0 ||
          topoAction p = 0 || 3 < topoAction p
   | _ => true)

/-- The next packet of a queue, read in two beats of 32 bytes; none where a beat faults (R365). -/
def State.packetAt (s : State) (k : Queue) : Option Packet :=
  let a : W64 := (k.addrOf k.rptr).setWidth 64
  match s.reachSpaceAs true k.root k.part .load a 32, s.reachSpaceAs true k.root k.part .load (a + 32) 32 with
  | .ok x, .ok y =>
    let l := x.addr ++ y.addr
    some ((List.range 8).map (fun i => BitVec.ofNat 64 (s.readList ((l.drop (8 * i)).take 8))))
  | _, _ => none

/-- The bytes of the next packet may be read now. -/
def State.packetFree (s : State) (k : Queue) : Bool := s.dispReadable k.root k.part (k.addrOf k.rptr).toNat 64

/-- The priority of a queue's next packet: a LAUNCH's own, at most MAXPRIO; any other's is MAXPRIO. -/
def Queue.prioOf (k : Queue) (p : Option Packet) : Nat :=
  match p with
  | some x => if pktType x = 1 then Nat.min (pktPrio x) k.maxprio.toNat else k.maxprio.toNat
  | none => k.maxprio.toNat

end Sys2Proof.Machine
end

