-- ==== Sys2Proof/Machine/Serve.lean ====
section
/-! DEFINITION. What a LAUNCH asks for and its refusals (R346, R353), the choice of its cores (R354), the order in which a
dispatcher serves its queues (R348 to R351), and the NOP, SIGNAL and WAITSIG packets (R347). -/

namespace Sys2Proof.Machine

/-! ## Fields of the packet (R346) -/

def lEntry (p : Packet) : VAddr := (dw p 1).setWidth 48
def lScratch (p : Packet) : Nat := 2 ^ (((dw p 1).extractLsb' 48 4).toNat + 12)
def lTiles (p : Packet) : Nat := ((dw p 1).extractLsb' 52 4).toNat
def lGroups (p : Packet) : Nat := ((dw p 1).extractLsb' 56 8).toNat
def lArgs (p : Packet) : VAddr := (dw p 2).setWidth 48
def lDies (p : Packet) : BitVec 16 := (dw p 2).extractLsb' 48 16
def lSignal (p : Packet) : VAddr := (dw p 3).setWidth 48
def lTrap (p : Packet) : Bool := (dw p 3).getLsbD 48
def lSwtab (p : Packet) : VAddr := (dw p 4).setWidth 48
def lImage (p : Packet) : Nat := 8 * ((dw p 4).extractLsb' 48 16).toNat
/-- GLIST, and SWTAB above: an address that is not aligned to 16 or to 32 bytes is taken as it stands (DESIGN CHOICE, log 74). -/
def lGlist (p : Packet) : Nat := ((dw p 5).setWidth 48).toNat
def lRoot (p : Packet) : BitVec 34 := (dw p 6).setWidth 34
def lDlist (p : Packet) : Nat := ((dw p 7).setWidth 48).toNat
def lBound (p : Packet) : W32 := BitVec.ofNat 32 (Nat.max ((dw p 0).extractLsb' 32 32).toNat 256)
def lPdid (p : Packet) : BitVec 16 := (dw p 0).extractLsb' 16 16

/-- The dies of DIEMASK. -/
def lDieList (p : Packet) : List DieId := ((List.range 16).filter (fun d => (lDies p).getLsbD d)).map (BitVec.ofNat 4)

/-- A group descriptor (R346). -/
structure Desc where
  gid : GroupId
  first : Nat
  last : Nat
  peers : W64
deriving DecidableEq, Repr

/-- What a dispatcher has read of a launch: the counts of clusters and cores per die, the descriptors, the image. -/
structure Wanted where
  counts : List (DieId × Nat × Nat)
  descs : List Desc
  image : List Byte
deriving DecidableEq, Repr

/-- Clusters and cores of a die, from the packet or from DLIST; none where DLIST faults or has a must-be-0 bit set. -/
def State.dieCounts (s : State) (k : Queue) (p : Packet) (d : DieId) : Option (DieId × Nat × Nat) :=
  if lDlist p = 0 then some (d, ((dw p 7).extractLsb' 48 2).toNat + 1, ((dw p 7).extractLsb' 50 6).toNat + 1)
  else
    match s.dispRead k.root k.part (lDlist p + 2 * d.toNat) 2 with
    | none => none
    | some h => if 256 ≤ h then none else some (d, h % 4 + 1, h / 4 % 64 + 1)

/-- A descriptor of GLIST; none where it faults or has a must-be-0 bit set. -/
def State.descAt (s : State) (k : Queue) (p : Packet) (n : Nat) : Option Desc :=
  match s.dispRead k.root k.part (lGlist p + 16 * n) 16 with
  | none => none
  | some x =>
    let b : BitVec 128 := BitVec.ofNat 128 x
    if b.extractLsb' 32 32 != 0 then none
    else some ⟨b.extractLsb' 0 8, (b.extractLsb' 8 12).toNat, (b.extractLsb' 20 12).toNat, b.extractLsb' 64 64⟩

/-- Every one of a list, or none. -/
def allSome {α : Type} : List (Option α) → Option (List α)
  | [] => some []
  | some x :: t => (allSome t).map (fun l => x :: l)
  | none :: _ => none

def Wanted.total (w : Wanted) : Nat := w.counts.foldl (fun n e => n + e.2.1 * e.2.2) 0
/-- The descriptor includes a TCI. -/
def Desc.has (d : Desc) (t : Nat) : Bool := d.first ≤ t && t ≤ d.last
/-- The groups of a TCI, in descriptor order, each once (R346, R357). -/
def Wanted.groupsOf (w : Wanted) (t : Nat) : List GroupId :=
  (w.descs.filter (fun d => d.has t)).foldl (fun l d => if l.contains d.gid then l else l ++ [d.gid]) []

/-- Cores of a cluster that are not absent (R457). -/
def State.clusterCores (s : State) (d : DieId) (cl : Nat) : List CoreId :=
  ((List.range 64).map (fun n => BitVec.ofNat 12 (d.toNat * 256 + cl * 64 + n))).filter (fun c => !(s.core c).absent)
/-- The die has so many clusters of so many cores. -/
def State.dieHas (s : State) (d : DieId) (clusters cores : Nat) : Bool :=
  !(s.die d).fenced && clusters ≤ ((List.range 4).filter (fun cl => cores ≤ (s.clusterCores d cl).length)).length


/-- What a dispatcher reads of a launch beside the packet may be read now. -/
def State.launchFree (s : State) (k : Queue) (p : Packet) : Bool :=
  (lDlist p = 0 || s.dispReadable k.root k.part (lDlist p) 32) &&
  s.dispReadable k.root k.part (lGlist p) (16 * lGroups p + lImage p)

/-- What the launch asks for; none where R353 refuses it. -/
def State.wanted (s : State) (k : Queue) (p : Packet) : Option Wanted :=
  if pktClass p = 3 || 8 < lTiles p || lDies p = 0 || 0x80000 < lScratch p || lScratch p < lImage p ||
     (lDieList p).any (fun d => s.dieOwner d != some k.part) then none
  else
    match allSome ((lDieList p).map (s.dieCounts k p)), allSome ((List.range (lGroups p)).map (s.descAt k p)),
          s.dispBytes k.root k.part .load (lGlist p + 16 * lGroups p) (lImage p) with
    | some counts, some descs, some image =>
      let w : Wanted := { counts := counts, descs := descs, image := image.map s.byte }
      if counts.any (fun e => !s.dieHas e.1 e.2.1 e.2.2) ||
         descs.any (fun d => !s.inArmRange k.part d.gid || (s.arm d.gid).v) ||
         (List.range w.total).any (fun t => 4 < (w.groupsOf t).length) then none
      else some w
    | _, _, _ => none

/-! ## Choosing cores (R354) -/

/-- No request of a resident context is outstanding. -/
def State.drained (s : State) (c : CoreId) (r : Slot) : Bool := !s.reqs.any (fun q => q.core == c && q.slot == r)

/-- The context can be evicted: it is saved, nothing it began is outstanding, and no core's access is on its way to its scratchpad
(R106). -/
def State.evictable (s : State) (c : CoreId) (r : Slot) : Bool :=
  let x := s.res c r
  x.occ && x.place == .saved && x.xfers.all (fun e => e.2.isNone) && x.withheld.isEmpty && x.heldPosts.isEmpty &&
  x.heldArrivals.isEmpty && x.fences.isEmpty && x.tlbis.isEmpty && s.drained c r && !s.allocBusy c x.spBase x.spSize

/-- Can a core take a context, in which slot, and of which kind: 0 both slots free, 1 one free, 2 by an eviction of its inactive
context, which is of lower priority. -/
def State.coreKind (s : State) (c : CoreId) (prio size tiles : Nat) : Option (Nat × Slot) :=
  let k := s.core c
  let free := [Slot.a, Slot.b].filter (fun r => !(k.res r).occ && s.drained c r)
  let evict := fun (r : Slot) =>
    if s.evictable c r && (k.res r).prio.toNat < prio && !(k.positions (some r) size).isEmpty && tiles ≤ k.tilesFree (some r) then
      some (2, r)
    else none
  if !k.runs || (s.die (dieOf c)).fenced then none
  else match free with
    | r :: t =>
      if (k.positions none size).isEmpty || k.tilesFree none < tiles then evict (otherSlot r)
      else some (if t.isEmpty then 1 else 0, r)
    | [] => evict k.idleSlot

/-- n cores of a cluster: by kind, and within a kind by number. -/
def State.pickCluster (s : State) (d : DieId) (n prio size tiles cl : Nat) : Option (List (CoreId × Nat × Slot)) :=
  let l := (s.clusterCores d cl).filterMap (fun c => (s.coreKind c prio size tiles).map (fun e => (c, e.1, e.2)))
  let ordered := [0, 1, 2].flatMap (fun (kind : Nat) => l.filter (fun e => e.2.1 == kind))
  if ordered.length < n then none else some (ordered.take n)
/-- The clusters of a die, in ascending number. -/
def State.pickDie (s : State) (p : Packet) (prio : Nat) (e : DieId × Nat × Nat) : Option (List (CoreId × Nat × Slot)) :=
  let l := (List.range 4).filterMap (s.pickCluster e.1 e.2.2 prio (lScratch p) (lTiles p))
  if l.length < e.2.1 then none else some (l.take e.2.1).flatten
/-- The cores of a launch in increasing logical core ID (R17, R354). -/
def State.pickCores (s : State) (p : Packet) (prio : Nat) (w : Wanted) : Option (List (CoreId × Nat × Slot)) :=
  match allSome (w.counts.map (s.pickDie p prio)) with
  | none => none
  | some l => some ((List.range 4096).filterMap (fun n => l.flatten.find? (fun e => e.1.toNat == n)))

/-- A waiting LAUNCH of higher priority bars this one: both need a die (R351). -/
def State.barred (s : State) (q : QueueId) (p : Packet) (prio : Nat) : Bool :=
  s.queues.any (fun e => e.1 != q.toNat && (match e.2.head with
    | some h => pktType h = 1 && prio < e.2.prioOf (some h) && (lDies h &&& lDies p) != 0
    | none => false))

/-- Firmware maps spares into the fenced cores of clusters that hold no task context; with both used, a core is absent
(R457; DESIGN CHOICE, log 36: it does so when a launch looks for cores). -/
def State.mapSpares (s : State) (d : DieId) : State :=
  (List.range 4).foldl (fun s cl =>
    let l := s.clusterCores d cl
    let idle := l.all (fun c => let k := s.core c; !k.a.occ && !k.b.occ && k.evicted.isEmpty && k.kept.isEmpty)
    if !idle then s
    else (l.filter (fun c => (s.core c).fenced)).foldl (fun (s : State) c =>
      if (s.die d).spares.get 0 cl < 2 then
        (s.modCore c (fun k =>
          { k with fenced := false, a := {}, b := {}, preempt := none, halted := false, tlb := [], walkFaults := [] })).modDie d
          (fun x => { x with spares := x.spares.mod 0 cl (fun n => n + 1) })
      else s.modCore c (fun k => { k with absent := true })) s) s

/-- The zones of chosen cores, each once. -/
def zonesOf (l : List (CoreId × Nat × Slot)) : List Nat :=
  l.foldl (fun z e => if z.contains (zoneOf e.1) then z else z ++ [zoneOf e.1]) []

/-- What a dispatcher decides about a LAUNCH in a state in which spares are mapped. -/
inductive Verdict where
  | refused
  | waits
  | admitted (w : Wanted) (cores : List (CoreId × Nat × Slot))

/-- A LAUNCH is refused, admitted, or waits for what it needs (R351 to R354), the lines of its lists among it. -/
def State.verdict (s : State) (q : QueueId) (p : Packet) : Verdict :=
  let k := s.queue q
  let prio := k.prioOf (some p)
  if !s.launchFree k p then .waits
  else match s.wanted k p with
  | none => .refused
  | some w =>
    if s.barred q p prio then .waits
    else match s.pickCores p prio w with
      | none => .waits
      | some l => if s.grantsZones k.part (pktClass p) (zonesOf l) then .admitted w l else .waits

/-- The LAUNCH that waits at a queue's head could now be admitted, or refused. -/
def State.admissible (s : State) (q : QueueId) : Bool :=
  match (s.queue q).head with
  | none => false
  | some p =>
    pktType p = 1 &&
    (match ((lDieList p).foldl State.mapSpares s).verdict q p with
     | .waits => false
     | _ => true)

/-! ## Order (R348, R349, R351) -/

/-- The queue's next packet may start: nothing holds the queue, and a packet with B finds every earlier one complete. -/
def State.mayStart (s : State) (k : Queue) : Bool :=
  k.state == 1 && k.rptr != k.wptr && k.head.isNone && !(s.die k.homedie).fenced && s.packetFree k &&
  (match s.packetAt k with | some p => !pktBarrier p || k.open_.isEmpty | none => true)

/-- The packet whose priority a queue has now: the LAUNCH that waits at its head, or its next one. -/
def State.facing (s : State) (k : Queue) : Option Packet :=
  match k.head with
  | some p => some p
  | none => s.packetAt k

/-- The queues of a die's dispatcher that may start a packet, or whose waiting LAUNCH may be admitted, with its priority. -/
def State.candidates (s : State) (d : DieId) : List (Nat × Nat) :=
  -- a die in no partition, or in another than the queue's, runs none of its packets (R449)
  (s.queues.filter (fun e => e.2.homedie == d && s.dieOwner d == some e.2.part &&
    (s.mayStart e.2 || (!(s.die d).fenced && s.admissible (BitVec.ofNat 10 e.1))))).map (fun e => (e.1, e.2.prioOf (s.facing e.2)))

def servedKey (d : DieId) (prio : Nat) : Nat := d.toNat * 8 + prio
/-- The queue that a dispatcher serves next (R351): of the highest priority, the first in queue order after the one served
last. -/
def State.serves (s : State) (d : DieId) : Option Nat :=
  let l := s.candidates d
  let top := l.foldl (fun m e => Nat.max m e.2) 0
  let same := (l.filter (fun e => e.2 == top)).map (fun e => e.1)
  let owner := ((s.dieOwner d).map s.part).getD {}
  let from_ := owner.served.get 0 (servedKey d top)
  match same.find? (fun n => from_ ≤ n) with
  | some n => some n
  | none => same.head?

/-- The dispatcher has served a queue. -/
def State.markServed (s : State) (q : QueueId) : State :=
  let k := s.queue q
  let prio := k.prioOf (s.facing k)
  match s.dieOwner k.homedie with
  | some p => s.modPart p (fun x => { x with served := x.served.put 0 (servedKey k.homedie prio) (q.toNat + 1) })
  | none => s

/-- The dispatcher takes the next packet of a queue, which is pkt and of a type; what its row does follows. A read that faults
or a bad packet puts the queue in ERROR (R345, R365). A LAUNCH that waits has been read whole, and is not read again (R364, R365). -/
def State.take (s : State) (q : QueueId) (pkt : Packet) (type : Nat) (f : Queue → State → State) : State :=
  let k := s.queue q
  if !s.ready || s.serves k.homedie != some q.toNat then s
  else match s.facing k with
    | none => (s.markServed q).queueError q 2
    | some p =>
      if p != pkt then s
      else if pktBad p then (s.markServed q).queueError q 1
      else if pktType p != type then s
      else f k (s.markServed q)

/-! ## NOP, SIGNAL, WAITSIG (R347) -/

def State.nopPacket (s : State) (q : QueueId) (pkt : Packet) : State :=
  s.take q pkt 0 (fun k s => (s.started q none).completed q k.rptr)
def execNopPacket (q : QueueId) (pkt : Packet) (s : State) : Out := agent (s.nopPacket q pkt)

/-- SIGNAL: a write or a wrapping add; an address that does not translate or may not be written is error 0x04. -/
def State.signalPacket (s : State) (q : QueueId) (pkt : Packet) : State :=
  s.take q pkt 2 (fun k t =>
    match t.reachSpaceAs true k.root k.part (if pktOp pkt = 0 then .store else .atomic) (pktAddr pkt) 8 with
    | .ok p =>
      if !t.dispFree p then s
      else
        let x := if pktOp pkt = 0 then (dw pkt 2).toNat else (t.readList p.addr + (dw pkt 2).toNat) % 2 ^ 64
        ((t.started q none).dispWrite p x).completed q k.rptr
    | _ => t.queueError q 4)
def execSignalPacket (q : QueueId) (pkt : Packet) (s : State) : Out := agent (s.signalPacket q pkt)

/-- The condition of a WAITSIG on the word it reads. -/
def waitMet (pkt : Packet) (x : W64) : Bool :=
  let m := x &&& dw pkt 3
  let v := dw pkt 2
  match pktOp pkt with
  | 0 => m == v
  | 1 => m != v
  | 2 => v.toNat ≤ m.toNat
  | _ => m.toNat < v.toNat

/-- The word of a WAITSIG. -/
def State.waitWord (s : State) (k : Queue) (pkt : Packet) : Option W64 :=
  match s.reachSpaceAs true k.root k.part .load (pktAddr pkt) 8 with
  | .ok p => some (BitVec.ofNat 64 (s.readList p.addr))
  | _ => none

/-- The word of a WAITSIG may be read now. -/
def State.waitFree (s : State) (k : Queue) (pkt : Packet) : Bool := s.dispReadable k.root k.part (pktAddr pkt).toNat 8

/-- WAITSIG starts: complete at once when its condition holds, else it holds the queue. -/
def State.waitsig (s : State) (q : QueueId) (pkt : Packet) : State :=
  s.take q pkt 3 (fun k u =>
    match u.waitWord k pkt with
    | none => u.queueError q 4
    | some x =>
      let t := u.started q none
      if !u.waitFree k pkt then s
      else if waitMet pkt x then t.completed q k.rptr else t.modQueue q (fun k => { k with head := some pkt, waiting := true }))
def execWaitsig (q : QueueId) (pkt : Packet) (s : State) : Out := agent (s.waitsig q pkt)

/-- WAITSIG rereads its word once nothing holds the line; one that faults by then has performed nothing, and RPTR is back at its start. -/
def State.waitsigReread (s : State) (q : QueueId) : State :=
  let k := s.queue q
  match k.head with
  | none => s
  | some pkt =>
    if pktType pkt != 3 then s
    else
      let n := k.rptr - 1
      match s.waitWord k pkt with
      | none =>
        (s.modQueue q (fun k =>
          { k with rptr := n, open_ := k.open_.filter (fun e => e.1 != n), head := none, waiting := false })).queueError q 4
      | some x =>
        if s.waitFree k pkt && waitMet pkt x then
          (s.modQueue q (fun k => { k with head := none, waiting := false })).completed q n
        else s
def execWaitsigReread (q : QueueId) (s : State) : Out := agent (s.waitsigReread q)

end Sys2Proof.Machine
end

