-- ==== Sys2Proof/Machine/Launch.lean ====
section
/-! DEFINITION. LAUNCH: its admission, what a launch sets (R24 to R26, R346, R355, R357, R467), and the end of a task (R360 to
R363). -/

namespace Sys2Proof.Machine

/-! ## What a launch sets -/

/-- GROUP_SET of a list of groups (R27, R28). -/
def groupSetOf (l : List GroupId) : W64 :=
  (l.zip (List.range 4)).foldl (fun (g : W64) (e : GroupId × Nat) =>
    let id : W64 := e.1.setWidth 64
    g ||| id <<< (8 * e.2) ||| (1 : W64) <<< (32 + e.2)) 0

/-- What all the cores of a launch have in common. -/
structure LaunchOf where
  id : W32
  queue : Queue
  pkt : Packet
  prio : Nat
  wanted : Wanted

/-- Stream registers of which every field is zero, as R25 leaves them for another protection domain. -/
def zeroStreams : Tab Stream := (List.range 16).map (fun n => (n, { blklog := 0 }))

/-- What a launch sets in a resident context (R26, R355), its other registers zero, as R25 leaves those that it does not inherit. -/
def LaunchOf.res (l : LaunchOf) (tci base : Nat) (save : VAddr) : Res :=
  let p := l.pkt
  { occ := true, fresh := true, task := l.id, tci := BitVec.ofNat 12 tci, ncores := BitVec.ofNat 13 l.wanted.total
    groupSet := groupSetOf (l.wanted.groupsOf tci), root := lRoot p, pdid := lPdid p, part := l.queue.part
    prio := BitVec.ofNat 3 l.prio, cls := BitVec.ofNat 2 (pktClass p), req := BitVec.ofNat 2 (pktClass p)
    swtab := lSwtab p, spBase := base, spSize := lScratch p, tiles := lTiles p
    primary := { (({} : Ctx).putS false 1 ((lArgs p).setWidth 64)) with pc := lEntry p, run := .live }
    streams := zeroStreams, ternTrap := lTrap p, yieldBound := lBound p, saveBase := save }

/-- CONTEXT_EVICTION (R354): the inactive context leaves its slot with its scratchpad, whose bytes stay in memory at a place
of their own. -/
def State.evict (s : State) (c : CoreId) (r : Slot) : State :=
  let x := s.res c r
  let n := s.launched
  let base := 2 ^ 46 * (n + 1)
  let s := (s.moveBytes (coreBase c + x.spBase) (coreBase c + base) x.spSize).reseat c r (.out n)
  let s := s.modCore c (fun k => ((k.keepPrev r).setRes r {}).setRes (.out n) { x with place := .evicted, spBase := base })
  s.modTask x.task (fun t => { t with cores := t.cores.map (fun e => if e.1 == c then (c, .out n) else e) })

/-- A save area of 1 MiB for a context of a core, in SLICE pages of its die (R335; which one is log 11's). -/
def State.saveArea (s : State) (c : CoreId) : VAddr :=
  let k := (s.die (dieOf c)).stk
  let top := if k.stage.toNat / 8192 = 0 then k.capacity else Nat.min k.capacity (k.stage.toNat / 8192)
  let base := stkBase + (dieOf c).toNat * 0x100000000
  let used := (s.allRes.filter (fun e => e.2.2.occ)).map (fun e => e.2.2.saveBase.toNat)
  let free := ((List.range top).map (fun n => base + 2 ^ 20 * n)).filter (fun a => !used.contains a)
  BitVec.ofNat 48 (free.getD (Config.saveIndex c s.launched % free.length) base)

/-- The image reaches offset 0 of the allocation. Of the rest, a page that another protection domain held last reads 0, and so does
all of it after an occupant of another domain (R467). -/
def State.fillScratch (s : State) (c : CoreId) (base size : Nat) (same : Bool) (dom : BitVec 20) (image : List Byte) : State :=
  let stale := (List.range (size / 4096)).filter (fun i => !same || (s.core c).spDom.get none (base / 4096 + i) != some dom)
  let s := s.writeList (stale.flatMap (fun i => (span (coreBase c + base + 4096 * i) 4096).map (fun a => (a, 0))))
  (s.writeList ((span (coreBase c + base) image.length).zip image)).modCore c (fun k => k.ownPages base size dom)

/-- The launch on one core. It starts at once where the core's other slot is free, with the registers that the occupant active last
has left (log 35); else the context waits, saved (R355), and takes them over when it starts. -/
def State.launchOn (s : State) (l : LaunchOf) (c : CoreId) (kind : Nat) (r : Slot) (tci : Nat) : State :=
  let s := if kind = 2 then s.evict c r else s
  let k := s.core c
  let prev := k.last
  let pos := k.positions none (lScratch l.pkt)
  let base := pos.getD (Config.placement (s.launched * 4096 + c.toNat) % pos.length) 0
  let x := l.res tci base (s.saveArea c)
  let s := s.fillScratch c base (lScratch l.pkt) (prev.domain == x.domain) x.domain l.wanted.image
  if (k.res (otherSlot r)).occ then
    ((s.modCore c (fun k => (k.keepPrev r).setRes r { x with place := .saved, blank := true })).writeRegions c r).writeImage c r
  else
    (s.modCore c (fun k =>
      { k.setRes r (x.inherit prev) with act := r, prev := none, hRun := 0, atYield := false, preempt := none }.shareStore)).resetDivs c

/-- The cores of a launch that join a group (R357). -/
def LaunchOf.members (l : LaunchOf) (cores : List CoreId) (g : GroupId) : List CoreId :=
  let ds := l.wanted.descs.filter (fun d => d.gid == g)
  ((cores.zip (List.range cores.length)).filter (fun e => ds.any (fun d => d.has e.2))).map (fun e => e.1)

/-- The Armature entry of a group at a launch (R357); arrivals that peers sent before it count (log 32). -/
def LaunchOf.arm (l : LaunchOf) (own : PeerId) (cores : List CoreId) (g : GroupId) (old : Arm) : Arm :=
  let ds := l.wanted.descs.filter (fun d => d.gid == g)
  let peers := (ds.getLast?.map (fun d => d.peers)).getD 0
  let members := l.members cores g
  let count := fun (d : Nat) => (members.filter (fun c => (dieOf c).toNat == d)).length
  { v := true, owner := l.id, peers := peers ||| (1#64 <<< own.toNat)
    dies := (List.range 16).foldl (fun (m : BitVec 16) d => if 0 < count d then m ||| (1#16 <<< d) else m) 0
    expect := (List.range 16).foldl (fun (t : Tab Nat) d => t.put 0 d (count d)) ([] : Tab Nat)
    came := if old.v then [] else old.came }

/-- An identifier that no running task has, the first at or after the dispatcher's own (R74, log 10). -/
def State.freshId (s : State) : W32 :=
  let x := Config.taskId s.launched
  let l := (List.range (s.tasks.length + 1)).map (fun n => x + BitVec.ofNat 32 n)
  (l.find? (fun i => (s.task? i).isNone)).getD x

/-- Admission of a launch whose cores are chosen: the grants, the Armature, the task, and every core (R354, R355, R357). -/
def State.admitTask (s : State) (q : QueueId) (p : Packet) (prio : Nat) (w : Wanted) (chosen : List (CoreId × Nat × Slot)) : State :=
  let k := s.queue q
  let l : LaunchOf := { id := s.freshId, queue := k, pkt := p, prio := prio, wanted := w }
  let cores := chosen.map (fun e => e.1)
  let zones := zonesOf chosen
  let groups := w.descs.foldl (fun g d => if g.contains d.gid then g else g ++ [d.gid]) []
  let t : Task :=
    { id := l.id, queue := q, packet := k.rptr, part := k.part, root := k.root, pdid := lPdid p, prio := BitVec.ofNat 3 prio
      cls := BitVec.ofNat 2 (pktClass p), signal := lSignal p, cores := chosen.map (fun e => (e.1, e.2.2)), zones := zones
      groups := groups, raceCfg := (s.part k.part).raceCfg }
  let s := { s with tasks := s.tasks ++ [t] }
  let s := zones.foldl (fun (s : State) z => s.rezone z) s
  let s := groups.foldl (fun (s : State) g => (s.modArm g (l.arm s.peer cores g)).markRoutes g (l.members cores g)) s
  let s := (chosen.zip (List.range chosen.length)).foldl (fun (s : State) e => s.launchOn l e.1.1 e.1.2.1 e.1.2.2 e.2) s
  let s := { s with launched := s.launched + 1 }
  (s.started q (some l.id)).modQueue q (fun k => { k with head := none, waiting := false })

/-! ## Completion records (R363) -/

/-- A completion record can be performed now, or its write faults. -/
def State.recordReady (s : State) (root : BitVec 34) (p : PartId) (signal : VAddr) : Bool :=
  match s.reachSpaceAs true root p .store (signal.setWidth 64) 8 with
  | .ok x => s.dispFree x
  | _ => true
def recordOf (task : W32) (cause status : Byte) : W64 := task ++ 0#8 ++ cause ++ 0#8 ++ status
/-- COMPLETION_RECORD: a system-scope release; one whose write faults is dropped and logged (R366). -/
def State.writeRecord (s : State) (q : QueueId) (root : BitVec 34) (p : PartId) (signal : VAddr) (x : W64) : State :=
  match s.reachSpaceAs true root p .store (signal.setWidth 64) 8 with
  | .ok r => s.dispWrite r x.toNat
  | _ => s.dispatchLog p 1 q.toNat (x.extractLsb' 32 32).toNat signal.toNat (x.setWidth 8).toNat

/-- A LAUNCH is refused (R353): its record has STATUS 6 and TASK 0, and the packet is complete. -/
def State.refuse (s : State) (q : QueueId) (p : Packet) : State :=
  let k := s.queue q
  if !s.recordReady k.root k.part (lSignal p) then s
  else
    let s := s.writeRecord q k.root k.part (lSignal p) (recordOf 0 0 6)
    let s := s.dispatchLog k.part 4 q.toNat 0 (lSignal p).toNat 6
    ((s.started q none).modQueue q (fun k => { k with head := none, waiting := false })).completed q k.rptr

/-- A LAUNCH is refused, admitted, or waits for what it needs (R351 to R354). -/
def State.tryLaunch (s : State) (q : QueueId) (p : Packet) : State :=
  let s := (lDieList p).foldl State.mapSpares s
  match s.verdict q p with
  | .refused => s.refuse q p
  | .waits => s.modQueue q (fun k => { k with head := some p, waiting := true })
  | .admitted w l => s.admitTask q p ((s.queue q).prioOf (some p)) w l

def execLaunch (q : QueueId) (p : Packet) (s : State) : Out := agent (s.take q p 1 (fun _ s => s.tryLaunch q p))
/-- The lead tries a waiting LAUNCH again (R352), when the dispatcher of its queue serves it (R351). -/
def State.retryLaunch (s : State) (q : QueueId) : State :=
  match (s.queue q).head with
  | some p => if pktType p = 1 && s.ready && s.serves (s.queue q).homedie == some q.toNat then (s.markServed q).tryLaunch q p else s
  | none => s
def execAdmissionRetry (q : QueueId) (s : State) : Out := agent (s.retryLaunch q)

/-! ## The end of a task (R360 to R363, R370) -/

/-- Steps 1 and 2 of R362 in one context: it stops, its shadow buffer is discarded, its engine performs MABORT. -/
def Res.stopTask (r : Res) : Res :=
  let halt := fun (x : Ctx) => { x with run := if x.run == .live then .gone else x.run, shadow := [], rep := none }
  { r with
    primary := halt r.primary, h1 := halt r.h1, h2 := halt r.h2, inflight := [], waiters := [], pend := [], fences := []
    arrivals := [], withheld := [], heldPosts := [], heldArrivals := [], faults := [], denied := []
    eng := { r.eng with queue := [], call := none, loops := [], fa0 := none, fa1 := none, fb0 := none, fb1 := none
                        stopped := false, faulted := false } }

/-- Step 3: transfers stop; those whose frames have left await their acknowledgements, and post no flag any longer. -/
def State.stopXfers (s : State) (c : CoreId) (r : Slot) : State :=
  let s := s.modFab (fun f => { f with out := f.out.filter (fun o =>
    !((o.seq.isNone || o.acked) && (match o.xfer with | some x => x.1 == c && x.2.1 == r | none => false))) })
  let keep := fun (n : Nat) (x : Xfer) => x.st == .sent && !s.acked c r n
  let stop := fun (e : Nat × Option Xfer) => (e.1, e.2.map (fun y => { y with stopped := true }))
  s.modRes c r (fun x =>
    { x with xfers := (x.xfers.filter (fun e => match e.2 with | some y => keep e.1 y | none => false)).map stop })

/-- A core of a task still holds the task's context in its slot. -/
def State.holds (s : State) (t : Task) (e : CoreId × Slot) : Bool :=
  (s.res e.1 e.2).task == t.id && (s.res e.1 e.2).occ

/-- Steps 1 to 3 of R362: the loads of the task are dropped, its posted writes go on. -/
def State.stopTask (s : State) (t : Task) : State :=
  (t.cores.filter (s.holds t)).foldl (fun (s : State) e =>
    let s := (s.modRes e.1 e.2 Res.stopTask).unpin e.1 e.2
    let s := s.stopXfers e.1 e.2
    { s with reqs := s.reqs.filter (fun q => !(q.core == e.1 && q.slot == e.2 && (q.kind == .load || !q.isWrite)))
             shoots := s.shoots.filter (fun x => !(x.core == e.1 && x.slot == e.2)) }) s

/-- No write of a task is outstanding, and no acknowledgement (R362 step 4, R363). -/
def State.taskQuiet (s : State) (t : Task) : Bool :=
  t.cores.all (fun e =>
    (s.res e.1 e.2).task != t.id || (s.drained e.1 e.2 && (s.res e.1 e.2).xfers.all (fun x => x.2.isNone)))

/-- An expert's blocks and rows without those of a task: released as far as its blocks are no longer held (R369, R370). -/
def Landing.without (l : Landing) (t : W32) : Landing :=
  let pages := l.pages.filter (fun b => b.2.2 != t)
  let open_ := pages.any (fun b => b.1 == l.block)
  { l with
    pages := pages, waiting := l.waiting.filter (fun w => w.task != t)
    rows := if open_ then l.rows else if l.pages.any (fun b => b.1 == l.block) then none else l.rows
    released := match pages with | b :: _ => b.1 | [] => if l.pages.isEmpty then l.released else l.sealed }

/-- The pages of a task's open and sealed blocks return to the pool, the rows that wait for it are discarded (R370), and other rows
that wait land while blocks open for them (R368). -/
def State.returnPages (s : State) (t : Task) : State :=
  let pages := s.lands.flatMap (fun e => (e.2.pages.filter (fun b => b.2.2 == t.id)).map (fun b => b.2.1))
  let s := s.modPart t.part (fun k => { k with pool := k.pool ++ pages })
  let s := { s with lands := s.lands.map (fun (e : Nat × Landing) => (e.1, e.2.without t.id)) }
  s.settleRows t.part

/-- R360: slots, allocations, evicted contexts, group entries with their route marks, and coolant grants are released. -/
def State.release (s : State) (t : Task) : State :=
  let s := t.cores.foldl (fun (s : State) e =>
    s.modCore e.1 (fun k =>
      let k := { k with kept := k.kept.filter (fun x => x.1 != t.id), evicted := k.evicted.filter (fun x => x.2.task != t.id) }
      match e.2 with
      | .out _ => k
      | r =>
        if (k.res r).task == t.id && (k.res r).occ then
          { k.setRes r { k.res r with occ := false, left := true, tiles := 0, place := .here, machine := none } with
            preempt := none, atYield := false }
        else k)) s
  let s := t.groups.foldl (fun (s : State) g =>
    if (s.arm g).owner == t.id && (s.arm g).v then ((s.breakGroup g).modArm g (fun _ => {})).unmark g else s) s
  let s := s.returnPages t
  let s := { s with tasks := s.tasks.filter (fun x => x.id != t.id) }
  t.zones.foldl (fun (s : State) z => s.rezone z) s

/-- A machine trap is still to reach a core of the task (R334). -/
def State.trapPending (s : State) (t : Task) : Bool :=
  t.cores.any (fun e =>
    s.holds t e && (s.res e.1 e.2).machine.isSome && (s.core e.1).runs && (s.res e.1 e.2).primary.run == .live)

/-- The lead dispatcher ends a task: R362's steps, then the release, the record and the log. -/
def State.taskEnd (s : State) (id : W32) : State :=
  match s.task? id with
  | none => s
  | some t =>
    let finish := fun (s : State) (status cause : Byte) =>
      if !s.taskQuiet t || !s.recordReady t.root t.part t.signal then s
      else
        let s := s.release t
        let s := s.writeRecord t.queue t.root t.part t.signal (recordOf id cause status)
        let s := if status = 1 then s else s.dispatchLog t.part 5 t.queue.toNat id.toNat t.signal.toNat status.toNat
        s.completed t.queue t.packet
    match t.ending with
    | some e =>
      if e.status = 5 && s.trapPending t then s
      else finish (s.stopTask t) e.status (if 3 ≤ e.status.toNat then e.cause else 0)
    | none => if t.cores.all (fun e => t.exited.contains e.1) then finish s 1 0 else s
def execTaskEnd (id : W32) (s : State) : Out := agent (s.taskEnd id)

end Sys2Proof.Machine
end

