-- ==== Sys2Proof/Machine/Fence.lean ====
section
/-! DEFINITION. Fencing and uncorrectable errors (R334, R438, R455, R456). -/

namespace Sys2Proof.Machine

/-- The tasks that have a context on a core end with HW_ERROR (R334). -/
def State.failTasksOf (s : State) (c : CoreId) : State :=
  ((s.core c).all.filter (fun e => e.2.occ)).foldl (fun (s : State) e => s.endTask e.2.task 4 cHw 1) s

/-- Every spare of the core's cluster is in use, or will be by cores fenced before it (R457). -/
def State.noSpare (s : State) (c : CoreId) : Bool :=
  let cl := c.toNat % 256 / 64
  let others := ((List.range 64).map (fun n => BitVec.ofNat 12 (c.toNat / 64 * 64 + n))).filter (fun d =>
    d != c && (s.core d).fenced && !(s.core d).absent)
  2 ≤ (s.die (dieOf c)).spares.get 0 cl + others.length

/-- A fenced core issues nothing further, and its tasks end (R334, R455); with both spares of its cluster used it is absent from then
on (R457). -/
def State.coreFence (s : State) (c : CoreId) : State :=
  let gone := s.noSpare c
  (s.modCore c (fun k => { k with fenced := true, absent := k.absent || gone })).failTasksOf c
def execCoreFence (c : CoreId) (s : State) : Out := agent (s.coreFence c)

/-- The die that keeps an Armature entry (R356). -/
def Arm.home (a : Arm) : Option Nat := a.dieList.head?

/-- The compute dies that carry a host link (R450). -/
def linkDies : List Nat := [5, 6, 9, 10]

/-- A host link carries no transaction any longer, and firmware holds the doorbells of its partitions (R454). -/
def State.holdLink (s : State) (l : Nat) : State :=
  { s with parts := s.parts.map (fun e =>
      (e.1, if e.2.cfg.getLsbD 63 && (e.2.cfg.extractLsb' 61 2).toNat = l then { e.2 with held := true } else e.2)) }

/-- A fenced die: its cores halt, every task with a core on it ends, its ports go DOWN, its Armature entries turn BROKEN, and the
partitions of its host link are to be reassigned (R456). -/
def State.dieFence (s : State) (d : DieId) : State :=
  let s := match linkDies.idxOf? d.toNat with
    | some l => s.holdLink l
    | none => s
  let s := s.modDie d (fun k => { k with fenced := true, linkFenced := k.linkFenced || linkDies.contains d.toNat })
  let s := { s with cores := (List.range 256).foldl (fun t n =>
    t.mod {} (d.toNat * 256 + n) (fun (k : Core) => { k with fenced := true })) s.cores }
  let s := (s.tasks.filter (fun t => t.cores.any (fun e => dieOf e.1 == d))).foldl
    (fun (s : State) t => s.endTask t.id 4 cHw 1) s
  let s := [2 * d.toNat, 2 * d.toNat + 1].foldl (fun (s : State) p =>
    if (s.fab.port p).state == 0 then s else s.portFails p) s
  (s.arms.filter (fun e => e.2.v && e.2.home == some d.toNat)).foldl
    (fun (s : State) e => s.breakGroup (BitVec.ofNat 8 e.1)) s
/-- A die's bridge fails: every die of the package is fenced (R456). -/
def State.bridgeFails (s : State) : State := (List.range 16).foldl (fun (s : State) n => s.dieFence (BitVec.ofNat 4 n)) s
def execDieFence (d : DieId) (s : State) : Out := agent (s.dieFence d)

/-! ## The map of a die's stacked memory (R384 to R386) -/

/-- The bits of a map, bit layer x 4,096 + bank set where the bank is live. -/
def liveBytes (dead : Tab Bool) : List Byte :=
  (List.range 2048).map (fun i => (List.range 8).foldl (fun (b : Byte) j =>
    if dead.get false (8 * i + j) then b else b ||| (1#8 <<< j)) 0)
/-- STK_CAP (R384). -/
def Stk.cap (k : Stk) : W64 := 0#16 ++ k.seq ++ 0#14 ++ k.state ++ 0#3 ++ BitVec.ofNat 13 (minLive k.dead)

/-- The die rewrites its mirror page, which lies in its stacked window (R384). -/
def State.mirror (s : State) (d : DieId) : State :=
  let k := (s.die d).stk
  let a := k.mirror.toNat * 4096
  if !inStk a || stkDie a != d then s
  else
    let bytes := leBytes 8 k.cap.toNat ++ List.replicate 2040 (0 : Byte) ++ liveBytes k.dead
    s.writeList ((span a 4096).zip bytes)
def State.modStk (s : State) (d : DieId) (f : Stk → Stk) : State := s.modDie d (fun x => { x with stk := f x.stk })

/-- A map is proposed: at once, or after the re-stripe under way (R386 step 1). -/
def State.propose (s : State) (d : DieId) (m : Tab Bool) : State :=
  if (s.die d).stk.state = 2 then s.modStk d (fun k => { k with waiting := some m })
  else
    let s := (s.modStk d (fun k => { k with pdead := m, state := 1 })).mirror d
    match s.dieOwner d with
    | some p => s.eventLog p 1 d.toNat
    | none => s

/-- The map that the next proposal changes. -/
def Stk.proposed (k : Stk) : Tab Bool := match k.waiting with | some m => m | none => if k.state = 0 then k.dead else k.pdead

/-! ## Uncorrectable errors -/

/-- An uncorrectable error raises the SRAM rail by 20 mV at once, not above MAX, for 10 windows (R438). -/
def Die.railUp (k : Die) : Die :=
  { k with sramSet := if k.sramMax.toNat < k.sramSet.toNat + 20 then (if k.sramMax.toNat < k.sramSet.toNat then k.sramSet else k.sramMax)
                      else k.sramSet + 20
           sramHold := 10 }

/-- Count an uncorrectable error at its die, and mark the bank of a line in stacked SRAM, which is proposed for retirement (R385, R438,
R454). -/
def State.noteError (s : State) (pa : Nat) : State :=
  let line := s.sramLine pa
  let d := s.homeDie pa
  let s := s.modDie d (fun k =>
    let k := { k with ucCount := if k.ucCount = 0xFFFF then k.ucCount else k.ucCount + 1, ucAddr := BitVec.ofNat 46 pa }
    if line.isSome || inSp pa then k.railUp else k)
  match line with
  | some p =>
    let k := (s.die d).stk
    let b := k.bankOf p
    (s.modStk d (fun k => { k with bad := if k.bad.contains b then k.bad else k.bad ++ [b] })).propose d (k.proposed.put false b true)
  | none => s

/-- A group's LS or VS access consumes it: the instruction at a position of the group traps HW_ERROR, and the group does not commit
(R334). -/
def State.groupConsumes (s : State) (c : CoreId) (x : CtxId) (pos : BitVec 4) (pa : BitVec 46) : State :=
  let k := s.core c
  let r := k.res k.act
  let y := r.ctx x
  if !r.occ || r.place != .here || y.run != .live || k.halted || !k.runs then s
  else s.takeTrapAt c k.act x { cause := cHw, tval := pa.setWidth 64 } false y.pc (s.nextOf c k.act x) pos.toNat

/-- The running routine of a resident's engine consumes it: an asynchronous fault with CODE 0x21 (R330, R334). -/
def State.engineConsumes (s : State) (c : CoreId) (r : Slot) : State :=
  let u := { s with cur := { s.cur with core := c, slot := r, ctx := .primary } }
  match u.eng.call with
  | some k => if u.eng.stopped || u.eng.faulted then s else { u.engFault 0x21 5 0 0 k.pc with cur := s.cur }
  | none => s

/-- A transfer that has not read its bytes yet consumes it (R330, R334). -/
def State.xferConsumes (s : State) (c : CoreId) (r : Slot) (n : Nat) : State :=
  match (s.res c r).xfers.get none n with
  | some t => if t.st == .live then s.failXfer c r n { cause := 0x21, sub := 5, va := 0, stream := 0, landed := t.landedNow } else s
  | none => s

/-- An uncorrectable error is read: the access that consumes it meets HW_ERROR (R334). -/
def State.uncorrectable (s : State) (c : CoreId) (x : Consumer) (pa : BitVec 46) : State :=
  let s := s.noteError pa.toNat
  match x with
  | .group x pos => s.groupConsumes c x pos pa
  | .engine r => s.engineConsumes c r
  | .xfer r n => s.xferConsumes c r n.toNat
def execUncorrectableError (c : CoreId) (x : Consumer) (pa : BitVec 46) (s : State) : Out := agent (s.uncorrectable c x pa)

end Sys2Proof.Machine
end

