-- ==== Sys2Proof/Machine/Translate.lean ====
section
/-! DEFINITION. Walks and TLBs (R374, R375), TLBI and shootdowns (R376 to R382), the stacked memory's map and re-stripe (R384 to
R387), and the background tester (R388, R389). -/

namespace Sys2Proof.Machine

/-! ## Walks -/

/-- A translation enters a TLB of n entries; the oldest leaves. -/
def tlbAdd (n : Nat) (l : List TlbE) (e : TlbE) : List TlbE := (l.filter (fun x => x != e)).drop (l.length + 1 - n) ++ [e]

/-- Walk k of a die ends, once the lines of its tables may be reached (R371): its translation goes to the TLBs of every merged
requester, or its fault to each of them. The first 256 of the die's walks run (R375). -/
def State.walkComplete (s : State) (d : DieId) (k : Nat) : State :=
  match (s.die d).walks[k]? with
  | none => s
  | some w =>
    if 256 ≤ k || !s.tablesFree w.root (w.page * 2 ^ 16) then s
    else
      let s := (s.walkHomes w.root (w.page * 2 ^ 16)).modDie d (fun x => { x with walks := x.walks.eraseIdx k })
      match s.walk w.root (w.page * 2 ^ 16) with
      | .leaf pte log =>
        let e : TlbE := { root := w.root, page := w.page * 2 ^ 16 / 2 ^ log, log := log, pte := pte, part := w.part }
        w.cores.foldl (fun (s : State) c =>
          (s.modCore c (fun k => { k with tlb := tlbAdd 64 k.tlb e })).modDie d
            (fun x => { x with ctlb := x.ctlb.mod [] (clusterOf c) (fun l => tlbAdd 4096 l e) })) s
      | .bad f => w.cores.foldl (fun (s : State) c =>
          s.modCore c (fun k => { k with walkFaults := k.walkFaults ++ [(w.root, w.page, f.toNat)] })) s
def execWalkComplete (d : DieId) (k : Nat) (s : State) : Out := agent (s.walkComplete d k)

/-! ## TLBI (R377 to R382) -/

/-- The entry is one that the TLBI removes. -/
def Shoot.removes (x : Shoot) (e : TlbE) : Bool :=
  match x.kind.toNat with
  | 1 => e.root == x.root
  | 2 => e.part == x.part
  | 4 => false
  | _ => x.va.toNat < 2 ^ 48 && e.covers x.root x.va.toNat

/-- An access that issued before the entries left, and so may hold a translation the TLBI removes. -/
def State.usesRemoved (s : State) (x : Shoot) (q : Req) : Bool :=
  let r := s.res q.core q.slot
  (match x.removed with | some n => q.serial < n | none => true) && r.part == x.part &&
  (match x.kind.toNat with
   | 2 => true
   | 1 => r.root == x.root
   | 4 => false
   | _ => r.root == x.root && q.pieces.any (fun p => p.va.toNat / 2 ^ 30 == x.va.toNat / 2 ^ 30))

/-- The partition's dies. -/
def State.ownDies (s : State) (p : PartId) : List Nat := (List.range 16).filter (fun d => s.dieOwner (BitVec.ofNat 4 d) == some p)

/-- The die's OFU holds what the TLBI acts on: RWFLUSH acts on the package's OFUs, the other kinds on the partition's (R377, R378). -/
def State.flushes (s : State) (x : Shoot) (d : DieId) : Bool := x.kind = 4 || s.dieOwner d == some x.part

/-- The removal of R378 from the core and cluster TLBs of the partition, and from OFU caches. -/
def State.removeEntries (s : State) (x : Shoot) : State :=
  let mine := fun (n : Nat) => x.kind != 4 && s.dieOwner (BitVec.ofNat 4 n) == some x.part
  { s with
    cores := s.cores.map (fun e => (e.1, if mine (e.1 / 256) then
      { e.2 with tlb := e.2.tlb.filter (fun t => !x.removes t), walkFaults := [] } else e.2))
    dies := s.dies.map (fun e => (e.1,
      { e.2 with
        rwt := if s.flushes x (BitVec.ofNat 4 e.1) then [] else e.2.rwt
        ctlb := if mine e.1 then e.2.ctlb.map (fun c => (c.1, c.2.filter (fun t => !x.removes t))) else e.2.ctlb })) }

/-- REPLICA removes the replicas of the physical page, RCINIT sets SCOPE to 7 in its sectors; neither where the walk finds no
leaf (R377, R381, R382). -/
def State.pageEffect (s : State) (x : Shoot) : State :=
  match s.walk x.root x.va.toNat with
  | .bad _ => s
  | .leaf pte log =>
    let a := ptePa pte
    if x.kind = 3 then
      { s with replicas := s.replicas.filter (fun l => !(a ≤ l * 128 && l * 128 < a + 2 ^ log)) }
    else if x.kind = 5 then
      { s with patina := s.patina.filterMap (fun e =>
          if a ≤ e.1 * 64 && e.1 * 64 < a + 2 ^ log then
            let y := e.2 ||| patinaReset
            if y = patinaReset then none else some (e.1, y)
          else some e) }
    else s

/-- A FENCE of the issuing core before the TLBI is not complete: the stores that it orders, the table's entry among them, come
before the TLBI takes effect (R178, R380). -/
def State.tlbiFenced (s : State) (x : Shoot) : Bool :=
  (s.core x.core).all.any (fun e => e.2.fences.any (fun f => f.serial < x.serial))

/-- The peer of a frame cannot be reached now; its frames wait (R379). -/
def State.frameStuck (s : State) (p : PartId) (o : OutFrame) : Bool :=
  o.frame.ddom == s.domain && s.shootUnreachable p o.frame.dst.toNat

/-- The entries leave; the frames that carry a translation of those OFU caches are marked for the TLBI to wait for, but those to a peer
that is not reached wait and are translated afresh (R378, R379). -/
def State.tlbiRemove (s : State) (x : Shoot) : State :=
  let s := s.removeEntries x
  let mine := fun (o : OutFrame) => translates o.frame.kind o.frame.cmd && !o.acked && s.flushes x (dieOf (tCore o.frame.cmd.source))
  let s := s.modFab (fun b => { b with out := b.out.map (fun o =>
    if mine o && !s.frameStuck x.part o then { o with tlbis := o.tlbis ++ [x.num] } else o) })
  let s := s.untell (fun o => mine o && s.frameStuck x.part o)
  { s with shoots := s.shoots.map (fun y => if y.num == x.num then { y with removed := some s.serial } else y), serial := s.serial + 1 }

/-- TLBI_COMPLETE: the entries leave first; then, when no access and no frame uses what left and no peer is still to answer, the
TLBI has its effect on the page and its context goes on (R378, R381). -/
def State.tlbiComplete (s : State) (n : Nat) : State :=
  match s.shoots.find? (fun x => x.num == n) with
  | none => s
  | some x =>
    if x.removed.isNone then if s.tlbiFenced x then s else s.tlbiRemove x
    else if !x.peers.isEmpty || s.reqs.any (s.usesRemoved x) || s.fab.out.any (fun o => !o.acked && o.tlbis.contains n) then s
    else
      let s := s.pageEffect x
      let s := { s with shoots := s.shoots.filter (fun y => y.num != n) }
      s.modCore x.core (fun k => k.mapRes (fun _ r => { r with tlbis := r.tlbis.filter (fun t => t.2 != n) }))
def execTlbiComplete (n : Nat) (s : State) : Out := agent (s.tlbiComplete n)

/-- A peer's shootdown: the remote-window translations of that package are removed, whole (R376, R378). It is acknowledged once
every frame sent through them has been. -/
def State.shootdownRequest (s : State) (t : PeerId) : State :=
  let s := { s with dies := s.dies.map (fun (e : Nat × Die) => (e.1, { e.2 with rwt := e.2.rwt.filter (fun x => !(x.1 == s.domain && x.2.1 == t)) })) }
  let uses := fun (o : OutFrame) => translates o.frame.kind o.frame.cmd && !o.acked && o.frame.ddom == s.domain && o.frame.dst == t
  (s.modFab (fun b =>
    { b with out := b.out.map (fun o => if uses o then { o with owed := true } else o)
             owed := if b.owed.contains t then b.owed else b.owed ++ [t] })).settleOwed
def execShootdownRequest (t : PeerId) (_kind : BitVec 3) (_page : VAddr) (_root : BitVec 34) (s : State) : Out :=
  agent (s.shootdownRequest t)

/-- A peer has answered, or is waited for no longer. -/
def State.peerDone (s : State) (n : Nat) (t : PeerId) : State :=
  { s with shoots := s.shoots.map (fun x => if x.num == n then { x with peers := x.peers.filter (fun y => y != t) } else x) }
def execShootdownAck (n : Nat) (t : PeerId) (s : State) : Out := agent (s.peerDone n t)

/-- A peer that has not answered within 8 rotations is marked stale; where its link is there, the handshake begins at once (R379). -/
def State.shootdownTimeout (s : State) (n : Nat) (t : PeerId) : State :=
  if s.shoots.any (fun x => x.num == n && x.peers.contains t && 8 ≤ (s.fab.rot - x.since).toNat) then
    ((s.peerDone n t).markStale t.toNat).rejoin t.toNat
  else s
def execShootdownTimeout (n : Nat) (t : PeerId) (s : State) : Out := agent (s.shootdownTimeout n t)

/-! ## Stacked memory (R384 to R387) -/

/-- BANK_RETIRE_PROPOSAL: a bank with an uncorrectable error, with more than 1,024 corrected errors in a second, or whose layer has been
at 110 degrees for 100 ms is proposed for retirement; one retired for heat, below 95 degrees for 1 s, for its return (R385). Where none of
these holds nothing is proposed. -/
def State.bankProposal (s : State) (d : DieId) (bank : BitVec 14) (live : Bool) : State :=
  let k := (s.die d).stk
  let b := bank.toNat
  let meets := fun (n : Nat) => Config.bankMeets s.steps n d b
  if live then
    if k.heat.contains b && meets 2 then
      (s.modStk d (fun k => { k with heat := k.heat.filter (fun x => x != b) })).propose d (k.proposed.put false b false)
    else s
  else if k.bad.contains b || meets 0 then s.propose d (k.proposed.put false b true)
  else if meets 1 then
    (s.modStk d (fun k => { k with heat := if k.heat.contains b then k.heat else k.heat ++ [b] })).propose d (k.proposed.put false b true)
  else s
def execBankRetireProposal (d : DieId) (bank : BitVec 14) (live : Bool) (s : State) : Out :=
  agent (s.onceReady (fun s => s.bankProposal d bank live))
def execStkPropose (d : DieId) (s : State) : Out := agent (s.atReady (fun s => s.propose d (s.die d).stk.pdead))

/-- GO with PSEQ equal to SEQ starts the re-stripe of a proposal; any other is ignored (R386 steps 3 and 4). -/
def State.stkGo (s : State) (d : DieId) (pseq : BitVec 16) : State :=
  let k := (s.die d).stk
  if k.state = 1 && k.seq = pseq then (s.modStk d (fun k => { k with state := 2, target := k.pdead })).mirror d else s
def execStkGo (d : DieId) (pseq : BitVec 16) (s : State) : Out := agent (s.atReady (fun s => s.stkGo d pseq))

/-- A pinned line of the die's staging slice (R118, R386 step 5). -/
def State.pinnedOn (s : State) (d : DieId) : Bool :=
  s.homes.any (fun e => !e.2.pins.isEmpty && s.hbmStack (e.1 * 128) == d)

/-- The re-stripe ends: the new map is in force, SEQ goes up, and a proposal that waited follows (R386 step 6). A line keeps its
address and its value (R387). -/
def State.restripeComplete (s : State) (d : DieId) : State :=
  let k := (s.die d).stk
  if k.state != 2 || s.pinnedOn d then s
  else
    let s := (s.modStk d (fun k =>
      { k with dead := k.target, seq := k.seq + 1, state := 0, waiting := none
               bad := k.bad.filter (fun b => !k.target.get false b) })).mirror d
    let s := match k.waiting with
      | some m => s.propose d m
      | none => s
    s.settleAllRows
def execRestripeComplete (d : DieId) (s : State) : Out := agent (s.restripeComplete d)

/-! ## The tester (R388, R389) -/

/-- The core of a column of a die. -/
def coreOfColumn (d : DieId) (col : Byte) : Option CoreId :=
  ((List.range 256).map (fun n => BitVec.ofNat 12 (d.toNat * 256 + n))).find? (fun c => columnOf c == col)

/-- The tester visits the next column bus: a faulty lane takes a spare, and a bus with none left fences its column's core. -/
def State.testerVisit (s : State) (d : DieId) (faulty spareLeft : Bool) : State :=
  let k := (s.die d).stk
  if !k.testEn || k.state = 2 then s
  else
    let s := s.modStk d (fun k =>
      { k with testBus := k.testBus + 1
               testLanes := if faulty && spareLeft && k.testLanes != 0xFF then k.testLanes + 1 else k.testLanes })
    if faulty && !spareLeft then
      match coreOfColumn d k.testBus with
      | some c => s.coreFence c
      | none => s
    else s
def execTesterBusVisit (d : DieId) (faulty spareLeft : Bool) (s : State) : Out := agent (s.testerVisit d faulty spareLeft)

end Sys2Proof.Machine
end

