-- ==== Sys2Proof/Machine/Power.lean ====
section
/-! DEFINITION. Clocks, power and coolant: divisor requests and switches (R425 to R433), stall samples and levels (R434 to R436),
the SRAM rail (R438), valves, sensors and dry channels (R439 to R446). -/

namespace Sys2Proof.Machine

/-! ## Rail and divisors (R426, R428 to R433) -/

/-- The minimum rail voltage of a divisor, in mV (R428). -/
def vmin (div : Nat) : Nat :=
  match div with
  | 3 => 900
  | 4 => 780
  | 5 => 720
  | 6 => 680
  | _ => 620

/-- The divisors with one engine's changed, or all four (none). -/
def Divs.set (d : Divs) (e : Option (BitVec 2)) (n : Nat) : Divs :=
  match e.map BitVec.toNat with
  | none => { ctl := n, mat := n, vec := n, cpy := n }
  | some 0 => { d with ctl := n }
  | some 1 => { d with mat := n }
  | some 2 => { d with vec := n }
  | some _ => { d with cpy := n }
def Divs.one (d : Divs) (e : Option (BitVec 2)) : Nat :=
  match e.map BitVec.toNat with
  | some 0 => d.ctl
  | some 1 => d.mat
  | some 2 => d.vec
  | some _ => d.cpy
  | none => Nat.max (Nat.max d.ctl d.mat) (Nat.max d.vec d.cpy)

/-- The rail's setpoint for divisors (R428). -/
def setpoint (vfloor : Nat) (d : Divs) : Nat :=
  Nat.max vfloor (Nat.max (Nat.max (vmin d.ctl) (vmin d.mat)) (Nat.max (vmin d.vec) (vmin d.cpy)))
def State.setpointOf (s : State) (c : CoreId) (d : Divs) : Nat := setpoint (s.die (dieOf c)).vfloor.toNat d

/-- The fastest divisor of a level (R426). -/
def fastest (level : BitVec 2) : Nat := if level = 2 then 3 else 4

/-- What a CLKDIV is answered: granted with no change, denied for a reason, or granted (R430). -/
inductive ClkAnswer where
  | same
  | denied (why : BitVec 3)
  | granted
deriving DecidableEq, Repr

/-- The decision table of R430. -/
def State.clkAnswer (s : State) (c : CoreId) (q : ClkReq) : ClkAnswer :=
  let k := s.core c
  let z := s.zone (zoneOf c)
  let d := s.die (dieOf c)
  -- a dry-channel sequence denies every CLKDIV, one that changes nothing among them (R446; DEDUCED, log 77)
  if z.state = zEvac then .denied 1
  else if q.div = k.divs.one q.eng then .same
  else if z.state = zFenced then .denied 1
  else if q.div < fastest k.level then .denied 1
  else if d.vmax.toNat < vmin q.div then .denied 2
  else if q.div = 8 && s.setpointOf c k.divs = d.vfloor.toNat then .denied 3
  else .granted

/-- The answer reaches its predicate, which waits for it no longer (R180, R337). -/
def State.clkWrite (s : State) (c : CoreId) (q : ClkReq) (v : Bool) : State :=
  let g : SReg := .p q.ctx q.k q.pd
  if (s.res c q.slot).pend.contains (g, .clk) then
    (s.putPred c q.slot q.ctx q.k q.pd v).modRes c q.slot (fun r => { r with pend := r.pend.filter (fun p => p != (g, .clk)) })
  else s

/-- The controller decides the outstanding CLKDIV, after its own changes (R430, R431, R433). A grant that makes the engine
faster first raises the rail; where one that was granted is decided again, the rail's setpoint is that of the divisors in force. -/
def State.clkDecide (s : State) (c : CoreId) : State :=
  let k := s.core c
  match k.clk with
  | none => s
  | some q =>
    if q.granted || !k.own.isEmpty then s
    else match s.clkAnswer c q with
      | .same => (s.clkWrite c q true).modCore c (fun k => { k with clk := none, deny := 0, railSet := s.setpointOf c k.divs })
      | .denied w => (s.clkWrite c q false).modCore c (fun k => { k with clk := none, deny := w, railSet := s.setpointOf c k.divs })
      | .granted =>
        let v := s.setpointOf c (k.divs.set q.eng q.div)
        s.modCore c (fun k =>
          { k with clk := some { q with granted := true }, deny := 0
                   railSet := if q.div < k.divs.one q.eng then v else k.railSet })
def execClkdivDecision (c : CoreId) (s : State) : Out := agent (s.clkDecide c)

/-- The change that takes effect next: the controller's own go first, and a CLKDIV waits for the first group after a launch or a
switch (R433). -/
def Core.nextChange (k : Core) : Option ClkReq :=
  match k.own with
  | q :: _ => some q
  | [] => match k.clk with
    | some q => if q.granted && !k.fourDue then some q else none
    | none => none

/-- The rail is ready for a change: one that makes no engine faster, or a faster one once the rail has reached the new setpoint
(R431). -/
def State.railReady (s : State) (c : CoreId) (q : ClkReq) : Bool :=
  let k := s.core c
  let v := s.setpointOf c (k.divs.set q.eng q.div)
  k.divs.one q.eng ≤ q.div || v ≤ k.rail

/-- The ratio of a result's engine to the control engine rises (R432). -/
def ratioRises (d e : Divs) (g : Eng) : Bool := d.get g * e.ctl < e.get g * d.ctl

/-- The change may take effect at this boundary: no result in flight belongs to an engine whose ratio it raises (R432). -/
def Core.drainedFor (k : Core) (q : ClkReq) : Bool :=
  !(k.res k.act).inflight.any (fun f => ratioRises k.divs (k.divs.set q.eng q.div) f.eng)

/-- Issue is held at the boundary where a change takes effect (R431, R432), and before an incoming context's first group until
its divisors are at 4 (R433). -/
def State.clkHolds (s : State) (c : CoreId) : Bool :=
  let k := s.core c
  match k.nextChange with
  | none => false
  | some q => s.railReady c q || k.own.any (fun o => o.eng.isNone && o.div = 4)

/-- A divisor takes effect at a group boundary; the rail moves to its setpoint, and the CLKDIV that asked reads 1 (R431). For a
change of the controller's own the rail is raised here first (R433). -/
def State.divisorSwitch (s : State) (c : CoreId) : State :=
  let k := s.core c
  match k.nextChange with
  | none => s
  | some q =>
    let d := k.divs.set q.eng q.div
    let v := s.setpointOf c d
    if !s.railReady c q then s.modCore c (fun k => { k with railSet := v })
    else if !k.drainedFor q then s
    else
      let own := !k.own.isEmpty
      let s := if own then s else s.clkWrite c q true
      s.modCore c (fun k =>
        { k with divs := d, pulses := 0, railSet := v, own := k.own.tail, clk := if own then k.clk else none })
def execDivisorSwitch (c : CoreId) (s : State) : Out := agent (s.divisorSwitch c)

/-- The rail moves 5 mV toward its setpoint (R428). -/
def Core.railStep (k : Core) : Core :=
  { k with rail :=
      if k.rail < k.railSet then Nat.min (k.rail + 5) k.railSet
      else if k.railSet < k.rail then Nat.max (k.rail - 5) k.railSet else k.rail }
def execRailStep (c : CoreId) (s : State) : Out := agent (s.modCore c Core.railStep)

/-! ## Levels (R427, R434 to R436) -/

/-- CCAP (R435). -/
def State.ccap (s : State) (c : CoreId) : Nat :=
  let z := s.zone (zoneOf c)
  let f := Nat.min z.minflow.toNat (z.sens.extractLsb' 52 11).toNat
  if z.state = zEvac then 0 else if 80 ≤ f then 2 else if 48 ≤ f then 1 else 0

/-- The thresholds of 85 and 95 degrees that hold after a reading of the hot-spot sensor, in units of 0.125 degrees, where old of
them held before: one that lowered the cap holds until the temperature is 5 degrees below it (R435). -/
def hotAfter (old : Nat) (temp : Nat) : Nat :=
  let raw := if temp < 680 then 0 else if temp < 760 then 1 else 2
  let kept := if temp ≤ 640 then 0 else if temp ≤ 720 then 1 else 2
  Nat.max raw (Nat.min old kept)

/-- The column's temperature and the package's power are read; no step of the manual brings them (log 38). -/
def State.sense (s : State) (c : CoreId) : State :=
  let t := Config.temperature s.steps c
  let s := s.modCore c (fun k => 
    { k with temp := t, hot := hotAfter k.hot t.toNat, tcap := BitVec.ofNat 2 (2 - hotAfter k.hot t.toNat) })
  { s with hcap := if 8600 < Config.packagePower s.steps then 0 else if 7200 < Config.packageMean s.steps then 1 else 2 }

/-- REQ of the active context; 0 with none (R435). -/
def Core.request (k : Core) : Nat :=
  let r := k.res k.act
  if r.occ && r.place == .here then r.req.toNat else 0

/-- The LEVEL that R435 gives a column. -/
def State.levelOf (s : State) (c : CoreId) : Nat :=
  let k := s.core c
  if k.capped || k.floored then 0 else Nat.min (Nat.min k.request (s.ccap c)) (Nat.min k.tcap.toNat s.hcap.toNat)

/-- The engines that run at divisor 3. -/
def Divs.atThree (d : Divs) : List (BitVec 2) := ([0, 1, 2, 3] : List (BitVec 2)).filter (fun e => d.one (some e) = 3)

/-- LEVEL falls to what R435 gives; an engine at divisor 3 is changed to 4 when it falls below 2, and a CLKDIV that has not switched
is decided again (R436, R433). -/
def State.levelFall (s : State) (c : CoreId) : State :=
  let s := s.sense c
  let k := s.core c
  let n := s.levelOf c
  if k.level.toNat ≤ n then s
  else s.modCore c (fun k =>
    { k.change (if n < 2 then k.divs.atThree.map (fun e => ownChange (some e) 4) else []) with level := BitVec.ofNat 2 n })
def execLevelFall (c : CoreId) (s : State) : Out := agent (s.levelFall c)

/-- A rise of LEVEL, by one, at a sample boundary (R436). -/
def State.levelRise (s : State) (c : CoreId) : State :=
  let s := s.sense c
  let n := s.levelOf c
  s.modCore c (fun k => if k.level.toNat < n then { k with level := k.level + 1 } else k)

/-- A field of STALL_RATIO: the stalled part of an engine's edges; 0 where the sample has none (R434). -/
def ratioOf (stalled edges : Nat) : Byte := BitVec.ofNat 8 (Nat.min 255 (256 * stalled / edges))

/-- STALL_RATIO is latched from the edges counted in the sample, and the count begins anew (R78, R434). banks is the number of edges of
the matrix engine in which a step waited for a bank, which the row brings (log 83). -/
def Core.latch (k : Core) (banks : Nat) : Core :=
  let e := k.sample.edges
  let n := k.sample.stalled
  { k with
    stall := ratioOf n.cpy e.cpy ++ ratioOf n.vec e.vec ++ ratioOf (n.mat + banks) e.mat ++ ratioOf n.ctl e.ctl
    sample := {} }

/-- The columns of a die, by the cores that they hold. -/
def dieCores (d : DieId) : List CoreId := (List.range 256).map (fun n => BitVec.ofNat 12 (d.toNat * 256 + n))

/-- The die latches STALL_RATIO for every column at one instant, SEQ goes up, and levels may rise (R434, R436). -/
def State.stallSample (s : State) (d : DieId) (banks : Tab Nat) : State :=
  let s := s.modDie d (fun k => { k with stallSeq := k.stallSeq + 1 })
  let s := (dieCores d).foldl (fun (s : State) c => s.modCore c (fun k => k.latch (banks.get 0 c.toNat))) s
  (dieCores d).foldl (fun (s : State) c => s.levelRise c) s
def execStallSample (d : DieId) (banks : Tab Nat) (s : State) : Out := agent (s.stallSample d banks)

/-- The swallow count, 0 to 56; 56 while the clock floor holds (R427, R445). -/
def State.throttle (s : State) (c : CoreId) (n : BitVec 6) : State :=
  let s := s.sense c
  let n := if (s.zone (zoneOf c)).state = zEvac || 56 < n.toNat then 56 else n
  s.modCore c (fun k => { k with swal := n })
def execThrottleUpdate (c : CoreId) (n : BitVec 6) (s : State) : Out := agent (s.throttle c n)

/-! ## The SRAM rail (R438) -/

/-- The end of a window of 10^9 reads with c corrected errors, or an uncorrectable error. -/
def Die.sramWindow (k : Die) (c : Nat) (unc : Bool) : Die :=
  let k := { k with sramLastc := BitVec.ofNat 16 (Nat.min c 0xFFFF) }
  if unc then k.railUp
  else if 0 < k.sramHold then { k with sramHold := k.sramHold - 1 }
  else if c < k.sramSetpt.toNat && k.sramFloor.toNat + 5 ≤ k.sramSet.toNat then { k with sramSet := k.sramSet - 5 }
  else if 2 * k.sramSetpt.toNat < c then
    { k with sramSet := if k.sramSet.toNat + 5 ≤ k.sramMax.toNat then k.sramSet + 5
                        else if k.sramSet.toNat < k.sramMax.toNat then k.sramMax else k.sramSet }
  else k
def execSramRailWindow (d : DieId) (corrected : Nat) (unc : Bool) (s : State) : Out :=
  agent (s.modDie d (fun k => k.sramWindow corrected unc))

/-! ## Valves and sensors (R439, R443, R444) -/

/-- Two zones of a die are neighbours: edge-adjacent in its 4 x 4 grid (R439). -/
def neighbours (z : Nat) : List Nat :=
  let l := z % 16
  let up := if l < 4 then [] else [z - 4]
  let down := if l < 12 then [z + 4] else []
  let left := if l % 4 = 0 then [] else [z - 1]
  let right := if l % 4 = 3 then [] else [z + 1]
  up ++ down ++ left ++ right

/-- A dry-channel sequence of the zone has set its neighbours' valves: from step 2 of its first attempt to its end (R445). -/
def State.purging (s : State) (z : Nat) : Bool :=
  (s.zone z).state == zEvac && (2 ≤ (s.zone z).evac || 0 < (s.zone z).tries)

def zoneNo (d : DieId) (z : BitVec 4) : Nat := d.toNat * 16 + z.toNat
def Zone.flow (z : Zone) : Nat := (z.sens.extractLsb' 52 11).toNat

/-- The controller adjusts a valve toward the zone's flow limits: open when the flow is below MINFLOW, closed when it is above
MAXFLOW; a zone in a dry-channel sequence, FENCED, or next to one that purges is left alone (R439, R445). -/
def State.valveControl (s : State) (z : Nat) (v : Byte) : State :=
  let k := s.zone z
  let busy := k.state = zEvac || k.state = zFenced || (neighbours z).any s.purging
  let top := Nat.max k.maxflow.toNat 1
  if !busy && ((k.flow < k.minflow.toNat && k.valve.toNat ≤ v.toNat) || (top < k.flow && v.toNat ≤ k.valve.toNat)) then
    s.modZone z (fun k => { k with valve := v })
  else s
/-- A turn of a die's coolant controller: one of its 16 zones, or on CD0, as its seventeenth, the host die's zone, whose valve
takes the setting that holds it at 400 mL/min (R439; DESIGN CHOICE, log 79: any setting). -/
def execValveControl (d : DieId) (z : BitVec 5) (v : Byte) (s : State) : Out :=
  agent (if z.toNat < 16 then s.valveControl (zoneNo d (z.setWidth 4)) v
         else if d = 0 && z = 16 then { s with hostValve := v } else s)

/-- The cores of a zone's columns. -/
def zoneCores (z : Nat) : List CoreId :=
  ((List.range 256).map (fun n => BitVec.ofNat 12 (z / 16 * 256 + n))).filter (fun c => zoneOf c == z)
def State.modZoneCores (s : State) (z : Nat) (f : Core → Core) : State :=
  (zoneCores z).foldl (fun (s : State) c => s.modCore c f) s

/-- An event record for the partition that owns a die, and its management interrupt (R444). -/
def State.zoneEvent (s : State) (z what : Nat) : State :=
  match s.dieOwner (zoneDie z) with
  | some p => (s.eventLog p what z).modPart p (fun k => { k with irq := true })
  | none => s

/-- The four crossings of a sample: FLOW, TOUT, PRESS, VOID in bits 0 to 3 (R444). -/
def Zone.crossings (k : Zone) : BitVec 4 :=
  let tout := (k.sens.extractLsb' 13 13).toNat
  let press := (k.sens.extractLsb' 40 12).toNat
  BitVec.ofBool (k.sens.getLsbD 63) ++ BitVec.ofBool (k.pmax.toNat < press) ++ BitVec.ofBool (k.tmax.toNat < tout) ++
  BitVec.ofBool (k.flow < k.fmin.toNat)

/-- The dry-channel sequence begins: LEVEL 0, then the clock floor, every engine at divisor 8 with swallow count 56 (R445
step 1); a CLKDIV outstanding is decided against it (R446). -/
def State.startEvac (s : State) (z : Nat) : State :=
  (s.modZone z (fun k => { k with state := zEvac, evac := 1, tries := 0 })).modZoneCores z (fun k =>
    { k.change [ownChange none 8] with floored := true, level := 0, swal := 56 })

/-- LEVEL 0 is forced for the columns of a zone until its outlet is 5 degrees below TMAX (R444). -/
def State.outletCap (s : State) (z : Nat) : State :=
  let k := s.zone z
  let tout := (k.sens.extractLsb' 13 13).toNat
  if k.tmax.toNat < tout then s.modZoneCores z (fun c => { c with capped := true })
  else if tout + 40 < k.tmax.toNat then s.modZoneCores z (fun c => { c with capped := false })
  else s

/-- A sample of a zone's sensors: each crossing fires once, with an event, the interrupt and its action (R443, R444). -/
def State.sensorSample (s : State) (z : Nat) (sens : W64) : State :=
  let old := (s.zone z).tripped
  let s := s.modZone z (fun k => { k with sens := sens &&& 0xFFFFFF0003FFFFFF })
  let now := (s.zone z).crossings
  let new := now &&& ~~~old
  let s := s.modZone z (fun k => { k with tripped := now })
  let s := [0, 1, 2, 3].foldl (fun (s : State) n => if new.getLsbD n then s.zoneEvent z (16 + n) else s) s
  let s := s.outletCap z
  let s := if new.getLsbD 2 then
      s.modZone z (fun k => { k with valve := let v := Config.closeValve s.steps; if v.toNat < k.valve.toNat then v else k.valve })
    else s
  let st := (s.zone z).state
  if now.getLsbD 3 && st != zEvac && st != zFenced && new.getLsbD 3 then s.startEvac z else s
def execSensorSample (d : DieId) (z : BitVec 4) (sens : W64) (s : State) : Out := agent (s.sensorSample (zoneNo d z) sens)

/-! ## Dry channels (R445, R446) -/

/-- Step 6: the zone is fenced, its columns halt, their tasks end with COOLANT_LOST, and every other core of those tasks is to
take it as a machine trap (R334, R445). -/
def State.fenceZone (s : State) (z : Nat) : State :=
  let s := s.modZone z (fun k => { k with state := zFenced, valve := 0, minflow := 0, evac := 0, tries := 0 })
  let s := s.modZoneCores z (fun k => { k with coolHalt := true })
  let hit := s.tasks.filter (fun t => t.cores.any (fun e => zoneOf e.1 == z && !t.exited.contains e.1))
  hit.foldl (fun (s : State) t =>
    let s := s.endTask t.id 5 cCoolant 0
    (t.cores.filter (fun e => zoneOf e.1 != z && !t.exited.contains e.1)).foldl (fun (s : State) e =>
      s.modRes e.1 e.2 (fun r => { r with machine := some (cCoolant, BitVec.ofNat 9 z) })) s) s

/-- Step 2: the zone's valve opens, and each neighbour that is not evacuating goes to half its setting, once where it lies beside
two sequences (R445, R446). -/
def State.evacValves (s : State) (z : Nat) : State :=
  let halve := (neighbours z).filter (fun n =>
    (s.zone n).state != zEvac && !(neighbours n).any (fun m => m != z && s.purging m))
  let s := halve.foldl (fun (s : State) n => s.modZone n (fun k => { k with valve := k.valve >>> 1 })) s
  s.modZone z (fun k => { k with valve := 255, evac := 2 })

/-- Step 3: 8 pulses with the boost pressure at valve 255, with valve 64 between them (R445). -/
def Zone.purge (k : Zone) : Zone :=
  if k.boost && k.pulse < 8 then { k with boost := false, valve := 64 }
  else if k.boost then { k with boost := false, pulse := 0, evac := 4 }
  else { k with boost := true, valve := 255, pulse := k.pulse + 1, evac := 3 }

/-- Step 5, wet: the clock floor and its LEVEL 0 are released, and the zone returns to HELD or FREE (R445). -/
def State.evacWet (s : State) (z : Nat) : State :=
  let s := s.modZone z (fun k => { k with state := zFree, evac := 0, tries := 0 })
  (s.modZoneCores z (fun c => { c with floored := false, swal := 0 })).rezone z

/-- What comes next in the sequence: evac 1 the valves, 2 and 3 the purge, 4 to settle and read VOID, 5 the verdict, which after the
third attempt fences the zone (R445). -/
def State.evacStep (s : State) (z : Nat) (dry : Bool) : State :=
  let k := s.zone z
  if k.state != zEvac then s
  else match k.evac with
    | 1 => s.evacValves z
    | 2 => s.modZone z Zone.purge
    | 3 => s.modZone z Zone.purge
    | 4 => s.modZone z (fun k =>
        { k with evac := 5, sens := (k.sens &&& 0x7FFFFFFFFFFFFFFF) ||| (if dry then 0x8000000000000000 else 0) })
    | _ =>
      if !k.sens.getLsbD 63 then s.evacWet z
      else if k.tries + 1 < 3 then s.modZone z (fun k => { k with evac := 1, tries := k.tries + 1 })
      else s.fenceZone z
def execEvacuationStep (d : DieId) (z : BitVec 4) (dry : Bool) (s : State) : Out := agent (s.evacStep (zoneNo d z) dry)

/-- ZCLR returns a FENCED zone to FREE; its other bits must be 0 (R445, R447). -/
def State.zclr (s : State) (d : DieId) (w : W64) : State :=
  let z := d.toNat * 16 + (w.setWidth 4).toNat
  if w.extractLsb' 4 60 != 0 || (s.zone z).state != zFenced then s
  else (s.modZone z (fun k => { k with state := zFree, tripped := 0 })).modZoneCores z
    (fun c => { c with coolHalt := false, floored := false, swal := 0 })
def execZclr (d : DieId) (w : W64) (s : State) : Out := agent (s.atReady (fun s => s.zclr d w))

/-! ## Supply (R442) -/

/-- The zone whose grant is lowered next: of the lowest PRIO, the highest zone number. -/
def State.lowerNext (s : State) : Option Nat :=
  let l := (List.range 256).filter (fun z =>
    ((s.zone z).state == zHeld || (s.zone z).state == zEvac) && 0 < (s.zone z).cls.toNat)
  let p := l.foldl (fun m z => Nat.min m (s.zone z).prio.toNat) 8
  (l.filter (fun z => (s.zone z).prio.toNat = p)).getLast?
/-- The zone whose grant is restored next, in the reverse order. -/
def State.raiseNext (s : State) : Option Nat :=
  let l := (List.range 256).filter (fun z => 0 < (s.zone z).lowered)
  let p := l.foldl (fun m z => Nat.max m (s.zone z).prio.toNat) 0
  (l.filter (fun z => (s.zone z).prio.toNat = p)).head?

/-- Lower grants, one class at a time, until HELD is at most SUPPLY; each lowering writes an event. -/
def State.lowerGrants (s : State) : Nat → State
  | 0 => s
  | n + 1 =>
    if s.heldFlow ≤ s.supply.toNat then s
    else match s.lowerNext with
      | none => s
      | some z => (((s.modZone z (fun k => { k with lowered := 3 - k.cls.toNat })).rezone z).zoneEvent z 24).lowerGrants n
/-- Restore grants while the supply holds them. -/
def State.raiseGrants (s : State) : Nat → State
  | 0 => s
  | n + 1 =>
    match s.raiseNext with
    | none => s
    | some z =>
      let t := (s.modZone z (fun k => { k with lowered := k.lowered - 1 })).rezone z
      if t.heldFlow ≤ t.supply.toNat then t.raiseGrants n else s

def execCoolantSupplyDrop (supply : BitVec 16) (s : State) : Out :=
  agent ({ s with supply := supply }.lowerGrants 768)
def execCoolantSupplyRestored (supply : BitVec 16) (s : State) : Out :=
  agent ({ s with supply := supply }.raiseGrants 512)

end Sys2Proof.Machine
end

