-- ==== Sys2Proof/Machine/Topo.lean ====
section
/-! DEFINITION. Reconfiguration of the fabric under TOPO (R398, R399, R419 to R422). -/

namespace Sys2Proof.Machine

/-! ## The packet (R419) -/

def topoRecord (k : Queue) (q : QueueId) (p : Packet) : Topo :=
  { queue := q, packet := k.rptr, part := k.part, root := k.root, action := (dw p 1).extractLsb' 56 8
    timeout := (dw p 1).extractLsb' 40 16, ports := (dw p 1).setWidth 32, peers := dw p 2
    frieze := (dw p 3).setWidth 48, windows := (dw p 4).setWidth 48, npages := (dw p 5).extractLsb' 48 16
    pool := (dw p 5).setWidth 48, circuits := (dw p 6).setWidth 48, rn := (dw p 7).setWidth 32
    step := if topoAction p = 1 then 1 else if topoAction p = 2 then 5 else 4 }

/-- The ports of PORTMASK. -/
def Topo.portList (x : Topo) : List Nat := (List.range 32).filter (fun p => x.ports.getLsbD p)

/-- Change the registers of every die's OFU. -/
def Fabric.allOfus (f : Fabric) (g : Ofu → Ofu) : Fabric := { f with ofus := (List.range 16).foldl (fun t d => t.mod {} d g) f.ofus }

/-- A TOPO packet of an action starts and holds its queue until it is complete (R348, R349); while another is under way it
waits. -/
def State.startTopo (s : State) (q : QueueId) (pkt : Packet) (f : Topo → State → State) : State :=
  if s.fab.topo.isSome then s
  else
    s.take q pkt 4 (fun k s =>
      let x := topoRecord k q pkt
      let s := (s.started q none).modQueue q (fun k => { k with head := some pkt })
      f x (s.modFab (fun b => { b.allOfus (fun o => { o with qdone := false, loaderr := false }) with topo := some x })))

/-- The TOPO is complete. -/
def State.endTopo (s : State) (x : Topo) : State :=
  ((s.modFab (fun b => { b with topo := none })).modQueue x.queue (fun k => { k with head := none })).completed x.queue x.packet

/-! ## RECONFIGURE, steps 1 to 4 (R420) -/

/-- A peer keeps a path outside the quiesced ports: a direct line, or its relay with one. -/
def State.keepsPath (s : State) (t : Nat) : Bool :=
  let l := s.fab.link t
  s.hasDirect t || (l.mode == 2 && s.hasDirect l.relay.toNat)

/-- Step 1: the ports take no new frame; a peer left with no path reads QUIESCED; the circuits on those ports are held. -/
def State.quiescePorts (s : State) (x : Topo) : State :=
  let s := s.peerList.foldl State.keepMode s
  let s := x.portList.foldl (fun s p => s.modFab (fun b =>
    b.modPort p (fun k => if k.state = 0 then k else { k with state := 3 }))) s
  let s := s.peerList.foldl (fun s t => if s.keepsPath t then s.relink t else s.modFab (fun b => b.modLink t (fun l => { l with topo := true }))) s
  let held := fun (b : Fabric) (d : Nat) => circuitUp (b.circuits.get 0 d) && x.ports.getLsbD (circuitPort (b.circuits.get 0 d))
  s.modFab (fun b => { b with heldDomains := ((List.range 16).filter (held b)).map (BitVec.ofNat 4) })

/-- TOPO_RECONFIGURE; a packet whose ACTION is none of the three is refused by it too (R419). -/
def State.topoReconfigure (s : State) (q : QueueId) (pkt : Packet) : State :=
  if topoAction pkt = 2 || topoAction pkt = 3 then s else s.startTopo q pkt (fun x s => s.quiescePorts x)
def execTopoReconfigure (q : QueueId) (pkt : Packet) (s : State) : Out := agent (s.topoReconfigure q pkt)

/-- TOPO_LOAD: step 5 alone. -/
def State.topoLoad (s : State) (q : QueueId) (pkt : Packet) : State :=
  if topoAction pkt = 2 then s.startTopo q pkt (fun _ s => s) else s
def execTopoLoad (q : QueueId) (pkt : Packet) (s : State) : Out := agent (s.topoLoad q pkt)

/-- TOPO_RETRAIN: each port of PORTMASK asks every present peer for a retraining at RN (R417). -/
def State.askRetrain (s : State) (rn : W32) (p t : Nat) : State :=
  let m : RepairMsg := { rn := rn, action := 0, port := BitVec.ofNat 5 p, line := 0xFF, owner := s.peer, rpeer := 0, rid := s.fab.rid }
  (s.say t msgRetrain m).modFab (fun b =>
    { b with rid := b.rid + 1
             retrains := b.retrains ++ [{ port := BitVec.ofNat 5 p, peer := BitVec.ofNat 6 t, rn := rn, own := true }] })
def State.topoRetrain (s : State) (q : QueueId) (pkt : Packet) : State :=
  if topoAction pkt = 3 then
    s.startTopo q pkt (fun x s =>
      x.portList.foldl (fun s p => s.peerList.foldl (fun s t => s.askRetrain x.rn p t) s) s)
  else s
def execTopoRetrain (q : QueueId) (pkt : Packet) (s : State) : Out := agent (s.topoRetrain q pkt)

/-- The TOPO under way is in a step. -/
def State.inTopo (s : State) (n : Nat) (f : Topo → State → State) : State :=
  match s.fab.topo with
  | some x => if x.step = n then f x s else s
  | none => s
def State.setTopo (s : State) (x : Topo) : State := s.modFab (fun b => { b with topo := some x })

/-- TOPO_DRAIN_END: QDONE is set, and the mirrors may move. -/
def execTopoDrainEnd (s : State) : Out :=
  agent (s.inTopo 1 (fun x s => (s.setTopo { x with step := 3 }).modFab (fun b => b.allOfus (fun o => { o with qdone := true }))))

/-- The ports of PORTMASK train. -/
def State.startTraining (s : State) (x : Topo) : State :=
  x.portList.foldl (fun s p => s.modFab (fun b => b.modPort p (fun k => { k with state := 1 }))) (s.setTopo { x with step := 4 })

/-- FAB_CTL_RESUME: bit 0; the other bits must be 0 (R423). -/
def State.fabCtl (s : State) (w : W64) : State := if w = 1 then s.inTopo 3 (fun x s => s.startTraining x) else s
def execFabCtlResume (_d : DieId) (w : W64) (s : State) : Out := agent (s.atReady (fun s => s.fabCtl w))

/-- TOPO_TIMEOUT: the steps go on with the old tables and the old PEERS; a TIMEOUT of 0 waits without limit. -/
def execTopoTimeout (s : State) : Out :=
  agent (s.inTopo 3 (fun x s => if x.timeout = 0 then s else s.startTraining { x with keepOld := true }))

/-- A port after training, DOWN when it failed. -/
def Port.trained (p : Port) (ok : Bool) : Port :=
  if ok then
    Port.useSpares { p with state := 2, lines := (List.range 72).foldl (fun t l => t.put (freshLine l) l (trainedLine l (p.line l))) [] }
  else { p with state := 0 }

/-- A port of PORTMASK ends its training, and the ring of its die has the record (R420, R423). -/
def State.portTrained (s : State) (p : Nat) (ok : Bool) : State :=
  (s.modFab (fun b => b.modPort p (fun k => k.trained ok))).fabLog (if ok then 4 else 2) p 0xFF 0 0

/-- A working port is in circuit mode when the circuit table names it, and in AWGR mode otherwise (R392, R408). -/
def State.settlePorts (s : State) : State :=
  let mine := fun (p : Nat) => (List.range 16).any (fun d =>
    let c := s.fab.circuits.get 0 d
    circuitUp c && circuitGateway c == s.peer && circuitPort c == p)
  (List.range 32).foldl (fun s p => s.modFab (fun b => b.modPort p (fun k =>
    if k.state = 2 || k.state = 4 then { k with state := if mine p then 4 else 2 } else k))) s

/-- TOPO_TRAIN_END: of a RECONFIGURE, step 5 follows; a RETRAIN is complete when every retraining it asked for has ended. A port that
failed is DOWN. -/
def State.topoTrainEnd (s : State) (failed : W32) : State :=
  s.inTopo 4 (fun x s =>
    if x.action != 1 && s.fab.retrains.any (fun a => a.own && x.ports.getLsbD a.port.toNat) then s
    else
      let s := x.portList.foldl (fun s p => s.portTrained p (!failed.getLsbD p)) s
      if x.action = 1 then s.setTopo { x with step := 5 } else s.settlePorts.relinkAll.endTopo x)
def execTopoTrainEnd (failed : W32) (s : State) : Out := agent (s.topoTrainEnd failed)

/-! ## Step 5: the tables (R398, R399, R408, R422) -/

/-- A byte of a table in the queue's address space. -/
def State.tableByte (s : State) (x : Topo) (va : Nat) : Byte :=
  match s.reachSpaceAs true x.root x.part .load (BitVec.ofNat 64 va) 1 with
  | .ok q => BitVec.ofNat 8 (s.readList q.addr)
  | _ => Config.unreadByte s.steps va
/-- n bytes of a table, little-endian. -/
def State.tableNat (s : State) (x : Topo) (va n : Nat) : Nat := ofLe ((List.range n).map (fun i => s.tableByte x (va + i)))

/-- A Frieze in the canonical form of the state. -/
def friezeOf (l : List W32) : Tab W32 :=
  ((List.range l.length).zip l).filter (fun e => e.2 != idleEntry)

/-- The image of a port: entry of slot s, lane j at byte 64 s + 4 j (R396). -/
def State.friezeImage (s : State) (x : Topo) (n : Nat) : List W32 :=
  (List.range 1024).map (fun k => BitVec.ofNat 32 (s.tableNat x (x.frieze.toNat + 4096 * n + 4 * k) 4))

/-- The default schedule of a port for a set of present peers (R398). -/
def State.defaultFrieze (s : State) (peers : W64) : Tab W32 :=
  friezeOf ((List.range 1024).map (fun k =>
    let o := (k / 16 + 4 * (k % 16)) % 64
    if o = 0 then idleEntry
    else frieze (if peers.getLsbD (s.targetOf o) then o else 0xFF) (if peers.getLsbD (s.sourceOf o) then o else 0xFF) false))

/-- The checks of one image that a port makes alone (R399). -/
def State.entryGood (s : State) (peers : W64) (e : W32) : Bool :=
  let line := fun (l : Nat) => l == 0xFF || (l < 72 && offsetOf l != 0)
  e.extractLsb' 17 15 == 0 && line (txLine e) && line (rxLine e) && (!relayBit e || txLine e != 0xFF) &&
  (txLine e == 0xFF || peers.getLsbD (s.targetOf (offsetOf (txLine e))))

/-- Every present peer but this package is the target of an appearance of an UP port (R399). -/
def State.reachAll (s : State) (peers : W64) (images : Nat → Tab W32) : Bool :=
  let ups := (List.range 32).filter (fun p => (s.fab.port p).state == 2)
  let hit := ups.flatMap (fun p => ((images p).filter (fun e => txLine e.2 < 72)).map (fun e => s.targetOf (offsetOf (txLine e.2))))
  (List.range 64).all (fun t => t == s.peer.toNat || !peers.getLsbD t || hit.contains t)

/-- The Frieze images take effect; one that fails a check is not loaded, and its die's OFU reads LOADERR (R399). -/
def State.loadFriezes (s : State) (x : Topo) (peers : W64) : State :=
  let ports := if x.ports = 0 then List.range 32 else x.portList
  let news := (List.range ports.length).zip ports |>.map (fun e => (e.2, s.friezeImage x e.1))
  let image := fun p => match news.find? (fun e => e.1 == p) with | some e => friezeOf e.2 | none => (s.fab.port p).frieze
  let all := s.reachAll peers image
  news.foldl (fun s e =>
    if all && e.2.all (s.entryGood peers) then s.modFab (fun b => b.modPort e.1 (fun k => Port.useSpares { k with frieze := friezeOf e.2 }))
    else s.modFab (fun b => b.modOfu (e.1 / 2) (fun o => { o with loaderr := true }))) s

/-- The receive-window table and its expert maps; each window's blocks are numbered from 0 (R367, R422). The pages of blocks that are open,
or sealed and not released, go back to the pool at once (DESIGN CHOICE, log 71). -/
def State.loadWindows (s : State) (x : Topo) : State :=
  let entry := fun (va : Nat) => BitVec.ofNat 256 (s.tableNat x va 32)
  let wins := (List.range 256).map (fun w => (w, entry (x.windows.toNat + 32 * w)))
  let maps := (wins.filter (fun e => e.2.extractLsb' 128 2 == 2)).flatMap (fun e =>
    (List.range 32).map (fun k => (e.1 * 32 + k, entry ((e.2.extractLsb' 0 48).toNat + 32 * k))))
  let mine := fun (k : Nat) => k / 8192 == x.part.toNat
  let pages := (s.lands.filter (fun e => mine e.1)).flatMap (fun e => e.2.pages.map (fun b => b.2.1))
  let kept := s.lands.map (fun e =>
    (e.1, if mine e.1 then ({ waiting := e.2.waiting, task := e.2.task } : Landing) else e.2))
  { s.modPart x.part (fun k =>
      { k with windows := Tab.putAll 0 [] wins, experts := Tab.putAll 0 [] maps, winRoot := x.root, pool := k.pool ++ pages }) with
    lands := kept.filter (fun e => e.2 != {}) }

/-- The landing pool: NPAGES doublewords of physical page addresses (R419), the pool of the partition that owns the queue (DESIGN CHOICE, log
70: R314 and R367 speak of one pool, R449 gives a partition its windows and its pages). -/
def State.loadPool (s : State) (x : Topo) : State :=
  s.modPart x.part (fun k =>
    { k with pool := (List.range x.npages.toNat).map (fun i => s.tableNat x (x.pool.toNat + 8 * i) 8) })

/-- The circuit table (R408). -/
def State.loadCircuits (s : State) (x : Topo) : State :=
  s.modFab (fun b =>
    { b with circuits := Tab.putAll 0 [] ((List.range 16).map (fun d => (d, BitVec.ofNat 64 (s.tableNat x (x.circuits.toNat + 8 * d) 8)))) })

/-- The peers after resume (R419, R420). -/
def State.newPeers (s : State) (x : Topo) : W64 := if x.keepOld || x.action != 1 || x.peers = 0 then s.fab.peers else x.peers

/-- Step 5. At the load of a domain, when no peer was present, each port has the default schedule first (R398). Rows that wait
land while the new windows and pool open blocks for them (R368). -/
def State.loadTables (s : State) (x : Topo) : State :=
  if x.keepOld then s.settlePorts
  else
    let peers := s.newPeers x
    let s := if s.fab.peers = 0 then
        (List.range 32).foldl (fun s p => s.modFab (fun b => b.modPort p (fun k => { k with frieze := s.defaultFrieze peers }))) s
      else s
    let s := if x.frieze = 0 then s else s.loadFriezes x peers
    let s := if x.windows = 0 then s else s.loadWindows x
    let s := if x.npages = 0 then s else s.loadPool x
    ((if x.circuits = 0 then s else s.loadCircuits x).settlePorts).settleRows x.part

/-! ## Step 6 (R276, R418, R420) -/

/-- A peer joins: REJOIN, unless the whole domain is loaded, and the pair counts from 0 (R402, R418). -/
def State.joinPeer (s : State) (first : Bool) (t : Nat) : State :=
  let s := (s.resetPair t).modFab (fun b => (b.modLink t (fun _ => { mode := 1 })).modPair t (fun p => { p with heard := b.rot, fresh := !first }))
  let s := if first then s else s.sayRejoin t true
  if s.keepsPath t then s.relink t else s.relayAny t

/-- A peer that stays: reachable, it reads QUIESCED 0 and its held transfers are replayed, and one that is stale begins the rejoin
handshake (R379, R420). Else it is relayed or held. -/
def State.resumePeer (s : State) (t : Nat) : State :=
  let was := s.fab.quiesced t
  let s := s.keepMode t
  let s := s.modFab (fun b => (b.modLink t (fun l => { l with topo := false })).modPair t (fun p => { p with heard := b.rot }))
  if s.keepsPath t then
    let s := s.modFab (fun b => b.modLink t (fun l => { l with hold := none, silent := false, due := false }))
    (if was then s.replayTo t else s).relink t
  else s.relayAny t

/-- Transfers to a domain whose circuit is gone after resume fail (R275, R276); those to one that is up are replayed. -/
def State.resumeDomain (s : State) (d : BitVec 4) : State :=
  if circuitUp (s.circuit d) then s.replay (fun dom _ => dom == d) else s.failAll (fun dom _ => dom == d)

def State.resumeFabric (s : State) (x : Topo) : State :=
  let old := s.fab.peers
  let new := s.newPeers x
  let others := (List.range 64).filter (fun t => t != s.peer.toNat)
  let s := (others.filter (fun t => old.getLsbD t && !new.getLsbD t)).foldl State.removePeer s
  let s := s.modFab (fun b => { b with peers := new })
  let s := (others.filter (fun t => new.getLsbD t && !old.getLsbD t)).foldl (State.joinPeer · (old = 0) ·) s
  let s := (others.filter (fun t => new.getLsbD t && old.getLsbD t)).foldl State.resumePeer s
  let held := s.fab.heldDomains
  held.foldl State.resumeDomain (s.modFab (fun b => { b with heldDomains := [] }))

/-! ## TOPO_TABLE_LOAD -/

/-- The agreement on a new rotation (R414, R420): the proposals of ACTION 4. -/
def State.loadRepairs (s : State) : List Repair := s.fab.repairs.filter (fun r => r.action == 4)
/-- The agreement stands no longer. -/
def State.dropLoads (s : State) (agreed : List Repair) : State :=
  let s := agreed.foldl (fun s r => s.unsay r.owner.toNat msgAccept r.rid) s
  s.modFab (fun b => { b with repairs := b.repairs.filter (fun r => !(r.action == 4)) })
/-- Propose a new rotation to every present peer. -/
def State.proposeLoad (s : State) : State :=
  let members := s.peerList.map (BitVec.ofNat 6)
  let r : Repair :=
    { owner := s.peer, rid := s.fab.rid, rn := s.fab.rot + 3, action := 4, port := 0, line := 0xFF, target := s.peer, relay := 0
      waiting := members, members := members }
  let s := s.modFab (fun b => { b with rid := b.rid + 1, repairs := b.repairs ++ [r] })
  members.foldl (fun s t => s.say t.toNat msgPropose r.msg) s

/-- The new tables take effect at slot 0 of RN, or of the rotation agreed on; a RECONFIGURE goes on to step 6. Where that rotation has
passed, before step 5 began or with none agreed on, a new one is agreed on (R420). -/
def State.topoTableLoad (s : State) : State :=
  s.inTopo 5 (fun x s =>
    let agreed := s.loadRepairs
    let rn := match agreed.getLast? with | some r => r.rn | none => x.rn
    let later := s.dropLoads agreed
    if !agreed.all (fun r => r.waiting.isEmpty) then s
    else if s.fab.rot = rn && s.fab.slot = 0 then
      let s := later.loadTables x
      (if x.action = 1 then s.resumeFabric x else s.relinkAll).endTopo x
    else if 0 < (s.fab.rot - rn).toNat && (s.fab.rot - rn).toNat < 2 ^ 31 then later.proposeLoad
    else s)
def execTopoTableLoad (s : State) : Out := agent s.topoTableLoad

/-! ## A slot begins (R394, R395, R400) -/

/-- SLOT_BOUNDARY: the marker's pulse reaches every OFU, each of which counts on its own; what takes effect with a rotation, new tables
too, does so before the frames of its slot 0 leave (R395, R414, R420). Before READY the fabric is inert (R459). -/
def State.slotBoundary (s : State) : State :=
  if !s.ready then s
  else
    let next := s.modFab (fun f => { f with ofus := f.ofus.map (fun e => (e.1, e.2.pulse)) })
    -- what MODE reads is kept before the package has lost lock (R416)
    let s := if next.fab.lost && !s.fab.lost then
        (s.peerList.foldl State.keepMode s).modFab (fun f => { f with ofus := f.ofus.map (fun e => (e.1, e.2.pulse)) })
      else next
    let ds := (s.fab.ofus.filter (fun e => e.2.runs && e.2.slot == 0)).map (fun e => e.1)
    (if ds.isEmpty then s else (s.rotationBegins ds).topoTableLoad).transmit
def execSlotBoundary (s : State) : Out := agent s.slotBoundary

end Sys2Proof.Machine
end

