-- ==== Sys2Proof/Machine/Views.lean ====
section
/-! DEFINITION. What the debugger reads of a halted core: the views of R340 and R453. -/

namespace Sys2Proof.Machine

/-! ## View 0: registers -/

/-- The doubleword at 0x40 + 8 n of the save area, as a save at the halt of step t would write it (R335). -/
def viewRegs (t : Nat) (r : Res) (n : Nat) : W64 :=
  let f : Nat → BitVec 16 := fun k => r.flags.get 0 (4 * n + k)
  if n < 8 then f 3 ++ f 2 ++ f 1 ++ f 0
  else if n < 8 + r.image.length then r.image.getD (n - 8) 0
  else if 1016 ≤ n && n < 1016 + laneWords then r.laneWord (n - 1016)
  else if n < 4088 then Config.saveWord t n
  else 0

/-! ## View 1: the shadow result buffer -/

/-- The file code, register and lane group of a pending write of R453, and its value's doublewords; none for a write to a file
without a code. -/
def Wr.shown : Wr → Option (Nat × Nat × Nat × List W64)
  | .s k n x => some (if k then 6 else 0, n, 0, [x])
  | .p k n x => some (if k then 7 else 1, n, 0, [if x then 1 else 0])
  | .v g n lanes =>
    let l : Nat → W32 := fun i => ((lanes.find? (fun e => e.1 == i)).map (fun e => e.2)).getD 0
    some (2, n, g, (List.range 8).map (fun w => l (2 * w + 1) ++ l (2 * w)))
  | .vm g n _ x =>
    let l : Nat → W32 := fun i => if x.getLsbD i then 1 else 0
    some (3, n, g, (List.range 8).map (fun w => l (2 * w + 1) ++ l (2 * w)))
  | .sb g n x => some (4, n, g, [x.setWidth 64])
  | .mp n x => some (5, n, 0, [x])
  | _ => Option.none

/-- The entries of the buffer, each with its context. -/
def Res.shadowList (r : Res) : List (Nat × Shadow) :=
  r.primary.shadow.map (fun e => (0, e)) ++ r.h1.shadow.map (fun e => (1, e)) ++ r.h2.shadow.map (fun e => (2, e))

def Res.viewShadow (r : Res) (n : Nat) : W64 :=
  let l := r.shadowList.filterMap (fun e => e.2.w.shown.map (fun x => (e.1, e.2.count, x)))
  if 640 ≤ n then 0
  else match l[n / 10]? with
    | none => 0
    | some (c, count, file, reg, g, v) =>
      if n % 10 = 0 then
        1#1 ++ BitVec.ofNat 2 c ++ BitVec.ofNat 3 g ++ 0#6 ++ BitVec.ofNat 4 file ++ BitVec.ofNat 8 reg ++ 0#8 ++ BitVec.ofNat 32 count
      else if n % 10 = 9 then 0 else v.getD (n % 10 - 1) 0

/-! ## View 2: the scoreboard -/

/-- The number whose bits are listed. -/
def bitsOf (n : Nat) (l : List Nat) : BitVec n := l.foldl (fun b i => b ||| (1#n <<< i)) 0

def Res.viewScore (r : Res) (n : Nat) : W64 :=
  let c := n / 8
  let x : CtxId := if c = 0 then .primary else if c = 1 then .h1 else .h2
  let sRegs := r.pend.filterMap (fun p => match p.1 with | .s y _ k => if y == x then some k else none | _ => none)
  -- the predicates of BARW, BARAW and CLKDIV, scoreboarded (R64, R180) and those that R337 saves as pending
  let pRegs := r.pend.filterMap (fun p => match p.1 with | .p y _ k => if y == x then some k else none | _ => none)
  let vRegs := r.pend.filterMap (fun p => match p.1 with | .v g k => if c = 0 then some (32 * g + k) else none | _ => none)
  if 24 ≤ n then 0
  else match n % 8 with
    | 0 => 0#16 ++ bitsOf 8 pRegs ++ bitsOf 8 pRegs ++ bitsOf 32 sRegs
    | 1 => (bitsOf 256 vRegs).extractLsb' 0 64
    | 2 => (bitsOf 256 vRegs).extractLsb' 64 64
    | 3 => (bitsOf 256 vRegs).extractLsb' 128 64
    | 4 => (bitsOf 256 vRegs).extractLsb' 192 64
    | _ => 0

/-! ## View 3: the matrix engine -/

def Tile.viewEntry (t : Tile) (m : Nat) : W64 :=
  let i := m / 32
  let j := m % 32
  if t.ranked then
    match (t.row i)[j]? with
    | some (v, x) => x ++ v
    | none => 0
  else t.sum.get 0 (64 * i + 2 * j + 1) ++ t.sum.get 0 (64 * i + 2 * j)

def Tile.viewHead (t : Tile) (w : Nat) : W64 :=
  if w = 0 then (if t.ranked then 1#2 else 0#2) ++ BitVec.ofNat 6 t.k ++ 0#24 ++ t.reject
  else if w < 9 then
    BitVec.ofNat 64 (ofLe ((List.range 8).map (fun b => BitVec.ofNat 8 (t.row (8 * (w - 1) + b)).length)))
  else if w = 9 then t.threshold.setWidth 64
  else 0

/-- A queued command's instruction, and the parameters an MCALL captured. -/
def Cmd.shown : Cmd → Source × Tab W64
  | .call _ _ _ mp src _ => (src, mp)
  | .mode _ _ _ src => (src, [])
  | .clr _ src => (src, [])
  | .merge _ _ _ src => (src, [])

def viewEngine (r : Res) (n : Nat) : W64 :=
  let e := r.eng
  if n < 16384 then (e.tile (n / 2048)).viewEntry (n % 2048)
  else if n < 16512 then (e.tile ((n - 16384) / 16)).viewHead ((n - 16384) % 16)
  else if n = 16512 then
    let st : BitVec 2 := if e.stopped then 2 else if e.call.isSome then 1 else 0
    st ++ 0#40 ++ (match e.call with | some k => k.idx | none => 0) ++ e.pos
  else if n < 16521 then e.m.get 0 (2 * (n - 16513) + 1) ++ e.m.get 0 (2 * (n - 16513))
  else if n < 16525 then
    match e.loops[n - 16521]? with
    | some (a, b, c) => c ++ 0#8 ++ b ++ a
    | none => 0
  else if n < 16561 then
    match e.queue[(n - 16525) / 9]? with
    | none => 0
    | some k => if (n - 16525) % 9 = 0 then k.shown.1.words else k.shown.2.get 0 ((n - 16525) % 9 - 1)
  else 0

/-! ## Views 4 to 8 -/

def Res.viewXfer (r : Res) (n : Nat) : W64 :=
  if n < 128 then
    match r.xfers.get none (n / 8) with
    | none => 0
    | some t =>
      let words := encode t.ins
      match n % 8 with
      | 0 => 1#1 ++ 0#31 ++ words.getD 0 0
      | 1 => (words.getD 1 0).setWidth 64
      | 2 => (words.getD 2 0).setWidth 64
      | 3 => t.target.setWidth 64
      | 4 => BitVec.ofNat 64 t.landedNow
      | 5 => t.xa
      | 6 => t.xb
      | _ => t.pc.setWidth 64
  else if n < 196 then
    match r.faults[(n - 128) / 4]? with
    | some f => f.bits.extractLsb' (64 * (n % 4)) 64
    | none => 0
  else 0

def Res.viewFlags (r : Res) (n : Nat) : W64 :=
  let f : Nat → BitVec 16 := fun k => r.flags.get 0 (4 * n + k)
  if n < 8 then f 3 ++ f 2 ++ f 1 ++ f 0
  else if n < 72 then
    match r.arrivals[(n - 8) / 4]? with
    | none => 0
    | some a =>
      match n % 4 with
      | 0 => 1#1 ++ 0#15 ++ a.handler
      | 1 => a.addr
      | 2 => a.len
      | _ => a.src.setWidth 64
  else 0

/-- A queue's descriptor, for a core of its partition. -/
def State.viewQueue (s : State) (c : CoreId) (n : Nat) : W64 :=
  if 4096 ≤ n then 0
  else
    let k := s.queue (BitVec.ofNat 10 (n / 4))
    if k.state != 0 && s.dieOwner (dieOf c) == some k.part then k.descriptor.extractLsb' (64 * (n % 4)) 64 else 0

def State.viewBarrier (s : State) (r : Res) (n : Nat) : W64 :=
  match if n < 64 then groupSlot r.groupSet (n / 16) else none with
  | none => 0
  | some g =>
    let a := s.arm g
    let w := n % 16
    let c : Nat → BitVec 16 := fun k => BitVec.ofNat 16 (a.count.get 0 (4 * (w - 8) + k))
    if w < 8 then a.bits.extractLsb' (64 * w) 64
    else if w < 12 then c 3 ++ c 2 ++ c 1 ++ c 0
    else 0

/-- The doubleword that DBG_VSEL selects (R453). -/
def State.viewWord (s : State) (c : CoreId) (view n : Nat) : W64 :=
  let k := s.core c
  let r := k.res k.act
  match view with
  | 0 => viewRegs k.haltedAt r n
  | 1 => r.viewShadow n
  | 2 => r.viewScore n
  | 3 => viewEngine r n
  | 4 => r.viewXfer n
  | 5 => r.viewFlags n
  | 6 => s.viewQueue c n
  | 7 => s.viewBarrier r n
  | 8 => if n < 2 ^ 40 then (s.sector (64 * n)).setWidth 64 else 0
  | _ => 0

/-- A read of DBG_VDATA: 0 unless the core is halted; then the selected doubleword, and INDEX goes up by 1. -/
def State.vdata (s : State) (c : CoreId) : State × W64 :=
  let k := s.core c
  if !k.halted then (s, 0)
  else
    let n : BitVec 40 := k.dbgVsel.setWidth 40
    let v : BitVec 8 := k.dbgVsel.extractLsb' 40 8
    (s.modCore c (fun k => { k with dbgVsel := 0#16 ++ v ++ (n + 1) }), s.viewWord c v.toNat n.toNat)

/-- DBG_VDATA_READ: the host has the doubleword. -/
def State.readVdata (s : State) (c : CoreId) : State := { (s.vdata c).1 with hostData := (s.vdata c).2, hostError := false }
def execDbgVdataRead (c : CoreId) (s : State) : Out := agent (s.atReady (fun s => s.readVdata c))

end Sys2Proof.Machine
end

