-- ==== Sys2Proof/Machine/Mgmt.lean ====
section
/-! DEFINITION. Bring-up and attestation (R459 to R464), the partition table (R450, R451), the management registers (R384, R389,
R390, R423, R440, R443, R447, R452, R453), and the host's accesses (R452, R454). -/

namespace Sys2Proof.Machine

/-! ## Bring-up (R459 to R463) -/

/-- DEVICE_RESET: the state after reset, the fuses and what identifies the package kept; the ROM runs. -/
def State.deviceReset (s : State) : State :=
  let b := s.boot
  { State.reset with
    boot := { phase := 1, keys := b.keys, revoked := b.revoked, floor := b.floor, secret := b.secret, serial := b.serial
              form := b.form, step := b.step, hbmMode := b.hbmMode }
    peer := s.peer, domain := s.domain, serial := s.serial, launched := s.launched, turns := s.turns, steps := s.steps }
def execDeviceReset (s : State) : Out := agent s.deviceReset

/-- The boot window: the first 16 MiB of CD5's stacked SRAM. -/
def bootWindow : Nat := stkBase + 5 * 0x100000000
def State.bootBytes (s : State) (a n : Nat) : List Byte := (List.range n).map (fun i => s.byte (bootWindow + a + i))
def State.bootNat (s : State) (a n : Nat) : Nat := ofLe (s.bootBytes a n)

/-- An extension of MEAS i by a digest (R462). -/
def Boot.extend (b : Boot) (i : Nat) (x : BitVec 256) : Boot :=
  { b with meas := b.meas.put 0 i (Config.sha3 (leBytes 32 (b.meas.get 0 i).toNat ++ leBytes 32 x.toNat)) }

def bootLength (s : State) : Nat := s.bootNat 12 4
/-- MAGIC, LENGTH and the zero fields of the header (R460). -/
def State.headerGood (s : State) : Bool :=
  s.bootNat 0 4 == 0x5746584B && bootLength s ≤ 0x1000000 - 4096 && s.bootNat 16 32 == 0 && s.bootNat 3780 316 == 0
/-- The slot of an intact fused hash that the public key has. -/
def State.keySlot (s : State) : Option Nat :=
  let h := Config.sha3 (s.bootBytes 48 1312)
  (List.range 4).find? (fun i => !s.boot.revoked.getLsbD i && s.boot.keys.get 0 i == h)
/-- The image's signature over the digest of its first 48 bytes and its body. -/
def State.signatureGood (s : State) : Bool :=
  Config.mlDsaVerify (s.bootBytes 48 1312) (Config.sha3 (s.bootBytes 0 48 ++ s.bootBytes 4096 (bootLength s))) (s.bootBytes 1360 2420)

/-- The first check that fails, and the key's slot. -/
def State.verify (s : State) : Byte × Nat :=
  if !s.headerGood then (1, 0)
  else match s.keySlot with
    | none => (2, 0)
    | some k =>
      if s.bootNat 8 4 < s.boot.floor.toNat then (3, k)
      else if !s.signatureGood then (4, k)
      else (0, k)

/-- Step 5: MEAS0 and MEAS1 are extended, the identity is made, and the firmware runs, in PHASE 3. -/
def State.bringUp (s : State) (slot : Nat) : State :=
  let b := s.boot.extend 0 (Config.sha3 (s.bootBytes 0 (4096 + bootLength s)))
  let b := b.extend 1 (Config.sha3 (leBytes 4 slot ++ leBytes 4 s.boot.floor.toNat))
  let b := { b with
    identity := Config.sha3 (leBytes 32 b.secret.toNat ++ leBytes 32 (b.meas.get 0 0).toNat)
    svn := BitVec.ofNat 32 (s.bootNat 8 4), err := 0, phase := 3 }
  { s with boot := b }

/-- BOOT_GO: verification begins, in PHASE 2; a GO while PHASE is 2 to 5 is ignored (R461). -/
def State.bootGo (s : State) : State :=
  if 2 ≤ s.boot.phase.toNat && s.boot.phase.toNat ≤ 5 then s else { s with boot := { s.boot with phase := 2 } }
def execBootGo (s : State) : Out := agent s.bootGo

/-- The verdict of steps 1 to 4: the device has FAILED with the code of the first check that fails, or goes on (R461). -/
def State.verified (s : State) : State :=
  let v := s.verify
  if v.1 = 0 then s.bringUp v.2 else { s with boot := { s.boot with phase := 15, err := v.1 } }

/-- The firmware trains HBM4E, the mesh and the optics (R461 step 6). -/
def State.bootTrain (s : State) : State :=
  let s := (List.range 32).foldl (fun (s : State) p => s.modFab (fun f => f.modPort p (fun k => k.trained true))) s
  { s with boot := { s.boot with phase := 4 } }

/-- A step of the boot ROM or the firmware: the next stage of bring-up, fuses that raise the SVN floor, and a measurement that a
partition's system software asks for (R461, R462). -/
def State.firmware (s : State) (a : FirmAct) : State :=
  match a with
  | .next =>
    match s.boot.phase.toNat with
    | 2 => s.verified
    | 3 => s.bootTrain
    | 4 => { s with boot := { s.boot with phase := 5 } }
    | _ => s
  | .raiseFloor n =>
    if 3 ≤ s.boot.phase.toNat && s.boot.phase.toNat ≤ 5 && s.boot.floor.toNat < n.toNat then
      { s with boot := { s.boot with floor := n.setWidth _ } } else s
  | .extend i x => if s.ready && 3 ≤ i && i ≤ 7 then { s with boot := s.boot.extend i x } else s

/-! ## Attestation (R463, R464) -/

def State.rootSeed (s : State) : BitVec 256 := Config.sha3 (leBytes 32 s.boot.secret.toNat)
def State.rootKey (s : State) : List Byte := Config.mlDsaPublic s.rootSeed
def State.identityKey (s : State) : List Byte := Config.mlDsaPublic s.boot.identity
/-- The root key's signature over the digest of the identity public key. -/
def State.identitySignature (s : State) : List Byte := Config.mlDsaSign s.rootSeed (Config.sha3 s.identityKey)

def State.devId (s : State) : W64 := 0x4B58#16 ++ 0x5A16#16 ++ s.boot.form ++ s.boot.step

def attBuffer (w : W64) : Nat := (w.extractLsb' 12 34).toNat * 4096
def attPart (w : W64) : PartId := w.setWidth 4
/-- The partition owns the HBM of the report's bytes. -/
def State.ownsBuffer (s : State) (w : W64) : Bool :=
  (span (attBuffer w) 2884).all (fun a => inHbm a && s.ownerOf a == some (attPart w))

/-- ATT_GO: a write of ATT_CTL; a GO while a report is being made is ignored. -/
def State.attGo (s : State) (d : DieId) (w : W64) : State :=
  if (s.die d).attBusy then s
  else
    let s := s.modDie d (fun k => { k with attCtl := w })
    if !w.getLsbD 4 then s
    else if s.ownsBuffer w then s.modDie d (fun k => { k with attBusy := true, attStat := 0 })
    else s.modDie d (fun k => { k with attStat := 2 })
def execAttGo (d : DieId) (w : W64) (s : State) : Out := agent (s.atReady (fun s => s.attGo d w))

/-- The first 464 bytes of the report. -/
def State.reportBody (s : State) (d : DieId) : List Byte :=
  let k := s.die d
  let p := attPart k.attCtl
  leBytes 32 k.nonce.toNat ++ leBytes 8 s.devId.toNat ++ leBytes 8 s.boot.serial.toNat ++ leBytes 4 s.boot.svn.toNat ++
  leBytes 8 (s.part p).cfg.toNat ++ leBytes 4 p.toNat ++
  (List.range 8).flatMap (fun i => leBytes 32 (s.boot.meas.get 0 i).toNat) ++ List.replicate 144 (0 : Byte)

/-- ATTESTATION_REPORT: the signed report reaches the buffer. -/
def State.attReport (s : State) (d : DieId) : State :=
  if !(s.die d).attBusy then s
  else
    let body := s.reportBody d
    let all := body ++ Config.mlDsaSign s.boot.identity (Config.sha3 body)
    (s.writeList ((span (attBuffer (s.die d).attCtl) all.length).zip all)).modDie d
      (fun k => { k with attBusy := false, attStat := 1 })
def execAttestationReport (d : DieId) (s : State) : Out := agent (s.attReport d)

/-! ## The partition table (R450, R451) -/

def cfgValid (w : W64) : Bool := w.getLsbD 63
def cfgDies (w : W64) : BitVec 16 := w.setWidth 16
def cfgArmBase (w : W64) : Nat := (w.extractLsb' 44 8).toNat
def cfgArmCount (w : W64) : Nat := (w.extractLsb' 52 9).toNat
def cfgLink (w : W64) : BitVec 2 := w.extractLsb' 61 2
/-- The bits of PART_CFG that a write changes. -/
def cfgMask : W64 := 0xFFFFF0000000FFFF

/-- Two valid entries clash: they share a die, or Armature entries. -/
def cfgClash (a b : W64) : Bool :=
  cfgValid a && cfgValid b &&
  (cfgDies a &&& cfgDies b != 0 ||
   (0 < cfgArmCount a && 0 < cfgArmCount b && cfgArmBase a < cfgArmBase b + cfgArmCount b && cfgArmBase b < cfgArmBase a + cfgArmCount a))

/-- The dies of a mask hold a task context or an ACTIVE queue. -/
def State.diesBusy (s : State) (m : BitVec 16) : Bool :=
  s.cores.any (fun e => m.getLsbD (e.1 / 256) && e.2.all.any (fun r => r.2.occ)) ||
  s.queues.any (fun e => e.2.state == 1 && m.getLsbD e.2.homedie.toNat)

/-- A write of entry n is refused (R451): of a busy entry where it changes the entry. One that moves a held partition to another host link alone is not, for firmware makes it
while the partition's dies are busy (R454, R456; DEDUCED, log 80). -/
def State.cfgRefused (s : State) (n : Nat) (w : W64) : Bool :=
  let old := (s.parts.get {} n).cfg
  let others := (List.range 16).filter (fun m => m != n)
  let linkOnly := (s.parts.get {} n).held && (old ^^^ w) &&& ~~~(0x6000000000000000 : W64) == 0
  256 < cfgArmBase w + cfgArmCount w || others.any (fun m => cfgClash w (s.parts.get {} m).cfg) ||
  (w != old && s.diesBusy (cfgDies old) && !linkOnly)

/-- Cores of a die that leaves its partition have their kernel banks cleared (R320, R451). -/
def Ctx.clearKernel (x : Ctx) : Ctx := { x with ks := [], kp := [] }
def Res.clearKernel (r : Res) : Res :=
  { r with primary := r.primary.clearKernel, h1 := r.h1.clearKernel, h2 := r.h2.clearKernel }
def State.clearBanks (s : State) (m : BitVec 16) : State :=
  { s with cores := s.cores.map (fun e => (e.1, if m.getLsbD (e.1 / 256) then e.2.mapRes (fun _ r => r.clearKernel) else e.2)) }

/-- An accepted write is measured in MEAS2 (R451, R462). -/
def State.measureWrite (s : State) (o : Nat) (w : W64) : State :=
  { s with boot := s.boot.extend 2 (Config.sha3 (leBytes 4 o ++ leBytes 8 w.toNat)) }

/-- Firmware writes PART_CFG of entry n (offset 8 n) or eight bytes of HBM_OWN (offset 0x100 to 0x3FF). -/
def State.tableWrite (s : State) (o : Nat) (w : W64) : State :=
  if o % 8 != 0 then s
  else if o < 0x80 then
    let n := o / 8
    let v := w &&& cfgMask
    if s.cfgRefused n v then s
    else
      let old := (s.parts.get {} n).cfg
      let gone := if !cfgValid old then 0 else if cfgValid v then cfgDies old &&& ~~~cfgDies v else cfgDies old
      let s := (s.clearBanks gone).modPart (BitVec.ofNat 4 n) (fun k =>
        { k with cfg := v, held := k.held && cfgLink v == cfgLink old })
      (s.measureWrite o v).ringHeld (BitVec.ofNat 4 n)
  else if 0x100 ≤ o && o < 0x400 then
    ({ s with hbmOwn := s.hbmOwn.putAll 0 ((span (o - 0x100) 8).zip (leBytes 8 w.toNat)) }).measureWrite o w
  else s
def execPartitionTableWrite (o : BitVec 12) (w : W64) (s : State) : Out :=
  agent (s.atConfigure (fun s => s.tableWrite o.toNat w))

/-! ## Registers without a behaviour of their own -/

/-- The partition whose dispatcher block a die holds: the die is its lowest-numbered one (R452). -/
def State.dispatcherOf (s : State) (d : DieId) : Option PartId :=
  match s.dieOwner d with
  | some p => if (s.ownDies p).head? == some d.toNat then some p else none
  | none => none

def clampTo (lo hi n : Nat) : Nat := Nat.max lo (Nat.min hi n)

/-- The rail setpoints of a die follow its limits (R428). -/
def State.resetRails (s : State) (d : DieId) : State :=
  let go := fun (c : CoreId) (k : Core) =>
    let next := match k.nextChange with | some q => s.setpointOf c (k.divs.set q.eng q.div) | none => 0
    { k with railSet := Nat.max (s.setpointOf c k.divs) next }
  { s with cores := s.cores.map (fun e => (e.1, if e.1 / 256 = d.toNat then go (BitVec.ofNat 12 e.1) e.2 else e.2)) }

def writeDispatcher (k : Part) (o : Nat) (w : W64) : Part :=
  if 0x10 ≤ o && o < 0x30 then { k with args := k.args.put 0 ((o - 0x10) / 8) w }
  else if o = 0x38 then
    { k with raceCfg := (w &&& 0xFFFFFFFFFFFF0F00) ||| (if w.setWidth 2 = (3#2) then 0 else w &&& 3) }
  else if o = 0x40 then { k with dlog := w &&& 0xFFFFFFFFFFFFF00F }
  else if o = 0x48 then { k with elog := w &&& 0xFFFFFFFFFFFFF00F }
  else if o = 0x50 then { k with tvec := w &&& 0xFFFFFFFFF000 }
  else k

def writePower (k : Die) (o : Nat) (w : W64) : Die :=
  if o = 0 then
    { k with vmax := BitVec.ofNat 10 (clampTo 780 950 (w.extractLsb' 32 10).toNat)
             vfloor := BitVec.ofNat 10 (clampTo 620 780 (w.extractLsb' 16 10).toNat) }
  else if o = 8 then
    { k with sramMax := w.extractLsb' 44 10, sramFloor := w.extractLsb' 34 10, sramSetpt := w.extractLsb' 16 18 }
  else k

/-- Sixty-four bits of a map: bit set where the bank is live. -/
def writeMap (m : Tab Bool) (n : Nat) (w : W64) : Tab Bool :=
  m.putAll false ((List.range 64).map (fun i => (64 * n + i, !w.getLsbD i)))
def readMap (m : Tab Bool) (n : Nat) : W64 := bitsOf 64 ((List.range 64).filter (fun i => !m.get false (64 * n + i)))

def writeStk (k : Stk) (o : Nat) (w : W64) : Stk :=
  if o = 0x10 then { k with stage := w.setWidth 32 }
  else if o = 0x18 then { k with mirror := w.extractLsb' 12 34 }
  else if o = 0x20 then
    { k with testPeriod := if w.extractLsb' 16 16 = 0 then 1 else w.extractLsb' 16 16, testEn := w.getLsbD 0 }
  else if 0x1000 ≤ o && o < 0x1800 then { k with pdead := writeMap k.pdead ((o - 0x1000) / 8) w }
  else k

/-- The staged lines of a die that no pin holds are written back to HBM (R386 step 2). -/
def State.unstage (s : State) (d : DieId) : State :=
  (s.homes.filter (fun e => e.2.at_ == .slice && e.2.pins.isEmpty && s.hbmStack (e.1 * 128) == d)).foldl (fun (s : State) e =>
    { s with homes := s.homes.mod {} e.1 (fun h => { h with at_ := .hbm }) }) s
/-- A write of a stacked-memory register; lowering STK_STAGE writes back the staged lines above it (R384, R386). -/
def State.stkWrite (s : State) (d : DieId) (o : Nat) (w : W64) : State :=
  let lowered := o = 0x10 && (w.setWidth 32).toNat < (s.die d).stk.stage.toNat
  (if lowered then s.unstage d else s).modStk d (fun k => writeStk k o w)

/-- FAB_DEPTH is written only while every port is DOWN; a value outside 64 to 1,024 is not taken (R423). -/
def State.writeFabric (s : State) (d : DieId) (o : Nat) (w : W64) : State :=
  let depth := (w.setWidth 11).toNat
  if o = 0x18 then
    if s.fab.ports.all (fun p => p.2.state == 0) && 64 ≤ depth && depth ≤ 1024 then
      s.modFab (fun f => f.modOfu d.toNat (fun o => { o with depth := w.setWidth 11 })) else s
  else if o = 0x28 then s.modDie d (fun k => { k with shootMask := w })
  else if o = 0x30 then s.modDie d (fun k => { k with fabLog := w &&& 0xFFFFFFFFFFFFF00F })
  else s

def oneUp (x : BitVec 11) : BitVec 11 := if x = 0 then 1 else x
/-- CAT.MAXFLOW, ZLIM, COOL_BUDGET.BUDGET (R440, R443, R447). -/
def State.writeCoolant (s : State) (d : DieId) (o : Nat) (w : W64) : State :=
  if o < 0x80 then s.modZone (d.toNat * 16 + o / 8) (fun z => { z with maxflow := oneUp (w.extractLsb' 28 11) })
  else if o = 0x80 then if d = 0 then { s with hostMaxflow := oneUp (w.extractLsb' 28 11) } else s
  else if 0x180 ≤ o && o < 0x200 then
    s.modZone (d.toNat * 16 + (o - 0x180) / 8) (fun z =>
      { z with pmax := w.extractLsb' 52 12, fmin := w.extractLsb' 41 11, tmax := w.extractLsb' 28 13 })
  else if o = 0x200 then if d = 0 then { s with budget := w.extractLsb' 16 16 } else s
  else s

/-- The core of a debug offset. -/
def debugCore (d : DieId) (off : Nat) : CoreId := BitVec.ofNat 12 (d.toNat * 256 + (off - 0x10000) / 256)

/-- MGMT_REGISTER_WRITE: a register that only holds what is written; unlisted offsets ignore writes (R452). -/
def State.plainWrite (s : State) (d : DieId) (off : Nat) (w : W64) : State :=
  if off % 8 != 0 then s
  else if 0x2000 ≤ off && off < 0x3000 then
    match s.dispatcherOf d with
    | some p => s.modPart p (fun k => writeDispatcher k (off - 0x2000) w)
    | none => s
  else if 0x3000 ≤ off && off < 0x4000 then 
    let t := s.modDie d (fun k => writePower k (off - 0x3000) w)
    if off = 0x3000 then t.resetRails d else t
  else if 0x4000 ≤ off && off < 0x6000 then s.stkWrite d (off - 0x4000) w
  else if 0x6000 ≤ off && off < 0x7000 then s.writeFabric d (off - 0x6000) w
  else if 0x7000 ≤ off && off < 0x8000 then s.writeCoolant d (off - 0x7000) w
  else if 0x10000 ≤ off && off < 0x20000 then
    if off % 256 = 0x10 then s.modCore (debugCore d off) (fun k => { k with dbgVsel := w &&& 0xFFFFFFFFFFFF }) else s
  else if 0x20020 ≤ off && off < 0x20040 then
    s.modDie d (fun k =>
      let n := 8 * (off - 0x20020)
      { k with nonce := (k.nonce &&& ~~~((0xFFFFFFFFFFFFFFFF : BitVec 256) <<< n)) ||| (w.setWidth 256 <<< n) })
  else s

/-- The requester reaches the blocks of a die: firmware every one, a partition's system software those of its own (R452). -/
def State.reachesDie (s : State) (p : Option PartId) (d : DieId) : Bool := p.isNone || s.dieOwner d == p

def State.registerWrite (s : State) (p : Option PartId) (d : DieId) (off : Nat) (w : W64) : State :=
  if s.reachesDie p d then s.plainWrite d off w else { s with hostError := true }
def execMgmtRegisterWrite (p : Option PartId) (d : DieId) (off : BitVec 20) (w : W64) (s : State) : Out :=
  agent ((if p.isNone then s.atConfigure else s.atReady) (fun s => s.registerWrite p d off.toNat w))

/-- SOFTERR_WRITE clears the four counts. -/
def State.softerrWrite (s : State) (d : DieId) : State := s.modDie d (fun k => { k with softerr := 0 })
def execSofterrWrite (d : DieId) (s : State) : Out := agent (s.atReady (fun s => s.softerrWrite d))

/-! ## Reading the management space -/

def State.readIdentity (s : State) (d : DieId) (o : Nat) : W64 :=
  let k := s.die d
  let b := s.boot
  match o with
  | 0x00 => s.devId
  | 0x08 => b.serial
  | 0x10 => 0#16 ++ b.svn.setWidth 16 ++ b.err ++ b.rej ++ 0#12 ++ b.phase
  | 0x18 => if b.hbmMode then 1 else 0
  | 0x20 =>
    0#32 ++ bitsOf 16 ((List.range 16).filter (fun z => (k.zones.get {} z).state == zFenced)) ++ 0#14 ++
      BitVec.ofBool k.linkFenced ++ BitVec.ofBool k.fenced
  | 0x30 => k.softerr
  | 0x38 => k.ucCount ++ 0#2 ++ k.ucAddr
  | _ => 0

def State.readPartition (s : State) (d : DieId) (o : Nat) : W64 :=
  if d != 0 then 0
  else if o < 0x80 then (s.parts.get {} (o / 8)).cfg
  else if 0x100 ≤ o && o < 0x400 then BitVec.ofNat 64 (ofLe ((List.range 8).map (fun i => s.hbmOwn.get 0 (o - 0x100 + i))))
  else 0

def readDispatcher (k : Part) (o : Nat) : W64 :=
  if 0x10 ≤ o && o < 0x30 then k.args.get 0 ((o - 0x10) / 8)
  else match o with
    | 0x30 => BitVec.ofNat 64 k.qstat
    | 0x38 => k.raceCfg
    | 0x40 => k.dlog
    | 0x48 => k.elog
    | 0x50 => k.tvec
    | _ => 0

/-- COL_STAT (R447). -/
def State.colStat (s : State) (c : CoreId) : W64 :=
  let k := s.core c
  k.swal ++ BitVec.ofNat 10 k.railSet ++ k.temp ++ 0#5 ++ k.level ++ BitVec.ofNat 2 (s.ccap c) ++ k.tcap ++ s.hcap ++ 0#4 ++
    BitVec.ofNat 4 (zoneOf c % 16) ++ columnOf c ++ 0#5 ++ k.deny

def State.readPower (s : State) (d : DieId) (o : Nat) : W64 :=
  let k := s.die d
  if o = 0 then 0#22 ++ k.vmax ++ 0#6 ++ k.vfloor ++ 0#16
  else if o = 8 then k.sramSet ++ k.sramMax ++ k.sramFloor ++ k.sramSetpt ++ k.sramLastc
  else if 0x800 ≤ o then s.colStat (BitVec.ofNat 12 (d.toNat * 256 + (o - 0x800) / 8))
  else 0

/-- TEST_CTL (R389). -/
def Stk.testCtl (k : Stk) : W64 := 0#32 ++ k.testPeriod ++ k.testLanes ++ 0#7 ++ BitVec.ofBool k.testEn
def readStk (k : Stk) (o : Nat) : W64 :=
  if o = 0 then k.cap
  else if o = 0x10 then k.stage.setWidth 64
  else if o = 0x18 then 0#18 ++ k.mirror ++ 0#12
  else if o = 0x20 then k.testCtl
  else if 0x800 ≤ o && o < 0x1000 then readMap k.dead ((o - 0x800) / 8)
  else if 0x1000 ≤ o && o < 0x1800 then readMap k.pdead ((o - 0x1000) / 8)
  else 0

/-- FAB_STAT, PORT_STAT and LINE_STAT (R409, R423). -/
def Fabric.stat (f : Fabric) (d : Nat) : W64 :=
  let o := f.ofu d
  o.rot ++ 0#2 ++ o.slot ++ 0#21 ++ BitVec.ofBool o.loaderr ++ BitVec.ofBool o.qdone ++ BitVec.ofBool o.lock
def Port.stat (p : Port) : W64 := 0#16 ++ p.mismatch ++ p.fecerr ++ 0#12 ++ p.state
def Line.stat (x : Line) : W64 := 0#32 ++ x.drift ++ 0#4 ++ x.state ++ x.forLine

def State.readFabric (s : State) (d : DieId) (o : Nat) : W64 :=
  let f := s.fab
  let k := s.die d
  match o with
  | 0x00 => f.stat d.toNat
  | 0x10 => f.peers
  | 0x18 => (f.ofu d.toNat).depth.setWidth 64
  | 0x20 => f.stale
  | 0x28 => k.shootMask
  | 0x30 => k.fabLog
  | 0x100 => (f.port (2 * d.toNat)).stat
  | 0x108 => (f.port (2 * d.toNat + 1)).stat
  | o =>
    if 0x200 ≤ o && o < 0x440 then ((f.port (2 * d.toNat)).line ((o - 0x200) / 8)).stat
    else if 0x440 ≤ o && o < 0x680 then ((f.port (2 * d.toNat + 1)).line ((o - 0x440) / 8)).stat
    else 0

/-- An entry of the coolant allocation table (R440); that of the host die's zone is FIXED, with its flow. -/
def Zone.cat (z : Zone) : W64 :=
  z.valve ++ 0#5 ++ z.state ++ z.prio ++ z.owner ++ z.cls ++ z.maxflow ++ z.minflow ++ 0#17
def State.hostCat (s : State) : W64 := s.hostValve ++ 0#5 ++ 4#3 ++ 0#9 ++ s.hostMaxflow ++ 400#11 ++ 0#17
def Zone.lim (z : Zone) : W64 := z.pmax ++ z.fmin ++ z.tmax ++ 0#28
/-- COOL_BUDGET (R447). -/
def State.coolBudget (s : State) : W64 := 0#16 ++ s.supply ++ s.budget ++ BitVec.ofNat 16 s.heldFlow

def State.readCoolant (s : State) (d : DieId) (o : Nat) : W64 :=
  let z := fun (n : Nat) => (s.die d).zones.get {} n
  if o < 0x80 then (z (o / 8)).cat
  else if o = 0x80 then if d = 0 then s.hostCat else 0
  else if 0x100 ≤ o && o < 0x180 then (z ((o - 0x100) / 8)).sens
  else if 0x180 ≤ o && o < 0x200 then (z ((o - 0x180) / 8)).lim
  else if o = 0x200 then if d = 0 then s.coolBudget else 0
  else 0

def Core.debugCtl (k : Core) : W64 := 0#60 ++ BitVec.ofBool k.dbgEbrk ++ 0#2 ++ BitVec.ofBool k.dbgHalt
def Core.debugStat (k : Core) : W64 := 0#61 ++ BitVec.ofBool k.dbgEbh ++ BitVec.ofBool k.dbgDouble ++ BitVec.ofBool k.halted
def readDebug (k : Core) (o : Nat) : W64 :=
  match o with
  | 0x00 => k.debugCtl
  | 0x08 => k.debugStat
  | 0x10 => k.dbgVsel
  | _ => 0

/-- Eight bytes of a list. -/
def eightOf (l : List Byte) (o : Nat) : W64 := BitVec.ofNat 64 (ofLe ((l.drop o).take 8))
def State.readAttestation (s : State) (d : DieId) (o : Nat) : W64 :=
  let k := s.die d
  if o = 0 then k.attCtl
  else if o = 8 then BitVec.ofNat 64 k.attStat
  else if 0x20 ≤ o && o < 0x40 then k.nonce.extractLsb' (8 * (o - 0x20)) 64
  else if 0x100 ≤ o && o < 0x200 then (s.boot.meas.get 0 ((o - 0x100) / 32)).extractLsb' (8 * (o % 32)) 64
  else if 0x400 ≤ o && o < 0x920 then eightOf s.rootKey (o - 0x400)
  else if 0xA00 ≤ o && o < 0xF20 then eightOf s.identityKey (o - 0xA00)
  else if 0x1000 ≤ o && o < 0x1974 then eightOf s.identitySignature (o - 0x1000)
  else 0

/-- A doubleword of a die's management space but for DBG_VDATA; unlisted offsets read 0 (R452). -/
def State.mgmtRead (s : State) (d : DieId) (off : Nat) : W64 :=
  if off % 8 != 0 then 0
  else if off < 0x1000 then s.readIdentity d off
  else if off < 0x2000 then s.readPartition d (off - 0x1000)
  else if off < 0x3000 then
    match s.dispatcherOf d with
    | some p => readDispatcher (s.part p) (off - 0x2000)
    | none => 0
  else if off < 0x4000 then s.readPower d (off - 0x3000)
  else if off < 0x6000 then readStk (s.die d).stk (off - 0x4000)
  else if off < 0x7000 then s.readFabric d (off - 0x6000)
  else if off < 0x8000 then s.readCoolant d (off - 0x7000)
  else if off < 0x10000 then 0
  else if off < 0x20000 then readDebug (s.core (debugCore d off)) (off % 256)
  else s.readAttestation d (off - 0x20000)

/-! ## Host transactions (R452, R454, R459) -/

/-- The offset is DBG_VDATA of a core. -/
def isVdata (off : Nat) : Bool := 0x10000 ≤ off && off < 0x20000 && off % 256 == 0x18

/-- A QCMD by its OP; one that names no command is refused. -/
def State.anyQcmd (s : State) (p : PartId) (w : W64) : State :=
  match (w.setWidth 8).toNat with
  | 1 => s.qcmdCreate p w
  | 2 => s.qcmdDestroy p w
  | 3 => s.qcmdKill p w
  | 4 => s.qcmdClearerr p w
  | 5 => s.qcmdArmreload p w
  | 6 => s.qcmdQuery p w
  | _ => s.modPart p (fun k => { k with qstat := 2 })

/-- STK_CTL: PROPOSE and GO; its other bits must be 0 (R384). -/
def State.stkCtl (s : State) (d : DieId) (w : W64) : State :=
  if w &&& 0xFFFF0000FFFFFFFC != 0 then s
  else
    let s := if w.getLsbD 1 then s.propose d (s.die d).stk.pdead else s
    if w.getLsbD 0 then s.stkGo d (w.extractLsb' 32 16) else s

/-- DBG_CTL: HALT and EBRK hold what is written, RESUME and STEP act (R339). -/
def State.dbgCtl (s : State) (c : CoreId) (w : W64) : State :=
  let s := s.modCore c (fun k => { k with dbgHalt := w.getLsbD 0, dbgEbrk := w.getLsbD 3 })
  let s := if w.getLsbD 1 then s.dbgResume c else s
  if w.getLsbD 2 then s.debugStep c else s

/-- A host's write to the management space; only firmware writes the partition table and ZCLR (R445, R451). -/
def State.mgmtWrite (s : State) (p : Option PartId) (d : DieId) (off : Nat) (w : W64) : State :=
  if off = 0x28 then if w.getLsbD 0 then s.bootGo else s
  else if off = 0x30 then s.softerrWrite d
  else if 0x1000 ≤ off && off < 0x2000 then if p.isNone && d = 0 then s.tableWrite (off - 0x1000) w else s
  else if off = 0x2000 then match s.dispatcherOf d with | some q => s.doorbell q w | none => s
  else if off = 0x2008 then match s.dispatcherOf d with | some q => s.anyQcmd q w | none => s
  else if off = 0x4008 then s.stkCtl d w
  else if off = 0x6008 then s.fabCtl w
  else if off = 0x7208 then if p.isNone then s.zclr d w else s
  else if 0x10000 ≤ off && off < 0x20000 && off % 256 = 0 then s.dbgCtl (debugCore d off) w
  else if off = 0x20000 then s.attGo d w
  else s.plainWrite d off w

def State.answer (s : State) (x : W64) : State := { s with hostData := x, hostError := false }
/-- The transaction completes with an error. -/
def State.hostFails (s : State) : State := { s with hostData := 0, hostError := true }

/-- An access to the management space: bits [23:20] are the die, bits [19:0] the offset. -/
def State.hostMgmt (s : State) (x : HostAccess) : State :=
  let d : DieId := x.addr.extractLsb' 20 4
  let off := (x.addr.setWidth 20).toNat
  if !s.reachesDie x.part d then s.hostFails
  else if x.write then (s.mgmtWrite x.part d off x.data).answer 0
  else if isVdata off then s.readVdata (debugCore d off)
  else s.answer (s.mgmtRead d off)

/-- A physical address in one of the windows, within the stacked memory's capacity, of a die that is not fenced (R5, R456). -/
def State.hostReaches (s : State) (a : Nat) : Bool :=
  (inHbm a || (inStk a && stkLine a < (s.die (stkDie a)).stk.lines) || inSp a) && !(s.die (s.homeDie a)).fenced

/-- The bytes of a transaction: a doubleword of memory. -/
def hostPiece (x : HostAccess) : Piece :=
  let a := (x.addr.setWidth 46).toNat
  { addr := span a 8, cached := inHbm a }
/-- No lease, no pin, no request before it and, for a write, no re-stripe holds the transaction's line (R111, R117, R118). -/
def State.hostFree (s : State) (x : HostAccess) : Bool := if x.write then s.dispFree (hostPiece x) else s.lineFree 0 .ce (hostPiece x)
/-- An access of a doubleword of memory. -/
def State.hostPerform (s : State) (x : HostAccess) : State :=
  if !(hostPiece x).addr.all s.hostReaches then s.hostFails
  else if x.write then (s.dispWrite (hostPiece x) x.data.toNat).answer 0
  else s.answer (BitVec.ofNat 64 (s.readList (hostPiece x).addr))
/-- An access of memory whose line is held waits, and those after it wait behind it (R111, R344; DESIGN CHOICE, log 84). -/
def State.hostMemory (s : State) (x : HostAccess) : State :=
  if !(hostPiece x).addr.all s.hostReaches then s.hostFails
  else if s.hostQueue.isEmpty && s.hostFree x then s.hostPerform x
  else { s with hostQueue := s.hostQueue ++ [x] }
/-- The oldest transaction that waits is performed once its line is free; with the last write performed the doorbells that waited for
the writes ring (R344). -/
def State.hostTurn (s : State) : State :=
  match s.hostQueue with
  | [] => s
  | x :: l =>
    if !s.hostFree x then s
    else
      let t := ({ s with hostQueue := l }).hostPerform x
      (List.range 16).foldl (fun (t : State) n => t.ringHeld (BitVec.ofNat 4 n)) t

/-- The die of a host link (R450). -/
def linkDie (l : BitVec 2) : DieId := BitVec.ofNat 4 (linkDies.getD l.toNat 0)
/-- The link carries the transaction: a partition's mainband goes on its HLINK, and no fenced link carries any. -/
def State.linkCarries (s : State) (x : HostAccess) : Bool :=
  !(s.die (linkDie x.link)).linkFenced &&
  (x.sideband || (match x.part with | some p => cfgLink (s.part p).cfg == x.link | none => true))

/-- The four kinds of access that a device in bring-up accepts (R459). -/
def bootAccess (x : HostAccess) : Bool :=
  let kind := x.addr.extractLsb' 46 2
  let off := (x.addr.setWidth 20).toNat
  let a := (x.addr.setWidth 46).toNat
  if kind = 1 then
    (x.sideband && !x.write && off < 0x1000) || (x.sideband && x.write && off == 0x28) ||
    (!x.write && ((0x20400 ≤ off && off < 0x20920) || (0x20A00 ≤ off && off < 0x20F20)))
  else kind = 0 && !x.sideband && x.write && x.link = 0 && bootWindow ≤ a && a + 8 ≤ bootWindow + 0x1000000

/-- HOST_MAINBAND_ACCESS: a transaction reaches memory or the management space, or completes with an error. -/
def State.hostAccess (s : State) (x : HostAccess) : State :=
  if !s.ready then
    if !bootAccess x then s.rejected
    else if x.addr.extractLsb' 46 2 = 0 then
      (s.writeList ((span (x.addr.setWidth 46).toNat 8).zip (leBytes 8 x.data.toNat))).answer 0
    else if x.write then (if x.data.getLsbD 0 then s.bootGo else s).answer 0
    else s.answer (s.mgmtRead (x.addr.extractLsb' 20 4) (x.addr.setWidth 20).toNat)
  else if !s.linkCarries x then s.hostFails
  else match (x.addr.extractLsb' 46 2).toNat with
    | 0 => if x.sideband then s.hostFails else s.hostMemory x
    | 1 => s.hostMgmt x
    | _ => match x.part with
      | some p => (s.hostFails).eventLog p 40 x.addr.toNat
      | none => s.hostFails
def execHostMainbandAccess (x : HostAccess) (s : State) : Out := agent (s.hostAccess x)

/-- HOST_LINK_FAILURE: firmware holds the doorbells of the link's partitions until HLINK is reassigned (R454). -/
def State.linkFailure (s : State) (l : BitVec 2) : State :=
  (s.modDie (linkDie l) (fun k => { k with linkFenced := true })).holdLink l.toNat
def execHostLinkFailure (l : BitVec 2) (s : State) : Out := agent (s.linkFailure l)

end Sys2Proof.Machine
end

