-- ==== Sys2Proof/Machine/Scalar.lean ====
section
/-! DEFINITION. The meanings of the S class: arithmetic and logic, the bit network, compares, float, loads and stores,
atomics, moves and stream set-up (R148 to R167). -/

namespace Sys2Proof.Machine

/-! ## Integer arithmetic and logic (R148 to R152) -/

def execAdd (h : Hdr) (f : S32) (s : State) : Out := run (.add h f) s (aluReg .add f)
def execAddI (h : Hdr) (f : SF) (s : State) : Out := run (.addI h f) s (aluImm .add f)
def execAddL (h : Hdr) (f : SF) (s : State) : Out := run (.addL h f) s (aluLit .add f)
def execSub (h : Hdr) (f : S32) (s : State) : Out := run (.sub h f) s (aluReg .sub f)
def execSubI (h : Hdr) (f : SF) (s : State) : Out := run (.subI h f) s (aluImm .sub f)
def execSubL (h : Hdr) (f : SF) (s : State) : Out := run (.subL h f) s (aluLit .sub f)
def execMul (h : Hdr) (f : S32) (s : State) : Out := run (.mul h f) s (aluReg .mul f)
def execMulI (h : Hdr) (f : SF) (s : State) : Out := run (.mulI h f) s (aluImm .mul f)
def execMulL (h : Hdr) (f : SF) (s : State) : Out := run (.mulL h f) s (aluLit .mul f)
def execMulh (h : Hdr) (f : S32) (s : State) : Out := run (.mulh h f) s (aluReg .mulh f)
def execMulhI (h : Hdr) (f : SF) (s : State) : Out := run (.mulhI h f) s (aluImm .mulh f)
def execMulhL (h : Hdr) (f : SF) (s : State) : Out := run (.mulhL h f) s (aluLit .mulh f)
def execMulhz (h : Hdr) (f : S32) (s : State) : Out := run (.mulhz h f) s (aluReg .mulhz f)
def execMulhzI (h : Hdr) (f : SF) (s : State) : Out := run (.mulhzI h f) s (aluImm .mulhz f)
def execMulhzL (h : Hdr) (f : SF) (s : State) : Out := run (.mulhzL h f) s (aluLit .mulhz f)
def execDiv (h : Hdr) (f : S32) (s : State) : Out := run (.div h f) s (aluReg .div f)
def execDivI (h : Hdr) (f : SF) (s : State) : Out := run (.divI h f) s (aluImm .div f)
def execDivL (h : Hdr) (f : SF) (s : State) : Out := run (.divL h f) s (aluLit .div f)
def execDivz (h : Hdr) (f : S32) (s : State) : Out := run (.divz h f) s (aluReg .divz f)
def execDivzI (h : Hdr) (f : SF) (s : State) : Out := run (.divzI h f) s (aluImm .divz f)
def execDivzL (h : Hdr) (f : SF) (s : State) : Out := run (.divzL h f) s (aluLit .divz f)
def execRem (h : Hdr) (f : S32) (s : State) : Out := run (.rem h f) s (aluReg .rem f)
def execRemI (h : Hdr) (f : SF) (s : State) : Out := run (.remI h f) s (aluImm .rem f)
def execRemL (h : Hdr) (f : SF) (s : State) : Out := run (.remL h f) s (aluLit .rem f)
def execRemz (h : Hdr) (f : S32) (s : State) : Out := run (.remz h f) s (aluReg .remz f)
def execRemzI (h : Hdr) (f : SF) (s : State) : Out := run (.remzI h f) s (aluImm .remz f)
def execRemzL (h : Hdr) (f : SF) (s : State) : Out := run (.remzL h f) s (aluLit .remz f)
def execAnd (h : Hdr) (f : S32) (s : State) : Out := run (.and h f) s (aluReg .and f)
def execAndI (h : Hdr) (f : SF) (s : State) : Out := run (.andI h f) s (aluImm .and f)
def execAndL (h : Hdr) (f : SF) (s : State) : Out := run (.andL h f) s (aluLit .and f)
def execOr (h : Hdr) (f : S32) (s : State) : Out := run (.or h f) s (aluReg .or f)
def execOrI (h : Hdr) (f : SF) (s : State) : Out := run (.orI h f) s (aluImm .or f)
def execOrL (h : Hdr) (f : SF) (s : State) : Out := run (.orL h f) s (aluLit .or f)
def execXor (h : Hdr) (f : S32) (s : State) : Out := run (.xor h f) s (aluReg .xor f)
def execXorI (h : Hdr) (f : SF) (s : State) : Out := run (.xorI h f) s (aluImm .xor f)
def execXorL (h : Hdr) (f : SF) (s : State) : Out := run (.xorL h f) s (aluLit .xor f)
def execAndn (h : Hdr) (f : S32) (s : State) : Out := run (.andn h f) s (aluReg .andn f)
def execAndnI (h : Hdr) (f : SF) (s : State) : Out := run (.andnI h f) s (aluImm .andn f)
def execAndnL (h : Hdr) (f : SF) (s : State) : Out := run (.andnL h f) s (aluLit .andn f)
def execShl (h : Hdr) (f : S32) (s : State) : Out := run (.shl h f) s (aluReg .shl f)
def execShlI (h : Hdr) (f : SF) (s : State) : Out := run (.shlI h f) s (aluImm .shl f)
def execShlL (h : Hdr) (f : SF) (s : State) : Out := run (.shlL h f) s (aluLit .shl f)
def execShr (h : Hdr) (f : S32) (s : State) : Out := run (.shr h f) s (aluReg .shr f)
def execShrI (h : Hdr) (f : SF) (s : State) : Out := run (.shrI h f) s (aluImm .shr f)
def execShrL (h : Hdr) (f : SF) (s : State) : Out := run (.shrL h f) s (aluLit .shr f)
def execSra (h : Hdr) (f : S32) (s : State) : Out := run (.sra h f) s (aluReg .sra f)
def execSraI (h : Hdr) (f : SF) (s : State) : Out := run (.sraI h f) s (aluImm .sra f)
def execSraL (h : Hdr) (f : SF) (s : State) : Out := run (.sraL h f) s (aluLit .sra f)
def execRotl (h : Hdr) (f : S32) (s : State) : Out := run (.rotl h f) s (aluReg .rotl f)
def execRotlI (h : Hdr) (f : SF) (s : State) : Out := run (.rotlI h f) s (aluImm .rotl f)
def execRotlL (h : Hdr) (f : SF) (s : State) : Out := run (.rotlL h f) s (aluLit .rotl f)
def execMin (h : Hdr) (f : S32) (s : State) : Out := run (.min h f) s (aluReg .min f)
def execMinI (h : Hdr) (f : SF) (s : State) : Out := run (.minI h f) s (aluImm .min f)
def execMinL (h : Hdr) (f : SF) (s : State) : Out := run (.minL h f) s (aluLit .min f)
def execMax (h : Hdr) (f : S32) (s : State) : Out := run (.max h f) s (aluReg .max f)
def execMaxI (h : Hdr) (f : SF) (s : State) : Out := run (.maxI h f) s (aluImm .max f)
def execMaxL (h : Hdr) (f : SF) (s : State) : Out := run (.maxL h f) s (aluLit .max f)
def execMinz (h : Hdr) (f : S32) (s : State) : Out := run (.minz h f) s (aluReg .minz f)
def execMinzI (h : Hdr) (f : SF) (s : State) : Out := run (.minzI h f) s (aluImm .minz f)
def execMinzL (h : Hdr) (f : SF) (s : State) : Out := run (.minzL h f) s (aluLit .minz f)
def execMaxz (h : Hdr) (f : S32) (s : State) : Out := run (.maxz h f) s (aluReg .maxz f)
def execMaxzI (h : Hdr) (f : SF) (s : State) : Out := run (.maxzI h f) s (aluImm .maxz f)
def execMaxzL (h : Hdr) (f : SF) (s : State) : Out := run (.maxzL h f) s (aluLit .maxz f)
def execClz (h : Hdr) (f : S32) (s : State) : Out := run (.clz h f) s (countReg .clz f)
def execClzW (h : Hdr) (f : SF) (s : State) : Out := run (.clzW h f) s (countW .clz f)
def execCtz (h : Hdr) (f : S32) (s : State) : Out := run (.ctz h f) s (countReg .ctz f)
def execCtzW (h : Hdr) (f : SF) (s : State) : Out := run (.ctzW h f) s (countW .ctz f)
def execPopc (h : Hdr) (f : S32) (s : State) : Out := run (.popc h f) s (countReg .popc f)
def execPopcW (h : Hdr) (f : SF) (s : State) : Out := run (.popcW h f) s (countW .popc f)

/-- LEA (R150). -/
def execLea (h : Hdr) (f : SF) (s : State) : Out := run (.lea h f) s (leaAt f (sext16 f.imm))
def execLeaL (h : Hdr) (f : SF) (s : State) : Out := run (.leaL h f) s (leaAt f (sext32 f.lit))
/-- SEL (R150). -/
def execSel (h : Hdr) (f : SF) (s : State) : Out :=
  run (.sel h f) s (fun s => s.postS 1 f.d (if s.preg f.c.toNat then s.sreg f.a else s.sreg f.b))
/-- BFX (R151): POS in IMM16[5:0], LEN in IMM16[12:6]. -/
def execBfx (h : Hdr) (f : SF) (s : State) : Out :=
  run (.bfx h f) s (fun s => s.postS 1 f.d (bfx (s.sreg f.a) (f.imm.toNat % 64) (f.imm.toNat / 64 % 128) f.sgn))
/-- BFI (R151). -/
def execBfi (h : Hdr) (f : SF) (s : State) : Out :=
  run (.bfi h f) s (fun s =>
    s.postS 1 f.d (bfi (s.sreg f.d) (s.sreg f.a) (f.imm.toNat % 64) (f.imm.toNat / 64 % 128)))
/-- EXT (R151). -/
def execExt (h : Hdr) (f : SF) (s : State) : Out :=
  run (.ext h f) s (fun s => s.postS 1 f.d (ext (widthOf f.wid) f.sgn (s.sreg f.a).toNat))
/-- LI (R152). -/
def execLi (h : Hdr) (f : SF) (s : State) : Out := run (.li h f) s (fun s => s.postS 1 f.d (sext16 f.imm))
def execLiL (h : Hdr) (f : SF) (s : State) : Out := run (.liL h f) s (fun s => s.postS 1 f.d (sext32 f.lit))
/-- LIH (R152). -/
def execLih (h : Hdr) (f : SF) (s : State) : Out :=
  run (.lih h f) s (fun s => s.postS 1 f.d (f.imm.signExtend 32 ++ (s.sreg f.d).setWidth 32))
def execLihL (h : Hdr) (f : SF) (s : State) : Out :=
  run (.lihL h f) s (fun s => s.postS 1 f.d (f.lit ++ (s.sreg f.d).setWidth 32))
/-- BPERM (R154): the pattern is read at issue. -/
def execBperm (h : Hdr) (f : SF) (s : State) : Out :=
  run (.bperm h f) s (fun s =>
    s.postS 2 f.d (bperm (s.rc.pats.get 0 (f.c.toNat % 8)) (s.sreg f.a ++ s.sreg f.b)))

/-! ## Compares and predicate logic (R155, R156) -/

def execCmp (h : Hdr) (f : SF) (s : State) : Out := run (.cmp h f) s (cmpAt f (sext16 f.imm))
def execCmpL (h : Hdr) (f : SF) (s : State) : Out := run (.cmpL h f) s (cmpAt f (sext32 f.lit))
/-- PLOG: bit 2a + b of the truth table (R156). -/
def execPlog (h : Hdr) (f : SF) (s : State) : Out :=
  run (.plog h f) s (fun s =>
    s.postP 1 f.d (f.md.getLsbD (2 * (s.preg f.a.toNat).toNat + (s.preg f.b.toNat).toNat)))

/-! ## Scalar floating point (R157) -/

def execFadd (h : Hdr) (f : S32) (s : State) : Out := run (.fadd h f) s (fadd2 .rne f.a f.b f.d)
def execFaddRnd (h : Hdr) (f : SF) (s : State) : Out := run (.faddRnd h f) s (fadd2 (rndOf f.md) f.a f.b f.d)
def execFsub (h : Hdr) (f : S32) (s : State) : Out := run (.fsub h f) s (fsub2 .rne f.a f.b f.d)
def execFsubRnd (h : Hdr) (f : SF) (s : State) : Out := run (.fsubRnd h f) s (fsub2 (rndOf f.md) f.a f.b f.d)
def execFmul (h : Hdr) (f : S32) (s : State) : Out := run (.fmul h f) s (fmul2 .rne f.a f.b f.d)
def execFmulRnd (h : Hdr) (f : SF) (s : State) : Out := run (.fmulRnd h f) s (fmul2 (rndOf f.md) f.a f.b f.d)
/-- FMA: rounded once (R91, R157). -/
def execFma (h : Hdr) (f : SF) (s : State) : Out :=
  run (.fma h f) s (fun s =>
    postF s f.d (Fmt.f32.finish (rndOf f.md) false (Ex.fma (rndOf f.md) (s.fval f.a) (s.fval f.b) (s.fval f.c))))
def execFmin (h : Hdr) (f : S32) (s : State) : Out := run (.fmin h f) s (fmin2 f.a f.b f.d)
def execFmin64 (h : Hdr) (f : SF) (s : State) : Out := run (.fmin64 h f) s (fmin2 f.a f.b f.d)
def execFmax (h : Hdr) (f : S32) (s : State) : Out := run (.fmax h f) s (fmax2 f.a f.b f.d)
def execFmax64 (h : Hdr) (f : SF) (s : State) : Out := run (.fmax64 h f) s (fmax2 f.a f.b f.d)
/-- FCMP (R91, R157). -/
def execFcmp (h : Hdr) (f : SF) (s : State) : Out :=
  run (.fcmp h f) s (fun s =>
    s.postP 4 f.d (Ex.cond f.md.toNat (s.fval f.a) (s.fval f.b)).1 (Ex.cond f.md.toNat (s.fval f.a) (s.fval f.b)).2)
def execFcvt (h : Hdr) (f : SF) (s : State) : Out := run (.fcvt h f) s (fcvt f)

/-! ## Loads and stores (R158 to R160) -/

/-- A load from a global address: posted, its register scoreboarded (R158, R159). -/
def loadAt (f : SF) (off : W64) (acq : Option (BitVec 3)) (s : State) : State :=
  match s.global .load acq.isSome false (s.sreg f.a + off) (bytesOf f.wid) with
  | .hold h => s.hold h
  | .trap t => s.trap t
  | .ok p =>
    ((s.warnIf (f.wid == 3 && f.sgn) 0x1E).awaitS f.d).postReq .ls .load [p]
      (.s s.cx.mode f.d.toNat (widthOf f.wid) f.sgn) acq

/-- A store to a global address: posted (R158, R159). -/
def storeAt (f : SF) (off : W64) (rel : Option (BitVec 3)) (s : State) : State :=
  match s.global .store rel.isSome false (s.sreg f.a + off) (bytesOf f.wid) with
  | .hold h => s.hold h
  | .trap t => s.trap t
  | .ok p => s.postReq .ls .store [{ p with data := s.sreg f.d }] .none none rel

/-- SCP of LDAQ and STRL: 0 is read as group, with fallback 0x14 (R159). -/
def syncScope (scp : BitVec 3) : BitVec 3 := if scp = 0 then 1 else scp

def execLd (h : Hdr) (f : SF) (s : State) : Out := run (.ld h f) s (loadAt f (sext16 f.imm) none)
def execLdL (h : Hdr) (f : SF) (s : State) : Out := run (.ldL h f) s (loadAt f (sext32 f.lit) none)
def execSt (h : Hdr) (f : SF) (s : State) : Out := run (.st h f) s (storeAt f (sext16 f.imm) none)
def execStL (h : Hdr) (f : SF) (s : State) : Out := run (.stL h f) s (storeAt f (sext32 f.lit) none)
def execLdaq (h : Hdr) (f : SF) (s : State) : Out :=
  run (.ldaq h f) s (fun s => loadAt f (sext16 f.imm) (some (syncScope f.scp)) (s.warnIf (f.scp == 0) 0x14))
def execLdaqL (h : Hdr) (f : SF) (s : State) : Out :=
  run (.ldaqL h f) s (fun s => loadAt f (sext32 f.lit) (some (syncScope f.scp)) (s.warnIf (f.scp == 0) 0x14))
def execStrl (h : Hdr) (f : SF) (s : State) : Out :=
  run (.strl h f) s (fun s => storeAt f (sext16 f.imm) (some (syncScope f.scp)) (s.warnIf (f.scp == 0) 0x14))
def execStrlL (h : Hdr) (f : SF) (s : State) : Out :=
  run (.strlL h f) s (fun s => storeAt f (sext32 f.lit) (some (syncScope f.scp)) (s.warnIf (f.scp == 0) 0x14))

/-- The scratchpad bytes that a core selector names: C = 0 SELF, C = n core s_n[5:0] of the cluster (R106, R125). -/
def State.spTarget (s : State) (c : BitVec 5) (off : W64) (n : Nat) : Option (List Nat) :=
  if c = 0 then some (s.ownAddrs off.toNat n)
  else s.selAddrs (sibling s.cur.core (s.sreg c).toNat) off.toNat n

/-- LDS (R160): of the own scratchpad in 4 cycles; through a core selector scoreboarded; 0 of a core that holds no
allocation (R106). -/
def ldsAt (f : SF) (off : W64) (s : State) : State :=
  let o := s.sreg f.a + off
  let n := bytesOf f.wid
  let warned := fun (s : State) =>
    (s.warnIf (f.c != 0 && (s.spTarget f.c o n).isNone) 0x17).warnIf (f.wid == 3 && f.sgn) 0x1E
  if f.c = 0 then
    match s.ownRead .ls (s.ownAddrs o.toNat n) with
    | none => s.hold
    | some (t, l) => (warned t).postS 4 f.d (ext (widthOf f.wid) f.sgn (ofLe l))
  else
    ((warned s).awaitS f.d).postReq .ls .load [spPiece ((s.spTarget f.c o n).getD [])]
      (.s s.cx.mode f.d.toNat (widthOf f.wid) f.sgn)

/-- STS (R160): nothing is written of a core that holds no allocation (R106). -/
def stsAt (f : SF) (off : W64) (s : State) : State :=
  match s.spTarget f.c (s.sreg f.a + off) (bytesOf f.wid) with
  | none => s.warn 0x17
  | some l => s.postReq .ls .store [{ spPiece l with data := s.sreg f.d }]

def execLds (h : Hdr) (f : SF) (s : State) : Out := run (.lds h f) s (ldsAt f (sext16 f.imm))
def execLdsL (h : Hdr) (f : SF) (s : State) : Out := run (.ldsL h f) s (ldsAt f (sext32 f.lit))
def execSts (h : Hdr) (f : SF) (s : State) : Out := run (.sts h f) s (stsAt f (sext16 f.imm))
def execStsL (h : Hdr) (f : SF) (s : State) : Out := run (.stsL h f) s (stsAt f (sext32 f.lit))

/-! ## Atomics (R161 to R164) -/

/-- SCP of an atomic: 0 relaxed, else an acquire and a release at that scope (R125). -/
def amoScope (scp : BitVec 3) : Option (BitVec 3) := if scp = 0 then none else some scp

/-- Post an atomic on bytes; one whose target holds no allocation writes nothing and returns 0 (R106). -/
def postAtomic (kind : ReqKind) (p : Option Piece) (d : BitVec 5) (w : Nat) (sgn : Bool) (scp : BitVec 3) (s : State) : State :=
  let dest : Dest := if d = 0 then .none else .s s.cx.mode d.toNat w sgn
  match p with
  | some p => (s.awaitS d).postReq .ls kind [p] dest (amoScope scp) (amoScope scp)
  | none =>
    let s := s.warn 0x17
    if d = 0 then s else (s.awaitS d).postReq .ls .load [spPiece []] dest

/-- AMO (R161): FADD works at 32 bits whatever WID says, with fallback 0x15. -/
def amoAt (f : SF) (off : W64) (s : State) : State :=
  let op := f.md.toNat
  let n := if op = 9 then 4 else bytesOf f.wid
  let sgn := op == 4 || op == 5
  let a := s.sreg f.a + off
  let w := s.warnIf (op == 9 && f.wid != 2) 0x15
  if f.sgn then
    postAtomic (.amo op) ((s.spTarget f.c a n).map (fun l => { spPiece l with data := s.sreg f.b })) f.d (8 * n) sgn f.scp w
  else
    match s.global .atomic true false a n with
    | .hold h => s.hold h
    | .trap t => s.trap t
    | .ok p => postAtomic (.amo op) (some { p with data := s.sreg f.b }) f.d (8 * n) sgn f.scp w

/-- ACAS (R162): global, or the own scratchpad with SGN 1. -/
def acasAt (f : SF) (off : W64) (s : State) : State :=
  let n := bytesOf f.wid
  let a := s.sreg f.a + off
  let fill := fun (p : Piece) => { p with data := s.sreg f.b, data2 := s.sreg f.c }
  if f.sgn then postAtomic .acas (some (fill (spPiece (s.ownAddrs a.toNat n)))) f.d (8 * n) false f.scp s
  else
    match s.global .atomic true false a n with
    | .hold h => s.hold h
    | .trap t => s.trap t
    | .ok p => postAtomic .acas (some (fill p)) f.d (8 * n) false f.scp s

def execAmo (h : Hdr) (f : SF) (s : State) : Out := run (.amo h f) s (amoAt f (sext16 f.imm))
def execAmoL (h : Hdr) (f : SF) (s : State) : Out := run (.amoL h f) s (amoAt f (sext32 f.lit))
def execAcas (h : Hdr) (f : SF) (s : State) : Out := run (.acas h f) s (acasAt f (sext16 f.imm))
def execAcasL (h : Hdr) (f : SF) (s : State) : Out := run (.acasL h f) s (acasAt f (sext32 f.lit))

/-- ACLAIM (R41, R164): CMIN in LIT32[15:0], DIV in LIT32[31:16]; s_D and s_(D+1) are scoreboarded. -/
def aclaimAt (f : SF) (s : State) : State :=
  match s.global .atomic true true (s.sreg f.a + sext16 f.imm) 8 with
  | .hold h => s.hold h
  | .trap t => s.trap t
  | .ok p =>
    ((s.awaitS f.d).awaitS (f.d + 1)).postReq .ls (.aclaim (f.lit.setWidth 16) (f.lit.extractLsb' 16 16)) [p]
      (.pair s.cx.mode f.d.toNat)
def execAclaim (h : Hdr) (f : SF) (s : State) : Out := run (.aclaim h f) s (aclaimAt f)

/-! ## Moves between files (R63, R165) -/

/-- MOVSV: one lane IMM16[11:8], or every lane with IMM16[12], in each group of GMASK IMM16[7:0]. -/
def movsv (f : SF) (s : State) : State :=
  let x : W32 := (s.sreg f.a).setWidth 32
  let lanes := if f.imm.getLsbD 12 then List.range 16 else [f.imm.toNat / 256 % 16]
  (groupsOf (f.imm.setWidth 8)).foldl (fun s g => s.post .ctlVec 3 (.v g f.d.toNat (lanes.map (fun i => (i, x))))) s
def execMovsv (h : Hdr) (f : SF) (s : State) : Out := run (.movsv h f) s (movsv f)

/-- A scalar result of a cross-file copy. -/
def State.postSx (s : State) (e : Eng) (l : Nat) (d : BitVec 5) (x : W64) : State :=
  s.post e l (if d = 0 then .none else .s s.cx.mode d.toNat x)

/-- MOVVS: lane IMM16[11:8] of group IMM16[2:0]. -/
def execMovvs (h : Hdr) (f : SF) (s : State) : Out :=
  run (.movvs h f) s (fun s =>
    s.postSx .ctlVec 3 f.d (ext 32 f.sgn (s.rc.readV (f.imm.toNat % 8) f.a.toNat (f.imm.toNat / 256 % 16)).toNat))
def execMovsm (h : Hdr) (f : S32) (s : State) : Out :=
  run (.movsm h f) s (fun s => s.post .ctlMat 2 (.mp (f.d.toNat % 8) (s.sreg f.a)))

/-- MOVMS: A 0 to 7 an mp register in 2 cycles; A 16 to 31 an engine micro-register as the last completed step left it,
scoreboarded. -/
def movms (f : S32) (s : State) : State :=
  if f.a.toNat < 16 then s.postSx .ctlMat 2 f.d (s.rc.mp.get 0 (f.a.toNat % 8))
  else
    (s.awaitS f.d).postReq .mf (.amo 0) [{ addr := [], done := true, old := ((s.rc.eng.m.get 0 (f.a.toNat - 16)).setWidth 64) }]
      (.s s.cx.mode f.d.toNat 32 false)
def execMovms (h : Hdr) (f : S32) (s : State) : Out := run (.movms h f) s (movms f)
/-- MOVFS: the flag as it stands after this cycle's posts, FSET and FWAIT; the step runs it last in its group (R63). -/
def execMovfs (h : Hdr) (f : S32) (s : State) : Out :=
  run (.movfs h f) s (fun s => s.postS 2 f.d ((s.rc.flag f.a).setWidth 64))
def execMovps (h : Hdr) (f : S32) (s : State) : Out :=
  run (.movps h f) s (fun s => s.postS 1 f.d (if s.preg f.a.toNat then 1 else 0))
def execMovsp (h : Hdr) (f : S32) (s : State) : Out :=
  run (.movsp h f) s (fun s => s.postP 1 f.d (s.sreg f.a != 0))

/-! ## Stream and pattern set-up (R153, R166, R167) -/

def execStdef (h : Hdr) (f : SF) (s : State) : Out :=
  run (.stdef h f) s (fun s =>
    (s.warn (streamWarn f.md.toNat (s.sreg f.a))).post .ctl 1 (.stField (f.d.toNat % 16) f.md (s.sreg f.a)))

/-- The 64-byte image of a stream (R167). -/
def Stream.image (x : Stream) : BitVec 512 :=
  0#80 ++ x.scaleBase ++ x.scaleStride ++ x.stride2 ++ x.stride1 ++ x.stride0 ++ 0#40 ++ x.count2 ++ 0#16 ++ x.count1 ++
  x.count0 ++ 0#16 ++ x.cursor ++ 0#4 ++ x.scaleMode ++ x.blklog ++ x.format ++ x.space ++ x.base

/-- The bits of each field in an image (R167): selector, first bit, width. -/
def imageFields : List (Nat × Nat × Nat) :=
  [(0, 0, 48), (1, 48, 2), (2, 50, 4), (3, 128, 24), (4, 152, 24), (5, 192, 24), (6, 256, 32), (7, 288, 32), (8, 320, 32),
   (9, 54, 4), (10, 58, 2), (11, 384, 48), (12, 352, 32), (13, 64, 48)]

/-- The stream an image holds, with the fallbacks of STDEF, and the warnings they raise in the order of their codes. -/
def Stream.ofImage (x : Nat) : Stream :=
  imageFields.foldl (fun t e => t.setField e.1 (BitVec.ofNat 64 (x / 2 ^ e.2.1 % 2 ^ e.2.2))) {}
def imageWarns (x : Nat) : List Nat :=
  [2, 10, 9].map (fun k => match imageFields.find? (fun e => e.1 == k) with
    | some e => streamWarn k (BitVec.ofNat 64 (x / 2 ^ e.2.1 % 2 ^ e.2.2))
    | none => 0)

/-- STLD reads the stream's image at its issue, and the register has it after the latency of 4 of R62 and R167, in a handler too
(DESIGN CHOICE, log 92: R21 says of a handler's STLD that it takes effect as its group commits). -/
def stldAt (f : SF) (off : W64) (s : State) : State :=
  match s.ownRead .ls (s.ownAddrs (s.sreg f.a + off).toNat 64) with
  | none => s.hold
  | some (t, l) => ((imageWarns (ofLe l)).foldl State.warn t).post .ctl 4 (.st (f.d.toNat % 16) (Stream.ofImage (ofLe l)))
def ststAt (f : SF) (off : W64) (s : State) : State :=
  let o := (s.sreg f.a + off).toNat
  s.postReq .ls .store ((List.range 8).map (fun i =>
    { spPiece (s.ownAddrs (o + 8 * i) 8) with data := (s.stream f.d).image.extractLsb' (64 * i) 64 }))
def execStld (h : Hdr) (f : SF) (s : State) : Out := run (.stld h f) s (stldAt f (sext16 f.imm))
def execStldL (h : Hdr) (f : SF) (s : State) : Out := run (.stldL h f) s (stldAt f (sext32 f.lit))
def execStst (h : Hdr) (f : SF) (s : State) : Out := run (.stst h f) s (ststAt f (sext16 f.imm))
def execStstL (h : Hdr) (f : SF) (s : State) : Out := run (.ststL h f) s (ststAt f (sext32 f.lit))

/-- BPLD: 56 bytes into pattern k; read by a BPERM that issues 6 or more cycles later (R153). -/
def bpldAt (f : SF) (off : W64) (s : State) : State :=
  match s.ownRead .ls (s.ownAddrs (s.sreg f.a + off).toNat 56) with
  | none => s.hold
  | some (t, l) => t.post .ctl 6 (.pat (f.d.toNat % 8) (BitVec.ofNat 448 (ofLe l)))
def execBpld (h : Hdr) (f : SF) (s : State) : Out := run (.bpld h f) s (bpldAt f (sext16 f.imm))
def execBpldL (h : Hdr) (f : SF) (s : State) : Out := run (.bpldL h f) s (bpldAt f (sext32 f.lit))

end Sys2Proof.Machine
end

