-- ==== Sys2Proof/Machine/Rep.lean ====
section
/-! DEFINITION. REP (R138, R139, R182, R327), its repetitions, and what an encoding that matches no instruction does (R134). -/

namespace Sys2Proof.Machine

/-- ILLEGAL_ENCODING: the trap is decided at decode, and nothing else happens (R122, R134). -/
def execIllegalEncoding (w : W32) (s : State) : Out :=
  let s := { s with mark := .none }
  .next (s.settle (s.trap { cause := cEncoding, tval := w.setWidth 64 }))

/-! ## The target of a repetition -/

/-- A word with its 5-bit field at bit lo holding n modulo 32. -/
def withField (w : W32) (lo n : Nat) : W32 := (w &&& ~~~(31#32 <<< lo)) ||| (BitVec.ofNat 32 (n % 32) <<< lo)

/-- The register numbers of D, A and B (VD, VA and VB) in a repetition, before they wrap. -/
structure Triple where
  d : Nat
  a : Nat
  b : Nat
deriving DecidableEq, Repr

def isV (t : Instr) : Bool := t.cls? == some .v
def tripleOf (t : Instr) : Triple :=
  let w := encode t
  if isV t then { d := (fld (w.getD 0 0) 25 5).toNat, a := (fld (w.getD 1 0) 0 5).toNat, b := (fld (w.getD 1 0) 5 5).toNat }
  else { d := (fld (w.getD 0 0) 17 5).toNat, a := (fld (w.getD 0 0) 22 5).toNat, b := (fld (w.getD 0 0) 27 5).toNat }
def repTriple (r : RepSt) : Triple :=
  let t := tripleOf r.target
  { d := t.d + r.idx * r.sd, a := t.a + r.idx * r.sa, b := t.b + r.idx * r.sb }
/-- A register number passes 31: warning 0x02. -/
def Triple.wraps (t : Triple) : Bool := 31 < t.d || 31 < t.a || 31 < t.b

/-- The words of the target with other register numbers, each modulo 32. -/
def retarget (t : Instr) (k : Triple) : List W32 :=
  match encode t with
  | [w] => [withField (withField (withField w 17 k.d) 22 k.a) 27 k.b]
  | w :: x :: r =>
    if isV t then withField w 25 k.d :: withField (withField x 0 k.a) 5 k.b :: r
    else withField (withField (withField w 17 k.d) 22 k.a) 27 k.b :: x :: r
  | [] => []

/-- An S or V instruction by itself; REP takes no other (R138). -/
def execTarget (i : Instr) (s : State) : Out :=
  match i with
  | .add h f => execAdd h f s
  | .addI h f => execAddI h f s
  | .addL h f => execAddL h f s
  | .sub h f => execSub h f s
  | .subI h f => execSubI h f s
  | .subL h f => execSubL h f s
  | .mul h f => execMul h f s
  | .mulI h f => execMulI h f s
  | .mulL h f => execMulL h f s
  | .mulh h f => execMulh h f s
  | .mulhI h f => execMulhI h f s
  | .mulhL h f => execMulhL h f s
  | .mulhz h f => execMulhz h f s
  | .mulhzI h f => execMulhzI h f s
  | .mulhzL h f => execMulhzL h f s
  | .div h f => execDiv h f s
  | .divI h f => execDivI h f s
  | .divL h f => execDivL h f s
  | .divz h f => execDivz h f s
  | .divzI h f => execDivzI h f s
  | .divzL h f => execDivzL h f s
  | .rem h f => execRem h f s
  | .remI h f => execRemI h f s
  | .remL h f => execRemL h f s
  | .remz h f => execRemz h f s
  | .remzI h f => execRemzI h f s
  | .remzL h f => execRemzL h f s
  | .and h f => execAnd h f s
  | .andI h f => execAndI h f s
  | .andL h f => execAndL h f s
  | .or h f => execOr h f s
  | .orI h f => execOrI h f s
  | .orL h f => execOrL h f s
  | .xor h f => execXor h f s
  | .xorI h f => execXorI h f s
  | .xorL h f => execXorL h f s
  | .andn h f => execAndn h f s
  | .andnI h f => execAndnI h f s
  | .andnL h f => execAndnL h f s
  | .shl h f => execShl h f s
  | .shlI h f => execShlI h f s
  | .shlL h f => execShlL h f s
  | .shr h f => execShr h f s
  | .shrI h f => execShrI h f s
  | .shrL h f => execShrL h f s
  | .sra h f => execSra h f s
  | .sraI h f => execSraI h f s
  | .sraL h f => execSraL h f s
  | .rotl h f => execRotl h f s
  | .rotlI h f => execRotlI h f s
  | .rotlL h f => execRotlL h f s
  | .min h f => execMin h f s
  | .minI h f => execMinI h f s
  | .minL h f => execMinL h f s
  | .max h f => execMax h f s
  | .maxI h f => execMaxI h f s
  | .maxL h f => execMaxL h f s
  | .minz h f => execMinz h f s
  | .minzI h f => execMinzI h f s
  | .minzL h f => execMinzL h f s
  | .maxz h f => execMaxz h f s
  | .maxzI h f => execMaxzI h f s
  | .maxzL h f => execMaxzL h f s
  | .clz h f => execClz h f s
  | .clzW h f => execClzW h f s
  | .ctz h f => execCtz h f s
  | .ctzW h f => execCtzW h f s
  | .popc h f => execPopc h f s
  | .popcW h f => execPopcW h f s
  | .lea h f => execLea h f s
  | .leaL h f => execLeaL h f s
  | .sel h f => execSel h f s
  | .bfx h f => execBfx h f s
  | .bfi h f => execBfi h f s
  | .ext h f => execExt h f s
  | .li h f => execLi h f s
  | .liL h f => execLiL h f s
  | .lih h f => execLih h f s
  | .lihL h f => execLihL h f s
  | .bperm h f => execBperm h f s
  | .cmp h f => execCmp h f s
  | .cmpL h f => execCmpL h f s
  | .plog h f => execPlog h f s
  | .fadd h f => execFadd h f s
  | .faddRnd h f => execFaddRnd h f s
  | .fsub h f => execFsub h f s
  | .fsubRnd h f => execFsubRnd h f s
  | .fmul h f => execFmul h f s
  | .fmulRnd h f => execFmulRnd h f s
  | .fma h f => execFma h f s
  | .fmin h f => execFmin h f s
  | .fmin64 h f => execFmin64 h f s
  | .fmax h f => execFmax h f s
  | .fmax64 h f => execFmax64 h f s
  | .fcmp h f => execFcmp h f s
  | .fcvt h f => execFcvt h f s
  | .ld h f => execLd h f s
  | .ldL h f => execLdL h f s
  | .st h f => execSt h f s
  | .stL h f => execStL h f s
  | .ldaq h f => execLdaq h f s
  | .ldaqL h f => execLdaqL h f s
  | .strl h f => execStrl h f s
  | .strlL h f => execStrlL h f s
  | .lds h f => execLds h f s
  | .ldsL h f => execLdsL h f s
  | .sts h f => execSts h f s
  | .stsL h f => execStsL h f s
  | .amo h f => execAmo h f s
  | .amoL h f => execAmoL h f s
  | .acas h f => execAcas h f s
  | .acasL h f => execAcasL h f s
  | .aclaim h f => execAclaim h f s
  | .movsv h f => execMovsv h f s
  | .movvs h f => execMovvs h f s
  | .movsm h f => execMovsm h f s
  | .movms h f => execMovms h f s
  | .movfs h f => execMovfs h f s
  | .movps h f => execMovps h f s
  | .movsp h f => execMovsp h f s
  | .stdef h f => execStdef h f s
  | .stld h f => execStld h f s
  | .stldL h f => execStldL h f s
  | .stst h f => execStst h f s
  | .ststL h f => execStstL h f s
  | .bpld h f => execBpld h f s
  | .bpldL h f => execBpldL h f s
  | .vadd h f => execVadd h f s
  | .vaddL h f lit => execVaddL h f lit s
  | .vsub h f => execVsub h f s
  | .vsubL h f lit => execVsubL h f lit s
  | .vmul h f => execVmul h f s
  | .vmulL h f lit => execVmulL h f lit s
  | .vfma h f => execVfma h f s
  | .vfmaL h f lit => execVfmaL h f lit s
  | .vmin h f => execVmin h f s
  | .vminL h f lit => execVminL h f lit s
  | .vmax h f => execVmax h f s
  | .vmaxL h f lit => execVmaxL h f lit s
  | .vabs h f => execVabs h f s
  | .vneg h f => execVneg h f s
  | .vand h f => execVand h f s
  | .vandL h f lit => execVandL h f lit s
  | .vor h f => execVor h f s
  | .vorL h f lit => execVorL h f lit s
  | .vxor h f => execVxor h f s
  | .vxorL h f lit => execVxorL h f lit s
  | .vshl h f => execVshl h f s
  | .vshlL h f lit => execVshlL h f lit s
  | .vshr h f => execVshr h f s
  | .vshrL h f lit => execVshrL h f lit s
  | .vsra h f => execVsra h f s
  | .vsraL h f lit => execVsraL h f lit s
  | .vcmp h f => execVcmp h f s
  | .vcmpL h f lit => execVcmpL h f lit s
  | .vsel h f => execVsel h f s
  | .vselL h f lit => execVselL h f lit s
  | .vmov h f => execVmov h f s
  | .vli h f lit => execVli h f lit s
  | .vcvt h f => execVcvt h f s
  | .vrcp h f => execVrcp h f s
  | .vrsq h f => execVrsq h f s
  | .vexp2 h f => execVexp2 h f s
  | .vlg2 h f => execVlg2 h f s
  | .vtanh h f => execVtanh h f s
  | .vpopc h f => execVpopc h f s
  | .vclz h f => execVclz h f s
  | .vdot4 h f => execVdot4 h f s
  | .vdot4L h f lit => execVdot4L h f lit s
  | .vmlog h f => execVmlog h f s
  | .vshuf h f => execVshuf h f s
  | .vbcst h f => execVbcst h f s
  | .vradd h f => execVradd h f s
  | .vrmax h f => execVrmax h f s
  | .vrmin h f => execVrmin h f s
  | .vxg h f => execVxg h f s
  | .vscan h f => execVscan h f s
  | .vsld h f => execVsld h f s
  | .vsst h f => execVsst h f s
  | .vgld h f => execVgld h f s
  | .vsct h f => execVsct h f s
  | .vsamo h f => execVsamo h f s
  | .vamax h f => execVamax h f s
  | .vqcvt h f => execVqcvt h f s
  | .vdq h f => execVdq h f s
  | .vdqL h f lit => execVdqL h f lit s
  | .vunp3 h f => execVunp3 h f s
  | .vpack3 h f => execVpack3 h f s
  | .vbperm h f => execVbperm h f s
  | .vsbr h f => execVsbr h f s
  | .vthr h f => execVthr h f s
  | _ => .next s
/-- Words that hold an S or V instruction; others are an illegal encoding. -/
def execWords (ws : List W32) (s : State) : Out :=
  match decodeSV ws with
  | some i => execTarget i s
  | none => execIllegalEncoding (ws.headD 0) s

/-- The instruction that a repetition issues. -/
def RepSt.instr (r : RepSt) : Option Instr := decodeSV (retarget r.target (repTriple r))

/-! ## Repetitions -/

/-- REP is over: REP_IDX is 0, and the context goes on after the group. -/
def Ctx.endRep (x : Ctx) (next : VAddr) : Ctx := { x with rep := none, repIdx := 0, repAt := none, pc := next }
/-- A repetition has issued. -/
def Ctx.stepRep (x : Ctx) (r : RepSt) (at_ : VAddr) : Ctx :=
  if r.idx + 1 < r.count then { x with rep := some { r with idx := r.idx + 1 }, pc := at_ } else x.endRep r.next

/-- The next repetition of the issuing context's REP: held or trapping, it stays the next one (R327). -/
def State.repeatOnce (s : State) (r : RepSt) : Out :=
  let k := repTriple r
  let at_ := s.cur.gpc
  let u := { s with mark := .none, cur := { s.cur with pos := 1, ipc := s.cur.gpc + 8, next := r.next } }
  match execWords (retarget r.target k) (if k.wraps then u.modRc (fun x => x.warn 2 at_) else u) with
  | .next t =>
    match t.mark with
    | .none => .next (t.modCx (fun x => x.stepRep r at_))
    | .held h => .next { u.note h with mark := .held h }
    | .trapped x => .next { u.takeTrap x with mark := .trapped x }
  | o => o

/-- The index that a REP starts from: REP_IDX where it was interrupted at this address, else 0 (R47, R139). -/
def Ctx.repStart (x : Ctx) (at_ : VAddr) : Nat := if x.repAt = some at_ then x.repIdx.toNat else 0

/-- REP begins: its count is latched; with none left it takes its cycle and does nothing (R139). One that was interrupted begins anew
at REP_IDX, and its count is read again (DESIGN CHOICE, log 64). -/
def startRep (f : CF) (x : RepF) (s : State) : State :=
  let n : Nat := if f.a = 0 then x.count.toNat else ((s.sreg f.a).setWidth 16).toNat
  let i := s.cx.repStart s.cur.gpc
  match s.cur.group with
  | [_, t] =>
    if i < n then
      s.modCx (fun c =>
        { c with pc := s.cur.gpc
                 rep := some { count := n, sd := x.sd.toNat, sa := x.sa.toNat, sb := x.sb.toNat, target := t, next := s.cur.next, idx := i } })
    else s.modCx (fun c => c.endRep s.cur.next)
  | _ => s.trap { cause := cGroup }

/-- REP, with its first repetition (R138, R139). -/
def execRep (h : Hdr) (f : CF) (x : RepF) (s : State) : Out :=
  match run (.rep h f x) s (startRep f x) with
  | .next t =>
    match t.mark, t.cx.rep with
    | .none, some r => t.repeatOnce r
    | _, _ => .next t
  | o => o

/-- The context of a resident context whose REP is under way. -/
def Res.repeating (r : Res) : Option CtxId := [CtxId.primary, .h1, .h2].find? (fun x => (r.ctx x).rep.isSome)

/-- REP_REPETITION: the next repetition of a REP of the core's active context. -/
def execRepRepetition (c : CoreId) (s : State) : Out :=
  let k := s.core c
  let r := k.res k.act
  let mine := s.cur.core == c && s.cur.slot == k.act && (r.ctx s.cur.ctx).rep.isSome
  match if mine then some s.cur.ctx else r.repeating with
  | none => .next s
  | some x =>
    let y := r.ctx x
    let u := { s with mark := .none, cur := { s.cur with core := c, slot := k.act, ctx := x, gpc := y.pc, base := s.serial } }
    match y.rep with
    | some p => u.repeatOnce p
    | none => .next s

end Sys2Proof.Machine
end

