-- ==== Sys2Proof/Machine/Dispatch.lean ====
section
/-! DEFINITION. One arm per instruction. -/

namespace Sys2Proof.Machine

def exec (i : Instr) (s : State) : Host.Outcome State Fault Refusal :=
  match i with
  | .add h f => Sys2Proof.Machine.execAdd h f s
  | .addI h f => Sys2Proof.Machine.execAddI h f s
  | .addL h f => Sys2Proof.Machine.execAddL h f s
  | .sub h f => Sys2Proof.Machine.execSub h f s
  | .subI h f => Sys2Proof.Machine.execSubI h f s
  | .subL h f => Sys2Proof.Machine.execSubL h f s
  | .mul h f => Sys2Proof.Machine.execMul h f s
  | .mulI h f => Sys2Proof.Machine.execMulI h f s
  | .mulL h f => Sys2Proof.Machine.execMulL h f s
  | .mulh h f => Sys2Proof.Machine.execMulh h f s
  | .mulhI h f => Sys2Proof.Machine.execMulhI h f s
  | .mulhL h f => Sys2Proof.Machine.execMulhL h f s
  | .mulhz h f => Sys2Proof.Machine.execMulhz h f s
  | .mulhzI h f => Sys2Proof.Machine.execMulhzI h f s
  | .mulhzL h f => Sys2Proof.Machine.execMulhzL h f s
  | .div h f => Sys2Proof.Machine.execDiv h f s
  | .divI h f => Sys2Proof.Machine.execDivI h f s
  | .divL h f => Sys2Proof.Machine.execDivL h f s
  | .divz h f => Sys2Proof.Machine.execDivz h f s
  | .divzI h f => Sys2Proof.Machine.execDivzI h f s
  | .divzL h f => Sys2Proof.Machine.execDivzL h f s
  | .rem h f => Sys2Proof.Machine.execRem h f s
  | .remI h f => Sys2Proof.Machine.execRemI h f s
  | .remL h f => Sys2Proof.Machine.execRemL h f s
  | .remz h f => Sys2Proof.Machine.execRemz h f s
  | .remzI h f => Sys2Proof.Machine.execRemzI h f s
  | .remzL h f => Sys2Proof.Machine.execRemzL h f s
  | .and h f => Sys2Proof.Machine.execAnd h f s
  | .andI h f => Sys2Proof.Machine.execAndI h f s
  | .andL h f => Sys2Proof.Machine.execAndL h f s
  | .or h f => Sys2Proof.Machine.execOr h f s
  | .orI h f => Sys2Proof.Machine.execOrI h f s
  | .orL h f => Sys2Proof.Machine.execOrL h f s
  | .xor h f => Sys2Proof.Machine.execXor h f s
  | .xorI h f => Sys2Proof.Machine.execXorI h f s
  | .xorL h f => Sys2Proof.Machine.execXorL h f s
  | .andn h f => Sys2Proof.Machine.execAndn h f s
  | .andnI h f => Sys2Proof.Machine.execAndnI h f s
  | .andnL h f => Sys2Proof.Machine.execAndnL h f s
  | .shl h f => Sys2Proof.Machine.execShl h f s
  | .shlI h f => Sys2Proof.Machine.execShlI h f s
  | .shlL h f => Sys2Proof.Machine.execShlL h f s
  | .shr h f => Sys2Proof.Machine.execShr h f s
  | .shrI h f => Sys2Proof.Machine.execShrI h f s
  | .shrL h f => Sys2Proof.Machine.execShrL h f s
  | .sra h f => Sys2Proof.Machine.execSra h f s
  | .sraI h f => Sys2Proof.Machine.execSraI h f s
  | .sraL h f => Sys2Proof.Machine.execSraL h f s
  | .rotl h f => Sys2Proof.Machine.execRotl h f s
  | .rotlI h f => Sys2Proof.Machine.execRotlI h f s
  | .rotlL h f => Sys2Proof.Machine.execRotlL h f s
  | .min h f => Sys2Proof.Machine.execMin h f s
  | .minI h f => Sys2Proof.Machine.execMinI h f s
  | .minL h f => Sys2Proof.Machine.execMinL h f s
  | .max h f => Sys2Proof.Machine.execMax h f s
  | .maxI h f => Sys2Proof.Machine.execMaxI h f s
  | .maxL h f => Sys2Proof.Machine.execMaxL h f s
  | .minz h f => Sys2Proof.Machine.execMinz h f s
  | .minzI h f => Sys2Proof.Machine.execMinzI h f s
  | .minzL h f => Sys2Proof.Machine.execMinzL h f s
  | .maxz h f => Sys2Proof.Machine.execMaxz h f s
  | .maxzI h f => Sys2Proof.Machine.execMaxzI h f s
  | .maxzL h f => Sys2Proof.Machine.execMaxzL h f s
  | .clz h f => Sys2Proof.Machine.execClz h f s
  | .clzW h f => Sys2Proof.Machine.execClzW h f s
  | .ctz h f => Sys2Proof.Machine.execCtz h f s
  | .ctzW h f => Sys2Proof.Machine.execCtzW h f s
  | .popc h f => Sys2Proof.Machine.execPopc h f s
  | .popcW h f => Sys2Proof.Machine.execPopcW h f s
  | .lea h f => Sys2Proof.Machine.execLea h f s
  | .leaL h f => Sys2Proof.Machine.execLeaL h f s
  | .sel h f => Sys2Proof.Machine.execSel h f s
  | .bfx h f => Sys2Proof.Machine.execBfx h f s
  | .bfi h f => Sys2Proof.Machine.execBfi h f s
  | .ext h f => Sys2Proof.Machine.execExt h f s
  | .li h f => Sys2Proof.Machine.execLi h f s
  | .liL h f => Sys2Proof.Machine.execLiL h f s
  | .lih h f => Sys2Proof.Machine.execLih h f s
  | .lihL h f => Sys2Proof.Machine.execLihL h f s
  | .bperm h f => Sys2Proof.Machine.execBperm h f s
  | .cmp h f => Sys2Proof.Machine.execCmp h f s
  | .cmpL h f => Sys2Proof.Machine.execCmpL h f s
  | .plog h f => Sys2Proof.Machine.execPlog h f s
  | .fadd h f => Sys2Proof.Machine.execFadd h f s
  | .faddRnd h f => Sys2Proof.Machine.execFaddRnd h f s
  | .fsub h f => Sys2Proof.Machine.execFsub h f s
  | .fsubRnd h f => Sys2Proof.Machine.execFsubRnd h f s
  | .fmul h f => Sys2Proof.Machine.execFmul h f s
  | .fmulRnd h f => Sys2Proof.Machine.execFmulRnd h f s
  | .fma h f => Sys2Proof.Machine.execFma h f s
  | .fmin h f => Sys2Proof.Machine.execFmin h f s
  | .fmin64 h f => Sys2Proof.Machine.execFmin64 h f s
  | .fmax h f => Sys2Proof.Machine.execFmax h f s
  | .fmax64 h f => Sys2Proof.Machine.execFmax64 h f s
  | .fcmp h f => Sys2Proof.Machine.execFcmp h f s
  | .fcvt h f => Sys2Proof.Machine.execFcvt h f s
  | .ld h f => Sys2Proof.Machine.execLd h f s
  | .ldL h f => Sys2Proof.Machine.execLdL h f s
  | .st h f => Sys2Proof.Machine.execSt h f s
  | .stL h f => Sys2Proof.Machine.execStL h f s
  | .ldaq h f => Sys2Proof.Machine.execLdaq h f s
  | .ldaqL h f => Sys2Proof.Machine.execLdaqL h f s
  | .strl h f => Sys2Proof.Machine.execStrl h f s
  | .strlL h f => Sys2Proof.Machine.execStrlL h f s
  | .lds h f => Sys2Proof.Machine.execLds h f s
  | .ldsL h f => Sys2Proof.Machine.execLdsL h f s
  | .sts h f => Sys2Proof.Machine.execSts h f s
  | .stsL h f => Sys2Proof.Machine.execStsL h f s
  | .amo h f => Sys2Proof.Machine.execAmo h f s
  | .amoL h f => Sys2Proof.Machine.execAmoL h f s
  | .acas h f => Sys2Proof.Machine.execAcas h f s
  | .acasL h f => Sys2Proof.Machine.execAcasL h f s
  | .aclaim h f => Sys2Proof.Machine.execAclaim h f s
  | .movsv h f => Sys2Proof.Machine.execMovsv h f s
  | .movvs h f => Sys2Proof.Machine.execMovvs h f s
  | .movsm h f => Sys2Proof.Machine.execMovsm h f s
  | .movms h f => Sys2Proof.Machine.execMovms h f s
  | .movfs h f => Sys2Proof.Machine.execMovfs h f s
  | .movps h f => Sys2Proof.Machine.execMovps h f s
  | .movsp h f => Sys2Proof.Machine.execMovsp h f s
  | .stdef h f => Sys2Proof.Machine.execStdef h f s
  | .stld h f => Sys2Proof.Machine.execStld h f s
  | .stldL h f => Sys2Proof.Machine.execStldL h f s
  | .stst h f => Sys2Proof.Machine.execStst h f s
  | .ststL h f => Sys2Proof.Machine.execStstL h f s
  | .bpld h f => Sys2Proof.Machine.execBpld h f s
  | .bpldL h f => Sys2Proof.Machine.execBpldL h f s
  | .vadd h f => Sys2Proof.Machine.execVadd h f s
  | .vaddL h f lit => Sys2Proof.Machine.execVaddL h f lit s
  | .vsub h f => Sys2Proof.Machine.execVsub h f s
  | .vsubL h f lit => Sys2Proof.Machine.execVsubL h f lit s
  | .vmul h f => Sys2Proof.Machine.execVmul h f s
  | .vmulL h f lit => Sys2Proof.Machine.execVmulL h f lit s
  | .vfma h f => Sys2Proof.Machine.execVfma h f s
  | .vfmaL h f lit => Sys2Proof.Machine.execVfmaL h f lit s
  | .vmin h f => Sys2Proof.Machine.execVmin h f s
  | .vminL h f lit => Sys2Proof.Machine.execVminL h f lit s
  | .vmax h f => Sys2Proof.Machine.execVmax h f s
  | .vmaxL h f lit => Sys2Proof.Machine.execVmaxL h f lit s
  | .vabs h f => Sys2Proof.Machine.execVabs h f s
  | .vneg h f => Sys2Proof.Machine.execVneg h f s
  | .vand h f => Sys2Proof.Machine.execVand h f s
  | .vandL h f lit => Sys2Proof.Machine.execVandL h f lit s
  | .vor h f => Sys2Proof.Machine.execVor h f s
  | .vorL h f lit => Sys2Proof.Machine.execVorL h f lit s
  | .vxor h f => Sys2Proof.Machine.execVxor h f s
  | .vxorL h f lit => Sys2Proof.Machine.execVxorL h f lit s
  | .vshl h f => Sys2Proof.Machine.execVshl h f s
  | .vshlL h f lit => Sys2Proof.Machine.execVshlL h f lit s
  | .vshr h f => Sys2Proof.Machine.execVshr h f s
  | .vshrL h f lit => Sys2Proof.Machine.execVshrL h f lit s
  | .vsra h f => Sys2Proof.Machine.execVsra h f s
  | .vsraL h f lit => Sys2Proof.Machine.execVsraL h f lit s
  | .vcmp h f => Sys2Proof.Machine.execVcmp h f s
  | .vcmpL h f lit => Sys2Proof.Machine.execVcmpL h f lit s
  | .vsel h f => Sys2Proof.Machine.execVsel h f s
  | .vselL h f lit => Sys2Proof.Machine.execVselL h f lit s
  | .vmov h f => Sys2Proof.Machine.execVmov h f s
  | .vli h f lit => Sys2Proof.Machine.execVli h f lit s
  | .vcvt h f => Sys2Proof.Machine.execVcvt h f s
  | .vrcp h f => Sys2Proof.Machine.execVrcp h f s
  | .vrsq h f => Sys2Proof.Machine.execVrsq h f s
  | .vexp2 h f => Sys2Proof.Machine.execVexp2 h f s
  | .vlg2 h f => Sys2Proof.Machine.execVlg2 h f s
  | .vtanh h f => Sys2Proof.Machine.execVtanh h f s
  | .vpopc h f => Sys2Proof.Machine.execVpopc h f s
  | .vclz h f => Sys2Proof.Machine.execVclz h f s
  | .vdot4 h f => Sys2Proof.Machine.execVdot4 h f s
  | .vdot4L h f lit => Sys2Proof.Machine.execVdot4L h f lit s
  | .vmlog h f => Sys2Proof.Machine.execVmlog h f s
  | .vshuf h f => Sys2Proof.Machine.execVshuf h f s
  | .vbcst h f => Sys2Proof.Machine.execVbcst h f s
  | .vradd h f => Sys2Proof.Machine.execVradd h f s
  | .vrmax h f => Sys2Proof.Machine.execVrmax h f s
  | .vrmin h f => Sys2Proof.Machine.execVrmin h f s
  | .vxg h f => Sys2Proof.Machine.execVxg h f s
  | .vscan h f => Sys2Proof.Machine.execVscan h f s
  | .vsld h f => Sys2Proof.Machine.execVsld h f s
  | .vsst h f => Sys2Proof.Machine.execVsst h f s
  | .vgld h f => Sys2Proof.Machine.execVgld h f s
  | .vsct h f => Sys2Proof.Machine.execVsct h f s
  | .vsamo h f => Sys2Proof.Machine.execVsamo h f s
  | .vamax h f => Sys2Proof.Machine.execVamax h f s
  | .vqcvt h f => Sys2Proof.Machine.execVqcvt h f s
  | .vdq h f => Sys2Proof.Machine.execVdq h f s
  | .vdqL h f lit => Sys2Proof.Machine.execVdqL h f lit s
  | .vunp3 h f => Sys2Proof.Machine.execVunp3 h f s
  | .vpack3 h f => Sys2Proof.Machine.execVpack3 h f s
  | .vbperm h f => Sys2Proof.Machine.execVbperm h f s
  | .vsbr h f => Sys2Proof.Machine.execVsbr h f s
  | .vthr h f => Sys2Proof.Machine.execVthr h f s
  | .mcall h f => Sys2Proof.Machine.execMcall h f s
  | .mmode h f => Sys2Proof.Machine.execMmode h f s
  | .mclr h f => Sys2Proof.Machine.execMclr h f s
  | .mmerge h f => Sys2Proof.Machine.execMmerge h f s
  | .mpld h f => Sys2Proof.Machine.execMpld h f s
  | .mabort h f => Sys2Proof.Machine.execMabort h f s
  | .cpyPlain h f => Sys2Proof.Machine.execCpyPlain h f s
  | .cpyConvert h f => Sys2Proof.Machine.execCpyConvert h f s
  | .cpyRank h f => Sys2Proof.Machine.execCpyRank h f s
  | .cpyRankmerge h f => Sys2Proof.Machine.execCpyRankmerge h f s
  | .put h f => Sys2Proof.Machine.execPut h f s
  | .putGlob h f => Sys2Proof.Machine.execPutGlob h f s
  | .get h f => Sys2Proof.Machine.execGet h f s
  | .getGlob h f => Sys2Proof.Machine.execGetGlob h f s
  | .xflag h f => Sys2Proof.Machine.execXflag h f s
  | .send h f => Sys2Proof.Machine.execSend h f s
  | .sendm h f lit => Sys2Proof.Machine.execSendm h f lit s
  | .pref h f => Sys2Proof.Machine.execPref h f s
  | .prefSlice h f => Sys2Proof.Machine.execPrefSlice h f s
  | .flush h f => Sys2Proof.Machine.execFlush h f s
  | .fwait h f => Sys2Proof.Machine.execFwait h f s
  | .fpost h f => Sys2Proof.Machine.execFpost h f s
  | .fset h f => Sys2Proof.Machine.execFset h f s
  | .bara h f => Sys2Proof.Machine.execBara h f s
  | .barw h f => Sys2Proof.Machine.execBarw h f s
  | .baraw h f => Sys2Proof.Machine.execBaraw h f s
  | .fence h f => Sys2Proof.Machine.execFence h f s
  | .pbrReg h f => Sys2Proof.Machine.execPbrReg h f s
  | .pbr h f off => Sys2Proof.Machine.execPbr h f off s
  | .br h f => Sys2Proof.Machine.execBr h f s
  | .call h f => Sys2Proof.Machine.execCall h f s
  | .loop h f off => Sys2Proof.Machine.execLoop h f off s
  | .lbrk h f => Sys2Proof.Machine.execLbrk h f s
  | .swpt h f => Sys2Proof.Machine.execSwpt h f s
  | .brt h f => Sys2Proof.Machine.execBrt h f s
  | .exit h f => Sys2Proof.Machine.execExit h f s
  | .trap h f => Sys2Proof.Machine.execTrap h f s
  | .nop h f => Sys2Proof.Machine.execNop h f s
  | .nop64 h f => Sys2Proof.Machine.execNop64 h f s
  | .nop96 h f => Sys2Proof.Machine.execNop96 h f s
  | .rdc h f csr => Sys2Proof.Machine.execRdc h f csr s
  | .wrc h f csr => Sys2Proof.Machine.execWrc h f csr s
  | .clkdiv h f => Sys2Proof.Machine.execClkdiv h f s
  | .pwrq h f => Sys2Proof.Machine.execPwrq h f s
  | .rep h f x => Sys2Proof.Machine.execRep h f x s
  | .ebreak h f => Sys2Proof.Machine.execEbreak h f s
  | .sysc h f => Sys2Proof.Machine.execSysc h f s
  | .rfe h f => Sys2Proof.Machine.execRfe h f s
  | .tlbiPage h f => Sys2Proof.Machine.execTlbiPage h f s
  | .tlbiSpace h f => Sys2Proof.Machine.execTlbiSpace h f s
  | .tlbiPart h f => Sys2Proof.Machine.execTlbiPart h f s
  | .tlbiReplica h f => Sys2Proof.Machine.execTlbiReplica h f s
  | .tlbiRwflush h f => Sys2Proof.Machine.execTlbiRwflush h f s
  | .tlbiRcinit h f => Sys2Proof.Machine.execTlbiRcinit h f s
  | .idle h f => Sys2Proof.Machine.execIdle h f s
  | .tnop f => Sys2Proof.Machine.execTnop f s
  | .tfa f => Sys2Proof.Machine.execTfa f s
  | .tfb f => Sys2Proof.Machine.execTfb f s
  | .tscl f => Sys2Proof.Machine.execTscl f s
  | .tmac f => Sys2Proof.Machine.execTmac f s
  | .tprom f => Sys2Proof.Machine.execTprom f s
  | .trank f => Sys2Proof.Machine.execTrank f s
  | .tdrain f => Sys2Proof.Machine.execTdrain f s
  | .twalk f => Sys2Proof.Machine.execTwalk f s
  | .tloop f => Sys2Proof.Machine.execTloop f s
  | .tend f => Sys2Proof.Machine.execTend f s
  | .tjmp f => Sys2Proof.Machine.execTjmp f s
  | .tyld f => Sys2Proof.Machine.execTyld f s
  | .tflag f => Sys2Proof.Machine.execTflag f s
  | .tret f => Sys2Proof.Machine.execTret f s
  | .tset f => Sys2Proof.Machine.execTset f s
  | .fixedResultWriteback c => Sys2Proof.Machine.execFixedResultWriteback c s
  | .scoreboardResultLand n => Sys2Proof.Machine.execScoreboardResultLand n s
  | .shadowResultLand c => Sys2Proof.Machine.execShadowResultLand c s
  | .preemptionRequest c => Sys2Proof.Machine.execPreemptionRequest c s
  | .preemptionLanding c => Sys2Proof.Machine.execPreemptionLanding c s
  | .forcedPreemption c => Sys2Proof.Machine.execForcedPreemption c s
  | .contextSave c => Sys2Proof.Machine.execContextSave c s
  | .contextRestore c => Sys2Proof.Machine.execContextRestore c s
  | .heldPostApply c r => Sys2Proof.Machine.execHeldPostApply c r s
  | .remoteFlagPost c task f amt => Sys2Proof.Machine.execRemoteFlagPost c task f amt s
  | .transferComplete c r n => Sys2Proof.Machine.execTransferComplete c r n s
  | .arrivalQueueRoom c r => Sys2Proof.Machine.execArrivalQueueRoom c r s
  | .handlerStart c r => Sys2Proof.Machine.execHandlerStart c r s
  | .transferFault c r n x => Sys2Proof.Machine.execTransferFault c r n x s
  | .rankmergeApply c r n => Sys2Proof.Machine.execRankmergeApply c r n s
  | .mcallStart c r => Sys2Proof.Machine.execMcallStart c r s
  | .mmodeExec c r => Sys2Proof.Machine.execMmodeExec c r s
  | .mclrExec c r => Sys2Proof.Machine.execMclrExec c r s
  | .mmergeExec c r => Sys2Proof.Machine.execMmergeExec c r s
  | .asyncFaultDelivery c r => Sys2Proof.Machine.execAsyncFaultDelivery c r s
  | .machineTrap c zone => Sys2Proof.Machine.execMachineTrap c zone s
  | .uncorrectableError c x pa => Sys2Proof.Machine.execUncorrectableError c x pa s
  | .coreFence c => Sys2Proof.Machine.execCoreFence c s
  | .dieFence d => Sys2Proof.Machine.execDieFence d s
  | .barrierDieComplete g d => Sys2Proof.Machine.execBarrierDieComplete g d s
  | .barrierGenerationComplete g => Sys2Proof.Machine.execBarrierGenerationComplete g s
  | .barrierRelease g c => Sys2Proof.Machine.execBarrierRelease g c s
  | .atomicAtHome n => Sys2Proof.Machine.execAtomicAtHome n s
  | .lineHomeHandover line => Sys2Proof.Machine.execLineHomeHandover line s
  | .l1Eviction line => Sys2Proof.Machine.execL1Eviction line s
  | .sliceEviction line => Sys2Proof.Machine.execSliceEviction line s
  | .walkComplete d k => Sys2Proof.Machine.execWalkComplete d k s
  | .tlbiComplete n => Sys2Proof.Machine.execTlbiComplete n s
  | .shootdownRequest peer kind page root => Sys2Proof.Machine.execShootdownRequest peer kind page root s
  | .shootdownAck n peer => Sys2Proof.Machine.execShootdownAck n peer s
  | .shootdownTimeout n peer => Sys2Proof.Machine.execShootdownTimeout n peer s
  | .bankRetireProposal d bank live => Sys2Proof.Machine.execBankRetireProposal d bank live s
  | .stkPropose d => Sys2Proof.Machine.execStkPropose d s
  | .stkGo d pseq => Sys2Proof.Machine.execStkGo d pseq s
  | .restripeComplete d => Sys2Proof.Machine.execRestripeComplete d s
  | .testerBusVisit d faulty spareLeft => Sys2Proof.Machine.execTesterBusVisit d faulty spareLeft s
  | .doorbell part w => Sys2Proof.Machine.execDoorbell part w s
  | .qcmdCreate part w => Sys2Proof.Machine.execQcmdCreate part w s
  | .qcmdDestroy part w => Sys2Proof.Machine.execQcmdDestroy part w s
  | .qcmdKill part w => Sys2Proof.Machine.execQcmdKill part w s
  | .qcmdClearerr part w => Sys2Proof.Machine.execQcmdClearerr part w s
  | .qcmdArmreload part w => Sys2Proof.Machine.execQcmdArmreload part w s
  | .qcmdQuery part w => Sys2Proof.Machine.execQcmdQuery part w s
  | .launch q pkt => Sys2Proof.Machine.execLaunch q pkt s
  | .admissionRetry q => Sys2Proof.Machine.execAdmissionRetry q s
  | .signalPacket q pkt => Sys2Proof.Machine.execSignalPacket q pkt s
  | .waitsig q pkt => Sys2Proof.Machine.execWaitsig q pkt s
  | .waitsigReread q => Sys2Proof.Machine.execWaitsigReread q s
  | .nopPacket q pkt => Sys2Proof.Machine.execNopPacket q pkt s
  | .topoReconfigure q pkt => Sys2Proof.Machine.execTopoReconfigure q pkt s
  | .topoLoad q pkt => Sys2Proof.Machine.execTopoLoad q pkt s
  | .topoRetrain q pkt => Sys2Proof.Machine.execTopoRetrain q pkt s
  | .topoDrainEnd => Sys2Proof.Machine.execTopoDrainEnd s
  | .fabCtlResume d w => Sys2Proof.Machine.execFabCtlResume d w s
  | .topoTimeout => Sys2Proof.Machine.execTopoTimeout s
  | .topoTrainEnd failed => Sys2Proof.Machine.execTopoTrainEnd failed s
  | .topoTableLoad => Sys2Proof.Machine.execTopoTableLoad s
  | .taskEnd task => Sys2Proof.Machine.execTaskEnd task s
  | .slotBoundary => Sys2Proof.Machine.execSlotBoundary s
  | .markerLockLoss => Sys2Proof.Machine.execMarkerLockLoss s
  | .frameHeader fr => Sys2Proof.Machine.execFrameHeader fr s
  | .frameGlobalWrite fr => Sys2Proof.Machine.execFrameGlobalWrite fr s
  | .frameScratchpadWrite fr => Sys2Proof.Machine.execFrameScratchpadWrite fr s
  | .frameReadRequest fr => Sys2Proof.Machine.execFrameReadRequest fr s
  | .frameReadResponse fr => Sys2Proof.Machine.execFrameReadResponse fr s
  | .frameSend fr => Sys2Proof.Machine.execFrameSend fr s
  | .frameSendm fr => Sys2Proof.Machine.execFrameSendm fr s
  | .frameXflag fr => Sys2Proof.Machine.execFrameXflag fr s
  | .frameTranslationRequest fr => Sys2Proof.Machine.execFrameTranslationRequest fr s
  | .frameTranslationResponse fr => Sys2Proof.Machine.execFrameTranslationResponse fr s
  | .retransmitTimeout peer => Sys2Proof.Machine.execRetransmitTimeout peer s
  | .propose peer m => Sys2Proof.Machine.execPropose peer m s
  | .accept peer m => Sys2Proof.Machine.execAccept peer m s
  | .defer peer m => Sys2Proof.Machine.execDefer peer m s
  | .retune peer m => Sys2Proof.Machine.execRetune peer m s
  | .portdown peer m => Sys2Proof.Machine.execPortdown peer m s
  | .retrain peer m => Sys2Proof.Machine.execRetrain peer m s
  | .rejoin peer m => Sys2Proof.Machine.execRejoin peer m s
  | .flushed peer m => Sys2Proof.Machine.execFlushed peer m s
  | .repairApply => Sys2Proof.Machine.execRepairApply s
  | .repairRepropose => Sys2Proof.Machine.execRepairRepropose s
  | .portdownApply => Sys2Proof.Machine.execPortdownApply s
  | .lineDrift port line mhz => Sys2Proof.Machine.execLineDrift port line mhz s
  | .lineRetuneStart port line => Sys2Proof.Machine.execLineRetuneStart port line s
  | .retuneEnd port line mhz => Sys2Proof.Machine.execRetuneEnd port line mhz s
  | .combFailure port => Sys2Proof.Machine.execCombFailure port s
  | .retrainEnd port peer => Sys2Proof.Machine.execRetrainEnd port peer s
  | .peerSilenceTimeout peer => Sys2Proof.Machine.execPeerSilenceTimeout peer s
  | .peerRemoval peer => Sys2Proof.Machine.execPeerRemoval peer s
  | .ofuReset d => Sys2Proof.Machine.execOfuReset d s
  | .expertBlockRelease win e => Sys2Proof.Machine.execExpertBlockRelease win e s
  | .clkdivDecision c => Sys2Proof.Machine.execClkdivDecision c s
  | .divisorSwitch c => Sys2Proof.Machine.execDivisorSwitch c s
  | .railStep c => Sys2Proof.Machine.execRailStep c s
  | .throttleUpdate c swal => Sys2Proof.Machine.execThrottleUpdate c swal s
  | .stallSample d banks => Sys2Proof.Machine.execStallSample d banks s
  | .levelFall c => Sys2Proof.Machine.execLevelFall c s
  | .sramRailWindow d corrected unc => Sys2Proof.Machine.execSramRailWindow d corrected unc s
  | .valveControl d z valve => Sys2Proof.Machine.execValveControl d z valve s
  | .sensorSample d z sens => Sys2Proof.Machine.execSensorSample d z sens s
  | .evacuationStep d z dry => Sys2Proof.Machine.execEvacuationStep d z dry s
  | .coolantSupplyDrop supply => Sys2Proof.Machine.execCoolantSupplyDrop supply s
  | .zclr d w => Sys2Proof.Machine.execZclr d w s
  | .dbgHalt c on => Sys2Proof.Machine.execDbgHalt c on s
  | .debugHaltLanding c => Sys2Proof.Machine.execDebugHaltLanding c s
  | .dbgResume c => Sys2Proof.Machine.execDbgResume c s
  | .dbgStep c => Sys2Proof.Machine.execDbgStep c s
  | .dbgEbrk c on => Sys2Proof.Machine.execDbgEbrk c on s
  | .dbgVdataRead c => Sys2Proof.Machine.execDbgVdataRead c s
  | .deviceReset => Sys2Proof.Machine.execDeviceReset s
  | .bootGo => Sys2Proof.Machine.execBootGo s
  | .attGo d w => Sys2Proof.Machine.execAttGo d w s
  | .attestationReport d => Sys2Proof.Machine.execAttestationReport d s
  | .partitionTableWrite offset w => Sys2Proof.Machine.execPartitionTableWrite offset w s
  | .softerrWrite d => Sys2Proof.Machine.execSofterrWrite d s
  | .hostMainbandAccess x => Sys2Proof.Machine.execHostMainbandAccess x s
  | .hostLinkFailure link => Sys2Proof.Machine.execHostLinkFailure link s
  | .mgmtRegisterWrite part d offset w => Sys2Proof.Machine.execMgmtRegisterWrite part d offset w s
  | .markerLockAcquired rot slot => Sys2Proof.Machine.execMarkerLockAcquired rot slot s
  | .coolantSupplyRestored supply => Sys2Proof.Machine.execCoolantSupplyRestored supply s
  | .repRepetition c => Sys2Proof.Machine.execRepRepetition c s
  | .illegalEncoding w => Sys2Proof.Machine.execIllegalEncoding w s

end Sys2Proof.Machine
end

