-- ==== Sys2Proof/Machine/Issue.lean ====
section
/-! DEFINITION. A turn of each agent: the boundary and the issue group of a core (R40, R43, R57, R136, R329), a step or command
of a matrix engine (R223, R224), a home, a dispatcher (R351), and any other event. -/

namespace Sys2Proof.Machine

/-- Go on with the state of an outcome. -/
def andThen (o : Out) (f : State → Out) : Out :=
  match o with
  | .next s => f s
  | .fault r => .fault r
  | .refused r => .refused r

/-! ## The instructions of a group (R57) -/

/-- An instruction of a group: its place, its address and itself. -/
structure Placed where
  pos : Nat
  va : VAddr
  ins : Instr
deriving DecidableEq, Repr

/-- The instructions of a group with their places. -/
def placed (l : List (VAddr × Instr)) : List Placed := (l.zip (List.range l.length)).map (fun e => ⟨e.2, e.1.1, e.1.2⟩)

/-- All instructions of a group read as of its issue. EXIT judges what it waits for before the group's own work begins
(DEDUCED, log 43), and RDC reads what no instruction of the group has changed (R57); MOVFS reads a flag after the cycle's
subtraction (R32, R63), and VSLD the own scratchpad after the cycle's accesses on LS (R108); FENCE, TLBI and RFE act on what
follows the group (R178, R332, R378). -/
def rankOf : Instr → Nat
  | .exit .. | .rdc .. => 0
  | .movfs .. | .vsld .. => 2
  | .fence .. | .rfe .. | .tlbiPage .. | .tlbiSpace .. | .tlbiPart .. | .tlbiReplica .. | .tlbiRwflush .. | .tlbiRcinit .. => 3
  | _ => 1

/-- The order in which the effects of a group are computed. -/
def inOrder (l : List Placed) : List Placed :=
  [0, 1, 2, 3].flatMap (fun k => l.filter (fun p => rankOf p.ins == k))

/-- WARN and WARN_PC (R76). -/
structure WarnSt where
  first : Byte := 0
  count : Byte := 0
  bits : BitVec 4 := 0
  pc : VAddr := 0
deriving DecidableEq, Repr

def Res.warnSt (r : Res) : WarnSt := { first := r.warnFirst, count := r.warnCount, bits := r.warnBits, pc := r.warnPc }
def Res.withWarn (r : Res) (w : WarnSt) : Res :=
  { r with warnFirst := w.first, warnCount := w.count, warnBits := w.bits, warnPc := w.pc }

/-- WARN after the warnings of one more instruction, which began with WARN as w: the first of the group since all was clear
stands, the bits are joined, the numbers add up (R76). -/
def WarnSt.join (w x y : WarnSt) : WarnSt :=
  { first := if x.bits = 0 then y.first else x.first
    pc := if x.bits = 0 then y.pc else x.pc
    bits := x.bits ||| y.bits
    count := BitVec.ofNat 8 (Nat.min 255 (x.count.toNat + (y.count.toNat - w.count.toNat))) }

/-- What a group has come to: the state so far, what holds it, the trap that it takes if nothing does, and what WARN would be
after each instruction alone. -/
structure Pass where
  s : State
  holds : List Hold := []
  trap : Option (Nat × VAddr × Trap) := none
  warns : List (Nat × WarnSt) := []
deriving DecidableEq, Repr

/-- The state in which an instruction of the group runs: WARN is as at the group's issue. -/
def State.atInstr (s : State) (w : WarnSt) (p : Placed) : State :=
  let t := s.modRc (fun r => r.withWarn w)
  { t with cur := { t.cur with pos := p.pos, ipc := p.va, word := (encode p.ins).headD 0 }, mark := .none }

/-- The rank of a trap in the choice of R136. -/
def trapRank (k : Trap) : Nat :=
  if k.cause = cEncoding then 0 else if k.cause = cPrivilege then 1 else if k.cause = cGroup then 2 else 3

/-- Of two traps of a group, the first is the one it takes (R136, R329). -/
def trapBefore (a b : Nat × VAddr × Trap) : Bool :=
  trapRank a.2.2 < trapRank b.2.2 || (trapRank a.2.2 == trapRank b.2.2 && a.1 ≤ b.1)

/-- The pass after the mark of one instruction: an effect stands, a hold or a trap is kept and leaves no effect. -/
def Pass.after (x : Pass) (p : Placed) (t : State) : Pass :=
  match t.mark with
  | .none => { x with s := t, warns := x.warns ++ [(p.pos, t.rc.warnSt)] }
  | .held h => { x with holds := x.holds ++ [h] }
  | .trapped k =>
    let e := (p.pos, p.va, k)
    match x.trap with
    | some o => if trapBefore o e then x else { x with trap := some e }
    | none => { x with trap := some e }

/-- Run the instructions of a group one after another, on the state each leaves to the next; WARN was w at the group's issue. -/
def runAll (w : WarnSt) : List Placed → Pass → Host.Outcome Pass Fault Refusal
  | [], x => .next x
  | p :: l, x =>
    match exec p.ins (x.s.atInstr w p) with
    | .next t => runAll w l (x.after p t)
    | .fault r => .fault r
    | .refused r => .refused r

/-- WARN after the whole group: the warnings of its instructions in the order of their places (R76). -/
def Pass.warned (x : Pass) (w : WarnSt) : WarnSt :=
  (List.range 16).foldl (fun a n => (x.warns.filter (fun e => e.1 == n)).foldl (fun a e => w.join a e.2) a) w

/-! ## The traps of decode of a whole group (R136) -/

/-- The trap of a group decided at decode, with the instruction that raises it. -/
def State.groupTrap (s : State) (l : List Placed) (overlong : Bool) : Option (Nat × VAddr × Trap) :=
  let is := l.map (fun p => p.ins)
  match l.find? (fun p => s.badEncoding p.ins || badStride (is.drop p.pos)) with
  | some p => some (p.pos, p.va, { cause := cEncoding, tval := p.ins.firstWord })
  | none =>
    match l.find? (fun p => (s.privFault p.ins p.ins.firstWord).isSome) with
    | some p => some (p.pos, p.va, { cause := cPrivilege, tval := (s.privFault p.ins p.ins.firstWord).getD 0 })
    | none =>
      if is.any s.badClass || groupIllegal is overlong then some (0, s.cur.gpc, { cause := cGroup })
      else (l.find? (fun p => s.badLoop p.va p.ins)).map (fun p => (p.pos, p.va, { cause := cGroup }))

/-- The ILLEGAL_ENCODING of one instruction that decode alone cannot tell: of an MPLD, which reads its image once the engine is idle
(R230), and of a CPY RANKMERGE whose target is still to come (R64, R259). A hold leaves it open. -/
def State.lateEncoding (s : State) (p : Placed) : Mark :=
  match p.ins with
  | .cpyRankmerge .. => if s.mergeOpen p.ins then .held .plain else .none
  | .mpld .. =>
    match exec p.ins (s.atInstr s.rc.warnSt p) with
    | .next t =>
      match t.mark with
      | .trapped k => if k.cause = cEncoding then .trapped k else .none
      | m => m
    | _ => .none
  | _ => .none

/-- The first instruction of a group whose ILLEGAL_ENCODING is such a one, or is open. -/
def State.lateEncodings (s : State) (l : List Placed) : Option (Placed × Mark) :=
  (l.map (fun p => (p, s.lateEncoding p))).find? (fun e => e.2 != .none)

/-! ## What ends a group -/

/-- The YP bit of the header (R43, R121). -/
def isYp (i : Instr) : Bool :=
  match i.head with
  | some (_, h, _) => h.yp
  | none => false

/-- The group counts toward the preparation in force (R69). -/
def Ctx.countGroup (x : Ctx) : Ctx := { x with prep := x.prep.map (fun p => (p.1, p.2 + 1)) }

/-- The group of the innermost loop's end has issued: one iteration less, and back to the start while some are left, unless a
branch of the group was taken (R23, R171). depth is the stack's before the group: an entry that a LOOP of the group pushed stays
above the ending one, and one that its LBRK popped is gone (R172). The skip of a LOOP of count 0 in the group counts as taken (DESIGN
CHOICE, log 66). -/
def Ctx.loopEnd (x : Ctx) (depth : Nat) (taken : Bool) : Ctx :=
  let above := x.loops.take (x.loops.length - depth)
  match x.loops.drop (x.loops.length - depth) with
  | [] => x
  | e :: rest =>
    if x.loops.length < depth then x
    else if e.count = 1 then { x with loops := above ++ rest }
    else
      { x with
        loops := above ++ { e with count := e.count - 1, index := e.index + 1 } :: rest
        pc := if taken then x.pc else e.start }

/-- The loop whose end group is at an address. -/
def Ctx.endingLoop (x : Ctx) (pc : VAddr) : Option LoopE :=
  match x.loops with
  | e :: _ => if e.stop = pc then some e else none
  | [] => none

/-- Work that the group of an EXIT began itself is given up with the context (DEDUCED, log 43). -/
def State.afterExit (s : State) : State :=
  if s.rc.occ then s
  else
    { s with reqs := s.reqs.map (fun (q : Req) => if q.core == s.cur.core && q.slot == s.cur.slot then { q with dest := .none } else q) }.modRc (fun r =>
      { r with pend := [], xfers := [], eng := { r.eng with queue := [] } })

/-- The context waits for no flag any longer (R33). -/
def State.noWait (s : State) : State :=
  s.modRc (fun r => { r with waiters := r.waiters.filter (fun w => !(w.1 == s.cur.ctx)) })

/-- Of the flags that the context waits for, those that an FWAIT of its stalled group still names under a guard of 1 (R33, R54). -/
def State.keepWaits (s : State) (l : List Placed) : State :=
  let named := fun (f : BitVec 5) => l.any (fun p => match p.ins with | .fwait h y => y.f == f && s.preg h.pred.toNat | _ => false)
  s.modRc (fun r => { r with waiters := r.waiters.filter (fun w => !(w.1 == s.cur.ctx) || named w.2.1) })

/-- An FWAIT of a group that does not issue takes its place in line (R33), unless its guard or its operand is still to come, its guard
reads 0, or its count is 0 (R31, R54). -/
def State.lineUp (s : State) (l : List Placed) : State :=
  l.foldl (fun (s : State) p =>
    match p.ins with
    | .fwait h y =>
      if s.stalls p.ins || !s.preg h.pred.toNat || s.flagArg y = 0 then s else s.note (.flag y.f (s.flagArg y) h.pred)
    | _ => s) s

/-- A group of the issuing context has issued: s0 is the state before it, l its instructions. -/
def State.groupDone (s s0 : State) (l : List Placed) : State :=
  if s.here.halted && !s0.here.halted then { s with mark := .none }
  else
    let repeats := s.cx.rep.isSome
    let e := s0.cx.endingLoop s.cur.gpc
    let primary := s.cur.ctx == .primary
    let yields := l.any (fun p => isYp p.ins) || (match e with | some e => e.yld | none => false)
    let t := s.noWait.modCx (fun x =>
      let x := x.countGroup
      if e.isSome && !repeats then x.loopEnd s0.cx.loops.length s.cur.taken else x)
    let t := t.modHere (fun k =>
      { k with walkFaults := [], fourDue := false, atYield := if primary then k.preemptOpen && yields else k.atYield })
    { t.afterExit with mark := .none }

/-- The group traps at one of its instructions (R57, R326): nothing of it commits. -/
def State.groupTraps (s0 : State) (p : Nat × VAddr × Trap) : State :=
  let t := ({ s0 with cur := { s0.cur with pos := p.1, ipc := p.2.1 }, mark := .none }).takeTrap p.2.2
  t.modHere (fun k => { k with walkFaults := [] })

/-- A group whose destination a captured result is bound for, or which more than 64 results in flight alone hold, would issue now but
for the captured results (R45, R65): their counts start all the same (R46). -/
def State.resumed (s : State) (is : List Instr) (hs : List Hold) : State :=
  let t := s.modRc (fun r => r.resume s.cur.ctx s.here.cycle)
  if is.any (fun i => t.flying i) || (hs.all (fun h => h == .full) && !hs.isEmpty) then t else s

/-- A V instruction waits for a vector result from CLUSTER, SLICE or GLOBAL space: for none that a request to the core's own
scratchpad brings (R434). -/
def State.heldOnVector (s : State) (i : Instr) : Bool :=
  i.cls? == some .v && (i.regs.filterMap (sregOf s.cur.ctx s.cx.mode)).any (fun g =>
    match g with
    | .v _ _ => s.rc.pend.any (fun p => p.1 == g &&
        (match p.2 with
         | .req n => !s.reqs.any (fun q => q.serial == n && q.pieces.all (fun a => a.addr.all (fun b => inSp b && spCore b == s.cur.core)))
         | _ => true))
    | _ => false)

/-- A walk is no reason for which R434 counts a cycle as stalled. -/
def Hold.isWalk : Hold → Bool
  | .walk _ _ => true
  | _ => false

/-- An IDLE waits: no scoreboard holds it. -/
def State.idles (s : State) (i : Instr) : Bool := match i with | .idle .. => !s.stalls i | _ => false
/-- What a held group comes to in the count of stalled cycles (R434): neither a walk nor a waiting IDLE is a stall. -/
def State.countHeld (s : State) (hs : List Hold) (is : List Instr) : State :=
  s.modHere (fun k =>
    { k with heldCtl := k.heldCtl || (!hs.all Hold.isWalk && !is.any s.idles), heldVec := k.heldVec || is.any s.heldOnVector })

/-- A group of the primary that stalls with YP is a yield point (R43). -/
def State.stallYields (s : State) (l : List Placed) : State :=
  if s.cur.ctx == .primary && l.any (fun p => isYp p.ins) then s.modHere (fun k => { k with atYield := k.preemptOpen }) else s

/-- The group stalls: what a hold leaves behind stays, its FWAITs are in line, and a group with YP is a yield point (R43). -/
def State.groupHolds (s0 : State) (l : List Placed) (hs : List Hold) (is : List Instr) : State :=
  let t := ((hs.foldl (fun (s : State) h => s.note h) (s0.resumed is hs)).lineUp l).countHeld hs is
  { t.stallYields l with mark := .none }

/-! ## Issue of one context -/

/-- Outcome of an issue opportunity: the state, and whether a group issued or trapped. -/
abbrev Tried := Host.Outcome (State × Bool) Fault Refusal

/-- The first group of a launched primary finds each of its groups' current interval acquired (R26). -/
def State.firstGroup (s : State) : State :=
  if s.cur.ctx == .primary && s.rc.fresh then
    s.modRc (fun r =>
      { r with
        fresh := false
        acquired := [0, 1, 2, 3].foldl (fun t i =>
          match groupSlot r.groupSet i with
          | some g => t.put 0 i (s.arm g).interval
          | none => t) r.acquired })
  else s

/-- The state in which the effects of a group begin: its lines are in the instruction cache (R1), the context goes on after the group,
and its shadow results count from this cycle (R46). -/
def State.enterGroup (s : State) (next : VAddr) (is : List Instr) : State :=
  let t := (s.firstGroup.modHere (fun k => k.fetched (s.codeLines s.cur.gpc next))).modRc (fun r => r.resume s.cur.ctx s.here.cycle)
  let t := t.modCx (fun x => { x with pc := next })
  { t with cur := { t.cur with next := next, group := is, taken := false, bubbles := 0, spent := 0 } }

/-- A trap of a repetition has been taken from the repetition's own state (R327). -/
def State.repTrapped (s : State) : State := { s.modHere (fun k => { k with walkFaults := [] }) with mark := .none }

/-- What the mark of a REP group's attempt, or of a later repetition's, comes to: s0 is the state before it, l the group. -/
noncomputable def State.repOutcome (t s0 : State) (l : List Placed) : Tried :=
  match t.mark with
  | .none => .next (t.groupDone s0 l, true)
  | .held h => .next (s0.groupHolds l [h] (match t.cx.rep with | some r => r.instr.toList | none => []), false)
  | .trapped _ => .next (t.repTrapped, true)

/-- A group of the issuing context, read and decoded, issues, traps or stalls. Of a REP group the REP alone runs, which runs its
target. -/
noncomputable def State.issueGroup (s0 : State) (g : Group) : Tried :=
  let l := placed g.is
  let is := g.is.map (fun e => e.2)
  let s0 := { s0 with cur := { s0.cur with next := g.next, group := is } }
  match s0.groupTrap l g.overlong with
  | some p =>
    match if trapRank p.2.2 = 0 then none else s0.lateEncodings l with
    | some (q, .trapped k) => .next (s0.groupTraps (q.pos, q.va, k), true)
    | some _ => .next ((s0.keepWaits l).groupHolds l [] is, false)
    | none => .next (s0.groupTraps p, true)
  | none =>
    let u := s0.enterGroup g.next is
    let w := u.rc.warnSt
    match l.find? (fun p => isRep p.ins) with
    | some p =>
      match exec p.ins (u.atInstr w p) with
      | .fault r => .fault r
      | .refused r => .refused r
      | .next t => t.repOutcome s0 l
    | none =>
      match runAll w (inOrder l) { s := u } with
      | .fault r => .fault r
      | .refused r => .refused r
      | .next x =>
        if !x.holds.isEmpty then .next ((s0.keepWaits l).groupHolds l x.holds is, false)
        else
          match x.trap with
          | some p => .next (s0.groupTraps p, true)
          | none => .next ((x.s.modRc (fun r => r.withWarn (x.warned w))).groupDone s0 l, true)

/-- The issue in progress at a context's pc. -/
def State.issueAt (s : State) (c : CoreId) (r : Slot) (x : CtxId) : State :=
  let pc := ((s.res c r).ctx x).pc
  { s with cur := { core := c, slot := r, ctx := x, gpc := pc, ipc := pc, base := s.serial }, mark := .none }

/-- The target of the REP under way, as its repetition's only instruction. -/
def Ctx.repTarget (x : Ctx) : List Placed :=
  match x.rep with
  | some r => [⟨1, x.pc + 8, r.target⟩]
  | none => []

/-- The next repetition of the context's REP is its group (R139). Whether it is a yield point is the target's YP alone; the REP's own
YP counts in the group that the two begin (DESIGN CHOICE, log 94). -/
noncomputable def State.issueRep (s0 : State) : Tried :=
  match exec (.repRepetition s0.cur.core) s0 with
  | .fault r => .fault r
  | .refused r => .refused r
  | .next t => t.repOutcome s0 s0.cx.repTarget

/-- An issue opportunity of a context: its group is read, and faults in reading it trap before anything else (R169, R326). -/
noncomputable def State.tryIssue (s : State) (c : CoreId) (r : Slot) (x : CtxId) : Tried :=
  let s0 := s.issueAt c r x
  if s0.cx.rep.isSome then s0.issueRep
  else
    let unread : State := { s0 with cur := { s0.cur with next := Config.nextOfUnread s.steps } }
    if s0.cur.gpc.toNat % 4 ≠ 0 then
      .next (unread.groupTraps (0, s0.cur.gpc, { cause := cAlign, tval := s0.cur.gpc.setWidth 64 }), true)
    else
      match s0.groupAt s0.cur.gpc with
      | .hold h => .next (s0.groupHolds [] [h] [], false)
      | .trap t => .next (unread.groupTraps (0, s0.cur.gpc, t), true)
      | .ok g => s0.issueGroup g

/-! ## One control cycle of a core -/

/-- A context may have an issue opportunity in this cycle. -/
def Core.mayIssue (k : Core) (x : CtxId) : Bool :=
  let y := (k.res k.act).ctx x
  y.run == .live && decide (y.ready ≤ k.cycle)

/-- The handler contexts, the one that did not issue last first (R40). -/
def Core.handlers (k : Core) : List CtxId := if k.hLast == .h1 then [.h2, .h1] else [.h1, .h2]

/-- A failed transfer's FABRIC_UNREACHABLE is still to be delivered to a context in task mode (R290, R331). -/
def Res.unreachable (r : Res) (x : CtxId) : Bool :=
  !(r.ctx x).mode && r.faults.any (fun f => f.code == 0x20 && r.receiver f == x)

/-- The contexts that may have an issue opportunity, those of R40's priority first. A halted core that steps issues of the primary
alone (R339), and none issues before the failure of a transfer of its own is delivered (R290). -/
def Core.candidates (k : Core) : List CtxId :=
  ((if k.halted then [.primary] else k.handlers ++ [.primary]).filter k.mayIssue).filter (fun x => !(k.res k.act).unreachable x)

/-- A context whose group could issue waits for another's: its FWAITs take their places in line all the same (R33). -/
noncomputable def State.passedOver (s : State) (c : CoreId) (x : CtxId) : State :=
  let r := (s.core c).act
  let u := s.issueAt c r x
  if u.cx.rep.isSome then s
  else match u.groupAt u.cur.gpc with
    | .ok g => { u.lineUp (placed g.is) with cur := s.cur, mark := s.mark }
    | _ => s

/-- Look at the contexts one after another: what a group that cannot issue leaves behind stays, its place in line, its walk and its
yield point (R33, R43, R374), whichever context issues; the answer names those whose group would issue or trap. Of two FWAITs that begin
to wait on one flag in the same cycle the one looked at first is the older: handlers, the one that did not issue last first, before the
primary (DESIGN CHOICE, log 93). -/
noncomputable def lookAt (c : CoreId) : List CtxId → State → Host.Outcome (State × List CtxId) Fault Refusal
  | [], s => .next (s, [])
  | x :: l, s =>
    match s.tryIssue c (s.core c).act x with
    | .fault r => .fault r
    | .refused r => .refused r
    | .next (t, false) => lookAt c l t
    | .next (_, true) =>
      match lookAt c l (s.passedOver c x) with
      | .next (t, ready) => .next (t, x :: ready)
      | o => o

/-- A context that was the oldest waiter on a flag (R32, R33). -/
def Res.oldestWaiter (r : Res) (x : CtxId) : Bool :=
  r.waiters.any (fun w => w.1 == x && (r.waiters.find? (fun v => v.2.1 == w.2.1)) == some w)

/-- The ready contexts in the order in which one issues: after four handler groups the primary (R40, R51); else the oldest waiter whose
flag satisfies it, which issues in the next cycle (R32; DESIGN CHOICE, log 63, that it goes before a ready handler), then the others by
R40. -/
def Core.order (k : Core) (ready waiters : List CtxId) : List CtxId :=
  let l := ready.filter (fun x => waiters.contains x) ++ ready.filter (fun x => !waiters.contains x)
  if 4 ≤ k.hRun then l.filter (fun x => x == .primary) ++ l.filter (fun x => !(x == .primary)) else l

/-- What an issue leaves of R40's count: only a handler group that went before a ready primary counts. -/
def Core.counted (k : Core) (ready : Bool) (x : CtxId) : Core :=
  match x with
  | .primary => { k with hRun := 0 }
  | x => { k with hLast := x, hRun := if ready then k.hRun + 1 else k.hRun }

/-- The core may issue in this cycle: it runs, no divisor change holds it (R432), its active context is in the core and its
task goes on, and the debugger lets it (R339). In a task that COOLANT_LOST ends, a core that has taken the machine trap runs its
kernel (R334). -/
def State.mayIssue (s : State) (c : CoreId) : Bool :=
  let k := s.core c
  let r := k.res k.act
  k.runs && !s.clkHolds c && r.occ && r.place == .here && (!k.halted || k.dbgStep) &&
  (match s.task? r.task with
   | some t =>
     (match t.ending with
      | some e => e.status == 5 && r.primary.mode
      | none => true)
   | none => true)

/-- Of the contexts that may have an issue opportunity those whose group is held are known (R45). -/
def State.noteStuck (s : State) (c : CoreId) (ready : List CtxId) : State :=
  s.modCore c (fun k => { k with stuck := k.candidates.filter (fun x => !ready.contains x) })

/-- A stop of the core's contexts may land at this boundary (R44, R340). -/
def Core.stopDue (k : Core) : Bool := k.preemptOpen || (k.dbgHalt && !k.halted)

/-- Before a boundary at which a stop may land, the contexts whose groups would be held in this cycle are found (R45). -/
noncomputable def State.findStuck (s : State) (c : CoreId) : State :=
  if (s.core c).stopDue && s.mayIssue c then
    match lookAt c (s.core c).candidates s with
    | .next (_, ready) => s.noteStuck c ready
    | _ => s
  else s

/-- One issue opportunity of a core: one of the ready contexts issues. -/
noncomputable def State.issue (s : State) (c : CoreId) : Out :=
  let r := (s.core c).act
  let waiters := (s.core c).candidates.filter (s.res c r).oldestWaiter
  match lookAt c (s.core c).candidates s with
  | .fault e => .fault e
  | .refused e => .refused e
  | .next (u, ready) =>
    let u := u.noteStuck c ready
    match (u.core c).order ready waiters with
    | [] => .next u
    | x :: _ =>
      match u.tryIssue c r x with
      | .fault e => .fault e
      | .refused e => .refused e
      | .next (t, _) =>
        let t := t.modCore c (fun k => { k.counted (ready.contains .primary) x with heldCtl := false })
        .next (if (t.core c).dbgStep then t.modCore c (fun k => { k.halt (k.cycle + 1) with dbgEbh := false, haltedAt := t.steps }) else t)

/-- The events of the boundary before issue, in the order of R329, and the start of handlers. -/
noncomputable def State.boundary (s : State) (c : CoreId) : Out :=
  let zone : BitVec 9 := match ((s.core c).res (s.core c).act).machine with | some m => m.2 | none => 0
  andThen (exec (.machineTrap c zone) s) fun s =>
  andThen (exec (.debugHaltLanding c) s) fun s =>
  andThen (exec (.preemptionLanding c) s) fun s =>
  andThen (exec (.forcedPreemption c) s) fun s =>
  andThen (exec (.asyncFaultDelivery c (s.core c).act) s) fun s =>
  -- the oldest queued records reach the contexts that are dormant, two at most (R39)
  andThen (exec (.handlerStart c (s.core c).act) s) fun s =>
  exec (.handlerStart c (s.core c).act) s

/-- The edges of each engine in a control cycle: of engine e one every d_e pulses from the last change of a divisor (R425). -/
def Core.edgesNow (k : Core) : Divs :=
  let n := fun (d : Nat) => (k.pulses + k.divs.ctl) / d - k.pulses / d
  { ctl := n k.divs.ctl, mat := n k.divs.mat, vec := n k.divs.vec, cpy := n k.divs.cpy }

def Divs.plus (a b : Divs) : Divs :=
  { ctl := a.ctl + b.ctl, mat := a.mat + b.mat, vec := a.vec + b.vec, cpy := a.cpy + b.cpy }

/-- The engines that are stalled in a control cycle (R434; DEDUCED, log 78: a cycle in which a group of the active context issues
is no stalled cycle of the control engine). -/
def Core.countEdges (k : Core) : Core :=
  let r := k.res k.act
  let e := k.edgesNow
  -- a saved context's transfers go on (R336)
  let copies := k.all.any (fun d => d.2.xfers.any (fun x => match x.2 with | some x => xPath x.ins == .ce && x.st == .live | none => false))
  let some_ := fun (b : Bool) (n : Nat) => if b then n else 0
  { k with
    pulses := k.pulses + k.divs.ctl
    sample :=
      { edges := k.sample.edges.plus e
        stalled := k.sample.stalled.plus
          { ctl := some_ k.heldCtl e.ctl, mat := some_ (r.eng.call.isSome && r.eng.waits) e.mat, vec := some_ k.heldVec e.vec
            cpy := some_ (copies && !k.moved) e.cpy } }
    heldCtl := false, heldVec := false, moved := false }

/-- The end of a control cycle: the cycle and the engines' edges count, due results land (R60, R434), complete fences hold nothing
further (R178). -/
def State.endCycle (s : State) (c : CoreId) : State :=
  let t := s.modCore c (fun k => { k.countEdges with cycle := k.cycle + 1 })
  let k := t.core c
  (t.modRes c k.act (fun r => r.landDue k.cycle)).dropFences c

/-- The bubbles of contexts that were stopped go on from the first cycle in which the core may issue for them again (R46). -/
def State.wakeUp (s : State) (c : CoreId) : State :=
  if s.mayIssue c then s.modRes c (s.core c).act (fun r => r.wake (s.core c).cycle) else s

/-- What the group of a context that a divisor change holds leaves behind: its place in line, its walk, and the yield point that it is
while it stalls (R33, R43, R374). -/
noncomputable def State.heldOver (s : State) (c : CoreId) (x : CtxId) : State :=
  let u := s.issueAt c (s.core c).act x
  let t :=
    if u.cx.rep.isSome then u.stallYields u.cx.repTarget
    else match u.groupAt u.cur.gpc with
      | .ok g => (u.lineUp (placed g.is)).stallYields (placed g.is)
      | .hold h => u.note h
      | .trap _ => u
  { t with cur := s.cur, mark := s.mark }

/-- A divisor change holds the groups that could have an issue opportunity (R432, R434). -/
noncomputable def State.holdCounts (s : State) (c : CoreId) : State :=
  let k := s.core c
  let r := k.res k.act
  if k.runs && r.occ && r.place == .here && s.clkHolds c && !k.candidates.isEmpty then
    k.candidates.foldl (fun (s : State) x => s.heldOver c x) (s.modCore c (fun k => { k with heldCtl := true }))
  else s

/-- A control cycle of a core. -/
noncomputable def State.coreTurn (s : State) (c : CoreId) : Out :=
  andThen (((s.wakeUp c).findStuck c).boundary c) fun s =>
  andThen (if s.mayIssue c then s.issue c else .next (s.holdCounts c)) fun s => .next (s.endCycle c)

/-! ## The other agents -/

/-- A matrix engine takes the next step of its routine, or its oldest command (R223, R224). -/
noncomputable def State.engineTurn (s : State) (c : CoreId) (r : Slot) : Out :=
  let u := { s with cur := { s.cur with core := c, slot := r, ctx := .primary }, mark := .none }
  if u.eng.call.isSome then
    match decodeMicro (u.eng.store.get 0 u.eng.pos.toNat) with
    | .ok i _ => exec i u
    | .bad _ => .next s
  else
    match u.eng.queue with
    | .call .. :: _ => exec (.mcallStart c r) s
    | .mode .. :: _ => exec (.mmodeExec c r) s
    | .clr .. :: _ => exec (.mclrExec c r) s
    | .merge .. :: _ => exec (.mmergeExec c r) s
    | [] => .next s

/-- The row of a packet that the dispatcher takes (R346, R347, R419). -/
noncomputable def packetRow (q : QueueId) (p : Packet) : Instr :=
  match pktType p with
  | 1 => .launch q p
  | 2 => .signalPacket q p
  | 3 => .waitsig q p
  | 4 => match topoAction p with
    | 2 => .topoLoad q p
    | 3 => .topoRetrain q p
    | _ => .topoReconfigure q p
  | _ => .nopPacket q p

/-- The dispatcher of a queue takes its next packet; one that cannot be read is the queue's error (R365). -/
noncomputable def State.dispatch (s : State) (q : QueueId) : Out :=
  match s.facing (s.queue q) with
  | some p => exec (packetRow q p) s
  | none => exec (.nopPacket q []) s

/-- A row that is no step of a core's own: an event, a packet, a message, a management command. -/
def isEvent : Instr → Bool
  | .illegalEncoding _ => false
  | .repRepetition _ => false
  | i => (encode i).isEmpty

/-- A turn of an agent. -/
noncomputable def State.turn (s : State) : Turn → Out
  | .core c => s.coreTurn c
  | .engine c r => s.engineTurn c r
  | .event i => if isEvent i then exec i s else .next s
  | .marker d i => if isEvent i then exec i { s with cur := { s.cur with die := d } } else .next s
  | .perform n => .next (s.perform n).softError
  | .piece n k => .next (s.performPiece n k).softError
  | .element c r n k => .next (s.landElement c r n k)
  | .dispatch q => s.dispatch q
  | .firmware a => .next (s.firmware a)
  | .host => .next s.hostTurn
  | .bridge => .next s.bridgeFails

end Sys2Proof.Machine
end

