-- ==== Sys2Proof/Machine/Step.lean ====
section
/-! DEFINITION. One step of the machine: the turn that comes next. And a program placed where the next step fetches it. -/

namespace Sys2Proof.Machine

/-- The turn of the next step: the first that the state names, else a free one (log 2). -/
noncomputable def State.nextTurn (s : State) : Turn := (s.turns.head?).getD (Config.nextTurn s.steps)

/-- One step: the next turn's agent acts, and the step is counted. -/
noncomputable def step (s : State) : Host.Outcome State Fault Refusal :=
  ({ s with turns := s.turns.tail, steps := s.steps + 1 }).turn s.nextTurn

/-! ## An instruction where the next step fetches it (log 14) -/

/-- Where `withFetchWord` puts code: a 64 KiB page of HBM at the same virtual address. -/
def codeBase : Nat := 0x10000

/-- A leaf entry that maps the page for user code and data: V, L, U, R, W, X, CACHED. -/
def codePte : W64 := BitVec.ofNat 64 (codeBase + 0xF3)

/-- What follows an instruction that has no STOP, so that its group ends: an S instruction after a C one, whose class is used up
(R58), else a NOP. -/
def closing (w : Nat) : Nat := if w / 8 % 8 = 6 then 0x00000004 else 0x00000034

/-- The bytes of an instruction of the first word w, and what closes its group. -/
def codeBytes (nbits w : Nat) : List (Nat × Byte) :=
  let n := 4 * (w % 4 + 1)
  (span codeBase n).zip (leBytes n (w % 2 ^ nbits)) ++ (span (codeBase + n) 4).zip (leBytes 4 (closing w))

/-- A task of one core, as its launch leaves it, with its primary at the code. -/
def codeTask : Task :=
  { id := 0, queue := 0, packet := 0, part := 0, root := 0, pdid := 0, prio := 0, cls := 0, signal := 0, cores := [(0, .a)] }

/-- Its resident context. -/
def codeRes (r : Res) : Res :=
  { r with
    occ := true, left := false, task := 0, tci := 0, ncores := 1, root := 0, part := 0, spBase := 0, spSize := 0x8000, tiles := 8
    place := .here, machine := none, faults := []
    primary := { r.primary with pc := BitVec.ofNat 48 codeBase, mode := false, run := .live, rep := none, ready := 0 }
    h1 := { r.h1 with run := .dormant }, h2 := { r.h2 with run := .dormant } }

/-- Core 0 with that context active, free to issue, and the page in its TLB. -/
def codeCore (k : Core) : Core :=
  { k with
    a := codeRes k.a, act := .a, tlb := { root := 0, page := 1, log := 16, pte := codePte, part := 0 } :: k.tlb
    fenced := false, coolHalt := false, absent := false, halted := false, dbgHalt := false, preempt := none
    clk := none, own := [] }

/-- The word is one that the engine decodes: no core instruction has it, or both have it and bits [1:0] are not 0. -/
noncomputable def isStepWord (nbits w : Nat) : Bool :=
  match decodeTableWord nbits w with
  | some i => i.head.isNone
  | none => false

/-- The matrix engine of core 0 runs a routine whose next step is the word. -/
def Engine.withStep (e : Engine) (w : W32) : Engine :=
  { e with
    store := e.store.put 0 e.pos.toNat w, stopped := false, faulted := false
    call := some { idx := 0, acc := 0, f := 0, mp := [], pc := 0 } }

/-- The state with an instruction where the next step fetches it: the device is up, a task of one core is resident, and the
next turn is that core's, or its engine's for an engine step. -/
noncomputable def State.withFetchWord (s : State) (nbits w : Nat) : State :=
  let t := { s with
    boot := { s.boot with phase := 5 }
    tasks := [codeTask]
    hbmOwn := s.hbmOwn.put 0 0 0x80 }
  let t := (t.modCore 0 codeCore).writeList (codeBytes nbits w)
  if isStepWord nbits w then
    { t.modRes 0 .a (fun r => { r with eng := r.eng.withStep (BitVec.ofNat 32 w) }) with turns := [.engine 0 .a] }
  else { t with turns := [.core 0] }

end Sys2Proof.Machine
end

