-- ==== Sys2Proof/Safety.lean ====
section
/-! DEFINITION. What counts as a well-formed state and as a safe run, and the terms in which claims about one instruction
speak: when it runs, and which results it sends on their way. -/

namespace Sys2Proof.Machine

/-- The canonical form of memory: addresses strictly rising, and no byte listed that equals what an unlisted address reads as. -/
def Memory.wf (m : List Host.Cell) : Bool := Tab.wf 0 m

/-- The invariant of the machine: its memory is in canonical form. -/
def State.Inv (s : State) : Prop := Memory.wf s.mem = true

/-- The machine stops at a step: it answers a fault or a refusal. -/
def stops (o : Out) : Bool :=
  match o with
  | .next _ => false
  | _ => true

/-- The states that steps lead to from a state. -/
inductive Reaches : State → State → Prop where
  | refl (s : State) : Reaches s s
  | step (s t u : State) : Reaches s t → step t = .next u → Reaches s u

/-- A run is safe when no state it reaches stops the machine. -/
def Safe (s : State) : Prop := ∀ t, Reaches s t → stops (step t) = false

/-! ## One instruction -/

/-- The state in which an instruction begins: nothing has been met yet. -/
def State.clean (s : State) : State := { s with mark := .none }

/-- Instruction i of the issuing context runs, and n more results leave at most 64 in flight: decode finds nothing that traps
(R136), nothing holds it at issue (R64, R65, R178, R322, R378), its guard is true (R54), a V instruction names a lane group
(R58), and R45's bound stands. -/
def State.runs (s : State) (i : Instr) (n : Nat) : Bool :=
  (s.decodeTrap i i.firstWord).isNone && !s.stalls i && s.preg i.pred && !i.noLanes && decide (s.rc.inflight.length + n ≤ 64)

/-- The state with more results of the issuing context on their way, and nothing else changed. -/
def State.sends (s : State) (l : List Fly) : State := s.clean.modRc (fun r => { r with inflight := r.inflight ++ l })

/-- A result of the issuing context on an engine, due L cycles of that engine from now. -/
def State.fly (s : State) (e : Eng) (l : Nat) (w : Wr) (g : Flags8 := 0) : Fly :=
  { due := s.here.cycle + scaledLat s.here.divs e l, ctx := s.cur.ctx, w := w, flags := g, eng := e }

/-- A result for s_d, L control cycles from now; s0 takes none (R52). -/
def State.flyS (s : State) (l : Nat) (d : BitVec 5) (x : W64) (g : Flags8 := 0) : Fly :=
  s.fly .ctl l (if d = 0 then .none else .s s.cx.mode d.toNat x) g

/-- A result for p_d, L control cycles from now; p0 takes none (R52). -/
def State.flyP (s : State) (l : Nat) (d : BitVec 5) (x : Bool) (g : Flags8 := 0) : Fly :=
  s.fly .ctl l (if d.toNat % 8 = 0 then .none else .p s.cx.mode (d.toNat % 8) x) g

end Sys2Proof.Machine
end

