-- ==== Sys2Proof/Certificates/Slice0/Obligations.lean ====
section
/-! DEFINITION. The statements about the model: what each family of instructions, messages and events does, one step, the
encodings, the invariant of memory and the state after reset. Each says the next state whole where it can: what it does not name is
unchanged. -/

open Sys2Proof Sys2Proof.Machine

namespace Sys2Proof.Claims

/-! ## Scalar results, written from the rules -/

/-- A value of w bits in a 64-bit register: sign-extended when SGN is 1, else zero-extended (ch. 6). -/
def widen {w : Nat} (sgn : Bool) (x : BitVec w) : W64 := if sgn then x.signExtend 64 else x.setWidth 64

/-- R148's table of operations on two values of w bits, with the corners of R83. -/
def aluOp (o : Alu) {w : Nat} (a b : BitVec w) : BitVec w :=
  match o with
  | .add => a + b
  | .sub => a - b
  | .mul => a * b
  | .mulh => (a.signExtend (2 * w) * b.signExtend (2 * w)).extractLsb' w w
  | .mulhz => (a.setWidth (2 * w) * b.setWidth (2 * w)).extractLsb' w w
  | .div => if b = 0#w then BitVec.allOnes w else a.sdiv b
  | .divz => if b = 0#w then BitVec.allOnes w else a / b
  | .rem => if b = 0#w then a else a.srem b
  | .remz => if b = 0#w then a else a % b
  | .and => a &&& b
  | .or => a ||| b
  | .xor => a ^^^ b
  | .andn => a &&& ~~~b
  | .shl => a <<< (b.toNat % w)
  | .shr => a >>> (b.toNat % w)
  | .sra => a.sshiftRight (b.toNat % w)
  | .rotl => a.rotateLeft (b.toNat % w)
  | .min => if a.slt b then a else b
  | .max => if a.slt b then b else a
  | .minz => if a.ult b then a else b
  | .maxz => if a.ult b then b else a

/-- A row of R148: an operation, its latency, and its 32-bit, 64-bit and 96-bit forms. -/
structure AluRow where
  op  : Alu
  lat : Nat
  reg : Hdr → S32 → Instr
  imm : Hdr → SF → Instr
  lit : Hdr → SF → Instr

/-- R148's table. -/
def aluRows : List AluRow :=
  [⟨.add, 1, .add, .addI, .addL⟩, ⟨.sub, 1, .sub, .subI, .subL⟩, ⟨.mul, 3, .mul, .mulI, .mulL⟩,
   ⟨.mulh, 3, .mulh, .mulhI, .mulhL⟩, ⟨.mulhz, 3, .mulhz, .mulhzI, .mulhzL⟩, ⟨.div, 24, .div, .divI, .divL⟩,
   ⟨.divz, 24, .divz, .divzI, .divzL⟩, ⟨.rem, 24, .rem, .remI, .remL⟩, ⟨.remz, 24, .remz, .remzI, .remzL⟩,
   ⟨.and, 1, .and, .andI, .andL⟩, ⟨.or, 1, .or, .orI, .orL⟩, ⟨.xor, 1, .xor, .xorI, .xorL⟩,
   ⟨.andn, 1, .andn, .andnI, .andnL⟩, ⟨.shl, 1, .shl, .shlI, .shlL⟩, ⟨.shr, 1, .shr, .shrI, .shrL⟩,
   ⟨.sra, 1, .sra, .sraI, .sraL⟩, ⟨.rotl, 1, .rotl, .rotlI, .rotlL⟩, ⟨.min, 1, .min, .minI, .minL⟩,
   ⟨.max, 1, .max, .maxI, .maxL⟩, ⟨.minz, 1, .minz, .minzI, .minzL⟩, ⟨.maxz, 1, .maxz, .maxzI, .maxzL⟩]

/-- R148's result on two 64-bit operands at the width of WID. -/
def aluAt (o : Alu) (wid : BitVec 3) (sgn : Bool) (a b : W64) : W64 :=
  widen sgn (aluOp o (a.setWidth (widthOf wid)) (b.setWidth (widthOf wid)))

end Sys2Proof.Claims

/-- R148, R83: each of the 21 ALU operations, in each of its three forms, sends its one result to s_D at its latency, and
changes nothing else: no flag, no trap, no memory. -/
def Obligations.AluResults : Prop :=
  ∀ (h : Hdr) (r : S32) (f : SF) (s : State), ∀ row ∈ Claims.aluRows,
    (s.runs (row.reg h r) 1 = true →
      exec (row.reg h r) s = .next (s.sends [s.flyS row.lat r.d (Claims.aluOp row.op (s.sreg r.a) (s.sreg r.b))])) ∧
    (s.runs (row.imm h f) 1 = true →
      exec (row.imm h f) s =
        .next (s.sends [s.flyS row.lat f.d (Claims.aluAt row.op f.wid f.sgn (s.sreg f.a) (f.imm.signExtend 64))])) ∧
    (s.runs (row.lit h f) 1 = true →
      exec (row.lit h f) s =
        .next (s.sends [s.flyS row.lat f.d (Claims.aluAt row.op f.wid f.sgn (s.sreg f.a) (f.lit.signExtend 64))]))

namespace Sys2Proof.Claims

/-- How many of the positions below w have a property. -/
def howMany (w : Nat) (p : Nat → Bool) : Nat := ((List.range w).filter p).length

/-- R149: leading zeros (the i for which the top i + 1 bits are all 0), trailing zeros, set bits. -/
def countOf (o : Count) {w : Nat} (x : BitVec w) : Nat :=
  match o with
  | .clz => howMany w (fun i => x >>> (w - 1 - i) == 0#w)
  | .ctz => howMany w (fun i => x.extractLsb' 0 (i + 1) == 0#(i + 1))
  | .popc => howMany w (fun i => x.getLsbD i)

/-- The 64-bit value whose bit i is p i. -/
def bits64 (p : Nat → Bool) : W64 := BitVec.ofBoolListLE ((List.range 64).map p) |>.setWidth 64

/-- The condition codes of R125 on two values of w bits (R155). -/
def condOn (c : Nat) (sgn : Bool) {w : Nat} (a b : BitVec w) : Bool :=
  let less := fun (x y : BitVec w) => if sgn then x.slt y else x.ult y
  match c with
  | 0 => a == b
  | 1 => a != b
  | 2 => less a b
  | 3 => !less b a
  | 4 => less b a
  | _ => !less a b

/-- A row of the two-operand scalar float operations that round (R157). -/
structure FloatRow where
  f    : Rnd → Ex → Ex → Ex × Flags8
  reg  : Hdr → S32 → Instr
  form : Hdr → SF → Instr

/-- FADD, FSUB and FMUL: the exact result, before its one rounding, with NV (R86, R91). -/
def floatRows : List FloatRow :=
  [⟨fun r a b => Ex.add r a b, .fadd, .faddRnd⟩, ⟨fun r a b => Ex.add r a b.negate, .fsub, .fsubRnd⟩,
   ⟨fun _ a b => Ex.mul a b, .fmul, .fmulRnd⟩]

/-- An f32 in s_n[31:0] (R92). -/
def f32Reg (s : State) (n : BitVec 5) : Ex := Fmt.f32.value ((s.sreg n).setWidth 32).toNat

/-- The scalar result of an f32 operation: its bits below 32 zeros, its flags with it, latency 4 (R92, R93, R157). -/
def flyF (s : State) (d : BitVec 5) (x : Nat × Flags8) : Fly := s.flyS 4 d (BitVec.ofNat 64 x.1) x.2

end Sys2Proof.Claims

/-- R150, R152: LEA, SEL, LI and LIH in each of their forms.

R151, R154: the bit fields and the bit network, bit by bit. -/
def Obligations.AddressesAndBitFields : Prop :=
  (∀ (h : Hdr) (f : SF) (s : State),
     (s.runs (.lea h f) 1 = true → exec (.lea h f) s =
       .next (s.sends [s.flyS 1 f.d (s.sreg f.a + (s.sreg f.b <<< f.c.toNat) + f.imm.signExtend 64)])) ∧
     (s.runs (.leaL h f) 1 = true → exec (.leaL h f) s =
       .next (s.sends [s.flyS 1 f.d (s.sreg f.a + (s.sreg f.b <<< f.c.toNat) + f.lit.signExtend 64)])) ∧
     (s.runs (.sel h f) 1 = true → exec (.sel h f) s =
       .next (s.sends [s.flyS 1 f.d (if s.preg f.c.toNat then s.sreg f.a else s.sreg f.b)])) ∧
     (s.runs (.li h f) 1 = true → exec (.li h f) s = .next (s.sends [s.flyS 1 f.d (f.imm.signExtend 64)])) ∧
     (s.runs (.liL h f) 1 = true → exec (.liL h f) s = .next (s.sends [s.flyS 1 f.d (f.lit.signExtend 64)])) ∧
     (s.runs (.lih h f) 1 = true → exec (.lih h f) s =
       .next (s.sends [s.flyS 1 f.d (f.imm.signExtend 32 ++ (s.sreg f.d).setWidth 32)])) ∧
     (s.runs (.lihL h f) 1 = true → exec (.lihL h f) s =
       .next (s.sends [s.flyS 1 f.d (f.lit ++ (s.sreg f.d).setWidth 32)]))) ∧
  (∀ (h : Hdr) (f : SF) (s : State),
     (s.runs (.bfx h f) 1 = true → exec (.bfx h f) s = .next (s.sends [s.flyS 1 f.d
       (Claims.widen f.sgn ((s.sreg f.a >>> (f.imm.extractLsb' 0 6).toNat).setWidth (f.imm.extractLsb' 6 7).toNat))])) ∧
     (s.runs (.bfi h f) 1 = true → exec (.bfi h f) s = .next (s.sends [s.flyS 1 f.d (Claims.bits64 (fun i =>
       if (f.imm.extractLsb' 0 6).toNat ≤ i ∧ i < (f.imm.extractLsb' 0 6).toNat + (f.imm.extractLsb' 6 7).toNat
       then (s.sreg f.a).getLsbD (i - (f.imm.extractLsb' 0 6).toNat) else (s.sreg f.d).getLsbD i))])) ∧
     (s.runs (.ext h f) 1 = true → exec (.ext h f) s =
       .next (s.sends [s.flyS 1 f.d (Claims.widen f.sgn ((s.sreg f.a).setWidth (widthOf f.wid)))])) ∧
     (s.runs (.bperm h f) 1 = true → exec (.bperm h f) s = .next (s.sends [s.flyS 2 f.d (Claims.bits64 (fun i =>
       (s.sreg f.a ++ s.sreg f.b).getLsbD ((s.rc.pats.get 0 f.c.toNat).extractLsb' (7 * i) 7).toNat))])))

/-- R149: CLZ, CTZ and POPC in both forms, zero-extended, w for a zero operand of CLZ and CTZ; SGN 1 is no encoding of them.

R155, R156: CMP in both forms and PLOG write one predicate. -/
def Obligations.CountAndPredicateResults : Prop :=
  (∀ (h : Hdr) (r : S32) (f : SF) (s : State),
     ∀ row ∈ [(Count.clz, Instr.clz, Instr.clzW), (.ctz, .ctz, .ctzW), (.popc, .popc, .popcW)],
     (s.runs (row.2.1 h r) 1 = true →
       exec (row.2.1 h r) s = .next (s.sends [s.flyS 1 r.d (BitVec.ofNat 64 (Claims.countOf row.1 (s.sreg r.a)))])) ∧
     (s.runs (row.2.2 h f) 1 = true →
       exec (row.2.2 h f) s =
         .next (s.sends [s.flyS 1 f.d (BitVec.ofNat 64 (Claims.countOf row.1 ((s.sreg f.a).setWidth (widthOf f.wid))))])) ∧
     (∀ w : Nat, Claims.countOf .clz (0 : BitVec w) = w ∧ Claims.countOf .ctz (0 : BitVec w) = w) ∧
     (f.sgn = true → (row.2.2 h f).wf = false)) ∧
  (∀ (h : Hdr) (f : SF) (s : State),
     (s.runs (.cmp h f) 1 = true → exec (.cmp h f) s = .next (s.sends [s.flyP 1 f.d
       (Claims.condOn f.md.toNat f.sgn ((s.sreg f.a).setWidth (widthOf f.wid))
         ((s.sreg f.b + f.imm.signExtend 64).setWidth (widthOf f.wid)))])) ∧
     (s.runs (.cmpL h f) 1 = true → exec (.cmpL h f) s = .next (s.sends [s.flyP 1 f.d
       (Claims.condOn f.md.toNat f.sgn ((s.sreg f.a).setWidth (widthOf f.wid))
         ((s.sreg f.b + f.lit.signExtend 64).setWidth (widthOf f.wid)))])) ∧
     (s.runs (.plog h f) 1 = true → exec (.plog h f) s = .next (s.sends [s.flyP 1 f.d
       (f.md.getLsbD (2 * (s.preg f.a.toNat).toNat + (s.preg f.b.toNat).toNat))])))

/-- R157: the scalar float operations, rounded once, with their flags. -/
def Obligations.ScalarFloat : Prop :=
  ∀ (h : Hdr) (g : S32) (f : SF) (s : State),
    (∀ row ∈ Claims.floatRows,
      (s.runs (row.reg h g) 1 = true → exec (row.reg h g) s = .next (s.sends [Claims.flyF s g.d
        (Fmt.f32.finish .rne false (row.f .rne (Claims.f32Reg s g.a) (Claims.f32Reg s g.b)))])) ∧
      (s.runs (row.form h f) 1 = true → exec (row.form h f) s = .next (s.sends [Claims.flyF s f.d
        (Fmt.f32.finish (rndOf f.md) false (row.f (rndOf f.md) (Claims.f32Reg s f.a) (Claims.f32Reg s f.b)))]))) ∧
    (∀ row ∈ [(Ex.min, Instr.fmin, Instr.fmin64), (Ex.max, .fmax, .fmax64)],
      (s.runs (row.2.1 h g) 1 = true → exec (row.2.1 h g) s = .next (s.sends [Claims.flyF s g.d
        (Fmt.f32.round .rne false (row.1 (Claims.f32Reg s g.a) (Claims.f32Reg s g.b)))])) ∧
      (s.runs (row.2.2 h f) 1 = true → exec (row.2.2 h f) s = .next (s.sends [Claims.flyF s f.d
        (Fmt.f32.round .rne false (row.1 (Claims.f32Reg s f.a) (Claims.f32Reg s f.b)))]))) ∧
    (s.runs (.fma h f) 1 = true → exec (.fma h f) s = .next (s.sends [Claims.flyF s f.d
      (Fmt.f32.finish (rndOf f.md) false
        (Ex.fma (rndOf f.md) (Claims.f32Reg s f.a) (Claims.f32Reg s f.b) (Claims.f32Reg s f.c)))])) ∧
    (s.runs (.fcmp h f) 1 = true → exec (.fcmp h f) s = .next (s.sends [s.flyP 4 f.d
      (Ex.cond f.md.toNat (Claims.f32Reg s f.a) (Claims.f32Reg s f.b)).1
      (Ex.cond f.md.toNat (Claims.f32Reg s f.a) (Claims.f32Reg s f.b)).2])) ∧
    (s.runs (.fcvt h f) 1 = true → f.md.getLsbD 2 = true → exec (.fcvt h f) s = .next (s.sends [Claims.flyF s f.d
      (Fmt.f32.round (rndOf f.md) false (Ex.ofInt (if f.sgn then ((s.sreg f.a).setWidth (widthOf f.wid)).toInt
        else ((s.sreg f.a).setWidth (widthOf f.wid)).toNat)))])) ∧
    (s.runs (.fcvt h f) 1 = true → f.md.getLsbD 2 = false → exec (.fcvt h f) s = .next (s.sends [s.flyS 4 f.d
      (BitVec.ofInt 64 (Ex.toInt (rndOf f.md) (widthOf f.wid) f.sgn (Claims.f32Reg s f.a)).1)
      (Ex.toInt (rndOf f.md) (widthOf f.wid) f.sgn (Claims.f32Reg s f.a)).2]))

namespace Sys2Proof.Claims

/-- The issuing context with a warning raised, where c holds (R76, R137). -/
def warned (s : State) (c : Bool) (code : Nat) (r : Res) : Res := if c then r.warn code s.cur.ipc else r

/-- The issuing context with s_d waiting for the next request; s0 waits for nothing (R64). -/
def awaiting (s : State) (d : BitVec 5) (r : Res) : Res :=
  if d = 0 then r else { r with pend := r.pend ++ [(.s s.cur.ctx s.cx.mode d.toNat, .req s.serial)] }

/-- A request of the issuing context, with the next serial number. -/
def request (s : State) (path : Path) (kind : ReqKind) (pieces : List Piece) (dest : Dest := .none)
    (acq rel : Option (BitVec 3) := none) : Req :=
  { serial := s.serial, cyc := s.here.cycle, core := s.cur.core, slot := s.cur.slot, ctx := s.cur.ctx, path := path,
    kind := kind, pieces := pieces, dest := dest, acq := acq, rel := rel, pc := s.cur.ipc }

/-- The state with a request posted and the issuing context changed, and nothing else. -/
def posted (s : State) (g : Res → Res) (q : Req) : State :=
  { s.clean.modRc g with reqs := s.reqs ++ [q], serial := s.serial + 1 }

/-- An instruction held at issue: nothing else changed. -/
def holds (s : State) : State := { s with mark := .held .plain }

/-- A race trap waits for the acquires before the access: its task traps races, the page has RC, and one is pending (R284, R295, R296). -/
def racePends (s : State) (pte : W64) : Bool := pteRc pte && s.raceMode s.rc.task == 2 && s.acquireOpen

/-- A global access of n bytes that no rule turns away: aligned, translated to pa by a leaf (R371, R373), permitted, no
uncorrectable error (R385, R456), no acquire to wait for, no race trap (R296). -/
def granted (s : State) (a : Acc) (synch slice : Bool) (va : W64) (n pa : Nat) (pte : W64) : Prop :=
  va.toNat % n = 0 ∧ s.look s.cur.core s.rc.root va.toNat = .hit pa pte ∧
  s.denied s.rc.part s.cx.mode a slice pte pa = none ∧ s.hwError a pa = false ∧ racePends s pte = false ∧
  s.raceTrap s.rc s.cur.core synch (pteRc pte) (span pa n) = none

/-- The bytes of a granted access: consecutive physical addresses from pa. -/
def globalPiece (va : W64) (n pa : Nat) (pte : W64) : Piece :=
  { addr := span pa n, va := va.setWidth 48, rc := pteRc pte, cached := pteHome pte == 0 && !pteRo pte, ro := pteRo pte }

/-- The 64-bit and the 96-bit form of an S instruction with an offset (R123). -/
def dispOf (lit : Bool) (f : SF) : W64 := if lit then f.lit.signExtend 64 else f.imm.signExtend 64

/-- LD, ST, LDAQ and STRL, by write, by synchronisation, by form. -/
def globalForm (store sync lit : Bool) (h : Hdr) (f : SF) : Instr :=
  match store, sync, lit with
  | false, false, false => .ld h f
  | false, false, true => .ldL h f
  | false, true, false => .ldaq h f
  | false, true, true => .ldaqL h f
  | true, false, false => .st h f
  | true, false, true => .stL h f
  | true, true, false => .strl h f
  | true, true, true => .strlL h f

/-- The scope of LDAQ and STRL: SCP 0 is read as group (R159). -/
def syncScopeOf (sync : Bool) (f : SF) : Option (BitVec 3) := if sync then some (if f.scp = 0 then 1 else f.scp) else none

/-- An instruction took a trap in place of its effect (R326). -/
def trapped (s : State) (t : Trap) : State := { s.clean.takeTrap t with mark := .trapped t }

/-- The access kind of a load or a store. -/
def accOf (store : Bool) : Acc := if store then .store else .load

end Sys2Proof.Claims

/-- R158, R159, R371, R373: a load or store at an address that is granted posts one request on path LS to the bytes of that address, and
changes nothing else but the scoreboard and the warnings of R137. What the request then does is in
`ResultsLand` and `StoresPerformed`.

R158, R373, R284, R296, R324, R329: where a load or store does not reach its bytes, it takes the first of these traps: ALIGN, XLATE,
ACCESS and RACE in the order of R329, and HW_ERROR after ACCESS and before RACE, a place that is the model's choice (log 102; R329 names
none). On a miss in the TLBs it waits for the walk, and where its task traps races it waits for the acquires before it. -/
def Obligations.GlobalAccess : Prop :=
  (∀ (sync lit : Bool) (h : Hdr) (f : SF) (s : State) (pa : Nat) (pte : W64),
     (s.runs (Claims.globalForm false sync lit h f) 0 = true →
       Claims.granted s .load sync false (s.sreg f.a + Claims.dispOf lit f) (bytesOf f.wid) pa pte →
       exec (Claims.globalForm false sync lit h f) s = .next (Claims.posted s
         (fun r => Claims.awaiting s f.d
           (Claims.warned s (f.wid == 3 && f.sgn) 0x1E (Claims.warned s (sync && f.scp == 0) 0x14 r)))
         (Claims.request s .ls .load [Claims.globalPiece (s.sreg f.a + Claims.dispOf lit f) (bytesOf f.wid) pa pte]
           (.s s.cx.mode f.d.toNat (widthOf f.wid) f.sgn) (Claims.syncScopeOf sync f)))) ∧
     (s.runs (Claims.globalForm true sync lit h f) 0 = true →
       Claims.granted s .store sync false (s.sreg f.a + Claims.dispOf lit f) (bytesOf f.wid) pa pte →
       exec (Claims.globalForm true sync lit h f) s = .next (Claims.posted s
         (Claims.warned s (sync && f.scp == 0) 0x14)
         (Claims.request s .ls .store
           [{ Claims.globalPiece (s.sreg f.a + Claims.dispOf lit f) (bytesOf f.wid) pa pte with data := s.sreg f.d }]
           .none none (Claims.syncScopeOf sync f))))) ∧
  (∀ (store sync lit : Bool) (h : Hdr) (f : SF) (s : State),
     s.runs (Claims.globalForm store sync lit h f) 0 = true →
     let i := Claims.globalForm store sync lit h f
     let va := s.sreg f.a + Claims.dispOf lit f
     (va.toNat % bytesOf f.wid ≠ 0 → exec i s = .next (Claims.trapped s { cause := 0x06, tval := va })) ∧
     (va.toNat % bytesOf f.wid = 0 →
       (∀ k, s.look s.cur.core s.rc.root va.toNat = .fault k →
         exec i s = .next (Claims.trapped s { cause := 0x04, sub := k, tval := va })) ∧
       (s.look s.cur.core s.rc.root va.toNat = .miss →
         exec i s = .next { s.clean.note (.walk s.rc.root (va.setWidth 48)) with
           mark := .held (.walk s.rc.root (va.setWidth 48)) }) ∧
       (∀ pa pte, s.look s.cur.core s.rc.root va.toNat = .hit pa pte →
         (∀ k, s.denied s.rc.part s.cx.mode (Claims.accOf store) false pte pa = some k →
           exec i s = .next (Claims.trapped s { cause := 0x05, sub := k, tval := va })) ∧
         (s.denied s.rc.part s.cx.mode (Claims.accOf store) false pte pa = none →
           (s.hwError (Claims.accOf store) pa = true →
             exec i s = .next (Claims.trapped s { cause := 0x0E, tval := BitVec.ofNat 64 pa })) ∧
           (s.hwError (Claims.accOf store) pa = false → Claims.racePends s pte = true → exec i s = .next (Claims.holds s)) ∧
           (s.hwError (Claims.accOf store) pa = false → Claims.racePends s pte = false → ∀ x,
             s.raceTrap s.rc s.cur.core sync (pteRc pte) (span pa (bytesOf f.wid)) = some x →
             exec i s = .next (Claims.trapped s { cause := 0x07, tval := BitVec.ofNat 64 (va.toNat + (x - pa)) }))))))

namespace Sys2Proof.Claims

/-- The state with results of the issuing context on their way and the context changed besides. -/
def sendsWith (s : State) (g : Res → Res) (l : List Fly) : State :=
  s.clean.modRc (fun r => { g r with inflight := r.inflight ++ l })

/-- The bytes of the own allocation at an offset, wrapping at its size (R105). -/
def ownBytes (s : State) (off n : Nat) : List Nat :=
  (List.range n).map (fun i => 0x200000000000 + s.cur.core.toNat * 0x80000 + s.rc.spBase + (off + i) % s.rc.spSize)

/-- No acquire of the core is pending, no access of it on path LS to the lines of 128 bytes that hold the bytes, and no store that a
release which the bytes carry comes after: what a read of them finds is what memory holds (R119, R279, R284). -/
def undisturbed (s : State) (l : List Nat) : Bool :=
  !s.ownTooEarly l && !s.reqs.any (fun q => q.core == s.cur.core && q.pieces.any (fun p => !p.done) &&
    (q.acq.isSome ||
     (q.path == .ls && q.pieces.any (fun p => !p.done && p.addr.any (fun a => l.any (fun b => a / 128 == b / 128))))))

/-- LDS, STS, STLD, STST and BPLD in their 64-bit and 96-bit forms. -/
def ldsForm (lit : Bool) : Hdr → SF → Instr := if lit then .ldsL else .lds
def stsForm (lit : Bool) : Hdr → SF → Instr := if lit then .stsL else .sts
def stldForm (lit : Bool) : Hdr → SF → Instr := if lit then .stldL else .stld
def ststForm (lit : Bool) : Hdr → SF → Instr := if lit then .ststL else .stst
def bpldForm (lit : Bool) : Hdr → SF → Instr := if lit then .bpldL else .bpld

/-- The little-endian number of the bytes at addresses (R7). -/
def bytesAt (s : State) : List Nat → Nat
  | [] => 0
  | a :: t => (s.byte a).toNat + 256 * bytesAt s t

/-- R166's fallbacks: the warning of a STDEF's value. -/
def stdefWarns (sel : Nat) (v : W64) : Nat :=
  if sel = 2 ∧ 12 ≤ v.toNat % 16 then 0x18
  else if sel = 10 ∧ v.toNat % 4 = 3 then 0x19
  else if sel = 9 ∧ (v.toNat % 16 < 5 ∨ 8 < v.toNat % 16) then 0x1A
  else 0

/-- A field of a stream takes the low bits of a value, by the selector of R125, with the fallbacks of R137. -/
def withField (t : Stream) (sel : Nat) (v : W64) : Stream :=
  match sel with
  | 0 => { t with base := v.extractLsb' 0 48 }
  | 1 => { t with space := v.extractLsb' 0 2 }
  | 2 => { t with format := if 12 ≤ v.toNat % 16 then 10 else v.extractLsb' 0 4 }
  | 3 => { t with count0 := v.extractLsb' 0 24 }
  | 4 => { t with count1 := v.extractLsb' 0 24 }
  | 5 => { t with count2 := v.extractLsb' 0 24 }
  | 6 => { t with stride0 := v.extractLsb' 0 32 }
  | 7 => { t with stride1 := v.extractLsb' 0 32 }
  | 8 => { t with stride2 := v.extractLsb' 0 32 }
  | 9 => { t with blklog := if v.toNat % 16 < 5 then 5 else if 8 < v.toNat % 16 then 8 else v.extractLsb' 0 4 }
  | 10 => { t with scaleMode := if v.toNat % 4 = 3 then 0 else v.extractLsb' 0 2 }
  | 11 => { t with scaleBase := v.extractLsb' 0 48 }
  | 12 => { t with scaleStride := v.extractLsb' 0 32 }
  | 13 => { t with cursor := v.extractLsb' 0 48 }
  | _ => t

/-- The reserved bits of a stream's image (R167). -/
def imageReserved : BitVec 512 :=
  ((BitVec.allOnes 80).setWidth 512 <<< 432) ||| ((BitVec.allOnes 40).setWidth 512 <<< 216) |||
  ((BitVec.allOnes 16).setWidth 512 <<< 176) ||| ((BitVec.allOnes 16).setWidth 512 <<< 112) |||
  ((BitVec.allOnes 4).setWidth 512 <<< 60)

end Sys2Proof.Claims

/-- R105, R153, R160, R167: LDS SELF, STLD and BPLD read the own scratchpad with fixed latency, wherever no access of the core on
path LS to the lines they read and no acquire is pending: what is sent is made of the bytes that memory holds. While an access or
an acquire that the read comes after cannot be performed, it is held (R119, R279, R284).

R106, R160, R167: STS and STST post their writes on path LS, and an LDS through a core selector its read; an STS whose
core holds no allocation writes nothing, and such an LDS reads no byte, both with warning 0x17.

R166: STDEF writes the one field its selector names, with the fallbacks of R137, and no other field.

R167: a stream whose fields hold values that need no fallback is what its own image loads, whatever the image's reserved
bits hold. -/
def Obligations.ScratchpadAndStreams : Prop :=
  (∀ (lit : Bool) (h : Hdr) (f : SF) (s : State),
     (s.runs (Claims.ldsForm lit h f) 1 = true → f.c = 0 →
       Claims.undisturbed s (Claims.ownBytes s (s.sreg f.a + Claims.dispOf lit f).toNat (bytesOf f.wid)) = true →
       exec (Claims.ldsForm lit h f) s = .next (Claims.sendsWith s (Claims.warned s (f.wid == 3 && f.sgn) 0x1E)
         [s.flyS 4 f.d (Claims.widen f.sgn (BitVec.ofNat (widthOf f.wid)
           (Claims.bytesAt s (Claims.ownBytes s (s.sreg f.a + Claims.dispOf lit f).toNat (bytesOf f.wid)))))])) ∧
     (s.runs (Claims.stldForm lit h f) 1 = true →
       Claims.undisturbed s (Claims.ownBytes s (s.sreg f.a + Claims.dispOf lit f).toNat 64) = true →
       exec (Claims.stldForm lit h f) s = .next (Claims.sendsWith s
         (fun r => (imageWarns (Claims.bytesAt s (Claims.ownBytes s (s.sreg f.a + Claims.dispOf lit f).toNat 64))).foldl
           (fun r k => Claims.warned s (k != 0) k r) r)
         [s.fly .ctl 4 (.st f.d.toNat (Stream.ofImage
           (Claims.bytesAt s (Claims.ownBytes s (s.sreg f.a + Claims.dispOf lit f).toNat 64))))])) ∧
     (s.runs (Claims.bpldForm lit h f) 1 = true →
       Claims.undisturbed s (Claims.ownBytes s (s.sreg f.a + Claims.dispOf lit f).toNat 56) = true →
       exec (Claims.bpldForm lit h f) s = .next (s.sends
         [s.fly .ctl 6 (.pat f.d.toNat (BitVec.ofNat 448
           (Claims.bytesAt s (Claims.ownBytes s (s.sreg f.a + Claims.dispOf lit f).toNat 56))))])) ∧
     (s.runs (Claims.ldsForm lit h f) 1 = true → f.c = 0 →
       s.clean.ownRead .ls (Claims.ownBytes s (s.sreg f.a + Claims.dispOf lit f).toNat (bytesOf f.wid)) = none →
       exec (Claims.ldsForm lit h f) s = .next (Claims.holds s)) ∧
     (s.runs (Claims.stldForm lit h f) 1 = true →
       s.clean.ownRead .ls (Claims.ownBytes s (s.sreg f.a + Claims.dispOf lit f).toNat 64) = none →
       exec (Claims.stldForm lit h f) s = .next (Claims.holds s)) ∧
     (s.runs (Claims.bpldForm lit h f) 1 = true →
       s.clean.ownRead .ls (Claims.ownBytes s (s.sreg f.a + Claims.dispOf lit f).toNat 56) = none →
       exec (Claims.bpldForm lit h f) s = .next (Claims.holds s))) ∧
  (∀ (lit : Bool) (h : Hdr) (f : SF) (s : State) (l : List Nat),
     (s.runs (Claims.stsForm lit h f) 0 = true →
       s.spTarget f.c (s.sreg f.a + Claims.dispOf lit f) (bytesOf f.wid) = some l →
       exec (Claims.stsForm lit h f) s =
         .next (Claims.posted s id (Claims.request s .ls .store [{ addr := l, data := s.sreg f.d }]))) ∧
     (s.runs (Claims.stsForm lit h f) 0 = true →
       s.spTarget f.c (s.sreg f.a + Claims.dispOf lit f) (bytesOf f.wid) = none →
       exec (Claims.stsForm lit h f) s = .next (s.clean.modRc (fun r => r.warn 0x17 s.cur.ipc))) ∧
     (s.runs (Claims.ldsForm lit h f) 0 = true → f.c ≠ 0 →
       s.spTarget f.c (s.sreg f.a + Claims.dispOf lit f) (bytesOf f.wid) = some l →
       exec (Claims.ldsForm lit h f) s = .next (Claims.posted s
         (fun r => Claims.awaiting s f.d (Claims.warned s (f.wid == 3 && f.sgn) 0x1E r))
         (Claims.request s .ls .load [{ addr := l }] (.s s.cx.mode f.d.toNat (widthOf f.wid) f.sgn)))) ∧
     (s.runs (Claims.ldsForm lit h f) 0 = true → f.c ≠ 0 →
       s.spTarget f.c (s.sreg f.a + Claims.dispOf lit f) (bytesOf f.wid) = none →
       exec (Claims.ldsForm lit h f) s = .next (Claims.posted s
         (fun r => Claims.awaiting s f.d (Claims.warned s (f.wid == 3 && f.sgn) 0x1E (r.warn 0x17 s.cur.ipc)))
         (Claims.request s .ls .load [{ addr := [] }] (.s s.cx.mode f.d.toNat (widthOf f.wid) f.sgn)))) ∧
     (s.runs (Claims.ststForm lit h f) 0 = true →
       exec (Claims.ststForm lit h f) s = .next (Claims.posted s id (Claims.request s .ls .store
         ((List.range 8).map (fun i =>
           { addr := Claims.ownBytes s ((s.sreg f.a + Claims.dispOf lit f).toNat + 8 * i) 8,
             data := (s.stream f.d).image.extractLsb' (64 * i) 64 })))))) ∧
  (∀ (h : Hdr) (f : SF) (s : State) (t : Stream),
     (s.runs (.stdef h f) 1 = true → exec (.stdef h f) s = .next (Claims.sendsWith s
       (fun r => Claims.warned s (Claims.stdefWarns f.md.toNat (s.sreg f.a) != 0)
         (Claims.stdefWarns f.md.toNat (s.sreg f.a)) r)
       [s.fly .ctl 1 (.stField f.d.toNat f.md (s.sreg f.a))])) ∧
     (∀ sel : BitVec 4, ∀ v : W64, t.setField sel.toNat v = Claims.withField t sel.toNat v)) ∧
  (∀ (t : Stream) (x : BitVec 512), t.format.toNat < 12 → 5 ≤ t.blklog.toNat → t.blklog.toNat ≤ 8 → t.scaleMode.toNat < 3 →
     Stream.ofImage (t.image ||| (x &&& Claims.imageReserved)).toNat = t)

namespace Sys2Proof.Claims

def amoForm (lit : Bool) : Hdr → SF → Instr := if lit then .amoL else .amo
def acasForm (lit : Bool) : Hdr → SF → Instr := if lit then .acasL else .acas

/-- Bytes of an AMO: FADD works at 32 bits (R161). -/
def amoBytes (f : SF) : Nat := if f.md = 9 then 4 else 2 ^ f.wid.toNat

/-- SCP of an atomic: 0 relaxed, else an acquire and a release at that scope (R125). -/
def atomicScope (f : SF) : Option (BitVec 3) := if f.scp = 0 then none else some f.scp

/-- Where an atomic's old value goes: nowhere for D = 0, which requests no return (R161). -/
def atomicDest (s : State) (d : BitVec 5) (w : Nat) (sgn : Bool) : Dest :=
  if d = 0 then .none else .s s.cx.mode d.toNat w sgn

/-- An atomic posted to its home, and nothing else changed but the scoreboard and a warning. -/
def atomicPosted (s : State) (f : SF) (warn : Bool) (kind : ReqKind) (p : Piece) (w : Nat) (sgn : Bool) : State :=
  posted s (fun r => awaiting s f.d (warned s warn 0x15 r))
    (request s .ls kind [p] (atomicDest s f.d w sgn) (atomicScope f) (atomicScope f))

end Sys2Proof.Claims

/-- R161, R162: AMO and ACAS post one atomic on path LS, to a granted global address or to the bytes of a scratchpad that
holds an allocation, with the operands the home needs; the returned value's register waits. What the home does is in
`ResultsLand`.

R106: a scratchpad AMO on a core that holds no allocation of the task writes nothing and returns 0, with warning 0x17:
what is posted is a read of no byte, and nothing at all where no value is returned.

R41, R164: ACLAIM posts its claim of a chunk on the 8 bytes of the counter, at a granted SLICE address; s_D and s_(D+1)
wait. At an address that is no multiple of 8 it traps ALIGN. -/
def Obligations.AtomicsPosted : Prop :=
  (∀ (lit : Bool) (h : Hdr) (f : SF) (s : State) (pa : Nat) (pte : W64) (l : List Nat),
     (s.runs (Claims.amoForm lit h f) 0 = true → f.sgn = false →
       Claims.granted s .atomic true false (s.sreg f.a + Claims.dispOf lit f) (Claims.amoBytes f) pa pte →
       exec (Claims.amoForm lit h f) s = .next (Claims.atomicPosted s f (f.md == 9 && f.wid != 2) (.amo f.md.toNat)
         { Claims.globalPiece (s.sreg f.a + Claims.dispOf lit f) (Claims.amoBytes f) pa pte with data := s.sreg f.b }
         (8 * Claims.amoBytes f) (f.md == 4 || f.md == 5))) ∧
     (s.runs (Claims.amoForm lit h f) 0 = true → f.sgn = true →
       s.spTarget f.c (s.sreg f.a + Claims.dispOf lit f) (Claims.amoBytes f) = some l →
       exec (Claims.amoForm lit h f) s = .next (Claims.atomicPosted s f (f.md == 9 && f.wid != 2) (.amo f.md.toNat)
         { addr := l, data := s.sreg f.b } (8 * Claims.amoBytes f) (f.md == 4 || f.md == 5))) ∧
     (s.runs (Claims.acasForm lit h f) 0 = true → f.sgn = false →
       Claims.granted s .atomic true false (s.sreg f.a + Claims.dispOf lit f) (bytesOf f.wid) pa pte →
       exec (Claims.acasForm lit h f) s = .next (Claims.atomicPosted s f false .acas
         { Claims.globalPiece (s.sreg f.a + Claims.dispOf lit f) (bytesOf f.wid) pa pte with
           data := s.sreg f.b, data2 := s.sreg f.c } (8 * bytesOf f.wid) false)) ∧
     (s.runs (Claims.acasForm lit h f) 0 = true → f.sgn = true →
       exec (Claims.acasForm lit h f) s = .next (Claims.atomicPosted s f false .acas
         { addr := Claims.ownBytes s (s.sreg f.a + Claims.dispOf lit f).toNat (bytesOf f.wid),
           data := s.sreg f.b, data2 := s.sreg f.c } (8 * bytesOf f.wid) false))) ∧
  (∀ (lit : Bool) (h : Hdr) (f : SF) (s : State), s.runs (Claims.amoForm lit h f) 0 = true → f.sgn = true →
     s.spTarget f.c (s.sreg f.a + Claims.dispOf lit f) (Claims.amoBytes f) = none →
     exec (Claims.amoForm lit h f) s = .next
       (if f.d = 0 then s.clean.modRc (fun r => (Claims.warned s (f.md == 9 && f.wid != 2) 0x15 r).warn 0x17 s.cur.ipc)
        else Claims.posted s
         (fun r => Claims.awaiting s f.d ((Claims.warned s (f.md == 9 && f.wid != 2) 0x15 r).warn 0x17 s.cur.ipc))
         (Claims.request s .ls .load [{ addr := [] }]
           (.s s.cx.mode f.d.toNat (8 * Claims.amoBytes f) (f.md == 4 || f.md == 5))))) ∧
  (∀ (h : Hdr) (f : SF) (s : State) (pa : Nat) (pte : W64),
     (s.runs (.aclaim h f) 0 = true →
       Claims.granted s .atomic true true (s.sreg f.a + f.imm.signExtend 64) 8 pa pte →
       exec (.aclaim h f) s = .next (Claims.posted s
         (fun r => Claims.awaiting s (f.d + 1) (Claims.awaiting s f.d r))
         (Claims.request s .ls (.aclaim (f.lit.extractLsb' 0 16) (f.lit.extractLsb' 16 16))
           [Claims.globalPiece (s.sreg f.a + f.imm.signExtend 64) 8 pa pte] (.pair s.cx.mode f.d.toNat)))) ∧
     (s.runs (.aclaim h f) 0 = true → (s.sreg f.a + f.imm.signExtend 64).toNat % 8 ≠ 0 →
       exec (.aclaim h f) s = .next (Claims.trapped s { cause := 0x06, tval := s.sreg f.a + f.imm.signExtend 64 })))

namespace Sys2Proof.Claims

/-- The lane groups of a group mask, in rising order (R126). -/
def maskGroups (m : BitVec 8) : List Nat := (List.range 8).filter (fun g => m.getLsbD g)

/-- A scalar result of a cross-file copy (R63). -/
def flySx (s : State) (e : Eng) (l : Nat) (d : BitVec 5) (x : W64) : Fly :=
  s.fly e l (if d = 0 then .none else .s s.cx.mode d.toNat x)

end Sys2Proof.Claims

namespace Sys2Proof.Claims

/-- A result for an issuing V instruction's destination in group g: the written lanes, or nothing where VM enables none (R53). -/
def laneFly (s : State) (e : Eng) (lat : Nat) (f : VF) (fn : Nat → Nat → Lane) (g : Nat) : Option Fly :=
  if s.written f.vm g = [] then none
  else some (s.fly e lat (.v g f.vd.toNat ((s.written f.vm g).map (fun i => (i, (fn g i).1))))
    (((s.written f.vm g).map (fun i => (fn g i).2)).foldl (fun a b => a ||| b) 0))

/-- The warnings of a V instruction: SAT without use 0x10, RND without use 0x11, TYPE t5 without use 0x12 (R137, R187, R188). -/
def vwarned (s : State) (f : VF) (rounds satOk t5 : Bool) (r : Res) : Res :=
  warned s (f.ty == 11 && !t5) 0x12
    (warned s (f.rnd != 0 && !rounds) 0x11 (warned s (f.sat && decide (f.ty.toNat < 5) && !satOk) 0x10 r))

/-- A V instruction that gives each written lane of each group of GMASK its own result, and changes nothing else but the
warnings (R53, R185). -/
def laneWise (s : State) (e : Eng) (lat : Nat) (f : VF) (rounds satOk t5 : Bool) (fn : Nat → Nat → Lane) : State :=
  sendsWith s (vwarned s f rounds satOk t5) ((maskGroups f.gmask).filterMap (laneFly s e lat f fn))

/-- Lane i of v_n in group g, and the second operand: the literal, lane 0 of VB with BSRC, or the lane of VB (R187). -/
def vLane (s : State) (n : BitVec 5) (g i : Nat) : W32 := s.rc.readV g n.toNat i
def vSecond (s : State) (f : VF) (lit : Option W32) (g i : Nat) : W32 :=
  match lit with
  | some x => x
  | none => if f.bsrc then vLane s f.vb g 0 else vLane s f.vb g i

/-- The element type of TYPE, t5 read as z8 (R187), whether it is a float, and RND. -/
def vType (f : VF) : Nat := if f.ty = 11 then 10 else f.ty.toNat
def vFloat (f : VF) : Bool := decide (vType f < 5)
def vRnd (f : VF) : Rnd :=
  match f.rnd.toNat with
  | 0 => .rne
  | 1 => .rtz
  | 2 => .rup
  | _ => .rdn

/-- The forms of a V instruction with and without a literal. -/
structure VForms where
  reg : Hdr → VF → Instr
  lit : Hdr → VF → W32 → Instr
def VForms.of (r : VForms) (h : Hdr) (f : VF) (lit : Option W32) : Instr :=
  match lit with
  | some x => r.lit h f x
  | none => r.reg h f

/-- A row of the V arithmetic (R192, R193): latency; whether it only selects one of its operands, which neither rounds nor
saturates; the operation on exact integers and on exact values with NV. -/
structure VArithRow where
  forms   : VForms
  lat     : Nat
  selects : Bool
  int     : Int → Int → Int → Int
  float   : Rnd → Ex → Ex → Ex → Ex × Flags8

def vArithRows : List VArithRow :=
  [⟨⟨.vadd, .vaddL⟩, 2, false, fun a b _ => a + b, fun r a b _ => Ex.add r a b⟩,
   ⟨⟨.vsub, .vsubL⟩, 2, false, fun a b _ => a - b, fun r a b _ => Ex.add r a b.negate⟩,
   ⟨⟨.vmul, .vmulL⟩, 2, false, fun a b _ => a * b, fun _ a b _ => Ex.mul a b⟩,
   ⟨⟨.vfma, .vfmaL⟩, 4, false, fun a b c => a * b + c, fun r a b c => Ex.fma r a b c⟩,
   ⟨⟨.vmin, .vminL⟩, 2, true, fun a b _ => min a b, fun _ a b _ => (Ex.min a b, 0)⟩,
   ⟨⟨.vmax, .vmaxL⟩, 2, true, fun a b _ => max a b, fun _ a b _ => (Ex.max a b, 0)⟩]

/-- A row of the V logic and shifts (R195): the result's bits on two elements of w bits, but for VSHL, whose exact product
wraps or saturates. -/
structure VLogicRow where
  forms : VForms
  bits  : (w : Nat) → BitVec w → BitVec w → BitVec w

def vLogicRows : List VLogicRow :=
  [⟨⟨.vand, .vandL⟩, fun _ a b => a &&& b⟩, ⟨⟨.vor, .vorL⟩, fun _ a b => a ||| b⟩, ⟨⟨.vxor, .vxorL⟩, fun _ a b => a ^^^ b⟩,
   ⟨⟨.vshr, .vshrL⟩, fun w a b => a >>> (b.toNat % w)⟩, ⟨⟨.vsra, .vsraL⟩, fun w a b => a.sshiftRight (b.toNat % w)⟩]

/-- An element of w bits of type t in a lane: floats and unsigned integers zero-extended, signed integers sign-extended
(R82, R186). -/
def inLane (t : Nat) {w : Nat} (x : BitVec w) : W32 := if 5 ≤ t ∧ t < 8 then x.signExtend 32 else x.setWidth 32

end Sys2Proof.Claims

/-- R191 to R194: the six arithmetic instructions, register and literal forms, each lane's exact result rounded, wrapped or
clamped once; VABS and VNEG change a float's sign bit alone. -/
def Obligations.VectorArithmetic : Prop :=
  ∀ (h : Hdr) (f : VF) (s : State) (lit : Option W32),
    (∀ row ∈ Claims.vArithRows, s.runs (row.forms.of h f lit) 8 = true → exec (row.forms.of h f lit) s =
      .next (Claims.laneWise s .vec row.lat f (Claims.vFloat f && !row.selects) false false (fun g i =>
        if Claims.vFloat f then
          floatLane (Claims.vType f) (if row.selects then .rne else Claims.vRnd f)
            (row.float (if row.selects then .rne else Claims.vRnd f) (exElem (Claims.vType f) (Claims.vLane s f.va g i))
              (exElem (Claims.vType f) (Claims.vSecond s f lit g i)) (exElem (Claims.vType f) (Claims.vLane s f.vc g i)))
        else
          intLane (Claims.vType f) (f.sat && !row.selects)
            (row.int (intElem (Claims.vType f) (Claims.vLane s f.va g i))
              (intElem (Claims.vType f) (Claims.vSecond s f lit g i)) (intElem (Claims.vType f) (Claims.vLane s f.vc g i)))))) ∧
    (s.runs (.vabs h f) 8 = true → exec (.vabs h f) s =
      .next (Claims.laneWise s .vec 2 f false false false (fun g i =>
        if Claims.vFloat f then (((Claims.vLane s f.va g i).setWidth (elemBits (Claims.vType f) - 1)).setWidth 32, 0)
        else intLane (Claims.vType f) f.sat (intElem (Claims.vType f) (Claims.vLane s f.va g i)).natAbs))) ∧
    (s.runs (.vneg h f) 8 = true → exec (.vneg h f) s =
      .next (Claims.laneWise s .vec 2 f false false false (fun g i =>
        if Claims.vFloat f then
          (((Claims.vLane s f.va g i).setWidth (elemBits (Claims.vType f)) ^^^
            BitVec.twoPow _ (elemBits (Claims.vType f) - 1)).setWidth 32, 0)
        else intLane (Claims.vType f) f.sat (-(intElem (Claims.vType f) (Claims.vLane s f.va g i))))))

namespace Sys2Proof.Claims

/-- The 16-bit mask whose bit i is p i. -/
def bits16 (p : Nat → Bool) : BitVec 16 := BitVec.ofBoolListLE ((List.range 16).map p) |>.setWidth 16

/-- The mask that VM names in group g, and whether it enables lane i (R53). -/
def vMask (s : State) (f : VF) (g : Nat) : BitVec 16 := s.rc.readVm g f.vm.toNat

/-- Conditions 0 to 5 on two exact integers (R125, R155). -/
def intCondOf (c : Nat) (a b : Int) : Bool :=
  match c with
  | 0 => decide (a = b)
  | 1 => decide (a ≠ b)
  | 2 => decide (a < b)
  | 3 => decide (a ≤ b)
  | 4 => decide (b < a)
  | _ => decide (b ≤ a)

/-- A result for vm_n of group g, in the lanes of a mask; vm0 takes none (R52, R197, R198). -/
def vmTakes (g : Nat) (n : BitVec 5) (mask x : BitVec 16) : Wr := if n = 0 then .none else .vm g n.toNat mask x

/-- VCMP's condition in lane i of group g, and its NV (R197). -/
def vHolds (s : State) (f : VF) (lit : Option W32) (g i : Nat) : Bool × Flags8 :=
  if vFloat f then
    Ex.cond f.mod6.toNat (exElem (vType f) (vLane s f.va g i)) (exElem (vType f) (vSecond s f lit g i))
  else (intCondOf f.mod6.toNat (intElem (vType f) (vLane s f.va g i)) (intElem (vType f) (vSecond s f lit g i)), 0)

/-- The element of type TYPE alone, as a lane holds it. -/
def vElem (f : VF) (x : W32) : W32 := placeLane (vType f) (x.toNat % 2 ^ elemBits (vType f))

/-- The five special functions, by instruction (R201). -/
def vSpecRows : List (Spec × (Hdr → VF → Instr)) :=
  [(.rcp, .vrcp), (.rsq, .vrsq), (.exp2, .vexp2), (.lg2, .vlg2), (.tanh, .vtanh)]

/-- The spans of a reduction: each group of GMASK by itself, or all of them as one (R205). -/
def spansOf (f : VF) : List (List Nat) :=
  if f.mod6.getLsbD 0 then [maskGroups f.gmask] else (maskGroups f.gmask).map (fun g => [g])

/-- The values of a span's participating lanes, in ascending L. -/
def spanValues (s : State) (f : VF) (span : List Nat) : List W32 :=
  span.flatMap (fun g => (s.written f.vm g).map (fun i => vLane s f.va g i))

/-- One result for each span, in every written lane of its groups; its flags with each of them (R205). -/
def reduces (s : State) (f : VF) (rounds : Bool) (fn : List W32 → Lane) : State :=
  sendsWith s (vwarned s f rounds false false) ((spansOf f).flatMap (fun span => span.filterMap (fun g =>
    if s.written f.vm g = [] then none
    else some (s.fly .vec 4 (.v g f.vd.toNat ((s.written f.vm g).map (fun i => (i, (fn (spanValues s f span)).1))))
      (fn (spanValues s f span)).2))))

end Sys2Proof.Claims

/-- R195, R196: logic, shifts and counts on the elements of each written lane.

R197 to R199: compares into a mask, selects by a mask, logic of masks, moves and literals. -/
def Obligations.VectorMasksAndLogic : Prop :=
  (∀ (h : Hdr) (f : VF) (s : State) (lit : Option W32),
     (∀ row ∈ Claims.vLogicRows, s.runs (row.forms.of h f lit) 8 = true → exec (row.forms.of h f lit) s =
       .next (Claims.laneWise s .vec 2 f false false false (fun g i =>
         (Claims.inLane (Claims.vType f) (row.bits (elemBits (Claims.vType f))
           ((Claims.vLane s f.va g i).setWidth _) ((Claims.vSecond s f lit g i).setWidth _)), 0)))) ∧
     (∀ row ∈ [Claims.VForms.mk .vshl .vshlL], s.runs (row.of h f lit) 8 = true → exec (row.of h f lit) s =
       .next (Claims.laneWise s .vec 2 f false false false (fun g i =>
         intLane (Claims.vType f) f.sat (intElem (Claims.vType f) (Claims.vLane s f.va g i) *
           2 ^ ((Claims.vSecond s f lit g i).toNat % elemBits (Claims.vType f)))))) ∧
     (∀ row ∈ [(Count.popc, Instr.vpopc), (.clz, .vclz)], s.runs (row.2 h f) 8 = true → exec (row.2 h f) s =
       .next (Claims.laneWise s .vec 2 f false false false (fun g i =>
         (placeLane (Claims.vType f) (Claims.countOf row.1
           ((Claims.vLane s f.va g i).setWidth (elemBits (Claims.vType f)))), 0))))) ∧
  (∀ (h : Hdr) (f : VF) (s : State) (lit : Option W32) (x : W32),
     (∀ row ∈ [Claims.VForms.mk .vcmp .vcmpL], s.runs (row.of h f lit) 8 = true → exec (row.of h f lit) s =
       .next (Claims.sendsWith s (Claims.vwarned s f false false false) ((Claims.maskGroups f.gmask).filterMap (fun g =>
         if Claims.vMask s f g = 0 then none
         else some (s.fly .vec 2 (Claims.vmTakes g f.vd (Claims.vMask s f g)
           (Claims.bits16 (fun i => (Claims.vMask s f g).getLsbD i && (Claims.vHolds s f lit g i).1)))
           (((s.written f.vm g).map (fun i => (Claims.vHolds s f lit g i).2)).foldl (fun a b => a ||| b) 0)))))) ∧
     (∀ row ∈ [Claims.VForms.mk .vsel .vselL], s.runs (row.of h f lit) 8 = true → exec (row.of h f lit) s =
       .next (Claims.laneWise s .vec 2 f false false false (fun g i =>
         (Claims.vElem f (if (s.rc.readVm g f.vc.toNat).getLsbD i then Claims.vLane s f.va g i
           else Claims.vSecond s f lit g i), 0)))) ∧
     (s.runs (.vmlog h f) 8 = true → exec (.vmlog h f) s =
       .next (Claims.sendsWith s (Claims.vwarned s f false false false) ((Claims.maskGroups f.gmask).map (fun g =>
         s.fly .vec 2 (Claims.vmTakes g f.vd 0xFFFF (Claims.bits16 (fun i =>
           f.mod6.getLsbD (2 * ((s.rc.readVm g f.va.toNat).getLsbD i).toNat +
             ((s.rc.readVm g f.vb.toNat).getLsbD i).toNat)))))))) ∧
     (s.runs (.vmov h f) 8 = true → exec (.vmov h f) s =
       .next (Claims.laneWise s .vec 2 f false false false (fun g i => (Claims.vElem f (Claims.vLane s f.va g i), 0)))) ∧
     (s.runs (.vli h f x) 8 = true → exec (.vli h f x) s =
       .next (Claims.laneWise s .vec 2 f false false false (fun _ _ => (Claims.vElem f x, 0)))))

/-- R203 to R206, R214, R220, R221: moves between lanes and groups, reductions, scans, block scales, thresholds. -/
def Obligations.VectorAcrossLanes : Prop :=
  ∀ (h : Hdr) (f : VF) (s : State),
    (s.runs (.vshuf h f) 8 = true → exec (.vshuf h f) s = .next (Claims.laneWise s .vec 2 f false false false (fun g i =>
      (Claims.vLane s f.va g ((Claims.vLane s f.vb g i).extractLsb' 0 4).toNat, 0)))) ∧
    (s.runs (.vbcst h f) 8 = true → exec (.vbcst h f) s = .next (Claims.laneWise s .vec 2 f false false false (fun g _ =>
      (Claims.vLane s f.va g f.mod6.toNat, 0)))) ∧
    (s.runs (.vxg h f) 8 = true → exec (.vxg h f) s = .next (Claims.laneWise s .vec 4 f false false false (fun _ i =>
      (Claims.vLane s f.va f.mod6.toNat i, 0)))) ∧
    (s.runs (.vbperm h f) 8 = true → exec (.vbperm h f) s = .next (Claims.laneWise s .vec 2 f false false false (fun g i =>
      ((Claims.bits64 (fun k =>
        (Claims.vLane s f.va g (i / 2 * 2 + 1) ++ Claims.vLane s f.va g (i / 2 * 2) ++
          Claims.vLane s f.vb g (i / 2 * 2 + 1) ++ Claims.vLane s f.vb g (i / 2 * 2)).getLsbD
            ((s.rc.pats.get 0 f.mod6.toNat).extractLsb' (7 * k) 7).toNat)).extractLsb' (32 * (i % 2)) 32, 0)))) ∧
    (s.runs (.vthr h f) 8 = true → exec (.vthr h f) s = .next (Claims.laneWise s .matVec 6 f false false false (fun g i =>
      (if f.mod6.getLsbD 3 then (s.rc.eng.tile (f.mod6.toNat % 8)).threshold
        else (s.rc.eng.tile (f.mod6.toNat % 8)).rowThreshold (16 * (g % 4) + i), 0)))) ∧
    (s.runs (.vradd h f) 8 = true → exec (.vradd h f) s = .next (Claims.reduces s f (Claims.vFloat f) (fun l =>
      if Claims.vFloat f then floatLane (Claims.vType f) (Claims.vRnd f) (sumEx (Claims.vRnd f) (l.map (exElem (Claims.vType f))))
      else intLane (Claims.vType f) f.sat (l.map (intElem (Claims.vType f))).sum))) ∧
    (s.runs (.vrmax h f) 8 = true → exec (.vrmax h f) s = .next (Claims.reduces s f false (pickLane .max (Claims.vType f)))) ∧
    (s.runs (.vrmin h f) 8 = true → exec (.vrmin h f) s = .next (Claims.reduces s f false (pickLane .min (Claims.vType f)))) ∧
    (s.runs (.vscan h f) 8 = true → exec (.vscan h f) s =
      .next (Claims.sendsWith s (Claims.vwarned s f (Claims.vFloat f) false false)
        ((Claims.spansOf f).flatMap (fun span => span.filterMap (fun g =>
          if s.written f.vm g = [] then none
          else some (
            let before := (Claims.spanValues s f (span.takeWhile (fun k => k != g))).length
            let ys := (List.range (s.written f.vm g).length).map (fun k => sumLane (Claims.vType f) (Claims.vRnd f) f.sat
              ((Claims.spanValues s f span).take (if f.mod6.getLsbD 1 then before + k else before + k + 1)))
            s.fly .vec 4 (.v g f.vd.toNat ((s.written f.vm g).zip (ys.map (fun y => y.1))))
              ((ys.map (fun y => y.2)).foldl (fun a b => a ||| b) 0))))))) ∧
    (s.runs (.vamax h f) 8 = true → exec (.vamax h f) s =
      .next (Claims.sendsWith s (Claims.vwarned s f false false false)
        ((Claims.maskGroups f.gmask).map (fun g =>
          let xs := (Claims.spanValues s f (Claims.maskGroups f.gmask)).map f32Val
          s.fly .vec 3 (.sb g f.mod6.toNat
            (if xs.any Ex.isNaN then 0x7FC00000
             else (f32 (Ex.div (xs.foldl (fun m x => Ex.max m x.abs) Ex.zero) (Ex.ofInt (if f.ty = 3 then 448 else 57344)))).1))
            (if xs.any Ex.isNaN then 32 else 0)))))

/-- R200, R201, R202, R213, R215, R216, R218, R219: conversions and special functions, each lane by itself. That VCVT from a
float source to an integer TYPE rounds by RND and raises no 0x11 is the model's reading of R137 with R89 and R200 (log 26); the values
are in `LaneValues` and `ConversionValues`.

R218: under TERN_TRAP, VUNP3 of a byte of 243 to 255 in an enabled lane traps USER for the first such lane. -/
def Obligations.VectorConversions : Prop :=
  (∀ (h : Hdr) (f : VF) (s : State) (lit : Option W32),
     (s.runs (.vcvt h f) 8 = true → exec (.vcvt h f) s =
       .next (Claims.laneWise s .vec 3 f (Claims.vFloat f || decide (f.mod6.toNat % 16 < 5)) true false (fun g i =>
         convert (f.mod6.toNat % 16) (Claims.vType f) (Claims.vRnd f) f.sat (Claims.vLane s f.va g i)))) ∧
     (∀ row ∈ Claims.vSpecRows, s.runs (row.2 h f) 8 = true → exec (row.2 h f) s =
       .next (Claims.laneWise s .vec 8 f (Claims.vFloat f) false false (fun g i =>
         (placeLane (Claims.vType f) (row.1.apply (fmtOf (Claims.vType f)) (Claims.vRnd f)
           (elem (Claims.vType f) (Claims.vLane s f.va g i))).1,
           (row.1.apply (fmtOf (Claims.vType f)) (Claims.vRnd f) (elem (Claims.vType f) (Claims.vLane s f.va g i))).2)))) ∧
     (∀ row ∈ [Claims.VForms.mk .vdot4 .vdot4L], s.runs (row.of h f lit) 8 = true → exec (row.of h f lit) s =
       .next (Claims.laneWise s .vec 4 f false false false (fun g i =>
         dot4 (Claims.vType f) f.sat (Claims.vLane s f.va g i) (Claims.vSecond s f lit g i) (Claims.vLane s f.vc g i)))) ∧
     (s.runs (.vqcvt h f) 8 = true → exec (.vqcvt h f) s =
       .next (Claims.laneWise s .vec 3 f false true false (fun g i =>
         (placeLane (Claims.vType f) (quantiseBy (fmtOf (Claims.vType f)) (exElem 0 (Claims.vLane s f.va g i))
           (f32Val (s.rc.sb.get 0 (2 * g + (f.mod6.toNat + 1) % 2)))).1,
           (quantiseBy (fmtOf (Claims.vType f)) (exElem 0 (Claims.vLane s f.va g i))
             (f32Val (s.rc.sb.get 0 (2 * g + (f.mod6.toNat + 1) % 2)))).2)))) ∧
     (∀ row ∈ [Claims.VForms.mk .vdq .vdqL], s.runs (row.of h f lit) 8 = true → exec (row.of h f lit) s =
       .next (Claims.laneWise s .vec 3 f false false false (fun g i =>
         dequantise (Claims.vType f) (Claims.vLane s f.va g i) (Claims.vSecond s f lit g i)))) ∧
     (s.runs (.vsbr h f) 8 = true → exec (.vsbr h f) s =
       .next (Claims.laneWise s .vec 1 f false false false (fun g _ => (s.rc.sb.get 0 (2 * g + f.mod6.toNat), 0)))) ∧
     (s.runs (.vunp3 h f) 8 = true → s.rc.ternTrap = false → exec (.vunp3 h f) s =
       .next (Claims.laneWise s .vec 3 f false false true (fun g i =>
         (BitVec.ofInt 32 (tritOf ((Claims.vLane s f.va g i).toNat % 256) f.mod6.toNat),
           if 243 ≤ (Claims.vLane s f.va g i).toNat % 256 then 64 else 0)))) ∧
     (s.runs (.vpack3 h f) 8 = true → exec (.vpack3 h f) s =
       .next (Claims.laneWise s .vec 3 f false true true (fun g i =>
         pack3 f.mod6.toNat (Claims.vLane s f.va g i) (Claims.vLane s f.vc g i))))) ∧
  (∀ (h : Hdr) (f : VF) (s : State) (l : Nat), s.runs (.vunp3 h f) 0 = true → s.rc.ternTrap = true →
     (s.onLanes f).find? (fun k => decide (243 ≤ (Claims.vLane s f.va (k / 16) (k % 16)).toNat % 256)) = some l →
     exec (.vunp3 h f) s = .next (Claims.trapped s
       { cause := 0x0C, sub := 1, tval := (Claims.vLane s f.va (l / 16) (l % 16)).setWidth 64
         lane := some (BitVec.ofNat 7 l) }))

namespace Sys2Proof.Claims

/-- The lanes L of a stream access with the number of each lane's element after CURSOR: 16 for each group of GMASK, in rising
order (R208). -/
def streamLanes (f : VF) : List (Nat × Nat) :=
  ((maskGroups f.gmask).zip (List.range 8)).flatMap (fun p => (List.range 16).map (fun i => (16 * p.1 + i, 16 * p.2 + i)))

/-- VM enables lane L (R53). -/
def onL (s : State) (f : VF) (l : Nat) : Bool := (s.rc.readVm (l / 16) f.vm.toNat).getLsbD (l % 16)
/-- The lanes of GMASK that VM enables, rising. -/
def enabled (s : State) (f : VF) : List Nat :=
  (maskGroups f.gmask).flatMap (fun g => ((List.range 16).map (fun i => 16 * g + i)).filter (onL s f))
/-- Lane L of v_n. -/
def atL (s : State) (n : BitVec 5) (l : Nat) : W32 := vLane s n (l / 16) (l % 16)

/-- The address of a lane of a gather, scatter or vector atomic: BASE and the signed offset in VB (R210). -/
def gatherVa (s : State) (f : VF) (l : Nat) : W64 := (s.stream f.va).base.setWidth 64 + (atL s f.vb l).signExtend 64

/-- CURSOR moves on by 16 elements for each group, modulo the element count (R208). -/
def advanced (s : State) (f : VF) (r : Res) : Res :=
  { r with streams := r.streams.put {} f.va.toNat { s.stream f.va with
      cursor := BitVec.ofNat 48 (((s.stream f.va).cursor.toNat + 16 * (maskGroups f.gmask).length) % (s.stream f.va).total) } }

/-- The destination register of each group waits for the next request (R64). -/
def awaitingV (s : State) (f : VF) (r : Res) : Res :=
  { r with pend := r.pend ++ (maskGroups f.gmask).map (fun g => (.v g f.vd.toNat, .req s.serial)) }

/-- The warnings of a stream instruction: those of every V instruction, VM on a VSLD 0x13, an absent target 0x17 (R137). -/
def streamWarned (s : State) (f : VF) (vm absent : Bool) (r : Res) : Res :=
  warned s absent 0x17 (warned s (vm && f.vm != 0) 0x13 (vwarned s f false false false r))

/-- The places of the lanes of a stream's access: each lane's bytes in the stream's space. -/
def places (s : State) (f : VF) (a : Acc) (n : Nat) (l : List (Nat × W64)) : Except (Sum Hold Trap) (List Piece × Bool) :=
  collect (l.map (fun p => (p.1, s.spot (s.stream f.va) a p.2 n p.1)))

/-- The pieces that hold bytes, each with its lane's element of v_n. -/
def withData (s : State) (n : BitVec 5) (ps : List Piece) : List Piece :=
  (ps.filter (fun p => p.addr != [])).map (fun p => { p with data := (atL s n p.lane).setWidth 64 })

/-- A store of pieces on path VS, where any of them holds bytes. -/
def vsPosted (s : State) (g : Res → Res) (kind : ReqKind) (ps : List Piece) : State :=
  if ps = [] then s.clean.modRc g else posted s g (request s .vs kind ps)

/-- The bytes of an element of the stream's format. -/
def streamBytes (s : State) (f : VF) : Nat := elemBytes (s.stream f.va).format.toNat

end Sys2Proof.Claims

/-- R207 to R210: the stream loads, stores, gathers and scatters, where each lane's place is reached: elements from CURSOR on,
CURSOR moved past them; a gather and a scatter at BASE and the lane's offset, CURSOR left as it is. A VSLD of the own
scratchpad has latency 6 where nothing that it comes after is pending, and is held while such an access cannot be performed
(R108, R119, R286); every other load is scoreboarded.

R211: a vector atomic posts one atomic for the enabled lanes on path VS, in rising L, with each lane's element of VC; with
MOD[4] the old values are returned and the destination waits. FADD works at 32 bits, with warning 0x15. -/
def Obligations.VectorMemory : Prop :=
  (∀ (h : Hdr) (f : VF) (s : State) (ps : List Piece) (absent : Bool) (bytes : List Byte),
     (s.runs (.vsld h f) 8 = true → (s.stream f.va).space = 0 →
       Claims.places s f .load (Claims.streamBytes s f) ((Claims.streamLanes f).map (fun p =>
         (p.1, (s.stream f.va).addrOf ((s.stream f.va).cursor.toNat + p.2)))) = .ok (ps, absent) →
       s.clean.ownRead .vs (ps.flatMap (fun p => p.addr)) = some (s.clean, bytes) →
       exec (.vsld h f) s = .next (Claims.sendsWith s
         (fun r => Claims.advanced s f (Claims.streamWarned s f true absent r))
         (((Claims.maskGroups f.gmask).zip (List.range 8)).map (fun p => s.fly .vec 6 (.v p.1 f.vd.toNat
           ((List.range 16).map (fun i => (i, placeLane (s.stream f.va).format.toNat (ofLe
             ((bytes.drop ((16 * p.2 + i) * Claims.streamBytes s f)).take (Claims.streamBytes s f)))))))))) ) ∧
     (s.runs (.vsld h f) 8 = true → (s.stream f.va).space = 0 →
       Claims.places s f .load (Claims.streamBytes s f) ((Claims.streamLanes f).map (fun p =>
         (p.1, (s.stream f.va).addrOf ((s.stream f.va).cursor.toNat + p.2)))) = .ok (ps, absent) →
       s.clean.ownRead .vs (ps.flatMap (fun p => p.addr)) = none → exec (.vsld h f) s = .next (Claims.holds s)) ∧
     (s.runs (.vsld h f) 0 = true → (s.stream f.va).space ≠ 0 →
       Claims.places s f .load (Claims.streamBytes s f) ((Claims.streamLanes f).map (fun p =>
         (p.1, (s.stream f.va).addrOf ((s.stream f.va).cursor.toNat + p.2)))) = .ok (ps, absent) →
       exec (.vsld h f) s = .next (Claims.posted s
         (fun r => Claims.awaitingV s f (Claims.advanced s f (Claims.streamWarned s f true absent r)))
         (Claims.request s .vs .load ps (.v f.vd.toNat (s.stream f.va).format.toNat)))) ∧
     (s.runs (.vsst h f) 0 = true →
       Claims.places s f .store (Claims.streamBytes s f) (((Claims.streamLanes f).filter (fun p => Claims.onL s f p.1)).map
         (fun p => (p.1, (s.stream f.va).addrOf ((s.stream f.va).cursor.toNat + p.2)))) = .ok (ps, absent) →
       exec (.vsst h f) s = .next (Claims.vsPosted s
         (fun r => Claims.advanced s f (Claims.streamWarned s f false absent r)) .store (Claims.withData s f.vb ps))) ∧
     (s.runs (.vgld h f) 0 = true →
       Claims.places s f .load (Claims.streamBytes s f) ((Claims.enabled s f).map (fun l => (l, Claims.gatherVa s f l))) =
         .ok (ps, absent) →
       exec (.vgld h f) s = .next (Claims.posted s
         (fun r => Claims.awaitingV s f (Claims.streamWarned s f false absent r))
         (Claims.request s .vs .load ps (.v f.vd.toNat (s.stream f.va).format.toNat)))) ∧
     (s.runs (.vsct h f) 0 = true →
       Claims.places s f .store (Claims.streamBytes s f) ((Claims.enabled s f).map (fun l => (l, Claims.gatherVa s f l))) =
         .ok (ps, absent) →
       exec (.vsct h f) s = .next (Claims.vsPosted s
         (Claims.streamWarned s f false absent) .store (Claims.withData s f.vc ps)))) ∧
  (∀ (h : Hdr) (f : VF) (s : State) (ps : List Piece) (absent : Bool), s.runs (.vsamo h f) 0 = true →
     Claims.places s f .atomic (if f.mod6.toNat % 16 = 9 then 4 else Claims.streamBytes s f)
       ((Claims.enabled s f).map (fun l => (l, Claims.gatherVa s f l))) = .ok (ps, absent) →
     exec (.vsamo h f) s = .next (
       if f.mod6.getLsbD 4 then Claims.posted s
         (fun r => Claims.awaitingV s f (Claims.warned s absent 0x17
           (Claims.warned s (decide (f.mod6.toNat % 16 = 9) && Claims.streamBytes s f != 4) 0x15
             (Claims.vwarned s f false false false r))))
         (Claims.request s .vs (.amo (f.mod6.toNat % 16))
           (ps.map (fun p => { p with data := (Claims.atL s f.vc p.lane).setWidth 64 }))
           (.v f.vd.toNat (s.stream f.va).format.toNat))
       else Claims.vsPosted s
         (fun r => Claims.warned s absent 0x17
           (Claims.warned s (decide (f.mod6.toNat % 16 = 9) && Claims.streamBytes s f != 4) 0x15
             (Claims.vwarned s f false false false r)))
         (.amo (f.mod6.toNat % 16)) (Claims.withData s f.vc ps)))

namespace Sys2Proof.Claims

/-- The operand of FWAIT, FPOST and FSET: N, or s_A[15:0] when A is not 0 (R176). -/
def flagOperand (s : State) (f : YF) : BitVec 16 := if f.sa = 0 then f.n else (s.sreg f.sa).extractLsb' 0 16

/-- No other context whose FWAIT's guard reads 1 waits on the flag before this one (R33, R54). -/
def firstInLine (s : State) (f : YF) : Bool :=
  !(s.rc.waiters.takeWhile (fun w => !(w.1 == s.cur.ctx && w.2.1 == f.f))).any
    (fun w => w.2.1 == f.f && (s.rc.ctx w.1).readP w.2.2.2.toNat)

/-- What an FPOST orders ahead of later accesses: the writes on LS before it, and those on other paths before a pending FENCE
that names LS too (R286). -/
def ordersOf (s : State) (r : Res) : List (Nat × BitVec 5 × Nat) :=
  (s.serial, 1, s.serial) :: (r.fences.filter (fun g => g.paths.getLsbD 0)).map (fun g => (s.serial, g.paths, g.serial))

/-- An instruction is held at issue, and leaves nothing but what the hold notes. -/
def held (s : State) (h : Hold) : State := { s.clean.note h with mark := .held h }

/-- An arrival of the issuing core at a group's arm (R29, R358). -/
def arrives (s : State) (a : Arm) : Arm :=
  { a with
    arrived := a.arrived ++ [(s.cur.core, s.cur.slot, s.serial)]
    count := a.count.put 0 (s.cur.core.extractLsb' 8 4).toNat (a.count.get 0 (s.cur.core.extractLsb' 8 4).toNat + 1) }

/-- p_PD waits for the generation that stands; with p0 its completion is only acquired (R177, R294). -/
def awaitsGen (s : State) (f : YF) (r : Res) : Res :=
  if f.pd = 0 then { r with watch := r.watch ++ [(f.gid, (s.arm f.gid).gen)] }
  else { r with pend := r.pend ++ [(.p s.cur.ctx s.cx.mode f.pd.toNat, .bar f.gid (s.arm f.gid).gen)] }

end Sys2Proof.Claims

/-- R31, R33, R176: FWAIT subtracts its count at once when it is first in line and the flag holds it, and waits otherwise; a
count of 0 does nothing. FPOST adds, saturating with warning 0x01, and orders the writes before it (R286); FSET sets.

R29, R30, R177: a member's BARA counts one arrival, BARW leaves its predicate to wait for the generation that stands, and
BARAW does both; at an entry that is BROKEN or not valid an arrival is dropped and the predicate is written 0. A core that is
no member takes ACCESS with sub-cause 5 and the group's ID.

R178: FENCE issues at once, and stands until the accesses of its paths before it are done; a mask of 0 is all paths, with
warning 0x1C. -/
def Obligations.FlagsBarriersAndFences : Prop :=
  (∀ (h : Hdr) (f : YF) (s : State),
     (s.runs (.fwait h f) 0 = true → Claims.flagOperand s f = 0 → exec (.fwait h f) s = .next s.clean) ∧
     (s.runs (.fwait h f) 0 = true → Claims.flagOperand s f ≠ 0 →
       Claims.firstInLine s f = true → (Claims.flagOperand s f).toNat ≤ (s.rc.flag f.f).toNat →
       exec (.fwait h f) s = .next (s.clean.modRc (fun r =>
         { r with
           flags := r.flags.put 0 f.f.toNat (r.flag f.f - Claims.flagOperand s f)
           waiters := r.waiters.filter (fun w => !(w.1 == s.cur.ctx && w.2.1 == f.f)) }))) ∧
     (s.runs (.fwait h f) 0 = true → Claims.flagOperand s f ≠ 0 →
       Claims.firstInLine s f = false ∨ (s.rc.flag f.f).toNat < (Claims.flagOperand s f).toNat →
       exec (.fwait h f) s = .next (Claims.held s (.flag f.f (Claims.flagOperand s f) h.pred))) ∧
     (s.runs (.fpost h f) 0 = true → Claims.flagOperand s f = 0 → exec (.fpost h f) s = .next s.clean) ∧
     (s.runs (.fpost h f) 0 = true → Claims.flagOperand s f ≠ 0 →
       exec (.fpost h f) s = .next { s.clean.modRc (fun r =>
         Claims.warned s (decide (0xFFFF < (r.flag f.f).toNat + (Claims.flagOperand s f).toNat)) 0x01
         { r with
           flags := r.flags.put 0 f.f.toNat
             (BitVec.ofNat 16 (min 0xFFFF ((r.flag f.f).toNat + (Claims.flagOperand s f).toNat)))
           posted := r.posted ++ Claims.ordersOf s r }) with serial := s.serial + 1 }) ∧
     (s.runs (.fset h f) 0 = true → exec (.fset h f) s =
       .next (s.clean.modRc (fun r => { r with flags := r.flags.put 0 f.f.toNat (Claims.flagOperand s f) })))) ∧
  (∀ (h : Hdr) (f : YF) (s : State),
     (∀ i ∈ [Instr.bara h f, .barw h f, .baraw h f], s.runs i 0 = true →
       (validGroups s.rc.groupSet).contains f.gid = false →
       exec i s = .next (Claims.trapped s { cause := 0x05, sub := 5, tval := f.gid.setWidth 64 })) ∧
     ((validGroups s.rc.groupSet).contains f.gid = true →
       ((s.arm f.gid).v && !(s.arm f.gid).broken) = true →
       (s.runs (.barw h f) 0 = true → exec (.barw h f) s = .next (s.clean.modRc (Claims.awaitsGen s f))) ∧
       ((s.arm f.gid).arrived.any (fun e => e.1 == s.cur.core && e.2.1 == s.cur.slot) = false →
         (s.runs (.bara h f) 0 = true → exec (.bara h f) s =
           .next { s.clean.modArm f.gid (Claims.arrives s) with serial := s.serial + 1 }) ∧
         (s.runs (.baraw h f) 0 = true → exec (.baraw h f) s =
           .next { (s.clean.modRc (Claims.awaitsGen s f)).modArm f.gid (Claims.arrives s) with serial := s.serial + 1 })) ∧
       ((s.arm f.gid).arrived.any (fun e => e.1 == s.cur.core && e.2.1 == s.cur.slot) = true →
         ∀ i ∈ [Instr.bara h f, .baraw h f], s.runs i 0 = true → exec i s = .next (Claims.held s .plain))) ∧
     ((validGroups s.rc.groupSet).contains f.gid = true →
       ((s.arm f.gid).v && !(s.arm f.gid).broken) = false →
       (s.runs (.bara h f) 0 = true → exec (.bara h f) s = .next s.clean) ∧
       (∀ i ∈ [Instr.barw h f, .baraw h f], s.runs i 0 = true → exec i s =
         .next (s.clean.modCx (fun x => x.putP s.cx.mode f.pd.toNat false))))) ∧
  (∀ (h : Hdr) (f : YF) (s : State), s.runs (.fence h f) 0 = true →
     exec (.fence h f) s = .next { s.clean.modRc (fun r =>
       { Claims.warned s (f.f == 0) 0x1C r with
         fences := r.fences ++ [{ serial := s.serial, paths := if f.f = 0 then 31 else f.f, scope := f.scp }] }) with
       serial := s.serial + 1 })

namespace Sys2Proof.Claims

/-- The address of a label: 4 x OFF32, signed, from the instruction's own address, modulo 2^48 (R168, R171). -/
def labelAt (s : State) (off : W32) : VAddr := BitVec.ofInt 48 ((s.cur.ipc.toNat : Int) + 4 * off.toInt)

/-- The issuing context goes on at an address after a cost in bubbles, changed by g besides (R69, R70). -/
def goesTo (s : State) (g : Ctx → Ctx) (target : VAddr) (bubbles : Nat) : State :=
  { s.clean.modCx (fun x => { g x with pc := target, ready := s.here.cycle + 1 + bubbles }) with
    cur := { s.cur with taken := true, bubbles := bubbles } }

/-- The cost of a taken branch to b_n: 3 bubbles, less one for each group since the PBR that prepared it (R69). -/
def costOf (s : State) (n : BitVec 3) : Nat :=
  match s.cx.prep with
  | some (m, k) => if m = n.toNat then 3 - k else 3
  | none => 3

/-- b_n of the issuing context (R52). -/
def target (s : State) (n : BitVec 3) : VAddr := s.cx.b.get 0 n.toNat

/-- The address of entry n of the switch table for the level granted: 32 bytes an entry, 8 bytes a level (R173). -/
def switchAt (s : State) (f : BF) : VAddr :=
  s.rc.swtab + BitVec.ofNat 48 (32 * (f.sb ++ f.sa).toNat + 8 * min s.here.level.toNat 2)

/-- The bound of a BRT and the threshold of the tile it names (R174). -/
def boundOf (s : State) (f : BF) : W32 := (s.sreg f.sa).extractLsb' 0 32
def thresholdOf (s : State) (f : BF) : W32 := (s.rc.eng.tiles.get {} f.sb.toNat).threshold

end Sys2Proof.Claims

/-- R171, R172: LOOP opens a loop of s_A[31:0] passes, or with 0 goes on after the loop-end group at 2 bubbles; LBRK leaves the
innermost loop the same way. A stack that is full, a loop-end group that is one already, and an empty stack at LBRK, trap
ILLEGAL_GROUP.

R69, R168 to R170: PBR prepares a target; BR goes on at its target, CALL leaves the return address in b7, each at the cost
of R69; a target that is no multiple of 4 traps ALIGN: R169 says so of BR, and that a CALL does too is the model's reading (log 44).

R173, R174: SWPT goes on at the entry of its point for the level granted, or with the next group where the entry is 0 or
no table is named; an entry that is no address of a group traps ACCESS. BRT branches where the bound is at or below the
tile's threshold; a NaN bound sets NV and does not branch. -/
def Obligations.LoopsAndBranches : Prop :=
  (∀ (h : Hdr) (f : BF) (off : W32) (s : State) (e : LoopE) (l : List LoopE) (a : VAddr),
     (s.runs (.loop h f off) 0 = true → s.cx.loops.length < (if s.cur.ctx = .primary then 6 else 2) →
       s.cx.loops.any (fun e => e.stop == Claims.labelAt s off) = false →
       ((s.sreg f.sa).extractLsb' 0 32 ≠ 0 → exec (.loop h f off) s = .next (s.clean.modCx (fun x =>
         { x with loops := { start := s.cur.next, stop := Claims.labelAt s off, count := (s.sreg f.sa).extractLsb' 0 32,
                             index := 0, yld := f.yld } :: x.loops }))) ∧
       ((s.sreg f.sa).extractLsb' 0 32 = 0 → s.afterGroup (Claims.labelAt s off) = .ok a →
         exec (.loop h f off) s = .next (Claims.goesTo s id a 2))) ∧
     (s.badEncoding (.loop h f off) = false → s.cx.loops.length ≥ (if s.cur.ctx = .primary then 6 else 2) ∨
       s.cx.loops.any (fun e => e.stop == Claims.labelAt s off) = true →
       exec (.loop h f off) s = .next (Claims.trapped s { cause := 0x02 })) ∧
     (s.runs (.lbrk h f) 0 = true → s.cx.loops = e :: l → s.afterGroup e.stop = .ok a →
       exec (.lbrk h f) s = .next (Claims.goesTo s (fun x => { x with loops := l }) a 2)) ∧
     (s.badEncoding (.lbrk h f) = false → s.cx.loops = [] →
       exec (.lbrk h f) s = .next (Claims.trapped s { cause := 0x02 }))) ∧
  (∀ (h : Hdr) (f : BF) (off : W32) (s : State),
     (s.runs (.pbrReg h f) 0 = true → exec (.pbrReg h f) s = .next (s.clean.modCx (fun x =>
       { x with b := x.b.put 0 f.bt.toNat ((s.sreg f.sa).extractLsb' 0 48), prep := some (f.bt.toNat, 0) }))) ∧
     (s.runs (.pbr h f off) 0 = true → exec (.pbr h f off) s = .next (s.clean.modCx (fun x =>
       { x with b := x.b.put 0 f.bt.toNat (Claims.labelAt s off), prep := some (f.bt.toNat, 0) }))) ∧
     (s.runs (.br h f) 0 = true → (Claims.target s f.bt).toNat % 4 = 0 → exec (.br h f) s =
       .next (Claims.goesTo s id (Claims.target s f.bt) (Claims.costOf s f.bt))) ∧
     (s.runs (.call h f) 0 = true → (Claims.target s f.bt).toNat % 4 = 0 → exec (.call h f) s =
       .next (Claims.goesTo s (fun x => { x with b := x.b.put 0 7 s.cur.next, prep := some (7, 0) })
         (Claims.target s f.bt) (Claims.costOf s f.bt))) ∧
     (∀ i ∈ [Instr.br h f, .call h f], s.runs i 0 = true → (Claims.target s f.bt).toNat % 4 ≠ 0 → exec i s =
       .next (Claims.trapped s { cause := 0x06, tval := (Claims.target s f.bt).setWidth 64 }))) ∧
  (∀ (h : Hdr) (f : BF) (s : State) (w0 w1 : W32),
     (s.runs (.swpt h f) 0 = true → s.rc.swtab = 0 → exec (.swpt h f) s = .next s.clean) ∧
     (s.runs (.swpt h f) 0 = true → s.rc.swtab ≠ 0 → s.fetchWords 2 (Claims.switchAt s f) = .ok [w0, w1] →
       (w1 ++ w0 = 0#64 → exec (.swpt h f) s = .next s.clean) ∧
       (w1 ++ w0 ≠ 0#64 → (w1 ++ w0).toNat < 2 ^ 48 → (w1 ++ w0).toNat % 4 = 0 →
         exec (.swpt h f) s = .next (Claims.goesTo s id ((w1 ++ w0).setWidth 48) 3)) ∧
       (2 ^ 48 ≤ (w1 ++ w0).toNat ∨ (w1 ++ w0).toNat % 4 ≠ 0 →
         exec (.swpt h f) s = .next (Claims.trapped s { cause := 0x05, sub := 8, tval := w1 ++ w0 }))) ∧
     (s.runs (.brt h f) 0 = true → isNaN32 (Claims.boundOf s f) = true →
       exec (.brt h f) s = .next (s.clean.modRc (fun r => { r with fstat := r.fstat ||| 1 }))) ∧
     (s.runs (.brt h f) 0 = true → isNaN32 (Claims.boundOf s f) = false →
       rankKey (Claims.boundOf s f) ≤ rankKey (Claims.thresholdOf s f) → (Claims.target s f.bt).toNat % 4 = 0 →
       exec (.brt h f) s = .next (Claims.goesTo s id (Claims.target s f.bt) (Claims.costOf s f.bt))) ∧
     (s.runs (.brt h f) 0 = true → isNaN32 (Claims.boundOf s f) = false →
       rankKey (Claims.thresholdOf s f) < rankKey (Claims.boundOf s f) → exec (.brt h f) s = .next s.clean))

namespace Sys2Proof.Claims

/-- p_PD waits for the power controller's answer (R180). -/
def awaitsClock (s : State) (pd : Nat) (r : Res) : Res :=
  if pd = 0 then r else { r with pend := r.pend ++ [(.p s.cur.ctx s.cx.mode pd, .clk)] }

/-- YIELD_BOUND as the writes to it that are on their way leave it: each lowers it, to 256 at least (R73). -/
def boundAhead (s : State) : Nat :=
  (s.rc.inflight.map (fun f => f.w)).foldl (fun n w =>
    match w with
    | .csr c v => if c = 0x020 ∧ v.toNat < n then max v.toNat 256 else n
    | _ => n) s.rc.yieldBound.toNat

/-- A REP's first index: REP_IDX where it was interrupted at this address, else 0 (R47, R139). -/
def firstRep (s : State) : Nat := if s.cx.repAt = some s.cur.gpc then s.cx.repIdx.toNat else 0
/-- A REP's count: COUNT, or s_A[15:0] when A is not 0 (R139). -/
def repCount (s : State) (f : CF) (x : RepF) : Nat :=
  if f.a = 0 then x.count.toNat else ((s.sreg f.a).extractLsb' 0 16).toNat

/-- The registers of ADD's repetition i, each modulo 32, and whether any passes 31 (R139). -/
def repAdd (g : S32) (x : RepF) (i : Nat) : S32 :=
  { d := BitVec.ofNat 5 (g.d.toNat + i * x.sd.toNat), a := BitVec.ofNat 5 (g.a.toNat + i * x.sa.toNat)
    b := BitVec.ofNat 5 (g.b.toNat + i * x.sb.toNat) }
def repWraps (g : S32) (x : RepF) (i : Nat) : Bool :=
  decide (31 < g.d.toNat + i * x.sd.toNat) || decide (31 < g.a.toNat + i * x.sa.toNat) ||
  decide (31 < g.b.toNat + i * x.sb.toNat)

/-- The context after repetition i of n: the next one stands at the REP's own address, or the REP is over. -/
def afterRep (p : RepSt) (at_ : VAddr) (y : Ctx) : Ctx :=
  if p.idx + 1 < p.count then { y with rep := some { p with idx := p.idx + 1 }, pc := at_ }
  else { y with rep := none, repIdx := 0, repAt := none, pc := p.next }

/-- One repetition of an ADD issued by the issuing context: its result on the way, the warning of R139, the REP one further. -/
def repeatsAdd (s : State) (p : RepSt) (g : S32) (x : RepF) : State :=
  { s.clean.modRc (fun r =>
      { warnedAt s.cur.gpc (repWraps g x p.idx) 0x02 r with
        inflight := r.inflight ++ [s.flyS 1 (repAdd g x p.idx).d
          (s.sreg (repAdd g x p.idx).a + s.sreg (repAdd g x p.idx).b)] }.modCtx s.cur.ctx (afterRep p s.cur.gpc)) with
    cur := { s.cur with pos := 1, ipc := s.cur.gpc + 8, next := p.next } }
where
  /-- A warning at an address. -/
  warnedAt (at_ : VAddr) (c : Bool) (code : Nat) (r : Res) : Res := if c then r.warn code at_ else r

/-- A word with the 5-bit field at bit lo replaced by n modulo 32. -/
def fieldSet (w : W32) (lo n : Nat) : W32 := BitVec.ofNat 32 (w.toNat - w.toNat / 2 ^ lo % 32 * 2 ^ lo + n % 32 * 2 ^ lo)
/-- The field at bit lo, advanced by i strides: the register number before it wraps. -/
def fieldAt (w : W32) (lo i stride : Nat) : Nat := w.toNat / 2 ^ lo % 32 + i * stride
/-- The words of a REP's target in its next repetition, and whether a register number passes 31: D, A and B of an S instruction are at
bits 17, 22 and 27 of its first word, VD of a V instruction at bit 25 of its first, VA and VB at bits 0 and 5 of its second
(R138, R139). -/
def repWords (p : RepSt) : List W32 × Bool :=
  match encode p.target with
  | [] => ([], false)
  | w :: l =>
    if p.target.cls? = some .v then
      match l with
      | [] => ([], false)
      | x :: r =>
        (fieldSet w 25 (fieldAt w 25 p.idx p.sd) :: fieldSet (fieldSet x 0 (fieldAt x 0 p.idx p.sa)) 5 (fieldAt x 5 p.idx p.sb) :: r,
          decide (31 < fieldAt w 25 p.idx p.sd) || decide (31 < fieldAt x 0 p.idx p.sa) || decide (31 < fieldAt x 5 p.idx p.sb))
    else
      (fieldSet (fieldSet (fieldSet w 17 (fieldAt w 17 p.idx p.sd)) 22 (fieldAt w 22 p.idx p.sa)) 27 (fieldAt w 27 p.idx p.sb) :: l,
        decide (31 < fieldAt w 17 p.idx p.sd) || decide (31 < fieldAt w 22 p.idx p.sa) || decide (31 < fieldAt w 27 p.idx p.sb))
/-- The state in which a repetition issues, its target the second instruction of the group; and the same with its warning. -/
def repIssues (s : State) (p : RepSt) : State :=
  { s.clean with cur := { s.cur with pos := 1, ipc := s.cur.gpc + 8, next := p.next } }
def repWarned (s : State) (p : RepSt) : State :=
  (repIssues s p).modRc (fun r => if (repWords p).2 then r.warn 0x02 s.cur.gpc else r)
/-- What a repetition's answer u, of its target j alone, makes of the REP: with no trap and nothing that holds it the REP stands one
further; held or trapping, the group has no effect and this repetition stays the next one (R139, R327). -/
def repAnswer (s : State) (p : RepSt) (u : State) : State :=
  match u.mark with
  | .none => u.modCx (afterRep p s.cur.gpc)
  | .held w => { (repIssues s p).note w with mark := .held w }
  | .trapped y => { (repIssues s p).takeTrap y with mark := .trapped y }
/-- A REP of any target, begun by the issuing context. -/
def repBegins (s : State) (f : CF) (x : RepF) (t : Instr) : RepSt :=
  { count := repCount s f x, sd := x.sd.toNat, sa := x.sa.toNat, sb := x.sb.toNat, target := t, next := s.cur.next, idx := firstRep s }
def repBegun (s : State) (p : RepSt) : State := s.clean.modCx (fun y => { y with pc := s.cur.gpc, rep := some p })

/-- The peers that a shootdown of the issuing context's partition must reach, none for RWFLUSH (kind 4), and those that cannot be
(R378, R379). -/
def reachedPeers (s : State) (kind : BitVec 3) : List Nat := if kind = 4 then [] else s.shootPeers s.rc.part
def lostPeers (s : State) (kind : BitVec 3) : List Nat := (reachedPeers s kind).filter (s.shootUnreachable s.rc.part)

/-- A TLBI that has begun: its shootdown stands, its context waits for it, and peers out of reach are marked stale. -/
def shotDown (s : State) (kind : BitVec 3) (root : BitVec 34) (va : W64) : State :=
  { s.clean.modRc (fun r => { r with tlbis := r.tlbis ++ [(s.cur.ctx, s.serial)] }) with
    shoots := s.shoots ++ [{
      num := s.serial, core := s.cur.core, slot := s.cur.slot, ctx := s.cur.ctx, kind := kind, root := root, va := va
      part := s.rc.part, serial := s.serial
      peers := ((reachedPeers s kind).filter (fun t => !(lostPeers s kind).contains t)).map (BitVec.ofNat 6), since := s.fab.rot }]
    serial := s.serial + 1
    fab := { s.fab with stale := (lostPeers s kind).foldl (fun m t => m ||| BitVec.ofNat 64 (2 ^ t)) s.fab.stale } }

end Sys2Proof.Claims

/-- R63, R165: each cross-file move sends its copy at its latency; MOVSV to one lane or to every lane of each group of GMASK,
MOVMS of an engine micro-register as a scoreboarded result.

R71, R73, R179 to R181: NOP does nothing, RDC reads a CSR with latency 2, WRC writes one, PWRQ records its level, CLKDIV
asks the column's power controller once, and waits while an earlier question stands. -/
def Obligations.MovesAndControlRegisters : Prop :=
  (∀ (h : Hdr) (r : S32) (f : SF) (s : State),
     (s.runs (.movsv h f) 8 = true → exec (.movsv h f) s = .next (s.sends ((Claims.maskGroups (f.imm.extractLsb' 0 8)).map
       (fun g => s.fly .ctlVec 3 (.v g f.d.toNat
         ((if f.imm.getLsbD 12 then List.range 16 else [(f.imm.extractLsb' 8 4).toNat]).map
           (fun i => (i, (s.sreg f.a).extractLsb' 0 32)))))))) ∧
     (s.runs (.movvs h f) 1 = true → exec (.movvs h f) s = .next (s.sends [Claims.flySx s .ctlVec 3 f.d
       (Claims.widen f.sgn (s.rc.readV (f.imm.extractLsb' 0 3).toNat f.a.toNat (f.imm.extractLsb' 8 4).toNat))])) ∧
     (s.runs (.movsm h r) 1 = true → exec (.movsm h r) s =
       .next (s.sends [s.fly .ctlMat 2 (.mp r.d.toNat (s.sreg r.a))])) ∧
     (s.runs (.movms h r) 1 = true → r.a.toNat < 8 → exec (.movms h r) s =
       .next (s.sends [Claims.flySx s .ctlMat 2 r.d (s.rc.mp.get 0 r.a.toNat)])) ∧
     (s.runs (.movms h r) 0 = true → 16 ≤ r.a.toNat → exec (.movms h r) s =
       .next (Claims.posted s (Claims.awaiting s r.d) (Claims.request s .mf (.amo 0)
         [{ addr := [], done := true, old := (s.rc.eng.m.get 0 (r.a.toNat - 16)).setWidth 64 }]
         (.s s.cx.mode r.d.toNat 32 false)))) ∧
     (s.runs (.movfs h r) 1 = true → exec (.movfs h r) s =
       .next (s.sends [s.flyS 2 r.d ((s.rc.flag r.a).setWidth 64)])) ∧
     (s.runs (.movps h r) 1 = true → exec (.movps h r) s =
       .next (s.sends [s.flyS 1 r.d (if s.preg r.a.toNat then 1 else 0)])) ∧
     (s.runs (.movsp h r) 1 = true → exec (.movsp h r) s =
       .next (s.sends [s.flyP 1 r.d (decide (s.sreg r.a ≠ 0))]))) ∧
  (∀ (h : Hdr) (f : CF) (csr : BitVec 12) (s : State),
     (∀ i ∈ [Instr.nop h f, .nop64 h f, .nop96 h f], s.runs i 0 = true → exec i s = .next s.clean) ∧
     (s.runs (.rdc h f csr) 1 = true → exec (.rdc h f csr) s = .next (s.sends [s.flyS 2 f.d (s.csr csr.toNat)])) ∧
     (s.runs (.wrc h f csr) 1 = true → exec (.wrc h f csr) s = .next (Claims.sendsWith s
       (Claims.warned s (decide (csr = 0x020) && decide (Claims.boundAhead s < (s.sreg f.a).toNat)) 0x03)
       [s.fly .ctl 2 (.csr csr.toNat (s.sreg f.a))])) ∧
     (s.runs (.pwrq h f) 0 = true → exec (.pwrq h f) s =
       .next (s.clean.modRc (fun r => { r with req := f.e.extractLsb' 0 2 }))) ∧
     (s.runs (.clkdiv h f) 0 = true → s.here.clk = none → exec (.clkdiv h f) s =
       .next ((s.clean.modHere (fun k => { k with clk := some {
         eng := some (f.a.extractLsb' 0 2), div := f.e.toNat, slot := s.cur.slot, ctx := s.cur.ctx, k := s.cx.mode,
         pd := f.d.toNat } })).modRc (Claims.awaitsClock s f.d.toNat))) ∧
     (s.runs (.clkdiv h f) 0 = true → s.here.clk ≠ none → exec (.clkdiv h f) s = .next (Claims.held s .plain)))

/-- R138, R139, R182, R327: a REP with no repetition left does nothing but end. A REP of an S or V target issues its next repetition,
the target with its register numbers advanced modulo 32, and leaves the one after it to `repRepetition`, which does the same; what it
does is what that instruction does, and for an ADD it is written out. Numbers that make no instruction trap ILLEGAL_ENCODING. That an
interrupted REP begins at REP_IDX only at its own address, and that its count is read again, are the model's choices (logs 44 and 64). -/
def Obligations.Repeats : Prop :=
  ∀ (h k : Hdr) (f : CF) (x : RepF) (g : S32) (s : State) (c : CoreId) (i j : Instr) (u : State),
    (s.runs (.rep h f x) 0 = true → s.cur.group = [.rep h f x, i] →
      Claims.repCount s f x ≤ Claims.firstRep s →
      exec (.rep h f x) s = .next (s.clean.modCx (fun y =>
        { y with rep := none, repIdx := 0, repAt := none, pc := s.cur.next }))) ∧
    (s.runs (.rep h f x) 0 = true → s.cur.group = [.rep h f x, .add k g] →
      Claims.firstRep s < Claims.repCount s f x → s.runs (.add k (Claims.repAdd g x (Claims.firstRep s))) 1 = true →
      exec (.rep h f x) s = .next (Claims.repeatsAdd s (Claims.repBegins s f x (.add k g)) g x)) ∧
    (∀ p ∈ s.cx.rep.toList, s.cur.core = c → s.cur.slot = (s.core c).act → s.cur.gpc = s.cx.pc → s.cur.base = s.serial →
      p.target = .add k g → p.sd = x.sd.toNat → p.sa = x.sa.toNat → p.sb = x.sb.toNat →
      s.runs (.add k (Claims.repAdd g x p.idx)) 1 = true →
      exec (.repRepetition c) s = .next (Claims.repeatsAdd s p g x)) ∧
    (s.runs (.rep h f x) 0 = true → s.cur.group = [.rep h f x, i] → Claims.firstRep s < Claims.repCount s f x →
      decodeSV (Claims.repWords (Claims.repBegins s f x i)).1 = some j →
      exec j (Claims.repWarned (Claims.repBegun s (Claims.repBegins s f x i)) (Claims.repBegins s f x i)) = .next u →
      exec (.rep h f x) s = .next (Claims.repAnswer (Claims.repBegun s (Claims.repBegins s f x i)) (Claims.repBegins s f x i) u)) ∧
    (∀ p ∈ s.cx.rep.toList, s.cur.core = c → s.cur.slot = (s.core c).act → s.cur.gpc = s.cx.pc → s.cur.base = s.serial →
      (decodeSV (Claims.repWords p).1 = some j → exec j (Claims.repWarned s p) = .next u →
        exec (.repRepetition c) s = .next (Claims.repAnswer s p u)) ∧
      (decodeSV (Claims.repWords p).1 = none →
        exec (.repRepetition c) s = .next
          { (Claims.repIssues s p).takeTrap { cause := 0x01, tval := ((Claims.repWords p).1.headD 0).setWidth 64 } with
            mark := .trapped { cause := 0x01, tval := ((Claims.repWords p).1.headD 0).setWidth 64 } }))

/-- R175, R183, R324, R340: TRAP, SYSC and EBREAK take their trap, with the code of TRAP and SYSC; an EBREAK under EBRK halts
the core for the debugger, its context at the group after it.

R18, R39, R175, R361: EXIT in a handler makes it dormant; in a primary that is quiet it leaves the task, in kernel mode it
ends the whole task with STATUS 3, and it is held while the primary is not quiet.

R332: RFE returns to the mode and the address saved, its first group 3 cycles later, its shadow entries waiting for that
group; IDLE issues once something is pending, and holds its group until then. -/
def Obligations.TrapsExitReturnAndIdle : Prop :=
  (∀ (h : Hdr) (b : BF) (f : CF) (s : State),
     (s.runs (.trap h b) 0 = true → exec (.trap h b) s =
       .next (Claims.trapped s { cause := 0x0C, code := (b.sb ++ b.sa).setWidth 16 })) ∧
     (s.runs (.sysc h f) 0 = true → exec (.sysc h f) s =
       .next (Claims.trapped s { cause := 0x0B, code := (f.e ++ f.a).setWidth 16 })) ∧
     (s.runs (.ebreak h f) 0 = true → s.here.dbgEbrk = false → exec (.ebreak h f) s =
       .next (Claims.trapped s { cause := 0x0A })) ∧
     (s.runs (.ebreak h f) 0 = true → s.here.dbgEbrk = true → exec (.ebreak h f) s =
       .next { (s.clean.modCx (fun x => { x with pc := s.cur.next })).modHere
         (fun k => { k.halt (k.cycle + 1) with dbgEbh := true, haltedAt := s.steps }) with cur := { s.cur with taken := true } })) ∧
  (∀ (h : Hdr) (f : BF) (s : State), s.runs (.exit h f) 0 = true →
     (s.cur.ctx ≠ .primary →
       exec (.exit h f) s = .next (s.clean.modCx (fun x => { x with run := .dormant }))) ∧
     (s.cur.ctx = .primary → s.cx.mode = true →
       exec (.exit h f) s = .next ((s.clean.endTask s.rc.task 3 (s.cx.tcause.extractLsb' 0 8) 0).modCx
         (fun x => { x with run := .gone }))) ∧
     (s.cur.ctx = .primary → s.cx.mode = false → s.rc.quiet = false →
       exec (.exit h f) s = .next (Claims.held s .plain)) ∧
     (s.cur.ctx = .primary → s.cx.mode = false → s.rc.quiet = true →
       exec (.exit h f) s = .next (s.clean.leaveTask s.cur.core s.cur.slot) ∧
       (s.clean.leaveTask s.cur.core s.cur.slot).rc.occ = false ∧
       (s.clean.leaveTask s.cur.core s.cur.slot).rc.left = true ∧
       (s.clean.leaveTask s.cur.core s.cur.slot).rc.primary.run = .gone ∧
       (s.clean.leaveTask s.cur.core s.cur.slot).here.kept = s.here.kept ++ [(s.rc.task, s.rc.spBase, s.rc.spSize)] ∧
       (s.clean.leaveTask s.cur.core s.cur.slot).mem = s.mem)) ∧
  (∀ (h : Hdr) (f : CF) (s : State),
     (s.runs (.rfe h f) 0 = true → exec (.rfe h f) s = .next { s.clean.modCx (fun x =>
       { x with
         mode := x.pmode, pc := x.tepc, prep := none, ready := s.here.cycle + 3
         repIdx := if x.repAt = some x.tepc then x.repIdx else 0
         repAt := if x.repAt = some x.tepc then some x.tepc else none
         shadow := x.shadow.map (fun e => { e with on := .own }) }) with cur := { s.cur with taken := true } }) ∧
     (s.runs (.idle h f) 0 = true → s.awake = true → exec (.idle h f) s = .next s.clean) ∧
     (s.runs (.idle h f) 0 = true → s.awake = false → exec (.idle h f) s = .next (Claims.held s .plain)))

/-- R377 to R379: each TLBI begins its shootdown at issue, at the peers that it must reach; RWFLUSH reaches none. -/
def Obligations.Shootdowns : Prop :=
  ∀ (h : Hdr) (f : CF) (s : State),
    (s.runs (.tlbiPage h f) 0 = true → exec (.tlbiPage h f) s = .next (Claims.shotDown s 0 s.rc.root (s.sreg f.a))) ∧
    (s.runs (.tlbiSpace h f) 0 = true → exec (.tlbiSpace h f) s =
      .next (Claims.shotDown s 1 ((s.sreg f.a).extractLsb' 12 34) 0)) ∧
    (s.runs (.tlbiPart h f) 0 = true → exec (.tlbiPart h f) s = .next (Claims.shotDown s 2 0 0)) ∧
    (s.runs (.tlbiReplica h f) 0 = true → exec (.tlbiReplica h f) s =
      .next (Claims.shotDown s 3 s.rc.root (s.sreg f.a))) ∧
    (s.runs (.tlbiRwflush h f) 0 = true → exec (.tlbiRwflush h f) s =
      .next (Claims.shotDown s 4 0 0)) ∧
    (s.runs (.tlbiRcinit h f) 0 = true → exec (.tlbiRcinit h f) s =
      .next (Claims.shotDown s 5 s.rc.root (s.sreg f.a)))

namespace Sys2Proof.Claims

/-- The state with the issuing context's engine changed. -/
def engDoes (s : State) (g : Engine → Engine) : State := s.clean.modRc (fun r => { r with eng := g r.eng })

/-- The engine takes another command: no fault whose record waits, and fewer than four in the queue (R223, R250). -/
def roomFor (s : State) : Bool := !s.rc.eng.faulted && decide (s.rc.eng.queue.length < 4)

/-- MMODE's K: 1 to 32 in RANKED mode, 0 in SUM mode (R228). -/
def clampK (f : MF) : Nat := if f.mode = 1 then (if f.k = 0 then 1 else min f.k.toNat 32) else 0

/-- The routine image in the own scratchpad at s_SA: its two header words, then its offsets and its words (R230). -/
def imageOf (load e : Nat) (body : List Byte) : Image :=
  { load := load, offsets := ((words32 body).take e).map (fun w => w.toNat), words := (words32 body).drop e }

/-- A transfer in the first free slot with all that it captures at issue (R252, R253). -/
def captured (s : State) (g : Res → Res) (i : Instr) (f : XF) (t : BitVec 22) (n : Nat) : State :=
  { s.clean.modRc (fun r => { g r with xfers := r.xfers.put none n (some
      { serial := s.serial, ins := i, ctx := s.cur.ctx, pc := s.cur.ipc
        xa := s.sreg f.xa, xb := s.sreg f.xb, xc := s.sreg f.xc, xh := s.sreg f.xh
        sa := s.stream f.xa, sb := s.stream f.xb, target := t, xid := s.fab.xid }) }) with
    fab := { s.fab with xid := s.fab.xid + 1 }, serial := s.serial + 1 }

/-- The target of R254: s_XC, or the issuing core itself for XC = 0. -/
def targetOf (s : State) (f : XF) : BitVec 22 :=
  if f.xc = 0 then s.domain ++ s.peer ++ s.cur.core else (s.sreg f.xc).extractLsb' 0 22
/-- The package that SEND and SENDM name: peer K of the domain in s_XC, or of the own domain (R271). -/
def packageOf (s : State) (f : XF) : BitVec 22 :=
  (if f.xc = 0 then s.domain else (s.sreg f.xc).extractLsb' 0 4) ++ f.k ++ 0#12
/-- A system core ID of another package. -/
def elsewhere (s : State) (t : BitVec 22) : Bool := decide (t.extractLsb' 12 10 ≠ s.domain ++ s.peer)

/-- The way to a target is open at issue (R274, R275): a target in the package; a peer whose link is up and not quiesced; a
domain whose circuit is up and not held, its gateway this package or such a peer. -/
def wayOpen (s : State) (t : BitVec 22) : Bool :=
  let link := fun (p : PeerId) => s.linkMode s.rc.part p.toNat != 0 && !s.fab.quiesced p.toNat
  if elsewhere s t = false then true
  else if t.extractLsb' 18 4 = s.domain then link (t.extractLsb' 12 6)
  else !s.fab.heldDomains.contains (t.extractLsb' 18 4) && circuitUp (s.circuit (t.extractLsb' 18 4)) &&
    (circuitGateway (s.circuit (t.extractLsb' 18 4)) == s.peer || link (circuitGateway (s.circuit (t.extractLsb' 18 4))))

/-- LINK_STATE of a peer as the core reads it: MODE is 0; it is not, and QUIESCED is set (R80, R274). -/
def linkGone (s : State) (p : PeerId) : Bool := s.linkMode s.rc.part p.toNat == 0
def linkQuiet (s : State) (p : PeerId) : Bool := s.linkMode s.rc.part p.toNat != 0 && s.fab.quiesced p.toNat

/-- The target cannot be reached (R274, R275): its link has MODE 0; in another domain the circuit is down, or the gateway's link has MODE 0. -/
def wayGone (s : State) (t : BitVec 22) : Bool :=
  elsewhere s t &&
  (if t.extractLsb' 18 4 = s.domain then linkGone s (t.extractLsb' 12 6)
   else !s.fab.heldDomains.contains (t.extractLsb' 18 4) && (!circuitUp (s.circuit (t.extractLsb' 18 4)) ||
     (circuitGateway (s.circuit (t.extractLsb' 18 4)) != s.peer && linkGone s (circuitGateway (s.circuit (t.extractLsb' 18 4))))))
/-- The way to it is closed for a while: the link, or the gateway's, is QUIESCED, or a TOPO holds the way to the domain (R274, R420). -/
def wayQuiet (s : State) (t : BitVec 22) : Bool :=
  elsewhere s t &&
  (if t.extractLsb' 18 4 = s.domain then linkQuiet s (t.extractLsb' 12 6)
   else s.fab.heldDomains.contains (t.extractLsb' 18 4) || (circuitUp (s.circuit (t.extractLsb' 18 4)) &&
     circuitGateway (s.circuit (t.extractLsb' 18 4)) != s.peer && linkQuiet s (circuitGateway (s.circuit (t.extractLsb' 18 4)))))

/-- PUT, PUT.glob, GET, GET.glob, XFLAG. -/
def remoteForms : List (Hdr → XF → Instr) := [.put, .putGlob, .get, .getGlob, .xflag]

/-- The handler address of a PUT is a multiple of 4 (R267); the others have none. -/
def handlerOk (s : State) (i : Instr) (f : XF) : Bool :=
  match i with
  | .put .. | .putGlob .. => decide (f.xh = 0) || decide ((s.sreg f.xh).toNat % 4 = 0)
  | _ => true

end Sys2Proof.Claims

/-- R252, R253, R266, R267, R271 to R275: a transfer to a target whose way is open takes the first free slot; without one its
group is held. A target whose link has MODE 0, or whose circuit is down, traps FABRIC_UNREACHABLE with its peer number, and one that is
QUIESCED or held by a TOPO holds the group. A PUT whose handler is no multiple of 4 traps ALIGN. A SENDM of no expert, with a slot free, posts its flag and
sends nothing; its group needs the slot all the same. -/
def Obligations.TransfersIssue : Prop :=
  ∀ (h : Hdr) (f : XF) (lit : W32) (s : State) (n : Nat),
    (∀ form ∈ Claims.remoteForms, s.runs (form h f) 0 = true → Claims.handlerOk s (form h f) f = true →
      Claims.wayOpen s (Claims.targetOf s f) = true →
      (s.freeSlot = some n →
        exec (form h f) s = .next (Claims.captured s id (form h f) f (Claims.targetOf s f) n)) ∧
      (s.freeSlot = none → exec (form h f) s = .next (Claims.held s .plain))) ∧
    (∀ form ∈ Claims.remoteForms, s.runs (form h f) 0 = true → Claims.handlerOk s (form h f) f = false →
      exec (form h f) s = .next (Claims.trapped s { cause := 0x06, tval := s.sreg f.xh })) ∧
    (s.runs (.send h f) 0 = true → Claims.wayOpen s (Claims.packageOf s f) = true → s.freeSlot = some n →
      exec (.send h f) s = .next (Claims.captured s id (.send h f) f (Claims.packageOf s f) n)) ∧
    (s.runs (.sendm h f lit) 0 = true → Claims.wayOpen s (Claims.packageOf s f) = true → lit ≠ 0 →
      s.freeSlot = some n →
      exec (.sendm h f lit) s = .next (Claims.captured s id (.sendm h f lit) f (Claims.packageOf s f) n)) ∧
    (s.runs (.sendm h f lit) 0 = true → Claims.wayOpen s (Claims.packageOf s f) = true → lit = 0 → s.freeSlot = some n →
      exec (.sendm h f lit) s =
        .next (let t := { s.clean with cur := { s.cur with spent := s.cur.spent + 1 } }
               if f.fnone then t else t.postAt s.cur.core s.cur.slot f.f 1 s.cur.ipc)) ∧
    (∀ i ∈ [Instr.send h f, .sendm h f lit], s.runs i 0 = true → Claims.wayOpen s (Claims.packageOf s f) = true →
      s.freeSlot = none → exec i s = .next (Claims.held s .plain)) ∧
    (∀ form ∈ Claims.remoteForms, s.runs (form h f) 0 = true → Claims.handlerOk s (form h f) f = true →
      (Claims.wayGone s (Claims.targetOf s f) = true →
        exec (form h f) s = .next (Claims.trapped s { cause := 0x09, sub := ((Claims.targetOf s f).extractLsb' 12 6).setWidth 8 })) ∧
      (Claims.wayQuiet s (Claims.targetOf s f) = true → exec (form h f) s = .next (Claims.held s .plain))) ∧
    (∀ i ∈ [Instr.send h f, .sendm h f lit], s.runs i 0 = true →
      (Claims.wayGone s (Claims.packageOf s f) = true →
        exec i s = .next (Claims.trapped s { cause := 0x09, sub := ((Claims.packageOf s f).extractLsb' 12 6).setWidth 8 })) ∧
      (Claims.wayQuiet s (Claims.packageOf s f) = true → exec i s = .next (Claims.held s .plain)))

/-- R252 to R255, R259: a copy inside the package takes the first free slot with all it captures at issue; CPY names cores of
the package alone, RANKMERGE cores of the cluster. That RANKMERGE's trap gives s_XC as its TVAL, as sub-cause 9 does, is the model's choice
(log 31).

R273, R373: PREF (to the L1 or to the slice) asks for the line of an address that it may read, and has no effect where the
address has no translation or may not be read; FLUSH asks for the line likewise, or traps XLATE or ACCESS there, or HW_ERROR where the
line's die is fenced (R456); both wait for the walk on a miss in the TLBs. -/
def Obligations.CopiesAndLinesIssue : Prop :=
  (∀ (h : Hdr) (f : XF) (s : State) (n : Nat), s.freeSlot = some n →
     (s.runs (.cpyPlain h f) 0 = true → Claims.elsewhere s (Claims.targetOf s f) = false →
       exec (.cpyPlain h f) s = .next (Claims.captured s (Claims.warned s (decide (f.k ≠ 0)) 0x1D) (.cpyPlain h f) f
         (Claims.targetOf s f) n)) ∧
     (s.runs (.cpyConvert h f) 0 = true → Claims.elsewhere s (Claims.targetOf s f) = false →
       exec (.cpyConvert h f) s = .next (Claims.captured s
         (fun r => Claims.warned s (decide (f.k ≠ 0)) 0x1D
           (Claims.warned s (decide ((s.stream f.xa).scaleMode ≠ 0 ∧ 5 ≤ (s.stream f.xa).format.toNat)) 0x16 r))
         (.cpyConvert h f) f (Claims.targetOf s f) n)) ∧
     (∀ i ∈ [Instr.cpyPlain h f, .cpyConvert h f], s.runs i 0 = true → Claims.elsewhere s (Claims.targetOf s f) = true →
       exec i s = .next (Claims.trapped s { cause := 0x05, sub := 9, tval := s.sreg f.xc })) ∧
     (s.runs (.cpyRank h f) 0 = true → exec (.cpyRank h f) s =
       .next (Claims.captured s id (.cpyRank h f) f (s.domain ++ s.peer ++ s.cur.core) n)) ∧
     (s.runs (.cpyRankmerge h f) 0 = true → Claims.elsewhere s (Claims.targetOf s f) = false →
       ((Claims.targetOf s f).extractLsb' 0 12).toNat / 64 = s.cur.core.toNat / 64 →
       exec (.cpyRankmerge h f) s = .next (Claims.captured s id (.cpyRankmerge h f) f (Claims.targetOf s f) n)) ∧
     (s.runs (.cpyRankmerge h f) 0 = true →
       Claims.elsewhere s (Claims.targetOf s f) = true ∨
         ((Claims.targetOf s f).extractLsb' 0 12).toNat / 64 ≠ s.cur.core.toNat / 64 →
       exec (.cpyRankmerge h f) s = .next (Claims.trapped s { cause := 0x05, sub := 7, tval := s.sreg f.xc }))) ∧
  (∀ (h : Hdr) (f : XF) (s : State) (pa : Nat) (pte : W64), ∀ row ∈ [(Instr.pref h f, (0 : W64)), (.prefSlice h f, 1)],
     (s.look s.cur.core s.rc.root (s.sreg f.xa).toNat = .hit pa pte →
       s.denied s.rc.part s.cx.mode .load false pte pa = none →
       (s.runs row.1 0 = true → exec row.1 s = .next (Claims.posted s id (Claims.request s .ls .pref
         [{ addr := [pa / 128 * 128], data := row.2, va := (s.sreg f.xa).setWidth 48
            cached := pteHome pte == 0 && !pteRo pte, ro := pteRo pte }]))) ∧
       (s.runs (.flush h f) 0 = true → (s.die (s.homeDie pa)).fenced = true →
         exec (.flush h f) s = .next (Claims.trapped s { cause := 0x0E, tval := BitVec.ofNat 64 pa })) ∧
       (s.runs (.flush h f) 0 = true → (s.die (s.homeDie pa)).fenced = false → exec (.flush h f) s = .next (Claims.posted s id (Claims.request s .ls .flush
         [{ addr := [pa / 128 * 128], va := (s.sreg f.xa).setWidth 48, cached := pteHome pte == 0 && !pteRo pte,
            ro := pteRo pte }])))) ∧
     (∀ k : Byte, s.look s.cur.core s.rc.root (s.sreg f.xa).toNat = .hit pa pte →
       s.denied s.rc.part s.cx.mode .load false pte pa = some k →
       (s.runs row.1 0 = true → exec row.1 s = .next s.clean) ∧
       (s.runs (.flush h f) 0 = true →
         exec (.flush h f) s = .next (Claims.trapped s { cause := 0x05, sub := k, tval := s.sreg f.xa }))) ∧
     (∀ k : Byte, s.look s.cur.core s.rc.root (s.sreg f.xa).toNat = .fault k →
       (s.runs row.1 0 = true → exec row.1 s = .next s.clean) ∧
       (s.runs (.flush h f) 0 = true →
         exec (.flush h f) s = .next (Claims.trapped s { cause := 0x04, sub := k, tval := s.sreg f.xa }))) ∧
     (s.look s.cur.core s.rc.root (s.sreg f.xa).toNat = .miss → ∀ i ∈ [row.1, .flush h f], s.runs i 0 = true →
       exec i s = .next (Claims.held s (.walk s.rc.root ((s.sreg f.xa).setWidth 48)))))

namespace Sys2Proof.Claims

/-- The engine of the issuing resident context runs a routine, and nothing stops it (R224, R236, R250). -/
def routine (s : State) (k : Call) : Prop :=
  s.rc.eng.call = some k ∧ s.rc.eng.stopped = false ∧ s.rc.eng.faulted = false ∧
  (s.rc.place = .here ∨ s.rc.place = .saving)

/-- The state after a step that changes the engine alone, its position at the next word unless g says otherwise. -/
def stepped (s : State) (g : Engine → Engine) : State :=
  s.modRc (fun r => { r with eng := g { r.eng with pos := r.eng.pos + 1, waits := false } })

/-- m_n takes a value. -/
def withM (n : BitVec 4) (x : W32) (e : Engine) : Engine := { e with m := e.m.put 0 n.toNat x }
def mOf (s : State) (n : BitVec 4) : W32 := s.rc.eng.m.get 0 n.toNat

/-- The tile a step names by an offset from its routine's base (R227). -/
def tileNo (k : Call) (off : Nat) : Nat := (k.acc.toNat + off) % 8
def tileOf (s : State) (n : Nat) : Tile := s.rc.eng.tiles.get {} n

/-- A step of the routine faults: it has no effect of its own, the engine drops its routine, its commands and its buffers, and the
fault's record waits for delivery (R250). -/
def stepFaults (s : State) (k : Call) (i : Instr) (code : Byte) (sub stream : BitVec 4) (va : VAddr) : Prop :=
  ∃ t, exec i s = .next t ∧
    t.rc.faults = s.rc.faults ++ [{ stream := stream, step := s.rc.eng.pos, routine := k.idx, sub := sub, code := code, pc := k.pc,
                                    va := va }] ∧
    t.rc.eng.faulted = true ∧ t.rc.eng.call = none ∧ t.rc.eng.queue = [] ∧ t.rc.eng.bufs = [] ∧
    t.rc.eng.tiles = s.rc.eng.tiles ∧ t.rc.eng.m = s.rc.eng.m ∧ t.mem = s.mem

/-- Row i of an A buffer and column j of a B buffer as exact values, l of them (R238, R240). -/
def rowOf (a : Buf) (l i : Nat) : List Ex :=
  (List.range l).map (fun c => bufValue a.desc.format.toNat (a.data.get 0 (i * l + c)))
def colOf (b : Buf) (l j : Nat) : List Ex :=
  (List.range l).map (fun r => bufValue b.desc.format.toNat (b.data.get 0 (r * 64 + j)))

/-- The exact sums of products that TMAC forms, one for each row, column and sub-chunk, with their flags (R98, R240). -/
def macSums (a b : Buf) (fp : Bool) : List (Nat × Ex × Flags8) :=
  let l := chunkOf a.desc.format.toNat
  let u := if fp then subLen a.desc b.desc else l
  (List.range 64).flatMap (fun i => (List.range 64).flatMap (fun j => (List.range (l / u)).map (fun q =>
    ((i * 64 + j) * 4 + q, dotEx ((((rowOf a l i).zip (colOf b l j)).drop (u * q)).take u)))))
/-- The sums as the engine holds them: a zero is the same as nothing listed. -/
def macHolds (a b : Buf) (fp : Bool) : XSums :=
  let l := chunkOf a.desc.format.toNat
  { fp := fp, subs := l / (if fp then subLen a.desc b.desc else l)
    vals := ((macSums a b fp).filter (fun e => e.2.1 != Ex.zero)).map (fun e => (e.1, e.2.1)) }

/-- The entries of a SUM tile promoted, keyed by 64 x row + column, with the flags of each (R241). -/
def promoted (s : State) (f : UF) (x : XSums) (n : Nat) : List (Nat × W32 × Flags8) :=
  (List.range 4096).map (fun i => (i, promoteEntry s.rc.eng x (f.imm.getLsbD 3) (tileOf s n) (i / 64) (i % 64)))

/-- What TRANK offers: row, value and index, with the flags of an integer's conversion (R243). -/
def offered (s : State) (f : UF) (src : Nat) : List (Nat × (W32 × W32) × Flags8) :=
  (List.range 4096).map (fun i =>
    let v := (tileOf s src).sum.get 0 i
    let y := if f.imm.getLsbD 6 then Fmt.f32.round .rne false (Ex.ofInt v.toInt) else (v.toNat, 0)
    (i / 64, (BitVec.ofNat 32 y.1, mOf s f.ma + BitVec.ofNat 32 (i % 64)), y.2))

/-- The stream that TFA, TFB or TDRAIN names. -/
def streamAt (s : State) (n : Nat) : Stream := s.rc.streams.get {} n

/-- The places a fetch reads, with their keys in the buffer (R237, R238). -/
def fetchSpots (s : State) (isA : Bool) (f : UF) : List (Nat × Reached) :=
  let t := streamAt s (f.imm.toNat % 16)
  (fetchPlan t isA (mOf s f.ma).toNat (mOf s f.mb).toNat (if f.imm.getLsbD 5 then (mOf s f.mc).toNat else 0)).map (fun e =>
    (e.1, s.reachIn s.cur.core s.cur.slot t .load (t.at3 e.2.1 e.2.2.1 e.2.2.2) (elemBytes t.format.toNat)))

/-- Nothing makes a step wait for the places it reaches: no FPOST before the call orders a write that is not performed (R286), and
every line, those of the tables walked among them, is free (R111, R118, R371). -/
def mayReach (s : State) (k : Call) (ps : List Piece) : Bool :=
  !s.postHeld s.cur.core s.cur.slot k.serial && ps.all (s.reachFree s.cur.core s.cur.slot .mf)
/-- Nor for those it reads: none carries a release that covers the core and whose earlier stores are still on their way (R284). -/
def mayRead (s : State) (k : Call) (ps : List Piece) : Bool :=
  mayReach s k ps && !ps.any (s.tooEarly s.cur.core s.rc.groupSet)

/-- The places of the scales of two buffers' blocks, with their keys: 4 x row + sub-chunk for A, 64 x sub-chunk + column for B, 4
bytes each, none where a stream applies no scale (R96, R239). -/
def scalesOfA (s : State) (a b : Buf) : List (Nat × Reached) :=
  let ta := s.scaleStream a
  let u := subLen ta (s.scaleStream b)
  let l := chunkOf ta.format.toNat
  if ta.scaled then (List.range 64).flatMap (fun r => (List.range (l / u)).filterMap (fun q =>
    if ta.inside 0 (64 * a.a + r) (l * a.b + u * q) then
      some (r * 4 + q, s.reachIn s.cur.core s.cur.slot ta .load (ta.scaleAt (64 * a.a + r) (l * a.b + u * q)) 4)
    else none))
  else []
def scalesOfB (s : State) (a b : Buf) : List (Nat × Reached) :=
  let tb := s.scaleStream b
  let u := subLen (s.scaleStream a) tb
  let l := chunkOf (s.scaleStream a).format.toNat
  if tb.scaled then (List.range (l / u)).flatMap (fun q => (List.range 64).filterMap (fun j =>
    if tb.inside 0 (l * b.a + u * q) (64 * b.b + j) then
      some (q * 64 + j, s.reachIn s.cur.core s.cur.slot tb .load (tb.scaleAt (l * b.a + u * q) (64 * b.b + j)) 4)
    else none))
  else []
/-- The scales read, as the engine holds them: 1 where none is listed. -/
def scalesAt (s : State) (l : List (Nat × Reached)) (ps : List Piece) : Tab W32 :=
  Tab.putAll 0x3F800000 [] ((l.zip ps).map (fun q => (q.1.1, BitVec.ofNat 32 (bytesAt s q.2.addr))))

/-- The buffer that a fetch fills. -/
def bufferOf (r : Res) (isA second : Bool) : Option Buf :=
  match isA, second with
  | true, false => r.eng.fa0
  | true, true => r.eng.fa1
  | false, false => r.eng.fb0
  | false, true => r.eng.fb1

/-- A SUM tile with the sums promoted, a zero being the same as nothing listed. -/
def sumTile (d : Tile) (l : List (Nat × W32 × Flags8)) : Tile :=
  { d with sum := (l.filter (fun o => o.2.1 != 0)).map (fun o => (o.1, o.2.1)) }

/-- The engine with one tile replaced. -/
def setTile (n : Nat) (d : Tile) (e : Engine) : Engine := { e with tiles := e.tiles.put {} n d }

/-- The float flags a step raises reach FSTAT (R83). -/
def raise (l : List Flags8) (s : State) : State :=
  s.modRc (fun r => { r with fstat := r.fstat ||| l.foldl (fun a b => a ||| b) 0 })

/-- What TDRAIN writes, inside the stream's counts: row, column, bits, flags (R242). -/
def drained (s : State) (f : UF) (n : Nat) : List (Nat × Nat × Nat × Flags8) :=
  (drainPlan (tileOf s n) (f.imm.getLsbD 8) (streamAt s (f.imm.extractLsb' 3 4).toNat).format.toNat
    (mOf s f.ma).toNat (mOf s f.mb).toNat).filter
    (fun e => (streamAt s (f.imm.extractLsb' 3 4).toNat).inside 0 e.1 e.2.1)

/-- The formats that the engine fetches: t5 at the B side alone (R238). -/
def fetchFormats (isA : Bool) : List Nat := if isA then [1, 2, 3, 4, 7, 10] else [1, 2, 3, 4, 7, 10, 11]

end Sys2Proof.Claims

/-- R234 to R236, R250: the control steps of a running routine: TNOP, TSET in its four modes, which faults (1) on a tile that is not
allocated, TLOOP and TEND, TJMP, TYLD, TFLAG, and TRET, which ends the routine and posts its flag. That a TEND with no loop open
goes on, and that TRET ends the loops still open, is the model's choice (log 59). -/
def Obligations.EngineControlSteps : Prop :=
  ∀ (f : UF) (s : State) (k : Call), Claims.routine s k →
    exec (.tnop f) s = .next (Claims.stepped s id) ∧
    ((f.imm.extractLsb' 10 2).toNat = 0 → exec (.tset f) s = .next (Claims.stepped s (Claims.withM f.ma
      (if f.imm.getLsbD 3 then (k.mp.get 0 (f.imm.toNat % 8)).extractLsb' 32 32
       else (k.mp.get 0 (f.imm.toNat % 8)).extractLsb' 0 32)))) ∧
    ((f.imm.extractLsb' 10 2).toNat = 1 → exec (.tset f) s = .next (Claims.stepped s (Claims.withM f.ma
      ((f.imm.extractLsb' 0 10).signExtend 32)))) ∧
    ((f.imm.extractLsb' 10 2).toNat = 2 → exec (.tset f) s = .next (Claims.stepped s (Claims.withM f.ma
      (Claims.mOf s f.mb + (f.imm.extractLsb' 0 10).signExtend 32)))) ∧
    ((f.imm.extractLsb' 10 2).toNat = 3 → Claims.tileNo k (f.imm.toNat % 8) < s.rc.tiles →
      exec (.tset f) s = .next (Claims.stepped s (Claims.withM f.ma
        (Claims.tileOf s (Claims.tileNo k (f.imm.toNat % 8))).reject))) ∧
    ((f.imm.extractLsb' 10 2).toNat = 3 → s.rc.tiles ≤ Claims.tileNo k (f.imm.toNat % 8) →
      Claims.stepFaults s k (.tset f) 1 0 0 0) ∧
    (Claims.mOf s f.ma = 0 → exec (.tloop f) s = .next (Claims.stepped s (fun e =>
      { e with pos := BitVec.ofNat 12 (afterEnd e 4096 e.pos.toNat 0) }))) ∧
    (Claims.mOf s f.ma ≠ 0 → exec (.tloop f) s = .next (Claims.stepped s (fun e =>
      { e with loops := (e.pos, BitVec.ofNat 12 (afterEnd e 4096 e.pos.toNat 0), Claims.mOf s f.ma) :: e.loops }))) ∧
    (∀ e ∈ s.rc.eng.loops.head?, exec (.tend f) s = .next (Claims.stepped s (fun g =>
      if e.2.2 = 1 then { g with loops := g.loops.tail }
      else { g with pos := e.1, loops := (e.1, e.2.1, e.2.2 - 1) :: g.loops.tail }))) ∧
    (s.rc.eng.loops = [] → exec (.tend f) s = .next (Claims.stepped s id)) ∧
    (f.mb = 0 ∨ (f.mb = 1 ∧ Claims.mOf s f.ma = 0) ∨ (f.mb = 2 ∧ Claims.mOf s f.ma ≠ 0) →
      exec (.tjmp f) s = .next (Claims.stepped s (fun e => { e with pos := s.rc.eng.pos + f.imm }))) ∧
    (¬(f.mb = 0 ∨ (f.mb = 1 ∧ Claims.mOf s f.ma = 0) ∨ (f.mb = 2 ∧ Claims.mOf s f.ma ≠ 0)) →
      exec (.tjmp f) s = .next (Claims.stepped s id)) ∧
    exec (.tyld f) s = .next (Claims.stepped s (fun e =>
      if s.rc.place = .saving ∨ s.here.halted = true then { e with stopped := true } else e)) ∧
    exec (.tflag f) s = .next ((Claims.stepped s id).postAt s.cur.core s.cur.slot (f.imm.extractLsb' 0 5) 1 k.pc) ∧
    exec (.tret f) s = .next ((((Claims.stepped s id).unpin s.cur.core s.cur.slot).modRc (fun r =>
      { r with eng := { r.eng with call := none, loops := [] } })).postAt s.cur.core s.cur.slot k.f 1 k.pc)

/-- R237, R238, R250: TFA and TFB fill the buffer they name with the elements of a stream's chunk, as memory holds them, when every
place is reached and the task logs no races (R390); no byte of memory changes. A FORMAT that the engine does not fetch and COUNT0
0 fault (2). -/
def Obligations.EngineFetches : Prop :=
  ∀ (isA : Bool) (f : UF) (s : State) (k : Call) (ps : List Piece) (absent : Bool), Claims.routine s k →
    ((Claims.streamAt s (f.imm.toNat % 16)).count0 ≠ 0 →
      (Claims.streamAt s (f.imm.toNat % 16)).format.toNat ∈ Claims.fetchFormats isA →
      gatherAll ((Claims.fetchSpots s isA f).map (fun e => e.2)) = .ok (ps, absent) → Claims.mayRead s k ps = true →
      s.raceMode s.rc.task ≠ 1 →
      ∃ t, exec (if isA then .tfa f else .tfb f) s = .next t ∧ t.rc.eng.pos = s.rc.eng.pos + 1 ∧
        (Claims.bufferOf t.rc isA (f.imm.getLsbD 4)).map (fun b => (b.num, b.desc, b.a, b.b, b.data)) =
          some (f.imm.toNat % 16, Claims.streamAt s (f.imm.toNat % 16), (Claims.mOf s f.ma).toNat, (Claims.mOf s f.mb).toNat,
            Tab.putAll 0 [] (((Claims.fetchSpots s isA f).zip ps).map (fun q => (q.1.1,
              fetchBits (Claims.streamAt s (f.imm.toNat % 16)) isA (Claims.mOf s f.mb).toNat q.1.1
                (Claims.bytesAt s q.2.addr))))) ∧
        t.mem = s.mem) ∧
    ((Claims.streamAt s (f.imm.toNat % 16)).count0 = 0 ∨
        (Claims.streamAt s (f.imm.toNat % 16)).format.toNat ∉ Claims.fetchFormats isA →
      Claims.stepFaults s k (if isA then .tfa f else .tfb f) 2 0 (f.imm.extractLsb' 0 4) 0)

/-- R240, R241, R243, R250: TMAC forms the sums of products of both buffers and raises their flags, TPROM adds the sums to a SUM
tile's entries, TRANK offers a SUM tile's entries to a RANKED one. A step faults that names an empty buffer or sums that are not
there (4), formats that do not pair (2), a tile that is not allocated (1), or one in the other mode (3). That TPROM on a RANKED tile
faults (3) though no sums are there, and that A's stream stands in the record of formats that do not pair, are the model's
choices (log 58). -/
def Obligations.EngineComputes : Prop :=
  ∀ (f : UF) (s : State) (k : Call) (a b : Buf) (x : XSums) (fp : Bool), Claims.routine s k →
    (s.rc.eng.fa (f.imm.getLsbD 0) = some a → s.rc.eng.fb (f.imm.getLsbD 1) = some b →
      operandKind a.desc.format.toNat b.desc.format.toNat = some fp →
      ∃ t, exec (.tmac f) s = .next t ∧ t.rc.eng.pos = s.rc.eng.pos + 1 ∧ t.rc.eng.x = some (Claims.macHolds a b fp) ∧
        t.rc.fstat = s.rc.fstat ||| ((Claims.macSums a b fp).map (fun e => e.2.2)).foldl (fun a b => a ||| b) 0 ∧
        t.rc.eng.tiles = s.rc.eng.tiles ∧ t.mem = s.mem) ∧
    (s.rc.eng.fa (f.imm.getLsbD 0) = some a → s.rc.eng.fb (f.imm.getLsbD 1) = some b →
      operandKind a.desc.format.toNat b.desc.format.toNat = none →
      Claims.stepFaults s k (.tmac f) 2 0 (BitVec.ofNat 4 a.num) 0) ∧
    (s.rc.eng.fa (f.imm.getLsbD 0) = none ∨ s.rc.eng.fb (f.imm.getLsbD 1) = none →
      Claims.stepFaults s k (.tmac f) 4 0 0 0) ∧
    (Claims.tileNo k (f.imm.toNat % 8) < s.rc.tiles →
      (Claims.tileOf s (Claims.tileNo k (f.imm.toNat % 8))).ranked = false → s.rc.eng.x = some x →
      exec (.tprom f) s = .next (Claims.raise
        ((Claims.promoted s f x (Claims.tileNo k (f.imm.toNat % 8))).map (fun o => o.2.2))
        (Claims.stepped s (Claims.setTile (Claims.tileNo k (f.imm.toNat % 8))
          (Claims.sumTile (Claims.tileOf s (Claims.tileNo k (f.imm.toNat % 8)))
            (Claims.promoted s f x (Claims.tileNo k (f.imm.toNat % 8)))))))) ∧
    (Claims.tileNo k (f.imm.toNat % 8) < s.rc.tiles →
      (Claims.tileOf s (Claims.tileNo k (f.imm.toNat % 8))).ranked = false → s.rc.eng.x = none →
      Claims.stepFaults s k (.tprom f) 4 0 0 0) ∧
    (Claims.tileNo k (f.imm.toNat % 8) < s.rc.tiles →
      (Claims.tileOf s (Claims.tileNo k (f.imm.toNat % 8))).ranked = true → Claims.stepFaults s k (.tprom f) 3 0 0 0) ∧
    (Claims.tileNo k (f.imm.toNat % 8) < s.rc.tiles → Claims.tileNo k (f.imm.toNat / 8 % 8) < s.rc.tiles →
      (Claims.tileOf s (Claims.tileNo k (f.imm.toNat % 8))).ranked = false →
      (Claims.tileOf s (Claims.tileNo k (f.imm.toNat / 8 % 8))).ranked = true →
      exec (.trank f) s = .next (Claims.raise
        ((Claims.offered s f (Claims.tileNo k (f.imm.toNat % 8))).map (fun o => o.2.2))
        (Claims.stepped s (Claims.setTile (Claims.tileNo k (f.imm.toNat / 8 % 8))
          ((Claims.offered s f (Claims.tileNo k (f.imm.toNat % 8))).foldl (fun d p => d.offer p.1 p.2.1)
            (Claims.tileOf s (Claims.tileNo k (f.imm.toNat / 8 % 8)))))))) ∧
    (Claims.tileNo k (f.imm.toNat % 8) < s.rc.tiles → Claims.tileNo k (f.imm.toNat / 8 % 8) < s.rc.tiles →
      (Claims.tileOf s (Claims.tileNo k (f.imm.toNat % 8))).ranked = true ∨
        (Claims.tileOf s (Claims.tileNo k (f.imm.toNat / 8 % 8))).ranked = false →
      Claims.stepFaults s k (.trank f) 3 0 0 0) ∧
    (∀ i ∈ [Instr.tprom f, .trank f], s.rc.tiles ≤ Claims.tileNo k (f.imm.toNat % 8) →
      Claims.stepFaults s k i 1 0 0 0)

/-- R242, R250: TDRAIN of an allocated tile writes each entry inside the stream's counts in the stream's FORMAT, once every place
is reached and the task logs no races (R390), and raises the flags of the conversions; every other byte of memory stays. With CLR = 1
the tile is cleared after the writes. A FORMAT that its tile does not have, or COUNT0 0, and a tile that is not allocated, fault
(2, 1). That INT on a RANKED tile is the fault FORMAT too is the model's reading (log 28). -/
def Obligations.EngineDrains : Prop :=
  ∀ (f : UF) (s : State) (k : Call) (ps : List Piece) (absent : Bool), Claims.routine s k →
    let n := Claims.tileNo k (f.imm.toNat % 8)
    let st := Claims.streamAt s (f.imm.extractLsb' 3 4).toNat
    let fits := if (Claims.tileOf s n).ranked then f.imm.getLsbD 8 = false ∧ st.format.toNat ∈ [0, 5, 8]
      else st.format.toNat < 11 ∧ (f.imm.getLsbD 8 = true ∨ st.format.toNat < 5)
    (n < s.rc.tiles → st.count0 ≠ 0 → fits →
      gatherAll ((Claims.drained s f n).map (fun e => s.reachIn s.cur.core s.cur.slot st .store (st.at3 0 e.1 e.2.1)
        (elemBytes st.format.toNat))) = .ok (ps, absent) →
      Claims.mayReach s k ps = true → ps.any s.restriping = false → s.raceMode s.rc.task ≠ 1 →
      ∃ t, exec (.tdrain f) s = .next t ∧ t.rc.eng.pos = s.rc.eng.pos + 1 ∧
        t.mem = Tab.putAll 0 s.mem (((Claims.drained s f n).zip ps).flatMap (fun e =>
          e.2.addr.zip (leBytes (elemBytes st.format.toNat) e.1.2.2.1))) ∧
        (∀ a : Nat, (∀ p ∈ ps, a ∉ p.addr) → t.byte a = s.byte a) ∧
        t.rc.fstat = s.rc.fstat ||| ((Claims.drained s f n).map (fun e => e.2.2.2)).foldl (fun a b => a ||| b) 0 ∧
        t.rc.eng.tiles = (if f.imm.getLsbD 7 then
          s.rc.eng.tiles.put {} n { Claims.tileOf s n with sum := [], rows := [], reject := 0 } else s.rc.eng.tiles)) ∧
    (n < s.rc.tiles → st.count0 = 0 ∨ ¬fits →
      Claims.stepFaults s k (.tdrain f) 2 0 (f.imm.extractLsb' 3 4) 0) ∧
    (s.rc.tiles ≤ n → Claims.stepFaults s k (.tdrain f) 1 0 0 0)

/-- R96, R239, R250: TSCL takes the scales of both buffers' blocks from memory where their streams apply any, each under its row
or column and sub-chunk, when every place is reached and the task logs no races (R390); where they apply none every scale is 1. An
empty buffer faults (4). That the places of the scales are those of the base and strides captured with the buffer is the model's
reading (log 27), and with FORMATs of different chunk lengths A's length is used (log 96).

R244, R250: TWALK reads the next 8-byte entry of a scratchpad walk list into three micro-registers and moves the fourth on; a
stream of another space faults (6). -/
def Obligations.EngineScalesAndWalks : Prop :=
  (∀ (f : UF) (s : State) (k : Call) (a b : Buf) (ps : List Piece) (absent : Bool), Claims.routine s k →
     (s.rc.eng.fa (f.imm.getLsbD 0) = some a → s.rc.eng.fb (f.imm.getLsbD 1) = some b →
       gatherAll ((Claims.scalesOfA s a b ++ Claims.scalesOfB s a b).map (fun e => e.2)) = .ok (ps, absent) →
       Claims.mayRead s k ps = true → s.raceMode s.rc.task ≠ 1 →
       ∃ t, exec (.tscl f) s = .next t ∧ t.rc.eng.pos = s.rc.eng.pos + 1 ∧
         t.rc.eng.rs = Claims.scalesAt s (Claims.scalesOfA s a b) ps ∧
         t.rc.eng.cs = Claims.scalesAt s (Claims.scalesOfB s a b) (ps.drop (Claims.scalesOfA s a b).length) ∧
         t.mem = s.mem) ∧
     (s.rc.eng.fa (f.imm.getLsbD 0) = some a → s.rc.eng.fb (f.imm.getLsbD 1) = some b →
       a.desc.scaleMode = 0 → b.desc.scaleMode = 0 → s.postHeld s.cur.core s.cur.slot k.serial = false →
       exec (.tscl f) s = .next (Claims.stepped s (fun e => { e with rs := [], cs := [] }))) ∧
     (s.rc.eng.fa (f.imm.getLsbD 0) = none ∨ s.rc.eng.fb (f.imm.getLsbD 1) = none →
       Claims.stepFaults s k (.tscl f) 4 0 0 0)) ∧
  (∀ (f : UF) (s : State) (k : Call) (e : W64), Claims.routine s k →
     ((Claims.streamAt s (f.imm.toNat % 16)).space ≠ 0 →
       Claims.stepFaults s k (.twalk f) 6 0 (f.imm.extractLsb' 0 4) 0) ∧
     ((Claims.streamAt s (f.imm.toNat % 16)).space = 0 → s.postHeld s.cur.core s.cur.slot k.serial = false →
     e = BitVec.ofNat 64 (Claims.bytesAt s (Claims.ownBytes s ((Claims.streamAt s (f.imm.toNat % 16)).base.toNat +
       8 * (Claims.mOf s (f.imm.extractLsb' 4 4)).toNat) 8)) →
     exec (.twalk f) s = .next (Claims.stepped s (fun g =>
       Claims.withM (f.imm.extractLsb' 4 4) (Claims.mOf s (f.imm.extractLsb' 4 4) + 1)
         (Claims.withM f.mc ((e.extractLsb' 32 16).setWidth 32) (Claims.withM f.mb ((e.extractLsb' 16 16).setWidth 32)
           (Claims.withM f.ma ((e.extractLsb' 0 16).setWidth 32) g)))))))

namespace Sys2Proof.Claims

/-- Of the results in flight of a core's active context, f alone is due, of those that stand in the shadow buffer or of those
that do not. -/
def oneDue (s : State) (c : CoreId) (f : Fly) (rest : List Fly) (shadow : Bool) : Bool :=
  (s.res c (s.core c).act).inflight == f :: rest && f.due ≤ (s.core c).cycle && f.shadow == shadow &&
  rest.all (fun g => g.shadow != shadow || (s.core c).cycle < g.due)

/-- The state after that result has landed. -/
def afterLanding (s : State) (c : CoreId) (f : Fly) (rest : List Fly) : State :=
  s.modRes c (s.core c).act (fun r => ({ r with inflight := rest } : Res).land f.ctx f.w f.flags)

/-- A request for one s register has left x there, extended from its width. -/
def landedIn (t : State) (q : Req) (x : Nat) : Bool :=
  match q.dest with
  | .s k d w sgn =>
    d == 0 || (if k then ((t.res q.core q.slot).ctx q.ctx).ks.get 0 d else ((t.res q.core q.slot).ctx q.ctx).s.get 0 d) == ext w sgn x
  | _ => true

/-- No register of the request's context waits for it. -/
def noneWaits (t : State) (q : Req) : Bool := (t.res q.core q.slot).pend.all (fun p => !(p.2 == .req q.serial))

def homeOf (s : State) (line : Nat) : Home := s.homes.get {} line

end Sys2Proof.Claims

/-- R45, R46, R60, R64, R161, R278: results land. One that is due reaches its register with its flags; a load whose parts not read
yet may be performed reads them as memory is, and changes none of it; one that its home refuses (R387, R456) brings nothing, and its
trap waits for its context; an atomic's answer is the old value; an atomic at its home writes its bytes in one step (in a task that
logs no races, R390). -/
def Obligations.ResultsLand : Prop :=
  ∀ (s : State) (c : CoreId) (f : Fly) (rest : List Fly) (n : Nat) (q : Req) (p : Piece) (op : Nat),
    (Claims.oneDue s c f rest false = true →
      exec (.fixedResultWriteback c) s = .next (Claims.afterLanding s c f rest)) ∧
    (Claims.oneDue s c f rest true = true →
      exec (.shadowResultLand c) s = .next (Claims.afterLanding s c f rest)) ∧
    (s.req? n = some q → q.kind = .load → q.pieces.head? = some p →
      (∀ x ∈ q.pieces, x.done = false → s.mayPerform { q with pieces := [] } 0 x = true ∧ s.refusal q x = none) →
      s.raceMode (s.res q.core q.slot).task ≠ 1 →
      ∃ t, exec (.scoreboardResultLand n) s = .next t ∧ t.mem = s.mem ∧ t.req? n = none ∧ Claims.noneWaits t q = true ∧
        Claims.landedIn t q (if p.done then p.old.toNat else s.readList p.addr) = true) ∧
    (∀ (x : Piece) (y : Byte × Byte × W64), s.req? n = some q → q.kind = .load → q.pieces = [x] → x.done = false →
      s.mayPerform { q with pieces := [] } 0 x = true → s.refusal q x = some y → q.free = false →
      ∃ t, exec (.scoreboardResultLand n) s = .next t ∧ t.mem = s.mem ∧ t.req? n = none ∧ Claims.noneWaits t q = true ∧
        (t.res q.core q.slot).denied = (s.res q.core q.slot).denied ++ [{ ctx := q.ctx, cause := y.1, sub := y.2.1, tval := y.2.2 }]) ∧
    (s.req? n = some q → q.kind = .amo op → q.pieces.head? = some p → q.finished = true →
      ∃ t, exec (.scoreboardResultLand n) s = .next t ∧ t.mem = s.mem ∧ t.req? n = none ∧ Claims.noneWaits t q = true ∧
        Claims.landedIn t q p.old.toNat = true) ∧
    (s.req? n = some q → q.kind = .amo op → q.pieces[q.nextPart]? = some p → s.mayPerform q q.nextPart p = true →
      s.refusal q p = none → p.addr.Nodup → p.addr.length = 4 ∨ p.addr.length = 8 → s.raceMode (s.res q.core q.slot).task ≠ 1 →
      ∃ t, exec (.atomicAtHome n) s = .next t ∧
        t.readList p.addr = (amoNew op (8 * p.addr.length) (s.readList p.addr) p.data.toNat).1 ∧
        t.mem = Tab.putAll 0 s.mem
          (p.addr.zip (leBytes p.addr.length (amoNew op (8 * p.addr.length) (s.readList p.addr) p.data.toNat).1)))

namespace Sys2Proof.Claims

/-- The active context of a core, and the other one. -/
def active (s : State) (c : CoreId) : Res := s.res c (s.core c).act
def other (s : State) (c : CoreId) : Res := s.res c (otherSlot (s.core c).act)
/-- The core neither is fenced, nor lost its coolant, nor is absent. -/
def working (s : State) (c : CoreId) : Bool := !(s.core c).fenced && !(s.core c).coolHalt && !(s.core c).absent

/-- The core when issue of its active context has stopped for a save: its results in flight are in the shadow buffer (R45), its
halt is noted (R340), and its save has begun (R336). -/
def stopped (s : State) (c : CoreId) (p : Preempt) : State :=
  (s.modRes c (s.core c).act (fun r =>
    { r.captureAll (s.core c).stuck (s.core c).cycle with place := .saving, savedHalted := (s.core c).halted })).modCore c (fun k =>
      { k with preempt := some { p with landed := true }, atYield := false })

/-- A request to pre-empt the active context has not landed, and neither a machine trap nor a requested halt comes first (R329). -/
def landable (s : State) (c : CoreId) (p : Preempt) : Bool :=
  (s.core c).preempt == some p && !p.landed && (active s c).place == .here && (active s c).machine.isNone && !(s.core c).dbgHalt

/-- No asynchronous trap is turned away at the boundary (R329, R331). -/
def deliverable (s : State) (c : CoreId) (i : CtxId) : Bool :=
  (active s c).occ && (active s c).place == .here && !(s.core c).halted && working s c && !((active s c).ctx i).mode &&
  ((active s c).ctx i).run == .live && (active s c).machine.isNone && !(s.core c).dbgHalt && !((s.core c).preemptOpen && ((s.core c).mayYield || (s.core c).forced))

/-- Register PC of the primary as a save area holds it (R335, log 16). -/
def savedPc (s : State) (r : Res) : VAddr := (BitVec.ofNat 64 (s.readNat (r.saveBase.toNat + 0x80) 8)).setWidth 48

/-- The host has a doubleword of a view, and INDEX has gone on by one, modulo 2^40 (R453). -/
def viewed (s : State) (c : CoreId) (x : W64) : State :=
  let t := s.modCore c (fun k =>
    { k with dbgVsel := 0#16 ++ k.dbgVsel.extractLsb' 40 8 ++ ((k.dbgVsel.setWidth 40 : BitVec 40) + 1) })
  { t with hostData := x, hostError := false }

end Sys2Proof.Claims

/-- R43 to R46, R335, R336, R340, R354, R355: a pre-emption is requested, at once on a halted core, lands at a yield point or once
YIELD_BOUND cycles have passed, and saves the context: nothing outside the 1 MiB of its save area changes in memory; where no
context is active or being saved, the saved one of the higher priority is restored, with the pc that its save area holds. -/
def Obligations.PreemptionSteps : Prop :=
  ∀ (s : State) (c : CoreId) (r : Slot) (p : Preempt) (a : Nat),
    ((s.core c).preempt = none → (Claims.active s c).occ = true → (Claims.active s c).place = .here →
      (Claims.other s c).occ = true → (Claims.other s c).place = .saved →
      (Claims.active s c).prio < (Claims.other s c).prio → Claims.working s c = true → (s.core c).halted = false →
      exec (.preemptionRequest c) s = .next (s.modCore c (fun k =>
        { k with preempt := some { since := k.cycle, bound := (Claims.active s c).yieldBound.toNat }, atYield := false }))) ∧
    ((s.core c).preempt = none → (Claims.active s c).occ = true → (Claims.active s c).place = .here →
      (Claims.other s c).occ = true → (Claims.other s c).place = .saved →
      (Claims.active s c).prio < (Claims.other s c).prio → Claims.working s c = true → (s.core c).halted = true →
      exec (.preemptionRequest c) s = .next
        (Claims.stopped s c { since := (s.core c).cycle, bound := (Claims.active s c).yieldBound.toNat })) ∧
    (Claims.landable s c p = true → (s.core c).atYield = true ∨ (Claims.active s c).primary.mode = true →
      exec (.preemptionLanding c) s = .next (Claims.stopped s c p)) ∧
    (Claims.landable s c p = true → p.since + p.bound ≤ (s.core c).cycle →
      exec (.forcedPreemption c) s = .next (Claims.stopped s c p)) ∧
    ((s.res c r).place = .saving → (s.res c (otherSlot r)).place ≠ .saving → (s.res c r).settled = true →
      a < (s.res c r).saveBase.toNat ∨ (s.res c r).saveBase.toNat + 0x100000 ≤ a →
      ∃ t, exec (.contextSave c) s = .next t ∧
        (t.res c r).place = .saved ∧ (t.res c r).saveSeq = (s.res c r).saveSeq + 1 ∧
        (t.core c).preempt = none ∧ (t.core c).halted = false ∧ (t.core c).dbgStep = false ∧ t.byte a = s.byte a) ∧
    ((s.core c).evicted = [] → (∀ q ∈ [Slot.a, .b], (s.res c q).occ = true → (s.res c q).place ≠ .here ∧ (s.res c q).place ≠ .saving) →
      Claims.working s c = true →
      (s.core c).nextSaved = some r → (s.res c r).heldPosts = [] → (s.res c r).heldArrivals = [] →
      if s.readNat ((s.res c r).saveBase.toNat + 8) 4 = (s.engineCrc (s.res c r).saveBase.toNat).toNat then
        ∃ t, exec (.contextRestore c) s = .next t ∧ t.mem = s.mem ∧
          (t.core c).act = r ∧ (t.core c).preempt = none ∧ (t.res c r).place = .here ∧
          (t.res c r).primary.pc = Claims.savedPc s (s.res c r) ∧ (t.res c r).primary.prep = none
      else exec (.contextRestore c) s = .next (s.endTask (s.res c r).task 4 cHw 2))

namespace Sys2Proof.Claims

/-- The tasks of a list of identifiers are to end with HW_ERROR, sub-cause 1, where they are not to end already, and no other task
(R328, R334, R361). -/
def hwEnds (s t : State) (ids : List W32) : Bool :=
  t.tasks == s.tasks.map (fun k => if ids.contains k.id && k.ending.isNone then { k with ending := some ⟨4, 0x0E, 1⟩ } else k)
/-- The tasks that hold a context on a core, and those that run on a die. -/
def tasksOnCore (s : State) (c : CoreId) : List W32 := ((s.core c).all.filter (fun e => e.2.occ)).map (fun e => e.2.task)
def tasksOnDie (s : State) (d : DieId) : List W32 :=
  (s.tasks.filter (fun t => t.cores.any (fun e => dieOf e.1 == d))).map (fun t => t.id)

/-- The transfer in a slot of a context. -/
def xferAt (s : State) (c : CoreId) (r : Slot) (n : BitVec 4) : Option Xfer := (s.res c r).xfers.get none n.toNat

/-- What a local transfer reads and writes here, all of it reached and free to be reached now: the pieces read, the pieces
written, and the bytes for each of those (of the pieces that have landed ahead, R280, too). -/
def moves (s : State) (c : CoreId) (r : Slot) (x : Xfer) (rs ws : List Piece) (data : List (List Byte)) : Bool :=
  match s.planOf c r x with
  | .error _ => false
  | .ok p =>
    match gatherAll (p.reads.map (fun e => e.2.2)), gatherAll (p.writes.map (fun e => e.2.2)) with
    | .ok a, .ok b => a.1 == rs && b.1 == ws && s.planReady c r x p rs ws && (p.put (rs.map (fun q => s.readList q.addr))).map (fun e => e.1) == data
    | _, _ => false

/-- The bytes that a local transfer has still to write: those of the elements that have not landed. -/
def stillToLand (x : Xfer) (ws : List Piece) (data : List (List Byte)) : List (Nat × Byte) :=
  (((ws.zip data).zip (List.range ws.length)).filter (fun e => !x.parts.contains e.2)).flatMap (fun e => e.1.1.addr.zip e.1.2)

/-- The record of a transfer that stops with a fault, the bytes landed and who issued it (R277, R330). -/
def xferRecord (s : State) (x : Xfer) (n : BitVec 4) (y : XferFault) (landed : Nat) : AFault :=
  { landed := BitVec.ofNat 32 (Nat.min landed 0xFFFFFFFF), target := x.target, stream := y.stream, sub := y.sub
    ctx := (match x.ctx with | .primary => 0 | .h1 => 1 | .h2 => 2), src := if s.isRemote x.target then 2 else 1
    code := y.cause, pc := x.pc, va := y.va, xfer := some n.toNat }

/-- The state in which a transfer has stopped with a fault: its record is the newest of its context's, and its slot stays taken. -/
def xferStopped (s : State) (c : CoreId) (r : Slot) (x : Xfer) (n : BitVec 4) (y : XferFault) (landed : Nat) : State :=
  s.modRes c r (fun z => { z with
    faults := z.faults ++ [xferRecord s x n y landed]
    xfers := z.xfers.put none n.toNat (some { x with st := .faulted, landed := landed }) })

/-- A local transfer faults before any of its places is known. -/
def planless (s : State) (c : CoreId) (r : Slot) (x : Xfer) : Bool :=
  match s.planOf c r x with
  | .error _ => true
  | .ok _ => false

/-- The rows of several experts: SENDM. -/
def sendsRows : Instr → Bool
  | .sendm .. => true
  | _ => false

/-- The same of a merge, which writes a tile of the target's context d: the pieces read, which are free, with that context
active and a seat for a far post. -/
def merges (s : State) (c : CoreId) (r : Slot) (x : Xfer) (f : XF) (d : Slot) (rs : List Piece) : Bool :=
  match s.planRankmerge c r x with
  | .error _ => false
  | .ok p =>
    match gatherAll (p.reads.map (fun e => e.2.2)) with
    | .ok a => a.1 == rs && s.planReady c r x p rs [] && (s.seat (s.res c r).task (tCore x.target)) == some (some d) &&
        (s.core (tCore x.target)).act == d && (s.res (tCore x.target) d).place == .here && (!f.frem || s.targetOk c r x)
    | _ => false

/-- An expert has writes of CTRL to apply in one partition alone, and no row waits anywhere. -/
def quietExpert (s : State) (p : PartId) (w e : Nat) : Bool :=
  (List.range 16).all (fun q => q == p.toNat || (s.lands.get {} (landKey (BitVec.ofNat 4 q) w e)).writes.isEmpty) &&
  s.lands.all (fun e => e.2.waiting.isEmpty)

/-- The count a write of CTRL leaves: one above the sealed count is read as that count. -/
def newCount (l : Landing) (v : W32) : W32 := if (l.sealed - l.released).toNat < (v - l.released).toNat then l.sealed else v

/-- A write of some bytes covers one of some addresses. -/
def covers (l : List (Nat × Byte)) (a : List Nat) : Bool := a.any (fun b => (l.map (fun e => e.1)).contains b)

/-- A block of an expert that is released when its released count becomes v. -/
def below (l : Landing) (v : W32) (b : W32 × Nat × W32) : Bool := (b.1 - l.released).toNat < (v - l.released).toNat

/-- It is none of those that land in a way of their own. -/
def landsWhole : Instr → Bool
  | .cpyPlain .. | .cpyConvert .. | .cpyRank .. | .put .. | .putGlob .. | .get .. | .getGlob .. | .send .. => true
  | _ => false

/-- A handler that starts from a record: its pc, s1 to s3 and its run, three cycles on (R36, R39, R70). -/
def started (x : Ctx) (a : Arrival) (cycle : Nat) : Ctx :=
  (((({ x with pc := a.handler, loops := [], run := .live, mode := false, rep := none, repAt := none, repIdx := 0, late := 0
               ready := cycle + 3 } : Ctx).putS false 1 a.addr).putS false 2 a.len).putS false 3 (a.src.setWidth 64))

/-- Issue to a resident context's handlers is open. -/
def handlersOpen (s : State) (c : CoreId) (r : Slot) : Bool :=
  (s.core c).act == r && (s.res c r).place == .here && !(s.core c).halted && !(s.core c).fenced && !(s.core c).coolHalt && (s.res c r).occ

/-- The engine takes commands: no routine runs, and nothing has stopped it. -/
def commandable (s : State) (c : CoreId) (r : Slot) : Bool :=
  (s.res c r).eng.call.isNone && !(s.res c r).eng.stopped && !(s.res c r).eng.faulted && (s.res c r).place == .here && !(s.core c).halted

/-- The state after the oldest engine command has been taken and the engine changed. -/
def commanded (s : State) (c : CoreId) (r : Slot) (rest : List Cmd) (g : Engine → Engine) : State :=
  s.modRes c r (fun y => { y with eng := g { y.eng with queue := rest } })

end Sys2Proof.Claims

/-- R330, R334, R385, R438, R454 to R456: an uncorrectable error is counted, and the access that consumes it meets HW_ERROR: a group's
traps in its context, the running routine of an engine and a transfer that has not moved its bytes record CODE 0x21; where nothing
consumes it no more happens. The bank of a line in stacked SRAM is proposed for retirement. A fenced core or die ends every task that it holds with HW_ERROR (sub-cause 1 for a die is the model's choice,
log 104). -/
def Obligations.HardwareErrors : Prop :=
  ∀ (s : State) (c : CoreId) (x : CtxId) (pos : BitVec 4) (pa : BitVec 46) (d : DieId) (k : Fin 256) (r : Slot) (n : BitVec 4)
    (m : Call) (y : Xfer) (line : Nat),
    ((Claims.active s c).occ = false ∨ (Claims.active s c).place ≠ .here ∨ ((Claims.active s c).ctx x).run ≠ .live ∨
        (s.core c).halted = true ∨ Claims.working s c = false →
      exec (.uncorrectableError c (.group x pos) pa) s = .next (s.noteError pa.toNat)) ∧
    ((Claims.active s c).occ = true → (Claims.active s c).place = .here → ((Claims.active s c).ctx x).run = .live →
      (s.core c).halted = false → Claims.working s c = true →
      exec (.uncorrectableError c (.group x pos) pa) s = .next ((s.noteError pa.toNat).takeTrapAt c (s.core c).act x
        { cause := cHw, tval := pa.setWidth 64 } false ((Claims.active s c).ctx x).pc
        ((s.noteError pa.toNat).nextOf c (s.core c).act x) pos.toNat)) ∧
    ((s.res c r).eng.call = some m → (s.res c r).eng.stopped = false → (s.res c r).eng.faulted = false →
      ∃ t, exec (.uncorrectableError c (.engine r) pa) s = .next t ∧
        (t.res c r).faults = (s.res c r).faults ++ [{ step := (s.res c r).eng.pos, routine := m.idx, sub := 5, code := 0x21, pc := m.pc }] ∧
        (t.res c r).eng.faulted = true ∧ (t.res c r).eng.call = none ∧ (t.res c r).eng.queue = [] ∧
        t.mem = (s.noteError pa.toNat).mem) ∧
    ((s.res c r).eng.call = none ∨ (s.res c r).eng.stopped = true ∨ (s.res c r).eng.faulted = true →
      exec (.uncorrectableError c (.engine r) pa) s = .next (s.noteError pa.toNat)) ∧
    (Claims.xferAt s c r n = some y → y.st = .live →
      exec (.uncorrectableError c (.xfer r n) pa) s = .next (Claims.xferStopped (s.noteError pa.toNat) c r y n
        { cause := 0x21, sub := 5, va := 0, stream := 0, landed := 0 } y.landed)) ∧
    (Claims.xferAt s c r n = none ∨ Claims.xferAt s c r n = some y ∧ y.st ≠ .live →
      exec (.uncorrectableError c (.xfer r n) pa) s = .next (s.noteError pa.toNat)) ∧
    (((s.noteError pa.toNat).die (s.homeDie pa.toNat)).ucAddr = pa) ∧
    (s.sramLine pa.toNat = none → (s.noteError pa.toNat).mem = s.mem) ∧
    (s.sramLine pa.toNat = some line → (s.die (s.homeDie pa.toNat)).stk.state ≠ 2 →
      ((s.noteError pa.toNat).die (s.homeDie pa.toNat)).stk.state = 1 ∧
      ((s.noteError pa.toNat).die (s.homeDie pa.toNat)).stk.pdead.get false ((s.die (s.homeDie pa.toNat)).stk.bankOf line) = true) ∧
    (exec (.coreFence c) s = .next (s.coreFence c) ∧ ((s.coreFence c).core c).fenced = true ∧
      Claims.hwEnds s (s.coreFence c) (Claims.tasksOnCore s c) = true ∧ (s.coreFence c).mem = s.mem) ∧
    (exec (.dieFence d) s = .next (s.dieFence d) ∧ ((s.dieFence d).die d).fenced = true ∧
      ((s.dieFence d).core (BitVec.ofNat 12 (d.toNat * 256 + k.val))).fenced = true ∧
      Claims.hwEnds s (s.dieFence d) (Claims.tasksOnDie s d) = true)

/-- R223, R227, R228, R230, R232: the engine's commands join its queue in order, MCALL with its parameters as they stand at
issue, and are held while it holds four or a fault's record waits; MABORT empties the engine; MPLD, held until the engine is
idle, loads an image whose header and words pass the checks, and traps ILLEGAL_ENCODING on any other: a header, a count, a place or an offset out of
range, a word of no micro-operation, a path that runs past the last word. An unbound entry of MCALL traps ACCESS.

R223, R227 to R229: the engine takes its oldest command when no routine runs and nothing has stopped it: MCALL begins its
routine with empty buffers, MMODE and MCLR set a tile, MMERGE merges two RANKED tiles and posts, and on a SUM tile is the fault MODE
(R250). -/
def Obligations.EngineCommands : Prop :=
  (∀ (h : Hdr) (f : MF) (s : State) (a : BitVec 12) (hd body : List Byte) (len e load : Nat) (m : Image) (w : W32),
     (s.runs (.mcall h f) 0 = true → s.rc.eng.table.get none f.idx.toNat = some a → Claims.roomFor s = true →
       exec (.mcall h f) s = .next { Claims.engDoes s (fun e =>
         { e with queue := e.queue ++ [.call f.idx f.acc f.f s.rc.mp (s.source (.mcall h f)) s.serial] }) with serial := s.serial + 1 }) ∧
     (s.runs (.mcall h f) 0 = true → s.rc.eng.table.get none f.idx.toNat = none →
       exec (.mcall h f) s = .next (Claims.trapped s { cause := 0x05, sub := 6, tval := f.idx.setWidth 64 })) ∧
     (s.runs (.mmode h f) 0 = true → Claims.roomFor s = true → exec (.mmode h f) s = .next (s.clean.modRc (fun r =>
       Claims.warned s (decide (f.mode = 1) && decide (f.k.toNat ≠ Claims.clampK f)) 0x1B
       { r with eng := { r.eng with
           queue := r.eng.queue ++ [.mode f.acc (decide (f.mode = 1)) (Claims.clampK f) (s.source (.mmode h f))] } }))) ∧
     (s.runs (.mclr h f) 0 = true → Claims.roomFor s = true → exec (.mclr h f) s =
       .next (Claims.engDoes s (fun e => { e with queue := e.queue ++ [.clr f.acc (s.source (.mclr h f))] }))) ∧
     (s.runs (.mmerge h f) 0 = true → Claims.roomFor s = true → exec (.mmerge h f) s =
       .next (Claims.engDoes s (fun e => { e with queue := e.queue ++ [.merge f.acc f.accb f.f (s.source (.mmerge h f))] }))) ∧
     (s.runs (.mabort h f) 0 = true → s.rc.eng.idle = true → exec (.mabort h f) s = .next s.clean) ∧
     (s.runs (.mabort h f) 0 = true → s.rc.eng.idle = false → exec (.mabort h f) s =
       .next (Claims.engDoes s (fun e => { e with queue := [], call := none, loops := [], stopped := false })).dropBuffers) ∧
     (s.runs (.mpld h f) 0 = true → s.rc.eng.idle = true → s.rc.eng.faulted = false →
       s.clean.ownRead .ls (Claims.ownBytes s (s.sreg f.sa).toNat 8) = some (s.clean, hd) →
       imageHead ((words32 hd).getD 0 0) ((words32 hd).getD 1 0) = some (len, e, load) →
       s.clean.ownRead .ls (Claims.ownBytes s ((s.sreg f.sa).toNat + 8) (4 * (e + len))) = some (s.clean, body) →
       (∀ o ∈ (Claims.imageOf load e body).offsets, o < 4096) →
       (Claims.imageOf load e body).ok f.idx.toNat = true →
       exec (.mpld h f) s = .next (s.clean.loadRoutine f.idx.toNat (Claims.imageOf load e body))) ∧
     (s.runs (.mpld h f) 0 = true → s.rc.eng.idle = true → s.rc.eng.faulted = false →
       s.clean.ownRead .ls (Claims.ownBytes s (s.sreg f.sa).toNat 8) = some (s.clean, hd) →
       imageHead ((words32 hd).getD 0 0) ((words32 hd).getD 1 0) = none →
       exec (.mpld h f) s = .next (Claims.trapped s { cause := 0x01, tval := (Instr.mpld h f).firstWord })) ∧
     (s.runs (.mpld h f) 0 = true → s.rc.eng.idle = true → s.rc.eng.faulted = false →
       s.clean.ownRead .ls (Claims.ownBytes s (s.sreg f.sa).toNat 8) = some (s.clean, hd) →
       imageHead ((words32 hd).getD 0 0) ((words32 hd).getD 1 0) = some (len, e, load) →
       s.clean.ownRead .ls (Claims.ownBytes s ((s.sreg f.sa).toNat + 8) (4 * (e + len))) = some (s.clean, body) →
       (Claims.imageOf load e body).offsets.any (fun o => 4096 ≤ o) = true ∨ (Claims.imageOf load e body).ok f.idx.toNat = false →
       exec (.mpld h f) s = .next (Claims.trapped s { cause := 0x01, tval := (Instr.mpld h f).firstWord })) ∧
     (4096 < m.load + m.words.length ∨ 1024 < f.idx.toNat + m.offsets.length ∨ m.offsets.any (fun o => m.words.length ≤ o) = true →
       m.ok f.idx.toNat = false) ∧
     (w ∈ m.words → 16 ≤ (w.extractLsb' 0 6).toNat ∨ w.extractLsb' 6 2 ≠ 0 → m.ok f.idx.toNat = false) ∧
     (m.words.getLast? = some w → w.extractLsb' 0 6 = 12 → m.ok f.idx.toNat = false) ∧
     (m.words.getLast? = some w → m.words.length - 1 ∈ m.offsets → w.extractLsb' 0 6 ≠ 11 → w.extractLsb' 0 6 ≠ 14 →
       m.ok f.idx.toNat = false) ∧
     (s.runs (.mpld h f) 0 = true → s.rc.eng.idle = false ∨ s.rc.eng.faulted = true →
       exec (.mpld h f) s = .next (Claims.held s .plain)) ∧
     (∀ i ∈ [Instr.mcall h f, .mmode h f, .mclr h f, .mmerge h f], s.runs i 0 = true → Claims.roomFor s = false →
       s.rc.eng.table.get none f.idx.toNat ≠ none ∨ i ≠ .mcall h f → exec i s = .next (Claims.held s .plain))) ∧
  (∀ (s : State) (c : CoreId) (r : Slot) (rest : List Cmd) (idx : BitVec 10) (acc src : BitVec 3) (f : BitVec 5) (mp : Tab W64)
     (q : Source) (n : Nat) (ranked : Bool), Claims.commandable s c r = true →
     ((s.res c r).eng.queue = .call idx acc f mp q n :: rest →
       exec (.mcallStart c r) s = .next (Claims.commanded s c r rest (fun e =>
         { e with call := some { idx := idx, acc := acc, f := f, mp := mp, pc := q.pc, serial := n }, loops := []
                  pos := (e.table.get none idx.toNat).getD 0, fa0 := none, fa1 := none, fb0 := none, fb1 := none
                  rs := [], cs := [], x := none }))) ∧
     ((s.res c r).eng.queue = .mode acc ranked n q :: rest →
       exec (.mmodeExec c r) s = .next (Claims.commanded s c r rest (fun e => e.setTile acc.toNat { ranked := ranked, k := n }))) ∧
     ((s.res c r).eng.queue = .clr acc q :: rest →
       exec (.mclrExec c r) s = .next (Claims.commanded s c r rest (fun e => e.setTile acc.toNat (e.tile acc.toNat).clear))) ∧
     ((s.res c r).eng.queue = .merge acc src f q :: rest → ((s.res c r).eng.tile acc.toNat).ranked = true →
       ((s.res c r).eng.tile src.toNat).ranked = true →
       exec (.mmergeExec c r) s = .next ((Claims.commanded s c r rest (fun e =>
         e.setTile acc.toNat (if acc = src then e.tile acc.toNat else (e.tile acc.toNat).mergeRows (e.tile src.toNat).rows))).postAt c r f 1 q.pc)) ∧
     ((s.res c r).eng.queue = .merge acc src f q :: rest →
       ((s.res c r).eng.tile acc.toNat).ranked = false ∨ ((s.res c r).eng.tile src.toNat).ranked = false →
       ∃ t, exec (.mmergeExec c r) s = .next t ∧
         (t.res c r).faults = (s.res c r).faults ++ [{ code := 3, pc := q.pc }] ∧ (t.res c r).eng.faulted = true ∧
         (t.res c r).eng.queue = [] ∧ (t.res c r).eng.tiles = (s.res c r).eng.tiles ∧ (t.res c r).flags = (s.res c r).flags ∧
         t.mem = s.mem))

/-- R255, R256, R262 to R266, R271, R277: where no row waits, a transfer inside the package (cpyPlain, cpyConvert, cpyRank, put,
putGlob, get, getGlob, send) whose places are all reached and free moves the bytes that have not landed, in order, and its slot is
free again (its post stays near, no handler is asked for, and its task logs no races); one that waits only for its acknowledgement
ends; a merge reaches its target's tile; and a fault that a transfer meets, here or at its destination, is recorded with what has
landed. No byte of memory changes but those written. -/
def Obligations.TransfersAdvance : Prop :=
  ∀ (s : State) (c : CoreId) (r d : Slot) (n : BitVec 4) (x : Xfer) (rs ws : List Piece) (data : List (List Byte)) (f : XF)
    (h : Hdr) (y : XferFault), Claims.xferAt s c r n = some x → s.rowsWaiting = 0 →
    (x.st = .live → s.isRemote x.target = false → Claims.landsWhole x.ins = true → Claims.moves s c r x rs ws data = true →
      s.raceMode (s.res c r).task ≠ 1 → (xfOf x.ins).frem = false → (xfOf x.ins).xh = 0 → (s.res c r).place = .here →
      ∃ t, exec (.transferComplete c r n) s = .next t ∧ Claims.xferAt t c r n = none ∧
        t.mem = Tab.putAll 0 s.mem (Claims.stillToLand x ws data)) ∧
    (x.st = .sent → s.isRemote x.target = false → Claims.sendsRows x.ins = false →
      exec (.transferComplete c r n) s = .next (s.finishXfer c r n.toNat x)) ∧
    (x.st = .sent → s.isRemote x.target = true → s.acked c r n.toNat = true → remoteWrite x.ins = true →
      exec (.transferComplete c r n) s = .next (s.finishXfer c r n.toNat x)) ∧
    (x.st = .withheld → s.isWithheld c r n.toNat = false →
      exec (.transferComplete c r n) s = .next (s.finishXfer c r n.toNat x)) ∧
    (x.st = .live → x.ins = .cpyRankmerge h f → Claims.merges s c r x f d rs = true → s.raceMode (s.res c r).task ≠ 1 →
      f.frem = false → (s.res c r).place = .here →
      ∃ t, exec (.rankmergeApply c r n) s = .next t ∧ Claims.xferAt t c r n = none ∧ t.mem = s.mem ∧
        (t.res (tCore x.target) d).eng.tile f.acc.toNat =
          ((s.res (tCore x.target) d).eng.tile f.acc.toNat).mergeRows
            (mergePairs (mergePlaces x.sa f.k.toNat) (s.valuesOf x rs))) ∧
    (x.st = .sent → s.isRemote x.target = false →
      (s.xferFaults c r n.toNat x).contains (y.cause, y.sub, y.va, y.stream) = true →
      exec (.transferFault c r n y) s = .next (Claims.xferStopped s c r x n y x.landed)) ∧
    (x.st = .live → s.isRemote x.target = false → Claims.planless s c r x = true →
      (s.xferFaults c r n.toNat x).contains (y.cause, y.sub, y.va, y.stream) = true →
      exec (.transferFault c r n y) s = .next (Claims.xferStopped s c r x n y (x.parts.length * x.destSize))) ∧
    (x.st = .live → s.isRemote x.target = true → x.far = some (y.cause, y.sub) → s.fab.out = [] → x.landed = y.landed →
      exec (.transferFault c r n y) s = .next (Claims.xferStopped s c r x n y y.landed))

/-- R34 to R39, R269, R369: what reaches a context from elsewhere: an XFLAG of this package posts its amount; a record that
waited takes its place in the queue (in the save area's image where the context is saved, which is open); the oldest record starts a
dormant handler, h1 before h2; the home passes each performed write of CTRL bytes 0-3 to its expert's OFU, which takes them in
order: the blocks below the value give their pages back to the pool, a value above the sealed count counts as that count, and a
value behind the count releases nothing. The model's choices: the words of the saved image are free values (log 16), a handler starts in
task mode whatever it was (log 72), and the home tells the OFU of a write of CTRL (log 45). -/
def Obligations.ArrivalsAdvance : Prop :=
  ∀ (s : State) (c o : CoreId) (r : Slot) (n : BitVec 4) (x : Xfer) (a : Arrival) (rest : List Arrival) (w : Withheld)
    (held : List Withheld) (f : XF) (h : Hdr) (p : PartId) (win : Byte) (e : BitVec 5) (l : Landing) (v u : W32)
    (later : List W32) (bytes : List (Nat × Byte)) (t : State) (at_ : List Nat),
    (s.allXfers = [(o, r, n.toNat, x)] → x.ins = .xflag h f → x.st = .live → s.isRemote x.target = false →
      tCore x.target = c → (s.seat (s.res o r).task c).isSome = true → s.postHeld o r x.serial = false →
      exec (.remoteFlagPost c (s.res o r).task f.f (x.xa.setWidth 16)) s = .next
        ((s.postTask (s.res o r).task c f.f (x.xa.setWidth 16 : BitVec 16).toNat (if o == c then x.pc else 0)).setXfer o r n.toNat { x with st := .sent })) ∧
    ((s.res c r).withheld = w :: held → (s.res c r).arrivals.length < 16 → (s.res c r).place = .here →
      exec (.arrivalQueueRoom c r) s = .next
        ((s.modRes c r (fun z => { z with arrivals := z.arrivals ++ [w.arr], withheld := held })).unblockAll)) ∧
    ((s.res c r).withheld = w :: held → (s.res c r).arrivals.length < 16 → (s.res c r).place = .saved →
      exec (.arrivalQueueRoom c r) s = .next
        ((((s.modRes c r (fun z => { z with withheld := held })).writeFree ((s.res c r).saveBase.toNat + 0x1000) 512).modRes c r
          (fun z => { z with arrivals := z.arrivals ++ [w.arr] })).unblockAll)) ∧
    (Claims.handlersOpen s c r = true → (s.res c r).arrivals = a :: rest → (s.res c r).h1.run = .dormant →
      exec (.handlerStart c r) s = .next (s.modRes c r (fun z =>
        { z with arrivals := rest, h1 := Claims.started z.h1 a (s.core c).cycle }))) ∧
    (Claims.handlersOpen s c r = true → (s.res c r).arrivals = a :: rest → (s.res c r).h1.run ≠ .dormant →
      (s.res c r).h2.run = .dormant →
      exec (.handlerStart c r) s = .next (s.modRes c r (fun z =>
        { z with arrivals := rest, h2 := Claims.started z.h2 a (s.core c).cycle }))) ∧
    (Claims.quietExpert s p win.toNat e.toNat = true → l = s.lands.get {} (landKey p win.toNat e.toNat) → l.writes = v :: later →
      (v - l.released).toNat < 2 ^ 31 → u = Claims.newCount l v →
      exec (.expertBlockRelease win e) s = .next
        (State.unblockAll { s.modPart p (fun y => { y with pool := y.pool ++ (l.pages.filter (Claims.below l u)).map (fun b => b.2.1) }) with
          lands := s.lands.put {} (landKey p win.toNat e.toNat)
            { l with released := u, writes := later, pages := l.pages.filter (fun b => !Claims.below l u b) } })) ∧
    (Claims.quietExpert s p win.toNat e.toNat = true → l = s.lands.get {} (landKey p win.toNat e.toNat) → l.writes = v :: later →
      2 ^ 31 ≤ (v - l.released).toNat →
      exec (.expertBlockRelease win e) s = .next
        (State.unblockAll { s with lands := s.lands.put {} (landKey p win.toNat e.toNat) { l with writes := later } })) ∧
    ((landKey p win.toNat e.toNat, l) ∈ s.lands → t = s.writeHome bytes → at_ = t.ctrlBytes (landKey p win.toNat e.toNat) →
      Claims.covers bytes at_ = true →
      (landKey p win.toNat e.toNat, { l with writes := l.writes ++ [BitVec.ofNat 32 (t.readList at_)] }) ∈ t.lands) ∧
    ((landKey p win.toNat e.toNat, l) ∈ s.lands → t = s.writeHome bytes → at_ = t.ctrlBytes (landKey p win.toNat e.toNat) →
      Claims.covers bytes at_ = false → (landKey p win.toNat e.toNat, l) ∈ t.lands)

namespace Sys2Proof.Claims

/-- A die's arrivals of a group are complete, their ways are marked, and the accesses they release are performed (R284, R292, R358). -/
def dieReady (s : State) (g : GroupId) (d : DieId) : Bool :=
  let a := s.arm g
  a.v && !a.broken && a.dies.getLsbD d.toNat && !a.reported.contains d && a.count.get 0 d.toNat == a.expect.get 0 d.toNat &&
  a.arrived.all (fun e => dieOf e.1 != d || (s.routed g e.1 && s.released e.1 e.2.1 e.2.2))

/-- The peers of a group but this package. -/
def otherPeers (s : State) (g : GroupId) : List Nat :=
  (List.range 64).filter (fun n => (s.arm g).peers.getLsbD n && n != s.peer.toNat)

/-- The barrier item that says a package's arrival: group, GEN modulo 128, and a set bit 0 (R406). -/
def itemOf (s : State) (g : GroupId) : BitVec 16 := g ++ (s.arm g).gen.setWidth 7 ++ 1#1

/-- That item waits for every other peer of the group. -/
def queued (s : State) (g : GroupId) : Fabric :=
  { s.fab with pairs := (otherPeers s g).foldl (fun t n => t.mod {} n (fun p => { p with items := p.items ++ [itemOf s g] })) s.fab.pairs }

/-- The GROUP_SET slot that names a group (R28). -/
def memberSlot (gs : W64) (g : GroupId) : Option Nat :=
  [0, 1, 2, 3].find? (fun i => gs.getLsbD (32 + i) && gs.extractLsb' (8 * i) 8 == g)

/-- What predicate n of a context reads, a kernel one where k is set. -/
def predReads (r : Res) (x : CtxId) (k : Bool) (n : Nat) : Bool :=
  if k then (r.ctx x).kp.get false n else (r.ctx x).p.get false n

/-- The acquired interval v' of the group's slot after a completion that carries v (R294): v where it is ahead by less than 128, else as it was. -/
def acquiresInterval (gs : W64) (old now : Tab Byte) (g : GroupId) (v : Byte) : Bool :=
  match memberSlot gs g with
  | some i => now.get 0 i == if (v - old.get 0 i : Byte).toNat < 128 then v else old.get 0 i
  | none => true

/-- A walk that has ended in a leaf, as a translation of its space (R374). -/
def tlbEntry (w : Walk) (pte : W64) (log : Nat) : TlbE :=
  { root := w.root, page := w.page * 2 ^ 16 / 2 ^ log, log := log, pte := pte, part := w.part }

/-- The TLBI's entries have left, and it waits for no peer, for no access and for no frame that uses them (R378). -/
def tlbiReady (s : State) (n : Nat) (x : Shoot) : Bool :=
  s.shoots.find? (fun y => y.num == n) == some x && x.removed.isSome && x.peers.isEmpty && !s.reqs.any (s.usesRemoved x) &&
  !s.fab.out.any (fun o => !o.acked && o.tlbis.contains n)

/-- A frame not acknowledged that an OFU sent through the remote-window translations the TLBI empties (R376, R378). -/
def carriesOld (s : State) (x : Shoot) (o : OutFrame) : Bool :=
  translates o.frame.kind o.frame.cmd && !o.acked && (x.kind = 4 || s.dieOwner (dieOf (tCore o.frame.cmd.source)) == some x.part)

/-- The TLBI removes a translation (R377): SPACE every one with that root, PART every one of the partition, PAGE, REPLICA and RCINIT those of
the page that holds the address, of any size, in the space; RWFLUSH none of the TLBs'. -/
def taken (x : Shoot) (e : TlbE) : Bool :=
  if x.kind = 1 then e.root == x.root
  else if x.kind = 2 then e.part == x.part
  else if x.kind = 4 then false
  else x.va.toNat / 2 ^ 48 == 0 && e.root == x.root && e.page == x.va.toNat / 2 ^ e.log

/-- The TLBI acts on the TLBs of a die: of every die of its partition, but for RWFLUSH (R378). -/
def actsOn (s : State) (x : Shoot) (d : Nat) : Bool := x.kind != 4 && s.dieOwner (BitVec.ofNat 4 d) == some x.part

/-- The TLBI empties a die's remote-window translations: those of the partition's OFUs, RWFLUSH those of every OFU (R377, R378). -/
def empties (s : State) (x : Shoot) (d : Nat) : Bool := x.kind == 4 || s.dieOwner (BitVec.ofNat 4 d) == some x.part

/-- The state in which a TLBI's entries have left: the core and cluster TLBs of its partition hold none of them, its OFUs no remote-window
translation, and the frames that carry one are noted (R377, R378). -/
def entriesGone (s : State) (x : Shoot) : State :=
  { s with
    cores := s.cores.map (fun e => (e.1, if actsOn s x (e.1 / 256) then
      { e.2 with tlb := e.2.tlb.filter (fun t => !taken x t), walkFaults := [] } else e.2))
    dies := s.dies.map (fun e => (e.1,
      { e.2 with rwt := if empties s x e.1 then [] else e.2.rwt
                 ctlb := if actsOn s x e.1 then e.2.ctlb.map (fun c => (c.1, c.2.filter (fun t => !taken x t))) else e.2.ctlb }))
    fab := { s.fab with out := s.fab.out.map (fun o => if carriesOld s x o then { o with tlbis := o.tlbis ++ [x.num] } else o) }
    shoots := s.shoots.map (fun y => if y.num == x.num then { y with removed := some s.serial } else y)
    serial := s.serial + 1 }

/-- The context that issued a TLBI goes on. -/
def goesOn (s : State) (x : Shoot) (n : Nat) : State :=
  { s with shoots := s.shoots.filter (fun y => y.num != n) }.modCore x.core
    (fun k => k.mapRes (fun _ r => { r with tlbis := r.tlbis.filter (fun t => t.2 != n) }))

/-- Patina's entries with SCOPE at 7 in a page's sectors, an entry equal to the reset value left out. -/
def rcInit (t : Tab (BitVec 31)) (pa size : Nat) : Tab (BitVec 31) :=
  t.filterMap (fun e =>
    if pa ≤ e.1 * 64 && e.1 * 64 < pa + size then
      (if e.2 ||| patinaReset = patinaReset then none else some (e.1, e.2 ||| patinaReset))
    else some e)

/-- A frame not acknowledged that was sent to a peer through its translations. -/
def carries (s : State) (t : PeerId) (o : OutFrame) : Bool :=
  translates o.frame.kind o.frame.cmd && !o.acked && o.frame.ddom == s.domain && o.frame.dst == t

def answered (x : Shoot) (t : PeerId) : Shoot := { x with peers := x.peers.filter (fun y => y != t) }

/-- The mirror page of a die (R384): where it lies, and whether that is in the die's stacked window. -/
def mirrorAt (s : State) (d : DieId) : Nat := (s.die d).stk.mirror.toNat * 4096
def mirrorThere (s : State) (d : DieId) : Bool := inStk (mirrorAt s d) && stkDie (mirrorAt s d) == d

/-- The banks of a layer that a map has live, and the least of the four layers' numbers (R115, R384). -/
def liveIn (dead : Tab Bool) (layer : Nat) : Nat := 4096 - (dead.filter (fun e => e.1 / 4096 == layer)).length
def leastLive (dead : Tab Bool) : Nat := Nat.min (Nat.min (liveIn dead 0) (liveIn dead 1)) (Nat.min (liveIn dead 2) (liveIn dead 3))

/-- STK_CAP (R384): SEQ, STATE and MINLIVE. -/
def capacityWord (k : Stk) : W64 := 0#16 ++ k.seq ++ 0#14 ++ k.state ++ 0#3 ++ BitVec.ofNat 13 (leastLive k.dead)

/-- Byte n of a mirror page: STK_CAP, the map in force from byte 2,048 with a bit set for each live bank, and 0 elsewhere (R384). -/
def mirrorByte (k : Stk) (n : Nat) : Byte :=
  if n < 8 then (capacityWord k).extractLsb' (8 * n) 8
  else if n < 2048 then 0
  else (List.range 8).foldl (fun b j => if k.dead.get false (8 * (n - 2048) + j) then b else b ||| (1#8 <<< j)) 0

/-- Where record n of an event log lies: 32 bytes, in a ring of 2^size x 4 KiB at the register's page (R447, R452). -/
def eventAt (s : State) (p : PartId) : Nat :=
  (s.part p).elog.toNat / 4096 * 4096 + 32 * ((s.part p).elogN % (2 ^ ((s.part p).elog.toNat % 16) * 128))

/-- The banks of a die after a proposal of its own: the newest proposal with one bank changed (R385). -/
def nextMap (s : State) (d : DieId) (bank : BitVec 14) (live : Bool) : Tab Bool :=
  ((s.die d).stk.waiting.getD (if (s.die d).stk.state = 0 then (s.die d).stk.dead else (s.die d).stk.pdead)).put false bank.toNat (!live)

/-- A bank is to be retired for an uncorrectable error, for its corrected errors or for heat, or one retired for heat has cooled, on a
device brought up (R385, R459); causes no register shows are free (log 76). -/
def proposes (s : State) (d : DieId) (bank : BitVec 14) (live : Bool) : Bool :=
  s.boot.phase == 5 &&
  (if live then (s.die d).stk.heat.contains bank.toNat && Config.bankMeets s.steps 2 d bank.toNat
   else (s.die d).stk.bad.contains bank.toNat || Config.bankMeets s.steps 0 d bank.toNat || Config.bankMeets s.steps 1 d bank.toNat)

/-- The banks retired for heat after a proposal: one that returns leaves them, one for heat alone joins them. -/
def heatAfter (s : State) (d : DieId) (bank : BitVec 14) (live : Bool) : List Nat :=
  let l := (s.die d).stk.heat
  if live then l.filter (fun x => x != bank.toNat)
  else if (s.die d).stk.bad.contains bank.toNat || Config.bankMeets s.steps 0 d bank.toNat || l.contains bank.toNat then l
  else l ++ [bank.toNat]

end Sys2Proof.Claims

/-- R29, R30, R177, R294, R358, R406: a barrier's own steps. A die whose arrivals are complete reports; the last one queues the
package's arrival for the other peers; with every peer's arrival the generation and the interval go up and the counts are
clear; the release reaches a core over marked ports, where the waiting predicate is then 1, the acquired interval of the group the new one where
it is ahead, and no predicate and no acquire waits any longer; a group that turns BROKEN writes its waiting predicates 0 and acquires nothing. -/
def Obligations.BarrierSteps : Prop :=
  ∀ (s : State) (g : GroupId) (d : DieId) (c : CoreId) (gen : W32) (v : Byte) (r : Slot) (x : CtxId) (k : Bool) (n : Nat),
    (Claims.dieReady s g d = true → (s.arm g).dieList.all (fun n => ((s.arm g).reported ++ [d]).contains (BitVec.ofNat 4 n)) = false →
      exec (.barrierDieComplete g d) s = .next
        (s.modArm g (fun a => { a with reported := a.reported ++ [d], sent := false }))) ∧
    (Claims.dieReady s g d = true → (s.arm g).dieList.all (fun n => ((s.arm g).reported ++ [d]).contains (BitVec.ofNat 4 n)) = true →
      exec (.barrierDieComplete g d) s = .next
        { s.modArm g (fun a => { a with reported := a.reported ++ [d], sent := true }) with fab := Claims.queued s g }) ∧
    ((s.arm g).v = true → (s.arm g).broken = false → (s.arm g).sent = true →
      (Claims.otherPeers s g).all (fun n => (s.arm g).came.contains (BitVec.ofNat 6 n)) = true →
      exec (.barrierGenerationComplete g) s = .next (s.modArm g (fun a =>
        { a with gen := a.gen + 1, interval := a.interval + 1, count := [], arrived := [], reported := [], sent := false
                 came := a.early, early := []
                 releases := a.releases ++ (s.waitersOf g a.gen).map (fun c => (a.gen, c, a.interval + 1)) }))) ∧
    ((s.arm g).releases.find? (fun e => e.2.1 == c) = some (gen, c, v) → s.routed g c = true →
      ∃ t, exec (.barrierRelease g c) s = .next t ∧
        (t.arm g).releases = (s.arm g).releases.filter (fun e => !(e == (gen, c, v))) ∧
        (t.core c).a.waitingOn g (some gen) = [] ∧ (t.core c).b.waitingOn g (some gen) = [] ∧
        (t.core c).a.watches g (some gen) = false ∧ (t.core c).b.watches g (some gen) = false) ∧
    ((s.arm g).releases.find? (fun e => e.2.1 == c) = some (gen, c, v) → s.routed g c = true → r = .a ∨ r = .b → n ≠ 0 →
      (s.res c r).pend = [(.p x k n, .bar g gen)] →
      ∃ t, exec (.barrierRelease g c) s = .next t ∧ (t.res c r).pend = [] ∧ Claims.predReads (t.res c r) x k n = true ∧
        Claims.acquiresInterval (s.res c r).groupSet (s.res c r).acquired (t.res c r).acquired g v = true) ∧
    ((s.arm g).releases.find? (fun e => e.2.1 == c) = some (gen, c, v) → s.routed g c = true → r = .a ∨ r = .b →
      (s.res c r).pend = [] → (s.res c r).watch = [(g, gen)] →
      ∃ t, exec (.barrierRelease g c) s = .next t ∧ (t.res c r).watch = [] ∧
        Claims.acquiresInterval (s.res c r).groupSet (s.res c r).acquired (t.res c r).acquired g v = true) ∧
    (s.cores.any (fun e => e.1 == c.toNat) = true → r = .a ∨ r = .b → n ≠ 0 → (s.res c r).pend = [(.p x k n, .bar g gen)] →
      ((s.breakGroup g).arm g).broken = true ∧ ((s.breakGroup g).res c r).pend = [] ∧
        Claims.predReads ((s.breakGroup g).res c r) x k n = false ∧ ((s.breakGroup g).res c r).acquired = (s.res c r).acquired) ∧
    ((s.arm g).releases.find? (fun e => e.2.1 == c) = some (gen, c, v) → s.routed g c = false →
      exec (.barrierRelease g c) s = .next s)

/-- R371, R374 to R382, R418: a walk, once the lines of its tables are free, takes them home and its translation enters the TLBs of the core
that waits, or its fault goes there. A TLBI's entries, those that the table of R377 gives its kind, leave once the FENCEs before it are complete; when no access, no frame and no peer is waited for any longer it acts on its page (REPLICA
removes the replicas, RCINIT resets the sectors) and its context goes on. A peer's shootdown removes all of that peer's remote-window
translations (that it does whatever its kind, page and root are is the model's choice, log 45), and its acknowledgement is owed until the frames sent through them are acknowledged; an answer ends the wait for a
peer, and 8 rotations without one mark it stale, so that no FLUSHED sent before ends that. -/
def Obligations.TranslationEvents : Prop :=
  ∀ (s : State) (d : DieId) (k n : Nat) (w : Walk) (c : CoreId) (pte : W64) (log : Nat) (sub : Byte) (x : Shoot) (t : PeerId)
    (kind : BitVec 3) (page : VAddr) (root : BitVec 34),
    (k < 256 → (s.die d).walks[k]? = some w → w.cores = [c] → s.walk w.root (w.page * 2 ^ 16) = .leaf pte log →
      s.tablesFree w.root (w.page * 2 ^ 16) = true →
      exec (.walkComplete d k) s = .next
        ((((s.walkHomes w.root (w.page * 2 ^ 16)).modDie d (fun y => { y with walks := y.walks.eraseIdx k })).modCore c
          (fun y => { y with tlb := tlbAdd 64 y.tlb (Claims.tlbEntry w pte log) })).modDie d
            (fun y => { y with ctlb := y.ctlb.mod [] (clusterOf c) (fun l => tlbAdd 4096 l (Claims.tlbEntry w pte log)) }))) ∧
    (k < 256 → (s.die d).walks[k]? = some w → w.cores = [c] → s.walk w.root (w.page * 2 ^ 16) = .bad sub →
      s.tablesFree w.root (w.page * 2 ^ 16) = true →
      exec (.walkComplete d k) s = .next
        (((s.walkHomes w.root (w.page * 2 ^ 16)).modDie d (fun y => { y with walks := y.walks.eraseIdx k })).modCore c
          (fun y => { y with walkFaults := y.walkFaults ++ [(w.root, w.page, sub.toNat)] }))) ∧
    ((s.die d).walks[k]? = some w → s.tablesFree w.root (w.page * 2 ^ 16) = false → exec (.walkComplete d k) s = .next s) ∧
    (s.shoots.find? (fun y => y.num == n) = some x → x.removed = none → s.tlbiFenced x = false →
      (∀ o ∈ s.fab.out, Claims.carriesOld s x o = true → s.frameStuck x.part o = false) →
      exec (.tlbiComplete n) s = .next (Claims.entriesGone s x)) ∧
    (s.shoots.find? (fun y => y.num == n) = some x → x.removed = none → s.tlbiFenced x = true →
      exec (.tlbiComplete n) s = .next s) ∧
    (Claims.tlbiReady s n x = true → x.kind ≠ 3 → x.kind ≠ 5 → exec (.tlbiComplete n) s = .next (Claims.goesOn s x n)) ∧
    (Claims.tlbiReady s n x = true → x.kind = 3 → s.walk x.root x.va.toNat = .leaf pte log →
      exec (.tlbiComplete n) s = .next (Claims.goesOn { s with
        replicas := s.replicas.filter (fun l => !(ptePa pte ≤ l * 128 && l * 128 < ptePa pte + 2 ^ log)) } x n)) ∧
    (Claims.tlbiReady s n x = true → x.kind = 5 → s.walk x.root x.va.toNat = .leaf pte log →
      exec (.tlbiComplete n) s = .next (Claims.goesOn { s with patina := Claims.rcInit s.patina (ptePa pte) (2 ^ log) } x n)) ∧
    (Claims.tlbiReady s n x = true → s.walk x.root x.va.toNat = .bad sub →
      exec (.tlbiComplete n) s = .next (Claims.goesOn s x n)) ∧
    (s.fab.out = [] → exec (.shootdownRequest t kind page root) s = .next { s with
      dies := s.dies.map (fun e => (e.1, { e.2 with rwt := e.2.rwt.filter (fun y => !(y.1 == s.domain && y.2.1 == t)) }))
      fab := { s.fab with owed := [] } }) ∧
    ((∀ o ∈ s.fab.out, Claims.carries s t o = true) → s.fab.out ≠ [] →
      exec (.shootdownRequest t kind page root) s = .next { s with
        dies := s.dies.map (fun e => (e.1, { e.2 with rwt := e.2.rwt.filter (fun y => !(y.1 == s.domain && y.2.1 == t)) }))
        fab := { s.fab with out := s.fab.out.map (fun o => { o with owed := true })
                            owed := (if s.fab.owed.contains t then s.fab.owed else s.fab.owed ++ [t]).filter (fun x => x == t) } }) ∧
    (exec (.shootdownAck n t) s = .next
      { s with shoots := s.shoots.map (fun y => if y.num == n then Claims.answered y t else y) }) ∧
    (s.shoots.find? (fun y => y.num == n) = some x → x.peers.contains t = true → 8 ≤ (s.fab.rot - x.since).toNat →
      exec (.shootdownTimeout n t) s = .next (State.rejoin
        { s with shoots := s.shoots.map (fun y => if y.num == n then Claims.answered y t else y)
                 fab := { s.fab.modPair t.toNat (fun p => { p with msgs := p.msgs.map (fun e =>
                     if e.1 == msgRejoin then (e.1, { e.2 with rid := s.fab.rid }) else e) }) with
                   stale := s.fab.stale ||| BitVec.ofNat 64 (2 ^ t.toNat), rid := s.fab.rid + 1 } } t.toNat))

/-- R384 to R389: a stacked memory's map. A bank's proposal and PROPOSE offer a map, of which the owner of the die is told; PROPOSE during a
re-stripe waits for its end; GO with PSEQ equal to SEQ starts the re-stripe, and its end, once no line is pinned, puts the map in force with
SEQ one higher. The mirror page, which holds STK_CAP and the map in force, is rewritten each time, and no other byte changes with it, nor with
the event record but in its place of the ring. Which banks a die proposes rests on the model's free causes (log 76). The tester visits the next bus, and a faulty bus with no spare left fences its column's core. -/
def Obligations.StackedMapSteps : Prop :=
  ∀ (s : State) (d : DieId) (bank : BitVec 14) (live : Bool) (pseq : BitVec 16) (faulty spare : Bool) (p : PartId) (n a : Nat),
    (Claims.proposes s d bank live = true → (s.die d).stk.state ≠ 2 → s.dieOwner d = none →
      exec (.bankRetireProposal d bank live) s = .next
        ((s.modStk d (fun k => { k with
          pdead := Claims.nextMap s d bank live, state := 1, heat := Claims.heatAfter s d bank live })).mirror d)) ∧
    (Claims.proposes s d bank live = true → (s.die d).stk.state ≠ 2 → s.dieOwner d = some p →
      exec (.bankRetireProposal d bank live) s = .next
        (((s.modStk d (fun k => { k with
          pdead := Claims.nextMap s d bank live, state := 1, heat := Claims.heatAfter s d bank live })).mirror d).eventLog p 1 d.toNat)) ∧
    (Claims.proposes s d bank live = true → (s.die d).stk.state = 2 →
      exec (.bankRetireProposal d bank live) s = .next
        (s.modStk d (fun k => { k with waiting := some (Claims.nextMap s d bank live), heat := Claims.heatAfter s d bank live }))) ∧
    (Claims.proposes s d bank live = false → exec (.bankRetireProposal d bank live) s = .next s) ∧
    (s.boot.phase = 5 → (s.die d).stk.state ≠ 2 → s.dieOwner d = none →
      exec (.stkPropose d) s = .next ((s.modStk d (fun k => { k with state := 1 })).mirror d)) ∧
    (s.boot.phase = 5 → (s.die d).stk.state ≠ 2 → s.dieOwner d = some p →
      exec (.stkPropose d) s = .next (((s.modStk d (fun k => { k with state := 1 })).mirror d).eventLog p 1 d.toNat)) ∧
    (s.boot.phase = 5 → (s.die d).stk.state = 1 → (s.die d).stk.seq = pseq →
      exec (.stkGo d pseq) s = .next ((s.modStk d (fun k => { k with state := 2, target := k.pdead })).mirror d)) ∧
    (s.boot.phase = 5 → (s.die d).stk.state ≠ 1 ∨ (s.die d).stk.seq ≠ pseq → exec (.stkGo d pseq) s = .next s) ∧
    (s.boot.phase ≠ 5 → exec (.stkPropose d) s = .next s.rejected ∧ exec (.stkGo d pseq) s = .next s.rejected) ∧
    ((s.die d).stk.state = 2 → (s.die d).stk.waiting = none → s.pinnedOn d = false →
      exec (.restripeComplete d) s = .next (((s.modStk d (fun k =>
        { k with dead := k.target, seq := k.seq + 1, state := 0, bad := k.bad.filter (fun b => !k.target.get false b) })).mirror d).settleAllRows)) ∧
    ((s.die d).stk.state = 2 → s.pinnedOn d = true → exec (.restripeComplete d) s = .next s) ∧
    (s.boot.phase = 5 → (s.die d).stk.state = 2 →
      exec (.stkPropose d) s = .next (s.modStk d (fun k => { k with waiting := some k.pdead }))) ∧
    (Claims.mirrorThere s d = true → n < 4096 → (s.mirror d).byte (Claims.mirrorAt s d + n) = Claims.mirrorByte (s.die d).stk n) ∧
    (Claims.mirrorThere s d = false → s.mirror d = s) ∧
    (a < Claims.mirrorAt s d ∨ Claims.mirrorAt s d + 4096 ≤ a → (s.mirror d).byte a = s.byte a) ∧
    (a < Claims.eventAt s p ∨ Claims.eventAt s p + 32 ≤ a → (s.eventLog p 1 n).byte a = s.byte a) ∧
    ((s.die d).stk.testEn = true → (s.die d).stk.state ≠ 2 → faulty = false ∨ spare = true →
      exec (.testerBusVisit d faulty spare) s = .next (s.modStk d (fun k =>
        { k with testBus := k.testBus + 1
                 testLanes := if faulty && k.testLanes != 0xFF then k.testLanes + 1 else k.testLanes }))) ∧
    ((s.die d).stk.testEn = true → (s.die d).stk.state ≠ 2 →
      exec (.testerBusVisit d true false) s = .next (match coreOfColumn d (s.die d).stk.testBus with
        | some c => (s.modStk d (fun k => { k with testBus := k.testBus + 1 })).coreFence c
        | none => s.modStk d (fun k => { k with testBus := k.testBus + 1 })))

namespace Sys2Proof.Claims

/-- A QCMD word with its OP and no must-be-0 bit set, once the device is up (R342, R459). -/
def command (s : State) (w : W64) (op : Nat) : Bool := s.ready && (w.setWidth 8).toNat == op && w.extractLsb' 18 14 == 0
/-- A doorbell has its effect at once: firmware does not hold the partition's, and no write of the host waits before it (R344, R454). -/
def ringsNow (s : State) (p : PartId) : Bool := s.ready && !(s.part p).held && s.hostQueue.all (fun x => !x.write)
/-- The 256 bits of an answer stand in QCMD_ARG0 to QCMD_ARG3, and QSTAT is 1 (R342). -/
def queried (s : State) (p : PartId) (d : BitVec 256) : State :=
  s.modPart p (fun k =>
    { k with args := k.args.putAll 0 ((List.range 4).map (fun i => (i, d.extractLsb' (64 * i) 64))), qstat := 1 })
/-- The low 256 bits of an Armature entry: V, STATE, INTERVAL, GEN, OWNER, DIEMASK, PEERMASK and EXPECT of die 0 (R356). -/
def armLow (a : Arm) : BitVec 256 :=
  ((BitVec.ofNat 144 (a.expect.get 0 0) ||| (BitVec.ofNat 144 (a.expect.get 0 1) <<< 9)).setWidth 16) ++ a.peers ++ a.dies ++ a.owner ++ a.gen ++
    a.interval ++ 0#86 ++ BitVec.ofBool a.broken ++ BitVec.ofBool a.v
/-- A partition's QSTAT after a command (R342). -/
def answer (s : State) (p : PartId) (n : Nat) : State := s.modPart p (fun k => { k with qstat := n })
/-- The queue descriptor in QCMD_ARG0 to QCMD_ARG3 (R341). -/
def argWords (s : State) (p : PartId) : BitVec 256 :=
  (s.part p).args.get 0 3 ++ (s.part p).args.get 0 2 ++ (s.part p).args.get 0 1 ++ (s.part p).args.get 0 0
/-- A queue as a descriptor creates it (R341): RPTR, WPTR and ERR are 0. -/
def created (p : PartId) (d : BitVec 256) : Queue :=
  { state := 1, part := p, base := d.extractLsb' 0 48, sizelog := d.extractLsb' 101 4, maxprio := d.extractLsb' 105 3
    homedie := d.extractLsb' 108 4, root := d.extractLsb' 112 34 }
/-- The queue is one of the partition's, in a state (R341). -/
def queueIn (s : State) (p : PartId) (q : QueueId) (st : BitVec 2) : Bool := (s.queue q).part == p && (s.queue q).state == st

/-- The dispatcher takes packet p next from a queue, which holds it without a must-be-0 bit set (R345, R351). -/
def takes (s : State) (q : QueueId) (p : Packet) (type : Nat) : Bool :=
  s.ready && s.serves (s.queue q).homedie == some q.toNat && (s.queue q).head.isNone && s.packetAt (s.queue q) == some p && !pktBad p && pktType p == type

/-- The packet has started: RPTR has gone on, and it is open (R341, R348). -/
def begun (s : State) (q : QueueId) (task : Option W32) : State :=
  (s.markServed q).modQueue q (fun k => { k with rptr := k.rptr + 1, open_ := k.open_ ++ [(k.rptr, task)] })
/-- It is complete (R348); the queue is ACTIVE, so that nothing else follows. -/
def ended (s : State) (q : QueueId) (n : W32) : State :=
  s.modQueue q (fun k => { k with open_ := k.open_.filter (fun e => e.1 != n) })

/-- A queue whose waiting LAUNCH, if one stands at its head, is taken back (R343). -/
def launchBack (k : Queue) : Queue :=
  if k.head.map (fun p => (p.getD 0 0).setWidth 4) = some (1 : BitVec 4) then { k with head := none, waiting := false } else k

/-- The doubleword of a SIGNAL or WAITSIG, reached as a dispatcher reaches it (R347). -/
def signalPlace (s : State) (q : QueueId) (p : Packet) (a : Acc) : Reached :=
  s.reachSpaceAs true (s.queue q).root (s.queue q).part a (pktAddr p) 8

/-- A doubleword written by a dispatcher: the bytes in memory, the line's home away from any L1, no release carried. -/
def signalled (s : State) (p : Piece) (x : Nat) : State :=
  ((s.returnHome p).retag p.addr false none).writeHome (p.addr.zip (leBytes p.addr.length x))

end Sys2Proof.Claims

/-- R341 to R343, R359, R361, R364, R454, R459: a doorbell in range moves WPTR, and one back to RPTR takes back a LAUNCH that waits; one
that rings while firmware holds the partition's, or behind a write of the host that waits, is kept; one for a queue that is not ACTIVE or not the
partition's is logged, and one out of range puts the queue in ERROR; each queue command does what its OP says and sets QSTAT
to 1. That a doorbell for another partition's queue is logged is the model's choice (log 34), as are that DOORBELL's bits [31:10] count as 0 (log 82),
that CLEARERR leaves ERR 0 (log 35), and that a QUERY with a TASK reads an Armature entry of that task (log 88).

R345, R347, R348, R352, R365: an ACTIVE queue's dispatcher takes a packet: NOP completes at once, SIGNAL writes or adds to its
doubleword and completes, WAITSIG completes when its condition holds and holds the queue until then; it reads no line that a lease, a pin or
an earlier request holds (R111, R118). -/
def Obligations.QueueCommandsAndPackets : Prop :=
  (∀ (s : State) (p : PartId) (w : W64) (q : QueueId) (t : Task), q = w.extractLsb' 8 10 →
     (Claims.ringsNow s p = true → Claims.queueIn s p (w.setWidth 10) 1 = true →
       (w.extractLsb' 32 32 - (s.queue (w.setWidth 10)).rptr : W32).toNat ≤ 2 ^ (s.queue (w.setWidth 10)).sizelog.toNat →
       w.extractLsb' 32 32 ≠ (s.queue (w.setWidth 10)).rptr →
       exec (.doorbell p w) s = .next (s.modQueue (w.setWidth 10) (fun k => { k with wptr := w.extractLsb' 32 32 }))) ∧
     (Claims.ringsNow s p = true → Claims.queueIn s p (w.setWidth 10) 1 = true →
       w.extractLsb' 32 32 = (s.queue (w.setWidth 10)).rptr →
       exec (.doorbell p w) s =
         .next (s.modQueue (w.setWidth 10) (fun k => { Claims.launchBack k with wptr := w.extractLsb' 32 32 }))) ∧
     (Claims.ringsNow s p = true → Claims.queueIn s p (w.setWidth 10) 1 = false →
       exec (.doorbell p w) s = .next (s.dispatchLog p 3 (w.setWidth 10 : QueueId).toNat 0 0 0)) ∧
     (Claims.ringsNow s p = true → Claims.queueIn s p (w.setWidth 10) 1 = true →
       2 ^ (s.queue (w.setWidth 10)).sizelog.toNat < (w.extractLsb' 32 32 - (s.queue (w.setWidth 10)).rptr : W32).toNat →
       exec (.doorbell p w) s = .next (s.queueError (w.setWidth 10) 3) ∧
       ((s.queueError (w.setWidth 10) 3).queue (w.setWidth 10)).state = 2 ∧
       ((s.queueError (w.setWidth 10) 3).queue (w.setWidth 10)).err = 3 ∧
       ((s.queueError (w.setWidth 10) 3).queue (w.setWidth 10)).wptr = (s.queue (w.setWidth 10)).wptr) ∧
     (s.ready = true → Claims.ringsNow s p = false →
       exec (.doorbell p w) s = .next (s.modPart p (fun k => { k with bells := k.bells ++ [w] }))) ∧
     (s.ready = false → exec (.doorbell p w) s = .next s.rejected ∧ exec (.qcmdCreate p w) s = .next s.rejected) ∧
     (Claims.command s w 1 = true → (s.queue q).state = 0 → (Claims.argWords s p).extractLsb' 48 53 = 0 →
       exec (.qcmdCreate p w) s = .next (Claims.answer (s.modQueue q (fun _ => Claims.created p (Claims.argWords s p))) p 1)) ∧
     (Claims.command s w 2 = true → Claims.queueIn s p q 1 = true →
       exec (.qcmdDestroy p w) s = .next (Claims.answer (s.modQueue q (fun k =>
         { k with state := if k.open_.isEmpty && k.head.isNone then 0 else 3 })) p 1)) ∧
     (Claims.command s w 3 = true → s.task? (w.extractLsb' 32 32) = some t → t.part = p →
       exec (.qcmdKill p w) s = .next (Claims.answer (s.endTask (w.extractLsb' 32 32) 2 0 0) p 1)) ∧
     (Claims.command s w 4 = true → Claims.queueIn s p q 2 = true →
       exec (.qcmdClearerr p w) s = .next (Claims.answer (s.modQueue q (fun k => { k with state := 1, err := 0 })) p 1)) ∧
     (Claims.command s w 5 = true → w.extractLsb' 16 2 = 0 → (s.arm (w.extractLsb' 8 8)).v = true →
       s.task? (s.arm (w.extractLsb' 8 8)).owner = some t → t.part = p →
       exec (.qcmdArmreload p w) s = .next (Claims.answer
         (s.modArm (w.extractLsb' 8 8) (fun a => { a with broken := false, count := [], arrived := [] })) p 1)) ∧
     (Claims.command s w 6 = true → w.extractLsb' 32 32 = 0 → Claims.queueIn s p q 1 = true →
       exec (.qcmdQuery p w) s = .next (Claims.queried s p (s.queue q).descriptor)) ∧
     (Claims.command s w 6 = true → w.extractLsb' 32 32 = t.id → t.id ≠ 0 → w.extractLsb' 16 2 = 0 → (s.arm (w.extractLsb' 8 8)).v = true →
       (s.arm (w.extractLsb' 8 8)).owner = t.id → s.task? t.id = some t → t.part = p → (s.arm (w.extractLsb' 8 8)).expect.all (fun e => e.1 < 2) = true →
       exec (.qcmdQuery p w) s = .next (Claims.queried s p (Claims.armLow (s.arm (w.extractLsb' 8 8))))) ∧
     (Claims.command s w 1 = true → (s.queue q).state ≠ 0 → exec (.qcmdCreate p w) s = .next (Claims.answer s p 2))) ∧
  (∀ (s : State) (q : QueueId) (pkt : Packet) (p : Piece) (x : W64), (s.queue q).state = 1 →
     (Claims.takes s q pkt 0 = true →
       exec (.nopPacket q pkt) s = .next (Claims.ended (Claims.begun s q none) q (s.queue q).rptr)) ∧
     (Claims.takes s q pkt 2 = true → pktOp pkt = 0 → Claims.signalPlace s q pkt .store = .ok p → s.dispFree p = true →
       exec (.signalPacket q pkt) s = .next (Claims.ended (Claims.signalled (Claims.begun s q none) p (dw pkt 2).toNat) q
         (s.queue q).rptr)) ∧
     (Claims.takes s q pkt 2 = true → pktOp pkt = 1 → Claims.signalPlace s q pkt .atomic = .ok p → s.dispFree p = true →
       exec (.signalPacket q pkt) s = .next (Claims.ended (Claims.signalled (Claims.begun s q none) p
         ((s.readList p.addr + (dw pkt 2).toNat) % 2 ^ 64)) q (s.queue q).rptr)) ∧
     (Claims.takes s q pkt 3 = true → Claims.signalPlace s q pkt .load = .ok p → x = BitVec.ofNat 64 (s.readList p.addr) →
       waitMet pkt x = true → s.dispReadable (s.queue q).root (s.queue q).part (pktAddr pkt).toNat 8 = true →
       exec (.waitsig q pkt) s = .next (Claims.ended (Claims.begun s q none) q (s.queue q).rptr)) ∧
     (Claims.takes s q pkt 3 = true → Claims.signalPlace s q pkt .load = .ok p → x = BitVec.ofNat 64 (s.readList p.addr) →
       waitMet pkt x = false → s.dispReadable (s.queue q).root (s.queue q).part (pktAddr pkt).toNat 8 = true →
       exec (.waitsig q pkt) s = .next ((Claims.begun s q none).modQueue q (fun k => { k with head := some pkt, waiting := true }))) ∧
     (Claims.takes s q pkt 3 = true → Claims.signalPlace s q pkt .load = .ok p →
       s.dispReadable (s.queue q).root (s.queue q).part (pktAddr pkt).toNat 8 = false → exec (.waitsig q pkt) s = .next s) ∧
     ((s.queue q).head = some pkt → pktType pkt = 3 → Claims.signalPlace s q pkt .load = .ok p →
       x = BitVec.ofNat 64 (s.readList p.addr) → waitMet pkt x = true → s.dispReadable (s.queue q).root (s.queue q).part (pktAddr pkt).toNat 8 = true →
       exec (.waitsigReread q) s = .next (Claims.ended (s.modQueue q (fun k => { k with head := none, waiting := false })) q
         ((s.queue q).rptr - 1))) ∧
     ((s.queue q).head = some pkt → pktType pkt = 3 → Claims.signalPlace s q pkt .load = .ok p →
       x = BitVec.ofNat 64 (s.readList p.addr) → waitMet pkt x = false ∨ s.dispReadable (s.queue q).root (s.queue q).part (pktAddr pkt).toNat 8 = false →
       exec (.waitsigReread q) s = .next s))

namespace Sys2Proof.Claims

/-- A LAUNCH's clusters have no core that a spare could replace, so that looking for cores changes nothing (R457, log 36). -/
def noSpareDue (s : State) (pkt : Packet) : Bool :=
  (lDieList pkt).all (fun d => (List.range 4).all (fun cl => (s.clusterCores d cl).all (fun c => !(s.core c).fenced)))

/-- The lists of the LAUNCH can be read now: no lease, no pin and no earlier request holds a line of them (R111, R118). -/
def listsFree (s : State) (q : QueueId) (pkt : Packet) : Bool :=
  (lDlist pkt == 0 || s.dispReadable (s.queue q).root (s.queue q).part (lDlist pkt) 32) &&
  s.dispReadable (s.queue q).root (s.queue q).part (lGlist pkt) (16 * lGroups pkt + lImage pkt)

/-- A LAUNCH can be admitted now (R351 to R354, R441): what it asks for is granted on those cores. -/
def admissible (s : State) (q : QueueId) (pkt : Packet) (w : Wanted) (l : List (CoreId × Nat × Slot)) : Bool :=
  listsFree s q pkt && s.wanted (s.queue q) pkt == some w && !s.barred q pkt ((s.queue q).prioOf (some pkt)) &&
  s.pickCores pkt ((s.queue q).prioOf (some pkt)) w == some l && s.grantsZones (s.queue q).part (pktClass pkt) (zonesOf l)

/-- It cannot: its lists cannot be read yet, a higher launch bars it, no core is free for it, or its zones are not granted. -/
def mustWait (s : State) (q : QueueId) (pkt : Packet) (w : Wanted) : Bool :=
  !listsFree s q pkt || s.wanted (s.queue q) pkt == some w && (s.barred q pkt ((s.queue q).prioOf (some pkt)) ||
    (match s.pickCores pkt ((s.queue q).prioOf (some pkt)) w with
     | none => true
     | some l => !s.grantsZones (s.queue q).part (pktClass pkt) (zonesOf l)))

/-- It stays at the head of its queue (R352). -/
def waits (s : State) (q : QueueId) (pkt : Packet) : State :=
  s.modQueue q (fun k => { k with head := some pkt, waiting := true })

/-- No write of the task is outstanding, and its completion record can be written, at p once the task is released (R360, R362,
R363). -/
def recordAt (s : State) (t : Task) (p : Piece) : Bool :=
  s.taskQuiet t && s.recordReady t.root t.part t.signal &&
  (s.release t).reachSpaceAs true t.root t.part .store (t.signal.setWidth 64) 8 == .ok p

end Sys2Proof.Claims

/-- R346, R351 to R355, R457: a LAUNCH that its dispatcher takes is admitted on the cores chosen for it, waits at the head of its
queue, or is refused, which starts no task, writes a completion record with STATUS 6 and TASK 0 and goes on to the next packet; one that waits is admitted when its queue's turn comes.
Admitted, it is one task more, and each of its cores holds a context whose pc is ENTRY.

R18, R360 to R363: a task of which every core has executed EXIT ends with STATUS 1 once its writes are performed: it is none of
the running tasks any longer, its packet is complete, and its completion record stands in memory; a task that still runs, and
is not to end, goes on. A task that is to end with another STATUS is stopped first, and the end is logged (R366); after COOLANT_LOST
its traps come first (R334). -/
def Obligations.LaunchesAndTaskEnds : Prop :=
  (∀ (s : State) (q : QueueId) (pkt : Packet) (w : Wanted) (l : List (CoreId × Nat × Slot)) (p : Piece), Claims.noSpareDue s pkt = true →
     (Claims.takes s q pkt 1 = true → Claims.admissible (s.markServed q) q pkt w l = true →
       exec (.launch q pkt) s =
         .next ((s.markServed q).admitTask q pkt ((s.queue q).prioOf (some pkt)) w l)) ∧
     (Claims.takes s q pkt 1 = true → Claims.mustWait (s.markServed q) q pkt w = true →
       exec (.launch q pkt) s = .next (Claims.waits (s.markServed q) q pkt)) ∧
     (Claims.takes s q pkt 1 = true → Claims.listsFree s q pkt = true → (s.markServed q).wanted (s.queue q) pkt = none →
       (s.markServed q).recordReady (s.queue q).root (s.queue q).part (lSignal pkt) = true →
       ∃ t, exec (.launch q pkt) s = .next t ∧ t.tasks = s.tasks ∧ t.launched = s.launched ∧
         (t.queue q).rptr = (s.queue q).rptr + 1 ∧ (t.queue q).head = none) ∧
     (Claims.takes s q pkt 1 = true → Claims.listsFree s q pkt = true → (s.markServed q).wanted (s.queue q) pkt = none →
       s.reachSpaceAs true (s.queue q).root (s.queue q).part .store ((lSignal pkt).setWidth 64) 8 = .ok p → s.dispFree p = true →
       exec (.launch q pkt) s = .next (((((s.markServed q).dispWrite p (recordOf 0 0 6).toNat).dispatchLog (s.queue q).part 4 q.toNat 0
         (lSignal pkt).toNat 6).modQueue q (fun k =>
           { k with rptr := k.rptr + 1, head := none, waiting := false, open_ := (k.open_ ++ [(k.rptr, none)]).filter (fun e => e.1 != (s.queue q).rptr) })).settleQueue q)) ∧
     ((s.queue q).head = some pkt → pktType pkt = 1 → s.ready = true → s.serves (s.queue q).homedie = some q.toNat →
       Claims.admissible (s.markServed q) q pkt w l = true →
       exec (.admissionRetry q) s =
         .next ((s.markServed q).admitTask q pkt ((s.queue q).prioOf (some pkt)) w l)) ∧
     (s.serves (s.queue q).homedie ≠ some q.toNat → exec (.admissionRetry q) s = .next s) ∧
     (Claims.admissible s q pkt w l = true →
       (s.admitTask q pkt ((s.queue q).prioOf (some pkt)) w l).launched = s.launched + 1 ∧
       (s.admitTask q pkt ((s.queue q).prioOf (some pkt)) w l).tasks.length = s.tasks.length + 1 ∧
       (∀ e ∈ l, ((s.admitTask q pkt ((s.queue q).prioOf (some pkt)) w l).res e.1 e.2.2).occ = true ∧
         ((s.admitTask q pkt ((s.queue q).prioOf (some pkt)) w l).res e.1 e.2.2).primary.pc = lEntry pkt))) ∧
  (∀ (s : State) (id : W32) (t : Task) (p : Piece) (e : Ending), s.task? id = some t →
     (t.ending = none → t.cores.all (fun e => t.exited.contains e.1) = false → exec (.taskEnd id) s = .next s) ∧
     (t.ending = none → t.cores.all (fun e => t.exited.contains e.1) = true → Claims.recordAt s t p = true →
       exec (.taskEnd id) s = .next (((s.release t).dispWrite p (recordOf id 0 1).toNat).completed t.queue t.packet) ∧
       (s.release t).task? id = none) ∧
     (t.ending = some e → e.status ≠ 1 → e.status ≠ 5 ∨ s.trapPending t = false → Claims.recordAt (s.stopTask t) t p = true →
       exec (.taskEnd id) s = .next
         ((((((s.stopTask t).release t).dispWrite p (recordOf id (if 3 ≤ e.status.toNat then e.cause else 0) e.status).toNat)).dispatchLog
           t.part 5 t.queue.toNat id.toNat t.signal.toNat e.status.toNat).completed t.queue t.packet)) ∧
     (t.ending = some e → e.status = 5 → s.trapPending t = true → exec (.taskEnd id) s = .next s))

namespace Sys2Proof.Claims

/-- The registers of every die's OFU change. -/
def eachOfu (b : Fabric) (g : Ofu → Ofu) : Fabric := { b with ofus := (List.range 16).foldl (fun t d => t.mod {} d g) b.ofus }

/-- The state in which a TOPO packet's procedure begins: the packet has started, it holds its queue, QDONE and LOADERR are clear
(R349, R419, R420). -/
def topoBegun (s : State) (q : QueueId) (pkt : Packet) : State :=
  ((begun s q none).modQueue q (fun k => { k with head := some pkt })).modFab (fun b =>
    { eachOfu b (fun o => { o with qdone := false, loaderr := false }) with topo := some (topoRecord (s.queue q) q pkt) })

/-- The TOPO under way is x, in a step. -/
def inStep (s : State) (x : Topo) (n : Nat) : Bool := s.fab.topo == some x && x.step == n

/-- The procedure goes on with x. -/
def topoNow (s : State) (x : Topo) : State := s.modFab (fun b => { b with topo := some x })

/-- The ports of PORTMASK change. -/
def eachPort (s : State) (x : Topo) (g : Nat → Port → Port) : State :=
  x.portList.foldl (fun t p => t.modFab (fun b => b.modPort p (g p))) s

/-- The ports of PORTMASK have trained: one that failed is DOWN, and each port's record goes to the ring of its die (R420, R423). -/
def eachTrained (s : State) (x : Topo) (failed : W32) : State :=
  x.portList.foldl (fun t p => (t.modFab (fun b => b.modPort p (fun k =>
    if failed.getLsbD p then { k with state := 0 } else k.trained true))).fabLog (if failed.getLsbD p then 2 else 4) p 0xFF 0 0) s

/-- A retraining that the RETRAIN asked for has not ended (R417, R420). -/
def stillTrains (s : State) (x : Topo) : Bool := s.fab.retrains.any (fun a => a.own && x.ports.getLsbD a.port.toNat)

/-- The agreement on a new rotation, three rotations on, when that of the packet has passed (R414, R420). -/
def newLoad (s : State) : Repair :=
  { owner := s.peer, rid := s.fab.rid, rn := s.fab.rot + 3, action := 4, port := 0, line := 0xFF, target := s.peer, relay := 0
    waiting := s.peerList.map (BitVec.ofNat 6), members := s.peerList.map (BitVec.ofNat 6) }
/-- It is proposed to every present peer. -/
def loadProposed (s : State) : State :=
  s.peerList.foldl (fun u t => u.say t msgPropose (newLoad s).msg)
    (s.modFab (fun b => { b with rid := b.rid + 1, repairs := b.repairs ++ [newLoad s] }))

/-- The new tables may take effect now: rotation RN, or the last agreed on, has come, and every peer has accepted (R414, R420). -/
def loadNow (s : State) (x : Topo) : Bool :=
  s.fab.rot == (match s.loadRepairs.getLast? with | some r => r.rn | none => x.rn) && s.fab.slot == 0 &&
  s.loadRepairs.all (fun r => r.waiting.isEmpty)

end Sys2Proof.Claims

/-- R349, R414, R417, R419, R420, R423: the steps of a TOPO. Its packet starts it; the end of the drain sets QDONE; FAB_CTL or the
time-out starts training; trained ports are UP, a port that fails is DOWN, and the ring of each port's die has the record; and at RN the tables take effect and the TOPO is
complete, a RECONFIGURE's peers resuming with them; where RN has passed, a new rotation is proposed to every peer, and its ACCEPTs are awaited.
That QDONE and LOADERR are those of every die, that the time-out is a turn of its own, and that the RN of the last proposal counts, are the
model's choices (log 40). -/
def Obligations.TopoSteps : Prop :=
  ∀ (s : State) (q : QueueId) (pkt : Packet) (x : Topo) (d : DieId) (failed : W32),
    (s.fab.topo = none → Claims.takes s q pkt 4 = true → topoAction pkt = 1 →
      exec (.topoReconfigure q pkt) s =
        .next ((Claims.topoBegun s q pkt).quiescePorts (topoRecord (s.queue q) q pkt))) ∧
    (s.fab.topo = none → Claims.takes s q pkt 4 = true → topoAction pkt = 2 →
      exec (.topoLoad q pkt) s = .next (Claims.topoBegun s q pkt)) ∧
    (s.fab.topo = none → Claims.takes s q pkt 4 = true → topoAction pkt = 3 →
      exec (.topoRetrain q pkt) s = .next ((topoRecord (s.queue q) q pkt).portList.foldl (fun t p =>
        t.peerList.foldl (fun u n => u.askRetrain (topoRecord (s.queue q) q pkt).rn p n) t) (Claims.topoBegun s q pkt))) ∧
    (Claims.inStep s x 1 = true →
      exec .topoDrainEnd s = .next (s.modFab (fun b =>
        { Claims.eachOfu b (fun o => { o with qdone := true }) with topo := some { x with step := 3 } }))) ∧
    (s.boot.phase = 5 → Claims.inStep s x 3 = true →
      exec (.fabCtlResume d 1) s =
        .next (Claims.eachPort (Claims.topoNow s { x with step := 4 }) x (fun _ k => { k with state := 1 }))) ∧
    (Claims.inStep s x 3 = true → x.timeout ≠ 0 →
      exec .topoTimeout s =
        .next (Claims.eachPort (Claims.topoNow s { x with step := 4, keepOld := true }) x (fun _ k => { k with state := 1 }))) ∧
    (Claims.inStep s x 3 = true → x.timeout = 0 → exec .topoTimeout s = .next s) ∧
    (Claims.inStep s x 4 = true → x.action = 1 →
      exec (.topoTrainEnd failed) s = .next (Claims.topoNow (Claims.eachTrained s x failed) { x with step := 5 })) ∧
    (Claims.inStep s x 4 = true → x.action ≠ 1 → Claims.stillTrains s x = false →
      exec (.topoTrainEnd failed) s = .next ((Claims.eachTrained s x failed).settlePorts.relinkAll.endTopo x)) ∧
    (Claims.inStep s x 4 = true → x.action ≠ 1 → Claims.stillTrains s x = true →
      exec (.topoTrainEnd failed) s = .next s) ∧
    (Claims.inStep s x 5 = true → x.action ≠ 1 → s.loadRepairs = [] → Claims.loadNow s x = true →
      exec .topoTableLoad s = .next (((({ s with fab := { s.fab with
        repairs := s.fab.repairs.filter (fun r => !(r.action == 4)) } } : State).loadTables x).relinkAll).endTopo x)) ∧
    (Claims.inStep s x 5 = true → x.action = 1 → s.loadRepairs = [] → Claims.loadNow s x = true →
      exec .topoTableLoad s = .next (((({ s with fab := { s.fab with
        repairs := s.fab.repairs.filter (fun r => !(r.action == 4)) } } : State).loadTables x).resumeFabric x).endTopo x)) ∧
    (Claims.inStep s x 5 = true → s.loadRepairs = [] → Claims.loadNow s x = false →
      (s.fab.rot - x.rn : W32).toNat = 0 ∨ 2 ^ 31 ≤ (s.fab.rot - x.rn : W32).toNat →
      exec .topoTableLoad s = .next s) ∧
    (Claims.inStep s x 5 = true → s.loadRepairs = [] →
      0 < (s.fab.rot - x.rn : W32).toNat → (s.fab.rot - x.rn : W32).toNat < 2 ^ 31 →
      exec .topoTableLoad s = .next (Claims.loadProposed s)) ∧
    (Claims.inStep s x 5 = true → s.loadRepairs.all (fun r => r.waiting.isEmpty) = false → exec .topoTableLoad s = .next s)

namespace Sys2Proof.Claims

/-- A line of a port of this package. -/
def lineAt (s : State) (port : PortId) (line : Byte) : Line := (s.fab.port port.toNat).line line.toNat
/-- The line takes a new state. -/
def setLine (s : State) (port : PortId) (line : Byte) (x : Line) : State :=
  s.modFab (fun f => f.modPort port.toNat (fun p => p.setLine line.toNat x))

/-- A die's optical fabric unit changes. -/
def setOfu (s : State) (d : DieId) (g : Ofu → Ofu) : State := s.modFab (fun f => f.modOfu d.toNat g)

/-- An OFU counts one slot more, by the marker or, once it has had the marker's counters, without it; 64 slots are a rotation (R395). -/
def pulse (o : Ofu) : Ofu :=
  if o.lock then { o with slot := o.slot + 1, rot := if o.slot = 63 then o.rot + 1 else o.rot, unlocked := none }
  else match o.unlocked with
    | some n => { o with slot := o.slot + 1, rot := if o.slot = 63 then o.rot + 1 else o.rot, unlocked := some (n + 1) }
    | none => o
/-- The counters after the marker's pulse. -/
def ticked (s : State) : State := s.modFab (fun f => { f with ofus := f.ofus.map (fun e => (e.1, pulse e.2)) })
/-- The marker's pulse has reached every OFU; where the package is then without lock, what MODE reads of each peer was kept before (R416). -/
def pulsed (s : State) : State :=
  if (ticked s).fab.lost && !s.fab.lost then ticked (s.peerList.foldl State.keepMode s) else ticked s
/-- The dies of which a rotation begins with it. -/
def begins (s : State) : List Nat :=
  ((pulsed s).fab.ofus.filter (fun e => (e.2.lock || e.2.unlocked.isSome) && e.2.slot == 0)).map (fun e => e.1)

/-- The monitor's offset is recorded (R409). -/
def measured (s : State) (port : PortId) (line : Byte) (mhz : BitVec 16) : State :=
  setLine s port line { lineAt s port line with drift := mhz }
/-- A line that carries light or may: GOOD, idle spare or spare in use (R409). -/
def lit (x : Line) : Bool := x.state == 0 || x.state == 3 || x.state == 4
/-- STATE of a line that is well again: GOOD, idle spare, or spare in use (R409, R411). -/
def wellState (line : Byte) (x : Line) : BitVec 4 := if line.toNat < 64 then 0 else if x.forLine = 0xFF then 3 else 4

/-- The slots since a frame was last sent, by the counters of its port's OFU (R403). -/
def age (s : State) (o : OutFrame) : Nat :=
  match o.sentAt, o.via with
  | some r, some v =>
    (64 * (s.rotOf v.1.toNat).toNat + (s.slotOf v.1.toNat).toNat + 2 ^ 38 - (64 * r.toNat + o.sentSlot.toNat)) % 2 ^ 38
  | _, _ => 0
/-- A frame to a package of that peer number that was sent and is not acknowledged. -/
def unacked (t : PeerId) (o : OutFrame) : Bool := o.frame.dst == t && o.seq.isSome && !o.acked
/-- Every frame not acknowledged to a package of which one has been out for 2 rotations is to be sent again (R403). -/
def allAgain (s : State) (t : PeerId) : List OutFrame :=
  s.fab.out.map (fun o =>
    if unacked t o && s.fab.out.any (fun q => unacked t q && 128 ≤ age s q && s.pairKey q.frame.ddom q.frame.dst == s.pairKey o.frame.ddom o.frame.dst)
    then { o with again := true } else o)

/-- The RETUNE that announces a retuning for rotation rn (R411, R414). -/
def retuneMsg (s : State) (port : PortId) (line : Byte) (rn : W32) : RepairMsg :=
  { rn := rn, action := 0, port := port, line := line, owner := s.peer, rpeer := 0, rid := s.fab.rid }

/-- Rotation rn has come by the counters of a port's OFU. -/
def hasCome (s : State) (port : PortId) (rn : W32) : Bool := (s.rotOf port.toNat - rn : W32).toNat < 2 ^ 31

/-- A repair of this package's own whose ACCEPTs are missing at the start of rotation RN - 1, or later (R414). -/
def late (s : State) (r : Repair) : Bool :=
  r.owner == s.peer && !r.waiting.isEmpty && (s.rotOf r.port.toNat + 1 - r.rn : W32).toNat < 2 ^ 31 &&
  (s.slotOf r.port.toNat == 0 || s.rotOf r.port.toNat + 1 != r.rn)

/-- It is to bring a relay for a peer whose hold by silence ends (R418; the model's choice, log 90). -/
def hopeless (s : State) (r : Repair) : Bool :=
  r.action == 3 && (s.fab.link r.target.toNat).silent && (s.fab.link r.target.toNat).hold == some 0

/-- It is put off to three rotations on, and every member is asked again. -/
def putOff (s : State) (r : Repair) : Repair := { r with rn := s.rotOf r.port.toNat + 3, waiting := r.members }

/-- The repair takes effect now (R414, R415). -/
def dueNow (s : State) (r : Repair) : Bool := r.waiting.isEmpty && r.action != 4 && hasCome s r.port r.rn

/-- A retraining that begins: its RN has come, and it is agreed on or is the fifth request of this end (R417). -/
def retrains (s : State) (a : Announced) : Bool :=
  !a.begun && hasCome s a.port a.rn && (a.accepted || (a.own && 4 ≤ a.defers))

/-- The entries of a port that receive from a DOWN owner become idle (R412). -/
def dropEntries (s : State) (a : Announced) (p : Port) : Port :=
  p.mapFrieze (fun _ e => if rxLine e < 72 && s.sourceOf (offsetOf (rxLine e)) == a.peer.toNat then frieze (txLine e) 0xFF (relayBit e) else e)

end Sys2Proof.Claims

/-- R14, R394, R395, R400, R403, R404, R416, R423, R459: slots and lock. Before READY nothing happens; a slot is counted at every OFU, a rotation
that begins takes its effects first, then the slot's frames leave, but none once an OFU has been without lock for more than 8 slots,
when each present peer reads QUIESCED and MODE as it did before (that one OFU without lock is enough is the model's choice, log 50). A die's OFU that loses lock counts on, and takes the marker's counters when it finds it again. Frames are sent
again 2 rotations after they were sent; an OFU that was reset sends nothing to a peer until a header comes (that the reset of one OFU
mutes every pair is the model's choice, log 51; so is the die that a marker's row names, log 50).

R409 to R413, R416, R423, R459: lines and ports, once the device is up. Drift up to 8,000 MHz is only recorded, beyond it a line or a
spare is declared BAD; one of them begins a retuning of which its target is told, and is well again three rotations after RN; and a
comb that fails takes its port DOWN. -/
def Obligations.SlotsLinesAndPorts : Prop :=
  (∀ (s : State) (rot : W32) (slot : BitVec 6) (t : PeerId) (d : DieId) (n : Nat) (o : Ofu),
     (s.ready = false → exec .slotBoundary s = .next s ∧ exec (.retransmitTimeout t) s = .next s ∧ exec (.ofuReset d) s = .next s) ∧
     (s.ready = true → Claims.begins s = [] → exec .slotBoundary s = .next (Claims.pulsed s).transmit) ∧
     (s.ready = true → Claims.begins s ≠ [] →
       exec .slotBoundary s = .next (((Claims.pulsed s).rotationBegins (Claims.begins s)).topoTableLoad).transmit) ∧
     (s.ready = true → Claims.begins s = [] → (Claims.pulsed s).fab.lost = true → exec .slotBoundary s = .next (Claims.pulsed s)) ∧
     ((Claims.ticked s).fab.lost = true → s.fab.lost = false → t ∈ s.peerList.map (BitVec.ofNat 6) →
       ∀ part : PartId, (Claims.pulsed s).linkMode part t.toNat = s.linkMode part t.toNat) ∧
     ((n, o) ∈ s.fab.ofus → 8 < o.unlocked.getD 0 → s.fab.lost = true ∧ (s.fab.present t.toNat = true → s.fab.quiesced t.toNat = true)) ∧
     (exec .markerLockLoss s = .next (Claims.setOfu s s.cur.die (fun o =>
       { o with lock := false, unlocked := if o.lock then some 0 else o.unlocked }))) ∧
     (exec (.markerLockAcquired rot slot) s = .next (Claims.setOfu s s.cur.die (fun o =>
       { o with lock := true, rot := rot, slot := slot, unlocked := none })).relinkAll) ∧
     (s.ready = true → exec (.retransmitTimeout t) s = .next (s.modFab (fun f => { f with out := Claims.allAgain s t }))) ∧
     (s.ready = true → exec (.ofuReset d) s = .next (((s.modDie d (fun k => { k with rwt := [] })).modFab (fun f =>
       { f with pairs := f.pairs.map (fun e => (e.1, { e.2 with mute := true }))
                relay := f.relay.filter (fun g => g.atPort.toNat / 2 != d.toNat) })).replay (fun _ _ => true)))) ∧
  (∀ (s : State) (port : PortId) (line : Byte) (mhz : BitVec 16) (rn : W32),
     (s.ready = false → exec (.lineDrift port line mhz) s = .next s ∧ exec (.lineRetuneStart port line) s = .next s ∧
       exec (.retuneEnd port line mhz) s = .next s ∧ exec (.combFailure port) s = .next s) ∧
     (s.ready = true → mhz.toInt.natAbs ≤ 8000 →
       exec (.lineDrift port line mhz) s = .next (Claims.measured s port line mhz)) ∧
     (s.ready = true → 8000 < mhz.toInt.natAbs → line.toNat < 72 → Claims.lit (Claims.lineAt s port line) = true →
       exec (.lineDrift port line mhz) s = .next ((Claims.measured s port line mhz).declareDrift port.toNat line.toNat) ∧
       (Claims.lineAt ((Claims.measured s port line mhz).declareDrift port.toNat line.toNat) port line).state = 2 ∧
       (Claims.lineAt ((Claims.measured s port line mhz).declareDrift port.toNat line.toNat) port line).muted = true ∧
       (Claims.lineAt ((Claims.measured s port line mhz).declareDrift port.toNat line.toNat) port line).forLine = 0xFF) ∧
     (s.ready = true → (s.fab.port port.toNat).lines.all (fun l => l.2.retune.isNone) = true → Claims.lit (Claims.lineAt s port line) = true →
       line.toNat < 72 →
       exec (.lineRetuneStart port line) s =
         .next ((((Claims.setLine s port line { Claims.lineAt s port line with retune := some (s.rotOf port.toNat + 1) }).say
           (s.targetOf (offsetOf line.toNat)) msgRetune (Claims.retuneMsg s port line (s.rotOf port.toNat + 1))).modFab
             (fun f => { f with rid := f.rid + 1 })).fabLog 7 port.toNat line.toNat (s.targetOf (offsetOf line.toNat)) s.fab.rid.toNat)) ∧
     (s.ready = true → (Claims.lineAt s port line).retune = some rn → (Claims.lineAt s port line).state = 1 →
       3 ≤ (s.rotOf port.toNat - rn : W32).toNat → mhz.toInt.natAbs ≤ 8000 →
       exec (.retuneEnd port line mhz) s =
         .next ((((Claims.setLine s port line
           { Claims.lineAt s port line with drift := mhz, state := Claims.wellState line (Claims.lineAt s port line), retune := none }).modFab
           (fun f => f.modPair (s.targetOf (offsetOf line.toNat)) (fun p => { p with msgs := p.msgs.filter (fun e =>
             !(e.1 == msgRetune && e.2.port.toNat == port.toNat && e.2.line.toNat == line.toNat)) }))).fabLog 8 port.toNat line.toNat
           (s.targetOf (offsetOf line.toNat)) 0).relink (s.targetOf (offsetOf line.toNat)))) ∧
     (s.ready = true → (s.fab.port port.toNat).state = 0 → exec (.combFailure port) s = .next s) ∧
     (s.ready = true → (s.fab.port port.toNat).state ≠ 0 →
       exec (.combFailure port) s = .next (s.portFails port.toNat) ∧ ((s.portFails port.toNat).fab.port port.toNat).state = 0))

/-- R410, R412, R414 to R418, R459: repairs, retrainings and removals, each of which completes on any device that is up. The repairs whose RN
has come take effect, those that are late are put off; the PORTDOWNs whose RN has come take their entries; a retraining begins at its RN and
ends two rotations on with its line GOOD; a peer that is silent for 8 rotations is held, and is removed when its hold ends with no path, with the groups that name it BROKEN. The rotations of a silence and of a hold are those of the
lowest OFU that is locked (the model's choice, log 50). -/
def Obligations.RepairsAndRemovals : Prop :=
  ∀ (s : State) (r : Repair) (a : Announced) (port : PortId) (t : PeerId) (g : GroupId), s.ready = true →
    (∃ u, exec .repairApply s = .next u ∧ u.fab.repairs = s.fab.repairs.filter (fun x => !Claims.dueNow s x)) ∧
    (s.fab.repairs = [r] → Claims.dueNow s r = true →
      exec .repairApply s = .next ((((s.applyRepair r).fabLog 3 r.port.toNat r.line.toNat r.target.toNat r.rid.toNat).modFab
        (fun f => { f with repairs := [] })).unsay r.owner.toNat msgAccept r.rid)) ∧
    (∃ u, exec .repairRepropose s = .next u ∧ u.mem = s.mem ∧
      u.fab.repairs = (s.fab.repairs.filter (fun x => !(Claims.late s x && Claims.hopeless s x))).map
        (fun x => if Claims.late s x then Claims.putOff s x else x)) ∧
    (s.fab.repairs = [r] → Claims.late s r = true → Claims.hopeless s r = true →
      exec .repairRepropose s = .next ((r.members.foldl (fun u m => u.unsay m.toNat msgPropose r.rid) s).modFab
        (fun f => { f with repairs := [] }))) ∧
    (s.fab.repairs = [r] → Claims.late s r = true → Claims.hopeless s r = false →
      exec .repairRepropose s = .next ((r.members.foldl (fun u m => u.say m.toNat msgPropose (Claims.putOff s r).msg) s).modFab
        (fun f => { f with repairs := [Claims.putOff s r] }))) ∧
    (∃ u, exec .portdownApply s = .next u ∧ u.mem = s.mem ∧
      u.fab.portdowns = s.fab.portdowns.filter (fun x => !Claims.hasCome s x.port x.rn)) ∧
    (s.fab.portdowns = [a] → Claims.hasCome s a.port a.rn = true →
      exec .portdownApply s = .next (s.modFab (fun f =>
        { f.modPort a.port.toNat (Claims.dropEntries s a) with portdowns := [] }))) ∧
    (s.fab.retrains = [a] → Claims.retrains s a = true → a.port = port → a.peer = t →
      exec (.retrainEnd port t) s = .next (s.modFab (fun f =>
        { f.modPort port.toNat (fun p => { p with retraining := if p.retraining.contains t then p.retraining else p.retraining ++ [t] }) with
          retrains := [{ a with rn := s.rotOf port.toNat, begun := true }] }))) ∧
    (s.fab.retrains = [a] → a.begun = true → a.port = port → a.peer = t →
      2 ≤ (s.rotOf port.toNat - a.rn : W32).toNat → ((s.fab.port port.toNat).line (s.offsetTo t.toNat)).state ≠ 4 →
      ∃ u, exec (.retrainEnd port t) s = .next u ∧ u.fab.retrains = [] ∧
        ((u.fab.port port.toNat).line (s.offsetTo t.toNat)).state = 0 ∧
        (u.fab.port port.toNat).retraining = (s.fab.port port.toNat).retraining.erase t) ∧
    (s.fab.retrains.all (fun x => !Claims.retrains s x && !(x.port == port && x.peer == t)) = true →
      exec (.retrainEnd port t) s = .next s) ∧
    (s.fab.present t.toNat = true → t ≠ s.peer → (s.fab.link t.toNat).mode ≠ 0 → (s.fab.link t.toNat).hold = none →
      8 ≤ (s.fab.rot - (s.fab.pair t.toNat).heard : W32).toNat →
      exec (.peerSilenceTimeout t) s = .next ((s.keepMode t.toNat).modFab (fun f => f.modLink t.toNat (fun l => { l with hold := some 8, silent := true })))) ∧
    ((s.fab.rot - (s.fab.pair t.toNat).heard : W32).toNat < 8 → exec (.peerSilenceTimeout t) s = .next s) ∧
    (t ≠ s.peer → (s.fab.link t.toNat).hold = some 0 → s.hasDirect t.toNat = false → s.ownRelay t.toNat = none →
      exec (.peerRemoval t) s = .next (s.removePeer t.toNat) ∧ (s.removePeer t.toNat).fab.present t.toNat = false ∧
      ((s.removePeer t.toNat).fab.link t.toNat).mode = 0) ∧
    ((s.arm g).v = true → (s.arm g).broken = false → (s.arm g).peers.getLsbD t.toNat = true →
      ((s.removePeer t.toNat).arm g).broken = true) ∧
    (s.hasDirect t.toNat = false → (s.fab.link t.toNat).hold.isSome = true →
      (s.fab.link t.toNat).hold ≠ some 0 ∨ (s.ownRelay t.toNat).isSome = true → exec (.peerRemoval t) s = .next s) ∧
    (exec (.peerRemoval s.peer) s = .next s)

namespace Sys2Proof.Claims

/-- The messages repeated in the headers to a peer, with one in place of those of its kind and RID (R414). -/
def saying (l : List (Byte × RepairMsg)) (k : Byte) (m : RepairMsg) : List (Byte × RepairMsg) :=
  l.filter (fun e => !(e.1 == k && e.2.rid == m.rid)) ++ [(k, m)]
/-- Without those of a kind and RID. -/
def silent (l : List (Byte × RepairMsg)) (k : Byte) (rid : BitVec 16) : List (Byte × RepairMsg) :=
  l.filter (fun e => !(e.1 == k && e.2.rid == rid))
/-- Without the requests that an ACCEPT of an RN answers. -/
def agreed (l : List (Byte × RepairMsg)) (m : RepairMsg) : List (Byte × RepairMsg) :=
  l.filter (fun e => !((e.1 == msgPropose || e.1 == msgRetrain) && e.2.rid == m.rid && e.2.rn == m.rn))

/-- The messages to a peer change. -/
def msgs (f : Fabric) (t : PeerId) (g : List (Byte × RepairMsg) → List (Byte × RepairMsg)) : Fabric :=
  f.modPair t.toNat (fun p => { p with msgs := g p.msgs })

/-- The repair that a PROPOSE brings (R413, R414); of a load the member itself is the target (R420). -/
def proposed (s : State) (m : RepairMsg) : Repair :=
  { owner := m.owner, rid := m.rid, rn := m.rn, action := m.action, port := m.port, line := m.line
    target := if m.action = 4 then s.peer else BitVec.ofNat 6 ((m.owner.toNat + offsetOf m.line.toNat) % 64), relay := m.rpeer }
/-- The repairs with it, in place of an earlier one of its owner and RID. -/
def keeping (l : List Repair) (r : Repair) : List Repair :=
  if l.any (fun x => x.owner == r.owner && x.rid == r.rid) then l.map (fun x => if x.owner == r.owner && x.rid == r.rid then r else x)
  else l ++ [r]
/-- The repair is not one this member keeps: its RN has come, or it is a new rotation for tables that do not wait (R414, R420). -/
def idle (s : State) (m : RepairMsg) : Bool := hasCome s m.port m.rn || (m.action == 4 && !s.fab.topo.any (fun x => x.step == 5))
/-- The member can apply its part now (R413, R414): an adjacent target once its receive lanes are clean, which is free (log 23). -/
def canApply (s : State) (r : Repair) : Bool :=
  r.target == s.peer || r.action == 4 || (r.action == 3 && r.relay == s.peer) ||
  Config.lanesClean (s.rotOf r.port.toNat).toNat r.port.toNat

/-- The retraining of a port with a peer, as a RETRAIN asks for it. -/
def sameRetrain (a : Announced) (t : PeerId) (m : RepairMsg) : Bool := a.peer == t && a.port == m.port
/-- This end's own request of it, of the RN that is answered (R417). -/
def askedFor (a : Announced) (t : PeerId) (m : RepairMsg) : Bool := a.own && sameRetrain a t m && a.rn == m.rn
/-- The request of a retraining that a DEFER puts off (R417). -/
def putsOff (a : Announced) (t : PeerId) (m : RepairMsg) : Bool := a.own && sameRetrain a t m && a.rn == m.rn && !a.accepted && a.defers < 4
/-- What is known of a retraining that a peer asks for: the request that was answered last. -/
def askedRetrain (s : State) (t : PeerId) (m : RepairMsg) : Option Announced := s.fab.retrains.find? (fun a => !a.own && sameRetrain a t m && !a.begun)
/-- A request that has been answered, or an older one, comes again (R414, R417). -/
def repeated (s : State) (t : PeerId) (m : RepairMsg) : Bool :=
  s.fab.retrains.any (fun a => !a.own && sameRetrain a t m && a.begun && (a.rn - m.rn : W32).toNat < 2 ^ 31) ||
  (askedRetrain s t m).any (fun a =>
    (a.rn != m.rn && (a.rn - m.rn : W32).toNat < 2 ^ 31) || (a.rn == m.rn && (a.accepted || a.deferred)))
/-- The DEFERs that it has been given. -/
def defersOf (s : State) (t : PeerId) (m : RepairMsg) : Nat := ((askedRetrain s t m).map (fun a => a.defers)).getD 0
/-- The retrainings with the answer to a request. -/
def answering (s : State) (t : PeerId) (m : RepairMsg) (n : Nat) (accepted : Bool) : List Announced :=
  s.fab.retrains.filter (fun b => b.own || b.begun || !sameRetrain b t m) ++
    [{ port := m.port, peer := t, rn := m.rn, defers := n, accepted := accepted, deferred := !accepted }]

/-- An own repair is pending on the port that a RETRAIN names (R417). -/
def busyPort (s : State) (m : RepairMsg) : Bool := s.fab.repairs.any (fun r => r.owner == s.peer && r.port == m.port)

/-- The translations for the windows of a peer are gone from every die (R376, R418). -/
def flushed (s : State) (t : PeerId) : State :=
  { s with dies := s.dies.map (fun e => (e.1, { e.2 with rwt := e.2.rwt.filter (fun w => !(w.1 == s.domain && w.2.1 == t)) })) }

/-- This end asks for the rejoin of that RID: a FLUSHED of another answers an earlier handshake (R379, R414). -/
def isRejoining (s : State) (t : PeerId) (m : RepairMsg) : Bool :=
  (s.fab.pair t.toNat).msgs.any (fun e => e.1 == msgRejoin && e.2.rid == m.rid)
/-- The REJOIN of an RID has been answered. -/
def answeredRejoin (s : State) (t : PeerId) (m : RepairMsg) : Bool :=
  (s.fab.pair t.toNat).msgs.any (fun e => e.1 == msgFlushed && e.2.rid == m.rid)

end Sys2Proof.Claims

/-- R379, R411, R412, R414, R417, R418, R420, R459: what each repair message does on a device that is up. PROPOSE of an RN ahead (of a load, once this package's tables wait) is kept, in place of an
earlier one of its owner and RID, and accepted once the member can apply its part; ACCEPT of an RN that stands ends the wait for its sender;
DEFER puts a retraining off by one rotation, four times at most, and it is asked for again; RETUNE asks for nothing; PORTDOWN is noted once;
RETRAIN is accepted, or deferred while an own repair is pending on the port but for the fifth time; REJOIN flushes and is answered, once,
and begins the counts anew where it asks for that; FLUSHED of the rejoin that stands ends the peer's staleness, one of an earlier rejoin does nothing. A retraining that this end asks for and
one that the peer asks for on the same port do not concern each other. That a REJOIN with ACTION 4, and no other, begins the counts anew is
the model's choice (log 75), and when an adjacent target's lanes are clean is left free (log 23). -/
def Obligations.RepairMessages : Prop :=
  ∀ (s : State) (t : PeerId) (m : RepairMsg),
    (exec (.retune t m) s = .next s) ∧
    (s.ready = false → exec (.propose t m) s = .next s ∧ exec (.accept t m) s = .next s ∧ exec (.defer t m) s = .next s ∧
      exec (.portdown t m) s = .next s ∧ exec (.retrain t m) s = .next s ∧ exec (.rejoin t m) s = .next s ∧
      exec (.flushed t m) s = .next s) ∧
    (s.ready = true → Claims.idle s m = true → exec (.propose t m) s = .next s) ∧
    (s.ready = true → Claims.idle s m = false →
      (Claims.canApply s (Claims.proposed s m) = true →
        exec (.propose t m) s = .next (s.modFab (fun f => Claims.msgs
          { f with repairs := Claims.keeping f.repairs (Claims.proposed s m) } t (fun l => Claims.saying l msgAccept m)))) ∧
      (Claims.canApply s (Claims.proposed s m) = false →
        exec (.propose t m) s = .next (s.modFab (fun f => { f with repairs := Claims.keeping f.repairs (Claims.proposed s m) })))) ∧
    (s.ready = true → exec (.accept t m) s = .next (s.modFab (fun f => Claims.msgs
      { f with
        repairs := f.repairs.map (fun r =>
          if r.owner == s.peer && r.rid == m.rid && r.rn == m.rn then { r with waiting := r.waiting.erase t } else r)
        retrains := f.retrains.map (fun a => if Claims.askedFor a t m then { a with accepted := true } else a) } t
      (fun l => Claims.agreed l m)))) ∧
    (s.ready = true → s.fab.retrains.any (fun a => Claims.putsOff a t m) = true →
      exec (.defer t m) s = .next (s.modFab (fun f => Claims.msgs
        { f with retrains := f.retrains.map (fun a =>
            if Claims.putsOff a t m then { a with rn := a.rn + 1, defers := a.defers + 1 } else a) } t
        (fun l => Claims.saying l msgRetrain { m with rn := m.rn + 1, owner := s.peer })))) ∧
    (s.ready = true → s.fab.retrains.any (fun a => Claims.putsOff a t m) = false → exec (.defer t m) s = .next s) ∧
    (s.ready = true → s.fab.portdowns.any (fun a => Claims.sameRetrain a t m) = false →
      exec (.portdown t m) s = .next (s.modFab (fun f =>
        { f with portdowns := f.portdowns ++ [{ port := m.port, peer := t, rn := m.rn }] }))) ∧
    (s.ready = true → s.fab.portdowns.any (fun a => Claims.sameRetrain a t m) = true → exec (.portdown t m) s = .next s) ∧
    (s.ready = true → Claims.repeated s t m = true → exec (.retrain t m) s = .next s) ∧
    (s.ready = true → Claims.repeated s t m = false → Claims.busyPort s m = false ∨ 4 ≤ Claims.defersOf s t m →
      exec (.retrain t m) s = .next (s.modFab (fun f => Claims.msgs
        { f with retrains := Claims.answering s t m (Claims.defersOf s t m) true } t
        (fun l => Claims.saying (Claims.silent l msgDefer m.rid) msgAccept m)))) ∧
    (s.ready = true → Claims.repeated s t m = false → Claims.busyPort s m = true → Claims.defersOf s t m < 4 →
      exec (.retrain t m) s = .next (s.modFab (fun f => Claims.msgs
        { f with retrains := Claims.answering s t m (Claims.defersOf s t m + 1) false } t
        (fun l => Claims.saying (Claims.silent l msgAccept m.rid) msgDefer m)))) ∧
    (s.ready = true → Claims.answeredRejoin s t m = true → exec (.rejoin t m) s = .next s) ∧
    (s.ready = true → Claims.answeredRejoin s t m = false → s.fab.out = [] → m.action ≠ 4 ∨ (s.fab.pair t.toNat).fresh = true →
      exec (.rejoin t m) s = .next ((Claims.flushed s t).modFab (fun f => f.modPair t.toNat (fun p =>
        { p with fresh := false, msgs := Claims.saying p.msgs msgFlushed m })))) ∧
    (s.ready = true → Claims.answeredRejoin s t m = false → s.fab.out = [] → m.action = 4 → (s.fab.pair t.toNat).fresh = false →
      exec (.rejoin t m) s = .next ((Claims.flushed s t).modFab (fun f => f.modPair t.toNat (fun p =>
        { items := p.items, heard := p.heard, msgs := Claims.saying p.msgs msgFlushed m })))) ∧
    (s.ready = true → Claims.isRejoining s t m = false → exec (.flushed t m) s = .next s) ∧
    (s.ready = true → Claims.isRejoining s t m = true → exec (.flushed t m) s = .next (s.modFab (fun f => Claims.msgs
      { f with stale := f.stale &&& ~~~(BitVec.ofNat 64 (2 ^ t.toNat)) } t (fun l => Claims.silent l msgRejoin m.rid))))

namespace Sys2Proof.Claims

/-- The port at which a frame arrives takes frames: it is UP in AWGR mode, or in circuit mode (R399, R408). -/
def taking (s : State) (f : Frame) : Bool := (s.fab.port f.atPort.toNat).state == 2 || (s.fab.port f.atPort.toNat).state == 4

/-- The frame is one for this package that its port takes: the device is up, FEC and HCRC found it good, its KIND is known, and it
agrees with the Frieze (R399, R401, R459). -/
def comesIn (s : State) (f : Frame) : Bool :=
  s.ready && taking s f && f.fecOk && f.hcrcOk && f.kind.toNat < 10 && s.rxAgrees f && f.ddom == s.domain && f.dst == s.peer

/-- The state after a correction by FEC has been counted (R455), and the counts and the repair message of its header have been taken (R402
to R404, R414, R418). -/
def headed (s : State) (f : Frame) : State :=
  (((s.countFec f).onCounts (s.pairKey f.sdom f.src) f).onMessage f.src f.repair).heardFrom f

/-- The counts with the frame's source after its header. -/
def counts (s : State) (f : Frame) : Pair := (headed s f).fab.pair (s.pairKey f.sdom f.src)

/-- The frame is the one expected next, and nothing withholds an earlier acknowledgement (R402, R37). -/
def nextInLine (s : State) (f : Frame) : Bool :=
  (counts s f).expect == f.seq && !(counts s f).blocked && (counts s f).early.isEmpty && !(headed s f).refuses f

/-- What the frame does at its destination (R266 to R272, R376), from the state after its header, with its transfer's earlier
faults forgotten at its first byte; and whether it is acknowledged. -/
def effect (s : State) (f : Frame) : Option (State × Bool) :=
  let k := s.pairKey f.sdom f.src
  (if f.cmd.first = 0 then (headed s f).modPairAt k (fun p => { p with failed := p.failed.filter (fun x => x != f.xid) })
   else headed s f).applyKind k f

/-- The state after a frame that is acknowledged: its barrier items have been counted, the next SEQ is expected, and a buffer is
free (R402, R404, R406). -/
def applied (s : State) (f : Frame) (t : State) : State :=
  (t.onItems f.src f.barr).modPairAt (s.pairKey f.sdom f.src)
    (fun p => { p with expect := p.expect + 1, freedOut := p.freedOut + 1, blocked := false })

/-- The state after a frame that has its effect but is not acknowledged yet (R37, R272). -/
def withheld (s : State) (f : Frame) (t : State) : State :=
  (t.onItems f.src f.barr).modPairAt (s.pairKey f.sdom f.src) (fun p => { p with blocked := true })

/-- The task of this package that the frame belongs to is t (R308). -/
def ofTask (s : State) (f : Frame) (t : Task) : Bool := s.jobOf f == some t

/-- The places in an allocation that a frame's elements are written to (R266). -/
def spPlaces (f : Frame) (a : Nat × Nat) : List Piece :=
  (frameOffsets f).map (fun o => spPiece (spAddrs f.cmd.core a.1 a.2 ((f.cmd.va.setWidth 48).toNat + o) f.cmd.size))

/-- The bytes of a frame's elements stand at its places, each written at its line's home away from any L1 (R256, R258). -/
def written (s : State) (f : Frame) (ps : List Piece) : State :=
  (ps.zip (elements f.cmd.size f.payload)).foldl (fun u q => u.landWrite (tCore f.cmd.source) f.cmd.groups q.1 q.2) s

/-- Nothing holds a write to the places: no lease, no pin, no earlier request, no re-stripe (R111, R117, R118). -/
def placesFree (s : State) (ps : List Piece) : Bool := ps.all (s.lineFree 0 .fb) && !ps.any s.restriping

/-- A PUT to an address reaches those places (R258, R267), none of them an RC page. -/
def putPlaces (s : State) (f : Frame) (t : Task) (ps : List Piece) : Bool :=
  (frameOffsets f).map (fun o => s.reachSpace t.root t.part .store (f.cmd.va + BitVec.ofNat 64 o) f.cmd.size) == ps.map Reached.ok &&
  ps.all (fun p => !p.rc) && placesFree s ps

/-- The window that a SEND names takes its bytes, and it reaches those places from the window's base (R271). -/
def sendPlaces (s : State) (f : Frame) (t : Task) (ps : List Piece) : Bool :=
  (s.window t.part (winNo f.cmd.va)).extractLsb' 128 2 == 1 &&
  winOff f.cmd.va + f.cmd.total ≤ ((s.window t.part (winNo f.cmd.va)).extractLsb' 64 32).toNat &&
  (frameOffsets f).map (fun o => s.reachSpace (s.part t.part).winRoot t.part .store
    (winBase (s.window t.part (winNo f.cmd.va)) + BitVec.ofNat 64 (winOff f.cmd.va) + BitVec.ofNat 64 o) f.cmd.size) == ps.map Reached.ok &&
  ps.all (fun p => !p.rc) && placesFree s ps

/-- The window's owner core (R421). -/
def windowCore (s : State) (f : Frame) (t : Task) : CoreId := ((s.window t.part (winNo f.cmd.va)).extractLsb' 96 22).setWidth 12

/-- After the last byte of a transfer its flag is posted once at a core of the task (R267, R271). -/
def flagPosted (u : State) (f : Frame) (t : Task) (c : CoreId) : State :=
  if f.cmd.total ≤ f.cmd.first + f.payload.length then (match f.cmd.flag with | some g => u.postTask t.id c g 1 | none => u) else u

/-- The GET of this package that a read response answers: transfer n of a resident context, whose frames have left (R266). -/
def awaited (s : State) (f : Frame) (c : CoreId) (r : Slot) (n : Nat) (x : Xfer) : Bool :=
  s.allXfers.find? (fun e => e.2.2.2.st == .sent && e.2.2.2.xid == f.addr.setWidth 12 &&
    e.2.2.2.target.extractLsb' 12 10 == f.sdom ++ f.src &&
    (match e.2.2.2.ins with | .get .. => true | .getGlob .. => true | _ => false)) == some (c, r, n, x)

/-- Its bytes go to those places of the destination stream, none of them an RC page; nothing holds them (R111, R117, R118, R256). -/
def answerPlaces (s : State) (f : Frame) (c : CoreId) (r : Slot) (x : Xfer) (ps : List Piece) : Bool :=
  (List.range (f.payload.length / elemBytes x.sb.format.toNat)).map (fun i =>
    (s.elemAt c r x.sb 0 .store (f.cmd.first / elemBytes x.sb.format.toNat + i)).2.2) == ps.map Reached.ok &&
  ps.all (fun p => !p.rc && !s.walksFor c r p) && ps.all (s.lineFree c .ce) && !ps.any s.restriping &&
  !s.behind c x { reads := [], writes := ps.map (fun p => (0, 0, .ok p)), put := fun _ => [] }

/-- The row that a SENDM appends for an expert (R313, R465): the payload, filled with 0 to PF bytes, TAG, SOURCE, and 0 up to the row size. -/
def landingRow (size : Nat) (payload : List Byte) (tag : W32) (src : BitVec 22) : List Byte :=
  (List.range size).map (fun i =>
    let pf := if 136 ≤ size then 128 * ((size - 8) / 128) else if 8 ≤ size then size - 8 else size
    if i < pf then payload.getD i 0
    else if i < pf + 4 then tag.extractLsb' (8 * (i - pf)) 8
    else if i < pf + 8 then (src.setWidth 32).extractLsb' (8 * (i - pf - 4)) 8
    else 0)

/-- One expert of the mask, e, is placed here; its block has n rows, not 63, no row waits for it, the pool is not exhausted, and the row's
places are free bytes of it, none in an RC page (R272, R313, R314, R368). -/
def rowPlaces (s : State) (f : Frame) (t : Task) (e n : Nat) (ps : List Piece) : Bool :=
  let w := winNo f.cmd.va
  let l := s.lands.get {} (landKey t.part w e)
  let size := ((s.window t.part w).extractLsb' 64 32).toNat
  maskExperts f.cmd.mask == [e] && expertHere s (s.expert t.part w e) && expertTakes (s.window t.part w) f.cmd.total &&
  l.waiting.isEmpty && l.rows == some n && n < 63 && !(s.part t.part).pool.isEmpty &&
  s.spaceBytes t.part (expertArea (s.expert t.part w e) +
    BitVec.ofNat 64 (65536 * (l.block.toNat % expertSlots (s.expert t.part w e)) + size * n)) size == ps.map Reached.ok &&
  ps.all (fun p => !p.rc) && placesFree s ps

/-- The transfer of a frame writes nothing further here (R277). -/
def failedHere (s : State) (k : Nat) (f : Frame) : State :=
  s.modPairAt k (fun p => { p with failed := if p.failed.contains f.xid then p.failed else p.failed ++ [f.xid] })

/-- The frame that answers a translation request, with the entry found or the fault that its transfer takes (R376, R277). -/
def answeredFrame (s : State) (f : Frame) (pte : W64) (cause : Byte) (sub : BitVec 4) (part : PartId) : State :=
  s.modFab (fun b => { b with out := b.out ++
    [{ frame := s.frameTo (f.sdom ++ f.src ++ 0#12) 9 f.xid f.addr { f.cmd with cause := cause, sub := sub } (leBytes 8 pte.toNat)
       part := part }] })

/-- The entry that a translation request for a job's own space asks for. -/
def askedEntry (s : State) (f : Frame) (t : Task) : W64 := s.pageAnswer t.root (f.cmd.va + BitVec.ofNat 64 f.cmd.first)

end Sys2Proof.Claims

/-- R399, R401 to R404, R406, R407: a frame that comes in, in SEQ order, has the effect of its KIND, and is acknowledged unless its
arrival or its rows wait; where a line or a bank that it needs is not free it waits to be sent again, as one ahead of its turn is held
and a duplicate brings no more than its header. A header-only frame brings its counts and its message alone; a frame for another
package is held for relay; one whose translation stands no longer is refused, and its sender is told the one that does; one that does
not agree with the Frieze, or that FEC or HCRC rejects, is counted and dropped; and before READY none has any effect. The model's choices: the sender is told the entry that stands (log 45), and a relayed
frame is compared with the RXLINE (log 33). So for each of frameHeader, frameGlobalWrite, frameScratchpadWrite, frameReadRequest, frameReadResponse,
frameSend, frameSendm, frameXflag, frameTranslationRequest and frameTranslationResponse.

R401, R459: a frame of an unknown KIND is logged, and has no other effect; before READY it has none.

R266 to R269, R271, R272, R277, R313, R376, R456, R465: what a KIND does at its destination. A PUT's bytes land at their addresses or in the
allocation, a SEND's from the window's base, and after the last byte the flag is posted and the arrival record queued; a SENDM's row is
appended to its expert's block; an XFLAG posts its
amount; a read is answered with the bytes as memory holds them, and its answer's bytes land in the GET's destination stream; a translation request is answered with the page's entry, or with the fault that
its transfer takes; a translation answer fills the cache or hands that fault over; a frame for no task here, or for a fenced die, writes nothing.
That the codes 5 and 6 in a request's ADDR name a SEND's and a SENDM's page is the model's choice (log 30). -/
def Obligations.FramesArriveAndAct : Prop :=
  (∀ (s : State) (f : Frame) (t : State) (i : Instr),
     (f.kind, i) ∈ ([(0, .frameHeader f), (1, .frameGlobalWrite f), (2, .frameScratchpadWrite f), (3, .frameReadRequest f),
       (4, .frameReadResponse f), (5, .frameSend f), (6, .frameSendm f), (7, .frameXflag f), (8, .frameTranslationRequest f),
       (9, .frameTranslationResponse f)] : List (Byte × Instr)) →
     (Claims.comesIn s f = true → f.kind ≠ 0 → Claims.nextInLine s f = true → Claims.effect s f = some (t, true) →
       (t.fab.pair (s.pairKey f.sdom f.src)).early = [] →
       exec i s = .next (Claims.applied s f t)) ∧
     (Claims.comesIn s f = true → f.kind ≠ 0 → Claims.nextInLine s f = true → Claims.effect s f = some (t, false) →
       exec i s = .next (Claims.withheld s f t)) ∧
     (Claims.comesIn s f = true → f.kind ≠ 0 → Claims.nextInLine s f = true → Claims.effect s f = none →
       exec i s = .next (Claims.headed s f)) ∧
     (Claims.comesIn s f = true → f.kind ≠ 0 → (Claims.counts s f).expect = f.seq → (Claims.counts s f).blocked = false →
       (Claims.headed s f).refuses f = true → exec i s = .next ((Claims.headed s f).retell f)) ∧
     (Claims.comesIn s f = true → f.kind = 0 → f.barr.any (fun b => b.getLsbD 0) = false →
       exec i s = .next (Claims.headed s f)) ∧
     (Claims.comesIn s f = true → f.kind ≠ 0 → (Claims.counts s f).blocked = false →
       atOrPast f.seq (Claims.counts s f).expect = false →
       exec i s = .next (Claims.headed s f)) ∧
     (Claims.comesIn s f = true → f.kind ≠ 0 → (Claims.counts s f).blocked = false → (Claims.counts s f).early = [] →
       atOrPast f.seq (Claims.counts s f).expect = true → f.seq ≠ (Claims.counts s f).expect →
       (Claims.headed s f).heldEarly f < (Claims.headed s f).fab.depth.toNat →
       exec i s = .next ((Claims.headed s f).modPairAt (s.pairKey f.sdom f.src) (fun p => { p with early := [f] }))) ∧
     (s.ready = true → Claims.taking s f = true → f.fecOk = true → f.hcrcOk = true → s.rxAgrees f = true → f.ddom ≠ s.domain ∨ f.dst ≠ s.peer →
       (s.fab.relay.filter (fun g => g.sdom == f.sdom && g.src == f.src)).length < 64 → f.relayed = false →
       exec i s = .next ((s.countFec f).modFab (fun b => { b with relay := b.relay ++ [{ f with relayed := true }] }))) ∧
     (s.ready = true → Claims.taking s f = true → f.fecOk = false ∨ f.hcrcOk = false →
       exec i s = .next ((s.countFec f).modFab (fun b => b.modPort f.atPort.toNat (fun p =>
         { p with fecerr := if p.fecerr = 0xFFFF then p.fecerr else p.fecerr + 1 })))) ∧
     (s.ready = true → Claims.taking s f = true → f.fecOk = true → f.hcrcOk = true → s.rxAgrees f = false →
       exec i s = .next ((s.countFec f).modFab (fun b => b.modPort f.atPort.toNat (fun p =>
         { p with mismatch := if p.mismatch = 0xFFFF then p.mismatch else p.mismatch + 1 })))) ∧
     (s.ready = true → Claims.taking s f = false → exec i s = .next s) ∧
     (s.ready = false → exec i s = .next s)) ∧
  (∀ (s : State) (f : Frame), 10 ≤ f.kind.toNat →
     (s.ready = true → Claims.taking s f = true → f.fecOk = true → f.hcrcOk = true →
       exec (.frameHeader f) s = .next ((s.countFec f).fabLog 6 f.atPort.toNat 0xFF f.src.toNat 0)) ∧
     (s.ready = false → exec (.frameHeader f) s = .next s)) ∧
  (∀ (s : State) (k : Nat) (f : Frame) (t : Task) (g : BitVec 5) (a : Nat × Nat) (ps : List Piece) (h : VAddr) (c : CoreId) (r : Slot)
     (n e : Nat) (x : Xfer) (l : Nat),
     (f.kind = 1 → Claims.ofTask s f t = true → f.cmd.handler = none → f.cmd.first = 0 → f.cmd.flag = none ∨ (s.seat t.id f.cmd.core).isSome = true →
       Claims.putPlaces s f t ps = true →
       s.applyKind k f = some (Claims.flagPosted (Claims.written s f ps) f t f.cmd.core, true)) ∧
     (f.kind = 5 → Claims.ofTask s f t = true → f.cmd.first = 0 →
       f.cmd.flag = none ∨ (s.seat t.id (Claims.windowCore s f t)).isSome = true → Claims.sendPlaces s f t ps = true →
       s.applyKind k f = some (Claims.flagPosted (Claims.written s f ps) f t (Claims.windowCore s f t), true)) ∧
     ((Claims.written s f ps).mem = Tab.putAll 0 s.mem
       ((ps.zip (elements f.cmd.size f.payload)).flatMap (fun q => q.1.addr.zip q.2))) ∧
     (f.kind = 1 → Claims.ofTask s f t = true → f.cmd.handler = some h → f.cmd.flag = none → f.cmd.first = 0 →
       f.cmd.total ≤ f.payload.length → s.seat t.id f.cmd.core = some (some r) → (s.res f.cmd.core r).place = .here →
       (s.res f.cmd.core r).heldArrivals = [] → (s.res f.cmd.core r).withheld = [] → (s.res f.cmd.core r).arrivals.length < 16 →
       Claims.putPlaces s f t ps = true →
       (s.applyKind k f).map (fun u => (u.2, (u.1.res f.cmd.core r).arrivals)) = some (true, (s.res f.cmd.core r).arrivals ++
         [{ handler := h, addr := f.cmd.va, len := BitVec.ofNat 64 f.cmd.total, src := f.cmd.source }])) ∧
     (f.kind = 4 → Claims.awaited s f c r n x = true → Claims.answerPlaces s f c r x ps = true →
       (s.applyKind k f).map (fun u => (u.2, u.1.mem, ((u.1.res c r).xfers.get none n).map (fun y => y.landed))) = some (true,
         Tab.putAll 0 s.mem ((ps.zip (elements (elemBytes x.sb.format.toNat) f.payload)).flatMap (fun q => q.1.addr.zip q.2)),
         some (Nat.max x.landed (f.cmd.first + f.payload.length)))) ∧
     (f.kind = 6 → Claims.ofTask s f t = true → f.cmd.first = 0 → Claims.rowPlaces s f t e n ps = true →
       l = landKey t.part (winNo f.cmd.va) e →
       (s.applyKind k f).map (fun u => (u.1.mem, (u.1.lands.get {} l).rows)) = some (
         Tab.putAll 0 s.mem ((ps.zip (Claims.landingRow ps.length f.payload (f.cmd.va.setWidth 32) f.cmd.source)).flatMap (fun q =>
           q.1.addr.zip [q.2])), some (n + 1))) ∧
     (f.kind = 2 → Claims.ofTask s f t = true → f.cmd.flag = none → f.cmd.handler = none → f.cmd.first = 0 → s.allocOf f.cmd.core t.id = some a →
       (s.die (dieOf f.cmd.core)).fenced = true → f.cmd.size ≤ f.payload.length → 0 < f.cmd.size →
       s.applyKind k f = some (Claims.failedHere s k f, true)) ∧
     (f.kind = 2 → Claims.ofTask s f t = true → f.cmd.flag = none → f.cmd.handler = none → f.cmd.first = 0 →
       s.allocOf f.cmd.core t.id = some a → (s.die (dieOf f.cmd.core)).fenced = false → (Claims.spPlaces f a).all (s.lineFree 0 .fb) = true →
       (Claims.spPlaces f a).any s.restriping = false →
       (s.applyKind k f).map (fun u => (u.2, u.1.mem)) = some (true, Tab.putAll 0 s.mem
         (((Claims.spPlaces f a).zip (elements f.cmd.size f.payload)).flatMap (fun q => q.1.addr.zip q.2)))) ∧
     (f.kind = 7 → Claims.ofTask s f t = true → f.cmd.flag = some g →
       s.applyKind k f = some (s.postTask t.id f.cmd.core g f.cmd.amount.toNat, true)) ∧
     (f.kind = 3 → Claims.ofTask s f t = true → f.cmd.glob = false → f.cmd.flag = none → f.cmd.total = f.cmd.size →
       0 < f.cmd.size → s.allocOf f.cmd.core t.id = some a → f.cmd.total ≤ 1792 → (s.die (dieOf f.cmd.core)).fenced = false →
       s.farTooEarly f.cmd (spPiece (spAddrs f.cmd.core a.1 a.2 (f.cmd.va.setWidth 48).toNat f.cmd.size)) = false →
       (s.applyKind k f).map (fun u => (u.2, u.1.mem, u.1.fab.out)) = some (true, s.mem, s.fab.out ++ [{
         frame := s.frameTo (f.sdom ++ f.src ++ 0#12) 4 f.xid (f.xid.setWidth 48) { f.cmd with first := 0 }
           ((spAddrs f.cmd.core a.1 a.2 (f.cmd.va.setWidth 48).toNat f.cmd.size).map s.byte), part := t.part }])) ∧
     (f.kind = 8 → f.addr ≠ 5 → f.addr ≠ 6 → Claims.ofTask s f t = true → pteV (Claims.askedEntry s f t) = true →
       s.tablesFree t.root (f.cmd.va + BitVec.ofNat 64 f.cmd.first).toNat = true →
       s.applyKind k f = some (Claims.answeredFrame (s.walkHomes t.root (f.cmd.va + BitVec.ofNat 64 f.cmd.first).toNat) f (Claims.askedEntry s f t) 0 0 t.part, true)) ∧
     (f.kind = 8 → f.addr ≠ 5 → f.addr ≠ 6 → Claims.ofTask s f t = true → pteV (Claims.askedEntry s f t) = false →
       s.tablesFree t.root (f.cmd.va + BitVec.ofNat 64 f.cmd.first).toNat = true →
       s.applyKind k f = some (Claims.answeredFrame (s.walkHomes t.root (f.cmd.va + BitVec.ofNat 64 f.cmd.first).toNat) f 0 xREMOTE 1 t.part, true)) ∧
     (f.kind = 8 → f.addr ≠ 5 → f.addr ≠ 6 → Claims.ofTask s f t = true →
       s.tablesFree t.root (f.cmd.va + BitVec.ofNat 64 f.cmd.first).toNat = false → s.applyKind k f = none) ∧
     (f.kind = 8 → s.jobOf f = none → s.applyKind k f = some (Claims.answeredFrame s f 0 xTARGET 0 0, true)) ∧
     (f.kind = 8 → f.addr = 5 → Claims.ofTask s f t = true →
       winTakes (s.window t.part (winNo f.cmd.va)) (winOff f.cmd.va) f.cmd.total = false →
       s.applyKind k f = some (Claims.answeredFrame s f 0 xWINDOW 0 t.part, true)) ∧
     (f.kind = 8 → f.addr = 6 → Claims.ofTask s f t = true → expertTakes (s.window t.part (winNo f.cmd.va)) f.cmd.total = false →
       s.applyKind k f = some (Claims.answeredFrame s f 0 xWINDOW 0 t.part, true)) ∧
     (f.kind = 9 → f.cmd.cause = 0 → f.addr ≠ 6 → pteV (BitVec.ofNat 64 (ofLe f.payload)) = false → s.applyKind k f = some (s, true)) ∧
     (f.kind = 9 → f.cmd.cause = 0 → pteV (BitVec.ofNat 64 (ofLe f.payload)) = true →
       (s.applyKind k f).map (fun u => (u.2, ((u.1.die (dieOf (tCore f.cmd.source))).rwt).head?)) =
         some (true, some (f.sdom, f.src, rwtKey (f.addr.setWidth 8) f.cmd f.cmd.first, BitVec.ofNat 64 (ofLe f.payload)))) ∧
     (f.kind.toNat ∈ [1, 2, 5] → s.jobOf f = none → f.cmd.first = 0 →
       s.applyKind k f = some (Claims.failedHere s k f, true)) ∧
     (f.kind.toNat ∈ [3, 6, 7] → s.jobOf f = none → s.applyKind k f = some (s, true)))

namespace Sys2Proof.Claims

/-- The CLKDIV request of a column that waits for its decision, with no change of the controller's own before it (R431, R433). -/
def asking (s : State) (c : CoreId) (q : ClkReq) : Bool := (s.core c).clk == some q && !q.granted && (s.core c).own.isEmpty

/-- The divisors that a request would leave, and the setpoint of those (R428). -/
def newDivs (s : State) (c : CoreId) (q : ClkReq) : Divs := (s.core c).divs.set q.eng q.div
def newSet (s : State) (c : CoreId) (q : ClkReq) : Nat := s.setpointOf c (newDivs s c q)

/-- The rail is at the new setpoint, or the change makes no engine faster (R431). -/
def railThere (s : State) (c : CoreId) (q : ClkReq) : Bool :=
  newSet s c q ≤ (s.core c).rail || (s.core c).divs.one q.eng ≤ q.div

/-- No result in flight belongs to an engine whose ratio to the control engine the change raises (R432). -/
def noneSlowed (s : State) (c : CoreId) (q : ClkReq) : Bool :=
  (active s c).inflight.all (fun f =>
    !((s.core c).divs.get f.eng * (newDivs s c q).ctl < (newDivs s c q).get f.eng * (s.core c).divs.ctl))

/-- A zone that no sequence holds: it is not EVACUATING or FENCED, and no neighbour purges (R439, R445). -/
def steady (s : State) (z : Nat) : Bool :=
  (s.zone z).state != zEvac && (s.zone z).state != zFenced && !(neighbours z).any s.purging

/-- The zone of a die. -/
def zn (d : DieId) (z : BitVec 4) : Nat := d.toNat * 16 + z.toNat

/-- ZSENS of a zone holds a sample (R443). -/
def sampled (s : State) (d : DieId) (z : BitVec 4) (x : W64) : State :=
  s.modZone (zn d z) (fun k => { k with sens := x &&& 0xFFFFFF0003FFFFFF })

/-- A die's SRAM rail after an uncorrectable error: 20 mV up, not above MAX, for 10 windows (R438). -/
def raised (k : Die) : Die :=
  { k with sramSet := if k.sramSet.toNat + 20 ≤ k.sramMax.toNat then k.sramSet + 20
                      else if k.sramMax.toNat < k.sramSet.toNat then k.sramSet else k.sramMax
           sramHold := 10 }

/-- A die whose window had c corrected errors (R438). -/
def counted (k : Die) (c : Nat) : Die := { k with sramLastc := BitVec.ofNat 16 (Nat.min c 0xFFFF) }

/-- A field of STALL_RATIO: floor(256 x stalled / edges), at most 255; 0 with no edge (R434). -/
def ratio (stalled edges : Nat) : Byte := BitVec.ofNat 8 (if edges = 0 then 0 else Nat.min 255 (256 * stalled / edges))
/-- STALL_RATIO of what a sample counted, with the matrix engine's edges that waited for a bank (R78). -/
def ratios (x : Sample) (banks : Nat) : W32 :=
  ratio x.stalled.cpy x.edges.cpy ++ ratio x.stalled.vec x.edges.vec ++ ratio (x.stalled.mat + banks) x.edges.mat ++ ratio x.stalled.ctl x.edges.ctl

/-- A sample crosses limit n of its zone: FLOW, TOUT, PRESS, VOID (R443, R444). -/
def crosses (k : Zone) (x : W64) (n : Nat) : Bool :=
  match n with
  | 0 => (x.extractLsb' 52 11).toNat < k.fmin.toNat
  | 1 => k.tmax.toNat < (x.extractLsb' 13 13).toNat
  | 2 => k.pmax.toNat < (x.extractLsb' 40 12).toNat
  | _ => x.getLsbD 63
/-- It fires: the value was within the limit before (R444). -/
def fires (k : Zone) (x : W64) (n : Nat) : Bool := crosses k x n && !k.tripped.getLsbD n

/-- A zone whose grant can be lowered: it is held, also where a dry-channel sequence runs in it, at a class above 0 (R442). -/
def lowerable (s : State) (z : Nat) : Bool :=
  z < 256 && ((s.zone z).state == zHeld || (s.zone z).state == zEvac) && 0 < (s.zone z).cls.toNat
/-- It is the next: of the lowest PRIO, and of those of the highest number (R442). -/
def lowersNext (s : State) (z : Nat) : Bool :=
  lowerable s z && (List.range 256).all (fun y => !lowerable s y || (s.zone z).prio.toNat < (s.zone y).prio.toNat ||
    ((s.zone z).prio == (s.zone y).prio && y ≤ z))
/-- The tasks of a zone hold at least its class. -/
def holdsClass (s : State) (z : Nat) : Bool := s.tasks.any (fun t => t.zones.contains z && (s.zone z).cls.toNat ≤ t.cls.toNat)
/-- Its grant is one class lower, which its MINFLOW follows, and the event is written (R426, R442). -/
def loweredGrant (s : State) (z : Nat) : State := ((s.modZone z (fun k => { k with lowered := 3 - k.cls.toNat })).rezone z).zoneEvent z 24

/-- The zone whose grant is restored next, in the reverse order: of the highest PRIO, the lowest number (R442). -/
def raisesNext (s : State) (z : Nat) : Bool :=
  z < 256 && 0 < (s.zone z).lowered && (List.range 256).all (fun y => (s.zone y).lowered == 0 || (s.zone y).prio.toNat < (s.zone z).prio.toNat ||
    ((s.zone z).prio == (s.zone y).prio && z ≤ y))
/-- Its grant is one class higher. -/
def raisedGrant (s : State) (z : Nat) : State := (s.modZone z (fun k => { k with lowered := k.lowered - 1 })).rezone z

/-- The supply that has been measured. -/
def supplied (s : State) (supply : BitVec 16) : State := { s with supply := supply }

/-- A zone's dry-channel sequence stands before a step (R445). -/
def atStage (s : State) (z n : Nat) : Bool := (s.zone z).state == zEvac && (s.zone z).evac == n

end Sys2Proof.Claims

/-- R180, R427 to R433, R446: clocks. A CLKDIV for the divisor an engine has is granted at once, but none in a dry-channel sequence (log 77), a
denied one answers 0 with its reason, a granted one raises the rail first, and switches once the first group after a launch or a switch has issued; the divisor switches at a boundary at which no result is slowed; and the rail moves by 5 mV
toward its setpoint.

R434 to R438: levels and rails. A sample latches each column's ratios of what it counted, with the waits for a bank that the row brings (the
model's choice, log 83), and counts SEQ up; LEVEL falls to what R435 gives; the swallow
count is at most 56; and the SRAM rail follows the corrected errors of a window. -/
def Obligations.ClockAndPowerEvents : Prop :=
  (∀ (s : State) (c : CoreId) (q : ClkReq) (why : BitVec 3),
     (Claims.asking s c q = true → (s.zone (zoneOf c)).state ≠ zEvac → (s.core c).divs.one q.eng = q.div →
       exec (.clkdivDecision c) s = .next ((s.clkWrite c q true).modCore c (fun k =>
         { k with clk := none, deny := 0, railSet := s.setpointOf c (s.core c).divs }))) ∧
     (Claims.asking s c q = true → s.clkAnswer c q = .denied why →
       exec (.clkdivDecision c) s = .next ((s.clkWrite c q false).modCore c (fun k =>
         { k with clk := none, deny := why, railSet := s.setpointOf c (s.core c).divs }))) ∧
     ((s.zone (zoneOf c)).state = zEvac → s.clkAnswer c q = .denied 1) ∧
     (Claims.asking s c q = true → s.clkAnswer c q = .granted →
       exec (.clkdivDecision c) s = .next (s.modCore c (fun k =>
         { k with clk := some { q with granted := true }, deny := 0
                  railSet := if q.div < k.divs.one q.eng then Claims.newSet s c q else k.railSet }))) ∧
     ((s.core c).clk = some q → q.granted = true → (s.core c).own = [] → (s.core c).fourDue = false → Claims.railThere s c q = true →
       Claims.noneSlowed s c q = true →
       exec (.divisorSwitch c) s = .next ((s.clkWrite c q true).modCore c (fun k =>
         { k with divs := Claims.newDivs s c q, pulses := 0, railSet := Claims.newSet s c q, clk := none }))) ∧
     ((s.core c).own = [] → (s.core c).fourDue = true → exec (.divisorSwitch c) s = .next s) ∧
     ((s.core c).own.head? = some q → Claims.railThere s c q = true → Claims.noneSlowed s c q = true →
       exec (.divisorSwitch c) s = .next (s.modCore c (fun k =>
         { k with divs := Claims.newDivs s c q, pulses := 0, railSet := Claims.newSet s c q, own := k.own.tail }))) ∧
     ((s.core c).own.head? = some q → Claims.railThere s c q = false →
       exec (.divisorSwitch c) s = .next (s.modCore c (fun k => { k with railSet := Claims.newSet s c q }))) ∧
     ((s.core c).rail < (s.core c).railSet →
       exec (.railStep c) s = .next (s.modCore c (fun k => { k with rail := Nat.min (k.rail + 5) k.railSet }))) ∧
     ((s.core c).railSet < (s.core c).rail →
       exec (.railStep c) s = .next (s.modCore c (fun k => { k with rail := Nat.max (k.rail - 5) k.railSet }))) ∧
     ((s.core c).rail = (s.core c).railSet → exec (.railStep c) s = .next (s.modCore c id))) ∧
  (∀ (s : State) (c : CoreId) (d : DieId) (n : BitVec 6) (corrected : Nat),
     (exec (.levelFall c) s = .next (s.levelFall c) ∧
       ((s.levelFall c).core c).level.toNat = Nat.min (s.core c).level.toNat ((s.sense c).levelOf c)) ∧
     (∀ b : Tab Nat, exec (.stallSample d b) s = .next (s.stallSample d b) ∧
       ((s.stallSample d b).die d).stallSeq = (s.die d).stallSeq + 1 ∧ (s.stallSample d b).mem = s.mem) ∧
     (dieOf c = d → ∀ b : Tab Nat, ((s.stallSample d b).core c).stall = Claims.ratios (s.core c).sample (b.get 0 c.toNat) ∧
       ((s.stallSample d b).core c).sample = {}) ∧
     (exec (.throttleUpdate c n) s = .next (s.throttle c n) ∧ ((s.throttle c n).core c).swal.toNat ≤ 56) ∧
     ((s.zone (zoneOf c)).state ≠ zEvac → n.toNat ≤ 56 → ((s.throttle c n).core c).swal = n) ∧
     (exec (.sramRailWindow d corrected true) s = .next (s.modDie d (fun k => Claims.raised (Claims.counted k corrected)))) ∧
     (0 < (s.die d).sramHold →
       exec (.sramRailWindow d corrected false) s = .next (s.modDie d (fun k =>
         { Claims.counted k corrected with sramHold := k.sramHold - 1 }))) ∧
     ((s.die d).sramHold = 0 → corrected < (s.die d).sramSetpt.toNat →
       (s.die d).sramFloor.toNat + 5 ≤ (s.die d).sramSet.toNat →
       exec (.sramRailWindow d corrected false) s = .next (s.modDie d (fun k =>
         { Claims.counted k corrected with sramSet := k.sramSet - 5 }))) ∧
     ((s.die d).sramHold = 0 → 2 * (s.die d).sramSetpt.toNat < corrected →
       (s.die d).sramSet.toNat + 5 ≤ (s.die d).sramMax.toNat →
       exec (.sramRailWindow d corrected false) s = .next (s.modDie d (fun k =>
         { Claims.counted k corrected with sramSet := k.sramSet + 5 }))))

/-- R439, R442 to R446: coolant. A valve opens below MINFLOW and closes above MAXFLOW, the host zone's is set by CD0; a sample that
crosses no limit is only held, and one that crosses a limit anew writes an event and raises the owner's interrupt, forces LEVEL 0 while the outlet is
hot, closes the valve for pressure, and starts the dry-channel sequence for VOID; an evacuating zone opens its valve and halves its neighbours', purges with eight pulses, settles and reads
VOID; a wet zone is FREE again or held, a dry one tries again, and after the third attempt is fenced; ZCLR frees a fenced zone. A
supply below HELD lowers grants one class at a time, the lowest PRIO and of it the highest zone first, each with an event, until it holds them or no
grant is left to lower; a supply that returns restores them in the reverse order as far as it holds them. The task list stays as it is. That the host
zone's valve may take any setting is the model's choice (log 79), as is that each attempt halves the neighbours' valves again (log 39). -/
def Obligations.CoolantEvents : Prop :=
  ∀ (s : State) (d : DieId) (z : BitVec 4) (zn n : Nat) (v : Byte) (sens : W64) (dry : Bool) (w : W64) (supply : BitVec 16) (c : CoreId)
    (p : PartId),
    zn = Claims.zn d z →
    (Claims.steady s zn = true →
      ((s.zone zn).flow < (s.zone zn).minflow.toNat ∧ (s.zone zn).valve.toNat ≤ v.toNat) ∨
      (Nat.max (s.zone zn).maxflow.toNat 1 < (s.zone zn).flow ∧ v.toNat ≤ (s.zone zn).valve.toNat) →
      exec (.valveControl d (z.setWidth 5) v) s = .next (s.modZone zn (fun k => { k with valve := v }))) ∧
    (Claims.steady s zn = false → exec (.valveControl d (z.setWidth 5) v) s = .next s) ∧
    (exec (.valveControl 0 16 v) s = .next { s with hostValve := v }) ∧
    (d ≠ 0 → exec (.valveControl d 16 v) s = .next s) ∧
    (((Claims.sampled s d z sens).zone zn).crossings = 0 →
      exec (.sensorSample d z sens) s = .next
        (((Claims.sampled s d z sens).modZone zn (fun k => { k with tripped := 0 })).outletCap zn)) ∧
    (Claims.atStage s zn 1 = true → exec (.evacuationStep d z dry) s = .next (s.evacValves zn)) ∧
    (((s.evacValves zn).zone zn).valve = 255 ∧ ((s.evacValves zn).zone zn).evac = 2) ∧
    (n ∈ neighbours zn → (s.zone n).state ≠ zEvac → (neighbours n).all (fun m => m == zn || !s.purging m) = true →
      ((s.evacValves zn).zone n).valve = (s.zone n).valve >>> 1) ∧
    (Claims.atStage s zn 2 = true ∨ Claims.atStage s zn 3 = true → (s.zone zn).boost = false →
      exec (.evacuationStep d z dry) s = .next (s.modZone zn (fun k =>
        { k with boost := true, valve := 255, pulse := k.pulse + 1, evac := 3 }))) ∧
    (Claims.atStage s zn 2 = true ∨ Claims.atStage s zn 3 = true → (s.zone zn).boost = true → (s.zone zn).pulse < 8 →
      exec (.evacuationStep d z dry) s = .next (s.modZone zn (fun k => { k with boost := false, valve := 64 }))) ∧
    (Claims.atStage s zn 2 = true ∨ Claims.atStage s zn 3 = true → (s.zone zn).boost = true → 8 ≤ (s.zone zn).pulse →
      exec (.evacuationStep d z dry) s = .next (s.modZone zn (fun k => { k with boost := false, pulse := 0, evac := 4 }))) ∧
    (Claims.atStage s zn 4 = true →
      exec (.evacuationStep d z dry) s = .next (s.modZone zn (fun k =>
        { k with evac := 5, sens := (k.sens &&& 0x7FFFFFFFFFFFFFFF) ||| (if dry then 0x8000000000000000 else 0) }))) ∧
    (Claims.atStage s zn 5 = true → (s.zone zn).sens.getLsbD 63 = true → (s.zone zn).tries < 2 →
      exec (.evacuationStep d z dry) s = .next (s.modZone zn (fun k => { k with evac := 1, tries := k.tries + 1 }))) ∧
    (Claims.atStage s zn 5 = true → (s.zone zn).sens.getLsbD 63 = true → (s.zone zn).tries = 2 →
      exec (.evacuationStep d z dry) s = .next (s.fenceZone zn)) ∧
    (Claims.atStage s zn 5 = true → (s.zone zn).sens.getLsbD 63 = false →
      exec (.evacuationStep d z dry) s = .next (((s.modZone zn (fun k =>
        { k with state := zFree, evac := 0, tries := 0 })).modZoneCores zn (fun k => { k with floored := false, swal := 0 })).rezone zn)) ∧
    ((s.zone zn).state ≠ zEvac → exec (.evacuationStep d z dry) s = .next s) ∧
    (s.boot.phase = 5 → w.extractLsb' 4 60 = 0 → (s.zone (Claims.zn d (w.setWidth 4))).state = zFenced →
      exec (.zclr d w) s = .next ((s.modZone (Claims.zn d (w.setWidth 4)) (fun k => { k with state := zFree, tripped := 0 })).modZoneCores
        (Claims.zn d (w.setWidth 4)) (fun k => { k with coolHalt := false, floored := false, swal := 0 }))) ∧
    (s.boot.phase = 5 → (s.zone (Claims.zn d (w.setWidth 4))).state ≠ zFenced → exec (.zclr d w) s = .next s) ∧
    (∃ t, exec (.sensorSample d z sens) s = .next t ∧ (t.zone zn).sens = sens &&& 0xFFFFFF0003FFFFFF) ∧
    (∃ t, exec (.sensorSample d z sens) s = .next t ∧
      (List.range 4).all (fun n => (t.zone zn).tripped.getLsbD n == Claims.crosses (s.zone zn) sens n) = true) ∧
    (s.dieOwner d = some p → ∃ t, exec (.sensorSample d z sens) s = .next t ∧
      (t.part p).elogN = (s.part p).elogN + ((List.range 4).filter (Claims.fires (s.zone zn) sens)).length ∧
      (t.part p).irq = ((s.part p).irq || (List.range 4).any (Claims.fires (s.zone zn) sens))) ∧
    (Claims.fires (s.zone zn) sens 3 = true → (s.zone zn).state ≠ zEvac → (s.zone zn).state ≠ zFenced → zoneOf c = zn →
      ∃ t, exec (.sensorSample d z sens) s = .next t ∧ (t.zone zn).state = zEvac ∧ (t.zone zn).evac = 1 ∧
        (t.core c).floored = true ∧ (t.core c).level = 0 ∧ (t.core c).swal = 56) ∧
    (zoneOf c = zn → ∃ t, exec (.sensorSample d z sens) s = .next t ∧
      (t.core c).capped = (Claims.crosses (s.zone zn) sens 1 ||
        (!((sens.extractLsb' 13 13).toNat + 40 < (s.zone zn).tmax.toNat) && (s.core c).capped))) ∧
    (Claims.fires (s.zone zn) sens 2 = true → ∃ t, exec (.sensorSample d z sens) s = .next t ∧
      (t.zone zn).valve.toNat ≤ (s.zone zn).valve.toNat) ∧
    (∃ t, exec (.coolantSupplyDrop supply) s = .next t ∧ t.supply = supply ∧ t.tasks = s.tasks ∧
      (t.heldFlow ≤ supply.toNat ∨ (List.range 256).all (fun z => !Claims.lowerable t z) = true)) ∧
    (s.heldFlow ≤ supply.toNat ∨ (List.range 256).all (fun z => !Claims.lowerable s z) = true →
      exec (.coolantSupplyDrop supply) s = .next (Claims.supplied s supply)) ∧
    (supply.toNat < s.heldFlow → Claims.lowersNext s n = true →
      exec (.coolantSupplyDrop supply) s = exec (.coolantSupplyDrop supply) (Claims.loweredGrant s n)) ∧
    (supply.toNat < s.heldFlow → Claims.lowersNext s n = true → (Claims.loweredGrant s n).heldFlow ≤ supply.toNat →
      exec (.coolantSupplyDrop supply) s = .next (Claims.supplied (Claims.loweredGrant s n) supply)) ∧
    (Claims.lowerable s n = true → Claims.holdsClass s n = true → (s.zone n).cls ≠ 3 →
      ((Claims.loweredGrant s n).zone n).cls = (s.zone n).cls - 1 ∧
      ((Claims.loweredGrant s n).zone n).minflow = BitVec.ofNat 11 (if (s.zone n).cls = 2 then 48 else 32)) ∧
    (s.dieOwner (BitVec.ofNat 4 (n / 16)) = some p →
      ((Claims.loweredGrant s n).part p).elogN = (s.part p).elogN + 1 ∧ ((Claims.loweredGrant s n).part p).irq = true) ∧
    ((List.range 256).all (fun z => (s.zone z).lowered == 0) = true →
      exec (.coolantSupplyRestored supply) s = .next (Claims.supplied s supply)) ∧
    (Claims.raisesNext s n = true → supply.toNat < (Claims.raisedGrant s n).heldFlow →
      exec (.coolantSupplyRestored supply) s = .next (Claims.supplied s supply)) ∧
    (Claims.raisesNext s n = true → (Claims.raisedGrant s n).heldFlow ≤ supply.toNat →
      (List.range 256).all (fun z => (s.zone z).lowered ≤ 2) = true →
      exec (.coolantSupplyRestored supply) s = exec (.coolantSupplyRestored supply) (Claims.raisedGrant s n)) ∧
    ((List.range 256).all (fun z => (s.zone z).lowered ≤ 2) = true →
      ∃ t, exec (.coolantSupplyRestored supply) s = .next t ∧ t.supply = supply ∧ t.tasks = s.tasks ∧ t.mem = s.mem)

namespace Sys2Proof.Claims

/-- What identifies the package outlives a reset: fuses, secret, serial number, and what bring-up has set of its place (R459, R461,
R463; log 7). -/
def kept (s : State) : Boot :=
  { phase := 1, keys := s.boot.keys, revoked := s.boot.revoked, floor := s.boot.floor, secret := s.boot.secret
    serial := s.boot.serial, form := s.boot.form, step := s.boot.step, hbmMode := s.boot.hbmMode }

/-- The boot ROM has found the image bad (R461). -/
def refused (s : State) (err : Byte) : State := { s with boot := { s.boot with phase := 15, err := err } }

/-- The public key's slot among the fuses, and what a good image leaves (R461, R462). -/
def measured0 (s : State) : BitVec 256 :=
  Config.sha3 (leBytes 32 (s.boot.meas.get 0 0).toNat ++
    leBytes 32 (Config.sha3 (s.bootBytes 0 (4096 + s.bootNat 12 4))).toNat)

/-- Attestation control of a die holds a word (R464). -/
def attAsked (s : State) (d : DieId) (w : W64) : State := s.modDie d (fun k => { k with attCtl := w })

/-- The bytes of a report: the first 464 and the identity key's signature over their digest (R463, R464). -/
def report (s : State) (d : DieId) : List Byte :=
  s.reportBody d ++ Config.mlDsaSign s.boot.identity (Config.sha3 (s.reportBody d))

/-- The host has its answer. -/
def told (s : State) (x : W64) : State := { s with hostData := x, hostError := false }
def failed (s : State) : State := { s with hostData := 0, hostError := true }

/-- A doubleword of memory as a host's access reaches it (R454). -/
def hostPiece (x : HostAccess) : Piece :=
  { addr := span (x.addr.setWidth 46).toNat 8, cached := inHbm (x.addr.setWidth 46).toNat }

/-- A mainband access to memory of a device that is up, on a link that carries it (R454, R456, R459). -/
def toMemory (s : State) (x : HostAccess) : Bool :=
  s.ready && s.linkCarries x && x.addr.extractLsb' 46 2 == 0 && !x.sideband && (hostPiece x).addr.all s.hostReaches
/-- Nothing holds it: no access before it waits, and its line is free, for a write of a re-stripe too (R111, R118, R344). -/
def atOnce (s : State) (x : HostAccess) : Bool :=
  s.hostQueue.isEmpty && (if x.write then s.dispFree (hostPiece x) else s.lineFree 0 .ce (hostPiece x))

/-- An access to a doubleword of the management space that its requester reaches (R452). -/
def toSpace (s : State) (x : HostAccess) : Bool :=
  s.ready && s.linkCarries x && x.addr.extractLsb' 46 2 == 1 && s.reachesDie x.part (x.addr.extractLsb' 20 4)

/-- An entry of PART_CFG with its unused bits 0 (R450). -/
def entryOf (w : W64) : W64 := w &&& 0xFFFFF0000000FFFF

/-- Firmware writes the partition table: the device is being configured or is up (R451, R461). -/
def configures (s : State) : Bool := s.boot.phase == 4 || s.boot.phase == 5

/-- The dies that leave a partition whose entry changes (R451). -/
def leaving (old new : W64) : BitVec 16 :=
  if old.getLsbD 63 = false then 0 else if new.getLsbD 63 then old.setWidth 16 &&& ~~~(new.setWidth 16) else old.setWidth 16
/-- Two valid entries share a die, or an Armature entry: an entry's are ARMBASE to ARMBASE + ARMCNT - 1 (R450, R451). -/
def clashes (a b : W64) : Bool :=
  a.getLsbD 63 && b.getLsbD 63 && (a.setWidth 16 &&& b.setWidth 16 != (0 : BitVec 16) ||
    (List.range ((a.extractLsb' 52 9).toNat)).any (fun i =>
      decide ((b.extractLsb' 44 8).toNat ≤ (a.extractLsb' 44 8).toNat + i) &&
      decide ((a.extractLsb' 44 8).toNat + i < (b.extractLsb' 44 8).toNat + (b.extractLsb' 52 9).toNat)))
/-- The two entries differ in HLINK alone. -/
def linkOnly (a b : W64) : Bool := a &&& 0x9FFFFFFFFFFFFFFF == b &&& 0x9FFFFFFFFFFFFFFF

/-- The eight HBM_OWN bytes at an offset (R450). -/
def owned (s : State) (o : BitVec 12) (w : W64) : State :=
  { s with hbmOwn := s.hbmOwn.putAll 0 ((span (o.toNat - 0x100) 8).zip (leBytes 8 w.toNat)) }

end Sys2Proof.Claims

/-- R459 to R464: bring-up and attestation. A reset leaves the state after reset and what identifies the package; BOOT_GO begins the
verification, PHASE 2, and is ignored from then on until bring-up fails; the boot ROM stops at the first check that fails, with its code, or
starts the firmware, which trains, configures and makes the device ready; the floor of the SVN only rises; ATT_GO starts a report for a buffer of the partition,
and the report reaches it signed. The model's choices: the phases are turns of the boot ROM and firmware, a report's progress stands beside
ATT_STAT, so that a GO at reset is taken (log 42), and what a reset keeps (log 7). -/
def Obligations.BringUpAndAttestation : Prop :=
  ∀ (s : State) (d : DieId) (w : W64) (slot : Nat) (n : W32) (p : Nat) (i : Nat) (x : BitVec 256),
    (exec .deviceReset s = .next { State.reset with
      boot := Claims.kept s, peer := s.peer, domain := s.domain, serial := s.serial, launched := s.launched, turns := s.turns
      steps := s.steps }) ∧
    (s.boot.phase.toNat < 2 ∨ 5 < s.boot.phase.toNat → exec .bootGo s = .next { s with boot := { s.boot with phase := 2 } }) ∧
    (2 ≤ s.boot.phase.toNat ∧ s.boot.phase.toNat ≤ 5 → exec .bootGo s = .next s) ∧
    (s.boot.phase = 2 → s.headerGood = false → s.firmware .next = Claims.refused s 1) ∧
    (s.boot.phase = 2 → s.headerGood = true → s.keySlot = none → s.firmware .next = Claims.refused s 2) ∧
    (s.boot.phase = 2 → s.headerGood = true → s.keySlot = some slot → s.bootNat 8 4 < s.boot.floor.toNat →
      s.firmware .next = Claims.refused s 3) ∧
    (s.boot.phase = 2 → s.headerGood = true → s.keySlot = some slot → s.boot.floor.toNat ≤ s.bootNat 8 4 →
      (s.signatureGood = false → s.firmware .next = Claims.refused s 4) ∧
      (s.signatureGood = true →
        (s.firmware .next).boot.phase = 3 ∧ (s.firmware .next).boot.err = 0 ∧ (s.firmware .next).mem = s.mem ∧
        (s.firmware .next).boot.svn = BitVec.ofNat 32 (s.bootNat 8 4) ∧
        (s.firmware .next).boot.meas.get 0 0 = Claims.measured0 s ∧
        (s.firmware .next).boot.identity =
          Config.sha3 (leBytes 32 s.boot.secret.toNat ++ leBytes 32 (Claims.measured0 s).toNat))) ∧
    (s.boot.phase = 3 → (s.firmware .next).boot.phase = 4 ∧ (p < 32 → ((s.firmware .next).fab.port p).state = 2)) ∧
    (s.boot.phase = 4 → s.firmware .next = { s with boot := { s.boot with phase := 5 } }) ∧
    (s.boot.floor.toNat ≤ (s.firmware (.raiseFloor n)).boot.floor.toNat) ∧
    (s.boot.phase = 5 → s.boot.floor.toNat < n.toNat → (s.firmware (.raiseFloor n)).boot.floor = n) ∧
    (s.boot.phase = 5 → 3 ≤ i → i ≤ 7 → (s.firmware (.extend i x)).boot.meas.get 0 i =
      Config.sha3 (leBytes 32 (s.boot.meas.get 0 i).toNat ++ leBytes 32 x.toNat)) ∧
    (s.boot.phase = 5 → (s.die d).attBusy = false → w.getLsbD 4 = true → s.ownsBuffer w = true →
      exec (.attGo d w) s = .next ((Claims.attAsked s d w).modDie d (fun k => { k with attBusy := true, attStat := 0 }))) ∧
    (s.boot.phase = 5 → (s.die d).attBusy = false → w.getLsbD 4 = true → s.ownsBuffer w = false →
      exec (.attGo d w) s = .next ((Claims.attAsked s d w).modDie d (fun k => { k with attStat := 2 }))) ∧
    (s.boot.phase = 5 → (s.die d).attBusy = true → exec (.attGo d w) s = .next s) ∧
    ((s.die d).attBusy = true →
      exec (.attestationReport d) s = .next ((s.writeList
        ((span (attBuffer (s.die d).attCtl) (Claims.report s d).length).zip (Claims.report s d))).modDie d
          (fun k => { k with attBusy := false, attStat := 1 })))

namespace Sys2Proof.Claims

/-- The instructions that only kernel mode may issue (R332, R377). -/
noncomputable def kernelOnly (h : Hdr) (f : CF) : List Instr :=
  [.rfe h f, .idle h f, .tlbiPage h f, .tlbiSpace h f, .tlbiPart h f, .tlbiReplica h f, .tlbiRwflush h f, .tlbiRcinit h f]

/-- The trap registers of the issuing context hold what R323 and R324 record, and it stands at the vector in kernel mode (R326). -/
def entered (s t : State) (k : Trap) : Bool :=
  t.cx.mode && !t.cx.pmode && !t.cx.async && t.cx.tcause == k.code ++ k.sub ++ k.cause && t.cx.tval == k.tval &&
  t.cx.tepc == s.cur.gpc && t.cx.tnpc == s.cur.next && t.cx.tinfo == tinfoOf s.cx.repNext k.lane s.cur.pos &&
  t.cx.pc == ((s.part s.rc.part).tvec.extractLsb' 12 36 ++ 0#12) + BitVec.ofNat 48 (64 * k.cause.toNat) &&
  t.cx.ready == s.here.cycle + 4

/-- No register of the issuing context but those of the trap has changed. -/
def sameBanks (s t : State) : Bool :=
  t.cx.s == s.cx.s && t.cx.ks == s.cx.ks && t.cx.p == s.cx.p && t.cx.kp == s.cx.kp && t.cx.b == s.cx.b && t.cx.loops == s.cx.loops

/-- No vector register, tile, flag counter, stream or CSR of the resident context has changed, and no other context of it. -/
def sameTask (s t : State) : Bool :=
  t.rc.v == s.rc.v && t.rc.vm == s.rc.vm && t.rc.eng == s.rc.eng && t.rc.flags == s.rc.flags && t.rc.streams == s.rc.streams &&
  t.rc.fstat == s.rc.fstat && t.rc.pend == s.rc.pend

/-- The results in flight of the context wait in its shadow buffer, with the cycles that were left of each when the group would
have issued (R45, R326). -/
def setAside (s : State) : List Shadow :=
  (s.rc.inflight.filter (fun f => f.ctx == s.cur.ctx)).map (fun f =>
    { count := f.due - Nat.max s.here.cycle s.cx.ready, w := f.w, flags := f.flags, eng := f.eng, on := .rfe })

end Sys2Proof.Claims

/-- R122, R136, R324, R332: what decode refuses. Words that decode to nothing, and an instruction that is not well-formed, trap
ILLEGAL_ENCODING with the instruction's first word; in task mode a kernel-only instruction traps PRIVILEGE with it, and an
access to a CSR of 0x100 up with the CSR's number; an instruction that some trap of decode takes does nothing but take it;
one that is held changes nothing; and one whose guard is false, or a vector one with GMASK 0, has no effect (R54, R58). -/
def Obligations.TrapsHoldsAndGuards : Prop :=
  ∀ (s : State) (w : W32) (i : Instr) (h : Hdr) (f : CF) (n : BitVec 12) (k : Trap),
    (exec (.illegalEncoding w) s = .next (Claims.trapped s { cause := 0x01, tval := w.setWidth 64 })) ∧
    (i.head.isSome = true → s.cx.rep = none → i.wf = false →
      exec i s = .next (Claims.trapped s { cause := 0x01, tval := i.firstWord })) ∧
    (i ∈ Claims.kernelOnly h f → s.cx.mode = false → s.badEncoding i = false →
      exec i s = .next (Claims.trapped s { cause := 0x03, tval := i.firstWord })) ∧
    (i ∈ [Instr.rdc h f n, .wrc h f n] → s.cx.mode = false → s.badEncoding i = false → 0x100 ≤ n.toNat →
      exec i s = .next (Claims.trapped s { cause := 0x03, tval := n.setWidth 64 })) ∧
    (i.head.isSome = true → s.cx.rep = none → s.decodeTrap i i.firstWord = some k →
      exec i s = .next (Claims.trapped s k)) ∧
    (i.head.isSome = true → s.cx.rep = none → s.decodeTrap i i.firstWord = none → s.stalls i = true →
      exec i s = .next (Claims.held s .plain)) ∧
    (i.head.isSome = true → s.cx.rep = none → s.decodeTrap i i.firstWord = none → s.stalls i = false →
      s.preg i.pred = false ∨ i.noLanes = true → exec i s = .next s.clean)

/-- R45, R323, R324, R326, R328: taking a trap. In task mode the trap registers are written, the context is in kernel mode at
the vector of its cause, its results in flight wait for RFE, it stands in line for no flag, and nothing else of it changes; in kernel mode it is a double
trap: the context halts as it stands, DBG_STAT.DOUBLE is set, its task is to end with HW_ERROR, sub-cause 1, and no vector is entered. -/
def Obligations.TrapEntry : Prop :=
  ∀ (s : State) (k : Trap),
    (s.cx.mode = false →
      Claims.entered s (s.takeTrap k) k = true ∧ Claims.sameBanks s (s.takeTrap k) = true ∧
      Claims.sameTask s (s.takeTrap k) = true ∧
      (s.takeTrap k).cx.shadow = s.cx.shadow.map (fun e => { e with on := .rfe }) ++ Claims.setAside s ∧
      (s.takeTrap k).rc.inflight = s.rc.inflight.filter (fun f => f.ctx != s.cur.ctx) ∧
      (s.takeTrap k).rc.waiters = s.rc.waiters.filter (fun w => w.1 != s.cur.ctx) ∧
      (s.takeTrap k).mem = s.mem ∧ (s.takeTrap k).reqs = s.reqs) ∧
    (s.cx.mode = true →
      (s.takeTrap k).cx.run = .halted ∧ (s.takeTrap k).here.dbgDouble = true ∧
      (s.takeTrap k).cx.pc = s.cx.pc ∧ (s.takeTrap k).cx.mode = true ∧ (s.takeTrap k).cx.tcause = s.cx.tcause ∧
      Claims.hwEnds s (s.takeTrap k) [s.rc.task] = true ∧
      (s.takeTrap k).cx.tepc = s.cx.tepc ∧ Claims.sameBanks s (s.takeTrap k) = true ∧ (s.takeTrap k).mem = s.mem)

namespace Sys2Proof.Claims

/-- Nothing waits at the boundary of a core's active context: no machine trap, no debug halt, no pre-emption that has not
landed, no asynchronous record (R329), no arrival (R39). -/
def quiet (s : State) (c : CoreId) : Bool :=
  let k := s.core c
  (k.res k.act).machine.isNone && !k.dbgHalt && !k.preemptOpen && (k.res k.act).faults.isEmpty && (k.res k.act).arrivals.isEmpty

/-- Only the primary of a core may issue in this cycle. -/
def primaryAlone (s : State) (c : CoreId) : Bool :=
  (s.core c).mayIssue .primary && !(s.core c).mayIssue .h1 && !(s.core c).mayIssue .h2

/-- The state after the turns' head has been taken and the step counted. -/
def turned (s : State) : State := { s with turns := s.turns.tail, steps := s.steps + 1 }

/-- The issue of a group of one instruction i by a core's primary, the address after it being `next`. -/
def issuing (s : State) (c : CoreId) (next : VAddr) (i : Instr) : State :=
  let v := s.issueAt c (s.core c).act .primary
  { v with cur := { v.cur with next := next, group := [i] } }

/-- The instruction of that group, at its address. -/
def single (s : State) (i : Instr) : Placed := ⟨0, s.cur.gpc, i⟩

/-- WARN after a group of one instruction that issued on v and left t: what it warned of is joined to what stood (R76). -/
def warnJoined (v t : State) : State := t.modRc (fun r => r.withWarn (v.rc.warnSt.join v.rc.warnSt t.rc.warnSt))

/-- What an issue opportunity of the primary leaves when its group issued or trapped: R40's count begins again, and a debugger's
single step is over (R339). -/
def issued (s : State) (c : CoreId) : State :=
  let t := s.modCore c (fun k => { k with hRun := 0, heldCtl := false })
  if (t.core c).dbgStep then t.modCore c (fun k => { k.halt (k.cycle + 1) with dbgEbh := false, haltedAt := t.steps }) else t

/-- The words that one core instruction of each format, and a micro-operation, have by R121 and R125 to R134. -/
def codedWords : List (List W32 × (Instr → Bool)) :=
  [([0x12BC0004], fun i => match i with | .add h f => h == ⟨0, false, true⟩ && f == ⟨30, 10, 2⟩ | _ => false),
   ([0x00001431, 0x00050003], fun i => match i with | .rep h f x => h == ⟨0, false, false⟩ && f == ⟨0, 0, 0⟩ && x == ⟨3, 1, 1, 0⟩ | _ => false),
   ([0x01401C34], fun i => match i with | .sysc h f => h == ⟨0, false, true⟩ && f == ⟨0, 5, 0⟩ | _ => false),
   ([0x01C0202C], fun i => match i with | .trap h f => h == ⟨0, false, true⟩ && f == ⟨0, false, 7, 0⟩ | _ => false),
   ([0x00001834], fun i => match i with | .ebreak h f => h == ⟨0, false, true⟩ && f == ⟨0, 0, 0⟩ | _ => false),
   ([0x00002034], fun i => match i with | .rfe h f => h == ⟨0, false, true⟩ && f == ⟨0, 0, 0⟩ | _ => false),
   ([0x00002834], fun i => match i with | .idle h f => h == ⟨0, false, true⟩ && f == ⟨0, 0, 0⟩ | _ => false),
   ([0x01402434], fun i => match i with | .tlbiPage h f => h == ⟨0, false, true⟩ && f == ⟨0, 5, 0⟩ | _ => false)]

end Sys2Proof.Claims

/-- R40, R57, R121, R135, R223, R278: what a step does. On the turn of a core whose primary alone may issue, at whose pc the bytes
decode to one instruction with STOP, the step is `exec` of that instruction on the state that its issue enters, then the
end of its group, or its trap or stall, then the end of the cycle; on the turn of a matrix engine, it is `exec` of the
micro-operation at the routine's place; on that of a home it performs its request, or a part of it; on that of a transfer an element
lands; on that of a dispatcher it is `exec` of the packet at the queue's RPTR, or of its LAUNCH that waits; on that of the boot ROM or the firmware
it does what comes next of bring-up; on that of an event it is `exec` of it, for a marker event with the
die whose OFU it reaches. -/
def Obligations.StepRunsDecoded : Prop :=
  ∀ (s t : State) (c : CoreId) (r : Slot) (i : Instr) (ws : List W32) (n m : Nat) (next : VAddr)
    (q : QueueId) (d : DieId) (act : FirmAct),
    let u := Claims.turned s
    let a := u.wakeUp c
    let v := Claims.issuing a c next i
    let w := v.enterGroup next [i]
    (s.turns.head? = some (.core c) → Claims.quiet a c = true → a.mayIssue c = true → Claims.primaryAlone a c = true →
      v.cx.rep = none → v.cur.gpc.toNat % 4 = 0 → next = v.cur.gpc + BitVec.ofNat 48 (4 * n) →
      v.fetchWords n v.cur.gpc = .ok ws → lengthOf (ws.headD 0) = some n → (ws.headD 0).getLsbD 2 = true →
      decode ws = .ok i [] → v.groupTrap [Claims.single v i] false = none →
      exec i (w.atInstr w.rc.warnSt (Claims.single v i)) = .next t →
      (t.mark = .none → step s = .next ((Claims.issued ((Claims.warnJoined w t).groupDone v [Claims.single v i]) c).endCycle c)) ∧
      (∀ k, t.mark = .trapped k → step s = .next ((Claims.issued (v.groupTraps (0, v.cur.gpc, k)) c).endCycle c)) ∧
      (∀ k, t.mark = .held k → step s =
        .next (((v.keepWaits [Claims.single v i]).groupHolds [Claims.single v i] [k] [i]).endCycle c))) ∧
    (s.turns.head? = some (.engine c r) →
      (u.res c r).eng.call.isSome = true → decodeMicro ((u.res c r).eng.store.get 0 (u.res c r).eng.pos.toNat) = .ok i [] →
      step s = exec i { u with cur := { u.cur with core := c, slot := r, ctx := .primary }, mark := .none }) ∧
    (s.turns.head? = some (.perform n) → step s = .next (u.perform n).softError) ∧
    (s.turns.head? = some (.piece n m) → step s = .next (u.performPiece n m).softError) ∧
    (s.turns.head? = some (.element c r n m) → step s = .next (u.landElement c r n m)) ∧
    (s.turns.head? = some (.dispatch q) → ∀ pkt, u.facing (u.queue q) = some pkt → step s = exec (packetRow q pkt) u) ∧
    (s.turns.head? = some (.firmware act) → step s = .next (u.firmware act)) ∧
    (s.turns.head? = some (.event i) → isEvent i = true → step s = exec i u) ∧
    (s.turns.head? = some (.marker d i) → isEvent i = true → step s = exec i { u with cur := { u.cur with die := d } })

/-- R121, R125 to R134: words written out from the encodings are the instructions they stand for. -/
def Obligations.WordsDecode : Prop :=
  ∀ p ∈ Claims.codedWords, ∃ i, decode p.1 = .ok i [] ∧ p.2 i = true

/-- R121 to R134: decoding what a well-formed instruction encodes to gives it back, with every operand, and leaves what follows;
the same of a micro-operation. -/
def Obligations.RoundTrip : Prop :=
  ∀ (i : Instr) (rest : List W32), i.wf = true →
    (i.head.isSome = true → decode (encode i ++ rest) = .ok i rest) ∧
    (∀ (f : UF) (w : W32), i ∈ [Instr.tnop f, .tfa f, .tfb f, .tscl f, .tmac f, .tprom f, .trank f, .tdrain f, .twalk f,
      .tloop f, .tend f, .tjmp f, .tyld f, .tflag f, .tret f, .tset f] → encode i = [w] → decodeMicro w = .ok i [])

/-- R121, R122: each instruction has one encoding: words that decode to an instruction are its encoding, the rest follows it,
and it is well-formed; so a reserved bit, an unused field or a reserved code that is not 0 decodes to nothing. -/
def Obligations.OneEncoding : Prop :=
  ∀ (ws rest : List W32) (w : W32) (i : Instr),
    (decode ws = .ok i rest → ws = encode i ++ rest ∧ i.wf = true) ∧
    (decodeMicro w = .ok i rest → encode i = [w] ∧ rest = [] ∧ i.wf = true)

/-- Log 5: whatever a step does, memory keeps its canonical form. -/
def Obligations.StepKeepsMemory : Prop :=
  ∀ (s t : State), s.Inv → step s = .next t → t.Inv

/-- R7, R59, R323, R341, R356, R423, R447, R454, R459: the state right after reset: no task, no byte of memory listed, every mode
and status at the value of its rule; the device is in bring-up, its ports are DOWN, and the invariant holds. The values that
a log entry names (registers, memory) are the model's choice: logs 4, 5, 7. -/
def Obligations.ResetState : Prop :=
  State.reset.Inv ∧ State.reset.tasks = [] ∧ State.reset.reqs = [] ∧ State.reset.boot.phase = 0 ∧ State.reset.boot.err = 0 ∧
  (∀ n : Nat, State.reset.byte n = 0) ∧
  (∀ c : CoreId, (State.reset.core c).a.occ = false ∧ (State.reset.core c).b.occ = false ∧
    (State.reset.core c).halted = false ∧ (State.reset.core c).a.primary.mode = false ∧
    (State.reset.core c).a.primary.tcause = 0 ∧ (State.reset.core c).divs = { ctl := 4, mat := 4, vec := 4, cpy := 4 }) ∧
  (∀ q : QueueId, (State.reset.queue q).state = 0) ∧ (∀ g : GroupId, (State.reset.arm g).v = false) ∧
  (∀ p : Nat, (State.reset.fab.port p).state = 0) ∧ (∀ d : Nat, (State.reset.fab.ofu d).lock = false) ∧ State.reset.fab.depth = 256 ∧
  (∀ d : DieId, (State.reset.die d).vmax = 950 ∧ (State.reset.die d).vfloor = 680 ∧ (State.reset.die d).sramSet = 800) ∧
  State.reset.budget = 11400

/-- R1, R111, R118: the home of a CACHED line with no pin. After its lease it passes to the request at the head of its FIFO, where
the L1 of that request's core has room; a line evicted from an L1 after its lease returns to the staging slice, and one evicted
from the slice to HBM. No other home and nothing else moves.

R278, R282: the home of a posted store performs its next part when nothing that must come first is left, in one step (in a task
that logs no races, R390): the bytes of that part hold the data, every other byte stays, and the request ends with its last part;
until then memory and the request stay as they are. A store to a line beyond the capacity or on a fenced die is refused: no byte changes,
and its context is to take the trap (R117, R387, R456; that its group has committed is log 91). -/
def Obligations.HomesMoveAndStoresPerform : Prop :=
  (∀ (s : State) (line : Nat) (o : CoreId) (z m : Nat) (q : Req), (Claims.homeOf s line).pins = [] →
     ((Claims.homeOf s line).at_ = .l1 o z → s.leaseOver (Claims.homeOf s line) = true →
       s.headOf (Claims.homeOf s line) = some m → s.req? m = some q → q.core ≠ o → q.takesHome = true → s.l1Lines q.core < 512 →
       exec (.lineHomeHandover line) s =
         .next { s with homes := s.homes.put {} line { Claims.homeOf s line with at_ := .l1 q.core (s.core q.core).cycle } }) ∧
     ((Claims.homeOf s line).at_ = .l1 o z → s.leaseOver (Claims.homeOf s line) = true →
       exec (.l1Eviction line) s = .next { s with homes := s.homes.put {} line { Claims.homeOf s line with at_ := .slice } }) ∧
     ((Claims.homeOf s line).at_ = .slice →
       exec (.sliceEviction line) s = .next { s with homes := s.homes.put {} line { queue := (Claims.homeOf s line).queue } })) ∧
  (∀ (s : State) (n : Nat) (q : Req) (p : Piece) (k : Byte × Byte × W64), s.req? n = some q → q.kind = .store →
     q.pieces[q.nextPart]? = some p → s.raceMode (s.res q.core q.slot).task ≠ 1 →
     (s.mayPerform q q.nextPart p = true → s.refusal q p = none →
       (s.perform n).mem = Tab.putAll 0 s.mem (p.addr.zip (leBytes p.addr.length p.data.toNat)) ∧
       (p.addr.Nodup → (s.perform n).readList p.addr = p.data.toNat % 2 ^ (8 * p.addr.length)) ∧
       (∀ a : Nat, a ∉ p.addr → (s.perform n).byte a = s.byte a) ∧
       ((q.pieces.filter (fun x => !x.done)).length = 1 → (s.perform n).req? n = none)) ∧
     (s.mayPerform q q.nextPart p = true → s.refusal q p = some k → q.free = false →
       (s.perform n).mem = s.mem ∧ (s.perform n).req? n = none ∧ ((s.perform n).res q.core q.slot).denied =
         (s.res q.core q.slot).denied ++ [{ ctx := q.ctx, cause := k.1, sub := k.2.1, tval := k.2.2 }]) ∧
     (p.addr ≠ [] → (s.refusal q p = none ↔
       ¬(inStk (p.addr.headD 0) = true ∧ (s.die (stkDie (p.addr.headD 0))).stk.lines ≤ stkLine (p.addr.headD 0)) ∧
       (s.die (s.homeDie (p.addr.headD 0))).fenced = false)) ∧
     (s.mayPerform q q.nextPart p = false → (s.perform n).mem = s.mem ∧ (s.perform n).reqs = s.reqs))

namespace Sys2Proof.Claims

/-- The rational number that a magnitude is. -/
def ratOf (m : Mag) : Rat := (m.n : Rat) / (m.d : Rat) * (2 : Rat) ^ m.e
/-- The rational number that an exact value is, 0 for a NaN and for an infinity. -/
def valueOf : Ex → Rat
  | .num neg m => if neg then -ratOf m else ratOf m
  | _ => 0
/-- A finite exact value, whose denominator is not 0. -/
def finite : Ex → Bool
  | .num _ m => m.d != 0
  | _ => false

/-- A natural number that an exact magnitude of a sign is rounded to (R87): the nearest with ties to even, towards zero, up, down. -/
def roundsTo (r : Rnd) (neg : Bool) (v : Rat) (k : Nat) : Prop :=
  match r with
  | .rne => (k : Rat) - v ≤ 1 / 2 ∧ v - k ≤ 1 / 2 ∧ ((k : Rat) - v = 1 / 2 ∨ v - k = 1 / 2 → k % 2 = 0)
  | .rtz => (k : Rat) ≤ v ∧ v < k + 1
  | .rup => if neg then (k : Rat) ≤ v ∧ v < k + 1 else v ≤ k ∧ (k : Rat) < v + 1
  | .rdn => if neg then v ≤ k ∧ (k : Rat) < v + 1 else (k : Rat) ≤ v ∧ v < k + 1

/-- The lowest and the highest value of an integer type of w bits (R82). -/
def lowest (w : Nat) (sgn : Bool) : Int := if sgn then -(2 ^ (w - 1)) else 0
def highest (w : Nat) (sgn : Bool) : Int := if sgn then 2 ^ (w - 1) - 1 else 2 ^ w - 1

/-- A lane of an integer type that holds a number's low bits (R82, R186). -/
def intBits (t : Nat) (x : Int) : W32 := inLane t (BitVec.ofInt (elemBits t) x)

/-- An integer result of type t: under SAT clamped with FSTAT.SAT, else wrapped (R192). -/
def intResult (t : Nat) (sat : Bool) (x : Int) : W32 × Flags8 :=
  if sat ∧ x < lowest (elemBits t) (elemSigned t) then (intBits t (lowest (elemBits t) (elemSigned t)), 16)
  else if sat ∧ highest (elemBits t) (elemSigned t) < x then (intBits t (highest (elemBits t) (elemSigned t)), 16)
  else (intBits t x, 0)

/-- NX and UF of a magnitude m rounded to y in a format (R88, R93). -/
def roundFlags (f : Fmt) (m y : Mag) : Flags8 :=
  if ratOf y = ratOf m then 0 else if ratOf m < (2 : Rat) ^ (1 - (f.bias : Int)) then 8 ||| 4 else 8

/-- A float rounded to the integer k of type t: the nearest end with NV where k is out of range, else k with NX where it differs from
the value x (R89). -/
def toIntResult (t : Nat) (x : Ex) (k : Int) : W32 × Flags8 :=
  if k < lowest (elemBits t) (elemSigned t) then (intBits t (lowest (elemBits t) (elemSigned t)), 1)
  else if highest (elemBits t) (elemSigned t) < k then (intBits t (highest (elemBits t) (elemSigned t)), 1)
  else (intBits t k, if valueOf x = k then 0 else 8)

/-- An exact value rounded once to f32, with the flags of its operation besides (R88, R216). -/
def roundsOnce (p : Ex × Flags8) : W32 × Flags8 :=
  (BitVec.ofNat 32 (Fmt.f32.round .rne false p.1).1, (Fmt.f32.round .rne false p.1).2 ||| p.2)

/-- The byte that VPACK3 packs into: one above 242 is taken as 0 (R219). -/
def packByte (y : W32) : Nat := if 242 < y.toNat % 256 then 0 else y.toNat % 256

/-- Byte j of a lane (R202). -/
def laneByte (x : W32) (j : Nat) : BitVec 8 := x.extractLsb' (8 * j) 8
def byteValue (t : Nat) (x : BitVec 8) : Int := if t = 7 then x.toInt else x.toNat

end Sys2Proof.Claims

/-- R82, R86 to R88, R90, R91, R93, R186, R192, R193: what the numbers of V are. An element of an integer TYPE is its low bits, signed or
not; an integer result wraps, or under SAT is clamped with its flag. An exact sum, product, quotient and fused sum of finite values is
the rational one, and NV is raised where R91 says. Quantise is the nearest multiple of the format's step by RND, and RoundTo gives
bits whose value that is, with NX and UF, or what R88 gives above the largest finite value. -/
def Obligations.LaneValues : Prop :=
  ∀ (t : Nat) (sat neg : Bool) (x : W32) (y : Int) (f : Fmt) (r : Rnd) (m : Mag) (a b c : Ex) (g : Flags8),
    (t < 11 → elemBits t = if t = 0 ∨ t = 5 ∨ t = 8 then 32 else if t = 1 ∨ t = 2 ∨ t = 6 ∨ t = 9 then 16 else 8) ∧
    (5 ≤ t → t < 8 → intElem t x = (x.setWidth (elemBits t)).toInt) ∧
    (8 ≤ t → t < 11 → intElem t x = (x.setWidth (elemBits t)).toNat) ∧
    (5 ≤ t → t < 11 → intLane t sat y = Claims.intResult t sat y) ∧
    (t < 5 → floatLane t r (a, g) = (BitVec.ofNat 32 ((fmtOf t).round r false a).1, ((fmtOf t).round r false a).2 ||| g)) ∧
    (Claims.finite a = true → Claims.finite b = true →
      Claims.valueOf (Ex.add r a b).1 = Claims.valueOf a + Claims.valueOf b ∧ (Ex.add r a b).2 = 0 ∧
      Claims.valueOf (Ex.mul a b).1 = Claims.valueOf a * Claims.valueOf b ∧ (Ex.mul a b).2 = 0 ∧
      (Claims.valueOf b ≠ 0 → Claims.valueOf (Ex.div a b).1 = Claims.valueOf a / Claims.valueOf b ∧ (Ex.div a b).2 = 0) ∧
      (Claims.finite c = true → Claims.valueOf (Ex.fma r a b c).1 = Claims.valueOf a * Claims.valueOf b + Claims.valueOf c ∧ (Ex.fma r a b c).2 = 0) ∧
      (a.lt b = true ↔ Claims.valueOf a < Claims.valueOf b)) ∧
    (Ex.add r (.inf neg) (.inf !neg) = (.nan, 1) ∧ (Claims.valueOf b = 0 → Claims.finite b = true → Ex.mul (.inf neg) b = (.nan, 1)) ∧
      Ex.div (.inf neg) (.inf sat) = (.nan, 1) ∧ (Ex.add r .nan a).1 = .nan ∧ (Ex.mul .nan a).1 = .nan) ∧
    (Ex.min a .nan = a ∧ Ex.max a .nan = a ∧ Ex.min .nan a = a ∧ Ex.max .nan a = a ∧
      (Claims.finite a = true → Claims.finite b = true →
        Claims.valueOf (Ex.min a b) = min (Claims.valueOf a) (Claims.valueOf b) ∧
        Claims.valueOf (Ex.max a b) = max (Claims.valueOf a) (Claims.valueOf b))) ∧
    (m.d ≠ 0 → Claims.roundsTo r neg (Claims.ratOf m) (roundNat r neg m)) ∧
    (m.d ≠ 0 → m.n ≠ 0 →
      (2 : Rat) ^ floorLog2 m ≤ Claims.ratOf m ∧ Claims.ratOf m < (2 : Rat) ^ (floorLog2 m + 1) ∧
      f.stepExp m = (if floorLog2 m < 1 - (f.bias : Int) then 1 - (f.bias : Int) else floorLog2 m) - (f.mb : Int) ∧
      Claims.ratOf (f.quantise r neg m) = roundNat r neg (m.scale (-f.stepExp m)) * (2 : Rat) ^ f.stepExp m ∧
      Claims.ratOf (m.scale (-f.stepExp m)) = Claims.ratOf m / (2 : Rat) ^ f.stepExp m) ∧
    (m.d ≠ 0 → Claims.ratOf (f.quantise r neg m) ≤ Claims.ratOf f.maxFinite →
      Claims.valueOf (f.value (f.round r sat (.num neg m)).1) =
        (if neg then -Claims.ratOf (f.quantise r neg m) else Claims.ratOf (f.quantise r neg m)) ∧
      (f.round r sat (.num neg m)).1 < 2 ^ f.width ∧
      (f.round r sat (.num neg m)).2 = Claims.roundFlags f m (f.quantise r neg m)) ∧
    (m.d ≠ 0 → Claims.ratOf f.maxFinite < Claims.ratOf (f.quantise r neg m) →
      f.round r sat (.num neg m) =
        (if sat then (f.maxBits + (if neg then 2 ^ (f.width - 1) else 0), Claims.roundFlags f m (f.quantise r neg m) ||| 2 ||| 16)
         else if r = .rtz ∨ (r = .rdn ∧ neg = false) ∨ (r = .rup ∧ neg = true) then
           (f.maxBits + (if neg then 2 ^ (f.width - 1) else 0), Claims.roundFlags f m (f.quantise r neg m) ||| 2)
         else if f = .e4m3 then (0x7F, Claims.roundFlags f m (f.quantise r neg m) ||| 2)
         else (f.infBits + (if neg then 2 ^ (f.width - 1) else 0), Claims.roundFlags f m (f.quantise r neg m) ||| 2))) ∧
    (f.round r sat .nan = (f.canonNaN, 0) ∧
      f.round r sat (.inf neg) =
        (if sat then (f.maxBits + (if neg then 2 ^ (f.width - 1) else 0), 16)
         else if f = .e4m3 then (0x7F, 1) else (f.infBits + (if neg then 2 ^ (f.width - 1) else 0), 0)))

/-- R89, R95, R97, R137, R200 to R202, R215, R216, R218, R219: the values of conversions, dot products, quantisation and ternary
packing, case by case. That a float is in an integer type's range is judged of the rounded integer, and that RND acts there, are the
model's readings (logs 95 and 26). Where the bounds that the model computes do not decide a special function's rounding, its result is
a free value, of which nothing is said. -/
def Obligations.ConversionValues : Prop :=
  ∀ (u t : Nat) (r : Rnd) (sat neg : Bool) (x y z : W32) (m : Mag) (i : Nat) (f : Fmt) (bits : Nat) (a : Ex),
    (u < 5 → t < 5 → u ≠ t → convert u t r sat x = (BitVec.ofNat 32 ((fmtOf t).round r (sat && t != 0) (exElem u x)).1,
      ((fmtOf t).round r (sat && t != 0) (exElem u x)).2)) ∧
    (t < 5 → (exElem t x).isNaN = true → convert t t r sat x = (BitVec.ofNat 32 (fmtOf t).canonNaN, 0)) ∧
    (t < 5 → (exElem t x).isNaN = false → convert t t r sat x = ((x.setWidth (elemBits t)).setWidth 32, 0)) ∧
    (u < 5 → 5 ≤ t → t < 11 →
      ((exElem u x).isNaN = true → convert u t r sat x = (0, 1)) ∧
      (exElem u x = .inf neg → convert u t r sat x = (Claims.intBits t (if neg then Claims.lowest (elemBits t) (elemSigned t)
        else Claims.highest (elemBits t) (elemSigned t)), 1)) ∧
      (exElem u x = .num neg m → convert u t r sat x =
        Claims.toIntResult t (.num neg m) (if neg then -(roundNat r neg m : Int) else roundNat r neg m))) ∧
    (5 ≤ u → u < 11 → t < 5 → convert u t r sat x = (BitVec.ofNat 32 ((fmtOf t).round r (sat && t != 0) (Ex.ofInt (intElem u x))).1,
      ((fmtOf t).round r (sat && t != 0) (Ex.ofInt (intElem u x))).2)) ∧
    (5 ≤ u → u < 11 → 5 ≤ t → t < 11 → convert u t r sat x = Claims.intResult t sat (intElem u x)) ∧
    (t = 7 ∨ t = 10 → dot4 t sat x y z = Claims.intResult (if t = 7 then 5 else 8) sat
      (((List.range 4).map (fun j => Claims.byteValue t (Claims.laneByte x j) * Claims.byteValue t (Claims.laneByte y j))).sum +
        (if t = 7 then z.toInt else (z.toNat : Int)))) ∧
    (a.isNaN = true → quantiseBy f (exElem 0 x) a = (f.canonNaN, 32)) ∧
    (a.isZero = true → quantiseBy f (exElem 0 x) a = (0, 0)) ∧
    (a.isNaN = false → a.isZero = false → quantiseBy f (exElem 0 x) a =
      ((f.round .rne true (Ex.div (exElem 0 x) a).1).1, (f.round .rne true (Ex.div (exElem 0 x) a).1).2 ||| (Ex.div (exElem 0 x) a).2)) ∧
    (3 ≤ t → t < 11 → (f32Val y).isNaN = true → dequantise t x y = (0x7FC00000, 32)) ∧
    (3 ≤ t → t < 11 → (f32Val y).isNaN = false →
      dequantise t x y = Claims.roundsOnce (Ex.mul (if t < 5 then exElem t x else Ex.ofInt (intElem t x)) (f32Val y))) ∧
    (i < 5 → pack3 i x y = (BitVec.ofNat 32 (Claims.packByte y - Claims.packByte y / 3 ^ i % 3 * 3 ^ i +
        (if x = 0 then 0 else if 0 < x.toInt then 1 else 2) * 3 ^ i),
      (if 242 < y.toNat % 256 then 64 else 0) ||| (if 1 < x.toInt.natAbs then 16 else 0))) ∧
    (i < 5 → ∀ b ∈ List.range 243, tritOf b i = (if b / 3 ^ i % 3 = 0 then 0 else if b / 3 ^ i % 3 = 1 then 1 else -1)) ∧
    (i < 5 → ∀ b ∈ List.range 256, 243 ≤ b → tritOf b i = 0) ∧
    (f.value bits = .nan → ∀ k ∈ [Spec.rcp, .rsq, .exp2, .lg2, .tanh], k.apply f r bits = (f.canonNaN, 0)) ∧
    (f.value bits = .num neg m → m.n = 0 →
      Spec.rcp.apply f r bits = f.round r false (.inf neg) ∧ Spec.rsq.apply f r bits = f.round r false (.inf neg) ∧
      Spec.exp2.apply f r bits = f.round r false Ex.one ∧ Spec.lg2.apply f r bits = f.round r false (.inf true) ∧
      Spec.tanh.apply f r bits = f.round r false (.num neg .zero)) ∧
    (f.value bits = .inf neg →
      Spec.rcp.apply f r bits = f.round r false (.num neg .zero) ∧
      Spec.rsq.apply f r bits = (if neg then (f.canonNaN, 1) else f.round r false Ex.zero) ∧
      Spec.exp2.apply f r bits = f.round r false (if neg then Ex.zero else .inf false) ∧
      Spec.lg2.apply f r bits = (if neg then (f.canonNaN, 1) else f.round r false (.inf false)) ∧
      Spec.tanh.apply f r bits = f.round r false (.num neg (.ofNat 1))) ∧
    (f.value bits = .num neg m → m.n ≠ 0 →
      (Spec.rcp.apply f r bits).1 = (f.round r false (Ex.div Ex.one (.num neg m)).1).1 ∧
      (neg = true → Spec.rsq.apply f r bits = (f.canonNaN, 1) ∧ Spec.lg2.apply f r bits = (f.canonNaN, 1))) ∧
    -- the examples that the rules give
    (intLane 6 true (300 * 200) = (32767, 16) ∧ intLane 6 false (300 * 200) = (BitVec.ofInt 32 (-5536), 0) ∧
      convert 0 3 .rne true 0x43EB0000 = (0x7E, 26) ∧ convert 0 3 .rne false 0x43960000 = (0x79, 8) ∧
      convert 0 4 .rne false 0x43960000 = (0x5D, 8) ∧ convert 0 3 .rtz false 0x43FA0000 = (0x7E, 10) ∧
      dot4 7 false 0x04030201 0x020101FF 100 = (112, 0) ∧ pack3 0 1 0 = (1, 0) ∧ pack3 1 0xFFFFFFFF 1 = (7, 0) ∧
      pack3 4 1 7 = (88, 0) ∧ tritOf 88 1 = -1 ∧ tritOf 88 4 = 1 ∧
      convert 0 5 .rne false 0xC0600000 = (BitVec.ofInt 32 (-4), 8) ∧ convert 0 5 .rtz false 0xC0600000 = (BitVec.ofInt 32 (-3), 8) ∧
      convert 0 5 .rne false 0x4F32D05E = (0x7FFFFFFF, 1) ∧
      Spec.rcp.apply .f32 .rne 0x40400000 = (0x3EAAAAAB, 8) ∧ Spec.rcp.apply .f32 .rtz 0x40400000 = (0x3EAAAAAA, 8) ∧
      Spec.exp2.apply .f32 .rne 0x40400000 = (0x41000000, 0) ∧
      quantiseBy .e4m3 (f32Val 0x44600000) (f32Val 0x40000000) = (0x7E, 0) ∧ quantiseBy .e4m3 (f32Val 0x43960000) (f32Val 0x40000000) = (0x71, 8))

namespace Sys2Proof.Claims

/-- The chunk that ACLAIM takes of REM unclaimed indices (R41). -/
def claimChunk (rem cmin div : Nat) : Nat :=
  min (if max cmin (if div = 0 then 0xFFFFFFFF else rem / div) = 0 ∧ 0 < rem then 1
    else max cmin (if div = 0 then 0xFFFFFFFF else rem / div)) rem

/-- Part k of request n comes next and may be performed at its home now, which does not refuse it; its task logs no races. -/
def atHome (s : State) (n : Nat) (q : Req) (k : Nat) (p : Piece) : Bool :=
  s.req? n == some q && q.nextPart == k && q.pieces[k]? == some p && s.mayPerform q k p && (s.refusal q p).isNone &&
  s.raceMode (s.res q.core q.slot).task != 1

/-- Part k of request n is done and has read x; or the request has ended, because it returns nothing. -/
def oldRead (t : State) (n k : Nat) (x : Nat) : Bool :=
  match t.req? n with
  | none => true
  | some q => (q.pieces[k]?).map (fun p => (p.done, p.old)) == some (true, BitVec.ofNat 64 x)

/-- A register of the context that issued a request, in the bank of its mode. -/
def regOf (t : State) (q : Req) (kernel : Bool) (d : Nat) : W64 :=
  if kernel then ((t.res q.core q.slot).ctx q.ctx).ks.get 0 d else ((t.res q.core q.slot).ctx q.ctx).s.get 0 d

/-- The lane's bits for an element's number of a FORMAT: s16 and s8 copy their sign, the others fill with zeros (R186). -/
def laneValue (fmt x : Nat) : W32 :=
  if fmt = 6 then (BitVec.ofNat 16 x).signExtend 32 else if fmt = 7 then (BitVec.ofNat 8 x).signExtend 32 else BitVec.ofNat 32 x

/-- The lane's bits for the old element of w bits that an atomic returns: MIN and MAX copy its sign (R211). -/
def laneOld (op w x : Nat) : W32 :=
  if op = 4 ∨ op = 5 then (BitVec.ofNat w x).signExtend 32 else BitVec.ofNat 32 (x % 2 ^ w)

/-- Every part of the request is done, and its lanes are distinct. -/
def readAll (q : Req) : Bool := q.finished && decide (q.pieces.map (fun p => p.lane)).Nodup

end Sys2Proof.Claims

/-- R41, R64, R101, R161, R162, R164, R186, R208, R210, R211: what atomics compute, and where results of several registers land. Each
AMO operation on w bits; an ACAS writes its new value where memory holds the value it expects, and leaves memory alone where not; an
ACLAIM takes its chunk of the counter. Each answers the old value. A pair of registers takes NEXT and the chunk; the lanes of a
vector register take their elements as R186 places them, and no other lane changes. -/
def Obligations.AtomicValues : Prop :=
  ∀ (w : Nat) (x y : BitVec w) (a b : W32) (s : State) (n k d fmt op : Nat) (q : Req) (p : Piece) (cmin div : BitVec 16) (m : Bool),
    (0 < w →
      amoNew 0 w x.toNat y.toNat = ((x + y).toNat, 0) ∧ amoNew 1 w x.toNat y.toNat = ((x &&& y).toNat, 0) ∧
      amoNew 2 w x.toNat y.toNat = ((x ||| y).toNat, 0) ∧ amoNew 3 w x.toNat y.toNat = ((x ^^^ y).toNat, 0) ∧
      amoNew 4 w x.toNat y.toNat = ((if x.sle y then x else y).toNat, 0) ∧
      amoNew 5 w x.toNat y.toNat = ((if x.sle y then y else x).toNat, 0) ∧
      amoNew 6 w x.toNat y.toNat = ((if x ≤ y then x else y).toNat, 0) ∧
      amoNew 7 w x.toNat y.toNat = ((if x ≤ y then y else x).toNat, 0) ∧ amoNew 8 w x.toNat y.toNat = (y.toNat, 0)) ∧
    (amoNew 9 32 a.toNat b.toNat = (((BitVec.ofNat 32 (Fmt.f32.finish .rne false (Ex.add .rne (f32Val a) (f32Val b))).1 : W32)).toNat,
      (Fmt.f32.finish .rne false (Ex.add .rne (f32Val a) (f32Val b))).2)) ∧
    (Claims.atHome s n q k p = true → q.kind = .acas → p.addr.Nodup → p.addr.length = 4 ∨ p.addr.length = 8 →
      s.readList p.addr = p.data.toNat % 2 ^ (8 * p.addr.length) →
      ∃ t, exec (.atomicAtHome n) s = .next t ∧ t.readList p.addr = p.data2.toNat % 2 ^ (8 * p.addr.length) ∧
        t.mem = Tab.putAll 0 s.mem (p.addr.zip (leBytes p.addr.length (p.data2.toNat % 2 ^ (8 * p.addr.length)))) ∧
        Claims.oldRead t n k (s.readList p.addr) = true) ∧
    (Claims.atHome s n q k p = true → q.kind = .acas → s.readList p.addr ≠ p.data.toNat % 2 ^ (8 * p.addr.length) →
      ∃ t, exec (.atomicAtHome n) s = .next t ∧ t.mem = s.mem ∧ Claims.oldRead t n k (s.readList p.addr) = true) ∧
    (Claims.atHome s n q k p = true → q.kind = .aclaim cmin div → p.addr.Nodup → p.addr.length = 8 →
      ∃ t, exec (.atomicAtHome n) s = .next t ∧
        t.readList p.addr = (s.readList p.addr / 2 ^ 32 - Claims.claimChunk (s.readList p.addr / 2 ^ 32) cmin.toNat div.toNat) * 2 ^ 32 +
          (s.readList p.addr % 2 ^ 32 + Claims.claimChunk (s.readList p.addr / 2 ^ 32) cmin.toNat div.toNat) % 2 ^ 32 ∧
        Claims.oldRead t n k (Claims.claimChunk (s.readList p.addr / 2 ^ 32) cmin.toNat div.toNat * 2 ^ 32 +
          s.readList p.addr % 2 ^ 32) = true) ∧
    (s.req? n = some q → q.kind = .aclaim cmin div → q.pieces = [p] → p.done = true → q.dest = .pair m d →
      ∃ t, exec (.scoreboardResultLand n) s = .next t ∧ t.mem = s.mem ∧ t.req? n = none ∧ Claims.noneWaits t q = true ∧
        (d ≠ 0 → Claims.regOf t q m d = (p.old.extractLsb' 0 32).setWidth 64) ∧
        Claims.regOf t q m (d + 1) = (p.old.extractLsb' 32 32).setWidth 64) ∧
    (s.req? n = some q → q.kind = .load → q.dest = .v d fmt → Claims.readAll q = true →
      ∃ t, exec (.scoreboardResultLand n) s = .next t ∧ t.mem = s.mem ∧ t.req? n = none ∧ Claims.noneWaits t q = true ∧
        (∀ e ∈ q.pieces, (t.res q.core q.slot).readV (e.lane / 16) d (e.lane % 16) = Claims.laneValue fmt e.old.toNat) ∧
        (∀ l ∈ List.range 128, (∀ e ∈ q.pieces, e.lane ≠ l) →
          (t.res q.core q.slot).readV (l / 16) d (l % 16) = (s.res q.core q.slot).readV (l / 16) d (l % 16))) ∧
    (s.req? n = some q → q.kind = .amo op → q.dest = .v d fmt → Claims.readAll q = true →
      ∃ t, exec (.scoreboardResultLand n) s = .next t ∧ t.mem = s.mem ∧ t.req? n = none ∧ Claims.noneWaits t q = true ∧
        (∀ e ∈ q.pieces, (t.res q.core q.slot).readV (e.lane / 16) d (e.lane % 16) = Claims.laneOld op (8 * e.addr.length) e.old.toNat) ∧
        (∀ l ∈ List.range 128, (∀ e ∈ q.pieces, e.lane ≠ l) →
          (t.res q.core q.slot).readV (l / 16) d (l % 16) = (s.res q.core q.slot).readV (l / 16) d (l % 16)))

namespace Sys2Proof.Claims

/-- The total order of pairs (R245): the greater value, at equal values the smaller index. -/
def ranksHigher (p q : W32 × W32) : Bool :=
  (f32Val q.1).lt (f32Val p.1) || (!(f32Val p.1).lt (f32Val q.1) && decide (p.2 < q.2))

/-- A row as the rules keep it: in descending rank, with no NaN and no -0 (R245, R246). -/
def normalRow (r : List (W32 × W32)) : Bool :=
  decide (r.Pairwise (fun p q => ranksHigher p q = true)) && r.all (fun p => !(f32Val p.1).isNaN && p.1 != 0x80000000)
/-- Row i of a tile is such a row of at most k pairs. -/
def normalAt (t : Tile) (i : Nat) : Bool :=
  normalRow (t.rows.get [] i) && decide ((t.rows.get [] i).length ≤ t.k)

/-- A row after an offer (R246): the pair that it holds already collapses; another is inserted at its place, and of more than k pairs
the lowest is dropped. -/
def placed (k : Nat) (r : List (W32 × W32)) (p : W32 × W32) : List (W32 × W32) :=
  let p := (if p.1 = 0x80000000 then 0 else p.1, p.2)
  if p ∈ r then r else (r.filter (fun q => ranksHigher q p) ++ p :: r.filter (fun q => ranksHigher p q)).take k

/-- One promotion of a sum x into an entry (R98): three roundings, and SCALE_NAN for a scale that is a NaN. -/
def promotedOnce (acc : W32) (x : Ex) (rs cs : W32) : W32 × Flags8 :=
  let sc := roundsOnce (Ex.mul (f32Val rs) (f32Val cs))
  let p := roundsOnce (Ex.mul x (f32Val sc.1))
  let y := roundsOnce (Ex.add .rne (f32Val acc) (f32Val p.1))
  (y.1, sc.2 ||| p.2 ||| y.2 ||| (if (f32Val rs).isNaN || (f32Val cs).isNaN then 32 else 0))

/-- The promotion of the sub-chunks of entry (i, j), in ascending order, into a value (R241). -/
def promotedAll (e : Engine) (x : XSums) (a : W32) (i j : Nat) : W32 × Flags8 :=
  (List.range x.subs).foldl (fun y q =>
    let z := promotedOnce y.1 (x.vals.get Ex.zero ((i * 64 + j) * 4 + q)) (e.rs.get 0x3F800000 (i * 4 + q))
      (e.cs.get 0x3F800000 (q * 64 + j))
    (z.1, y.2 ||| z.2)) (a, 0)

end Sys2Proof.Claims

/-- R82, R98, R240 to R242, R245 to R248: the values of the matrix engine's tiles. An offer counts a NaN, collapses a duplicate and else
inserts the pair at its rank, keeping the k highest whatever the order of offers; a merge offers the source's pairs one by one; a
threshold is the lowest slot's value. A chunk's sum is the exact sum of its products, or what R91 says of NaNs and infinities. A
promotion rounds three times, or adds modulo 2^32. TDRAIN's element is the entry rounded, clamped or copied; a RANKED row gives two
columns a slot. -/
def Obligations.TileValues : Prop :=
  ∀ (t : Tile) (i j n : Nat) (p q : W32 × W32) (r : List (W32 × W32)) (src : List (Nat × List (W32 × W32))) (ps : List (Ex × Ex)) (neg zero : Bool) (b : Ex)
    (e : Engine) (x : XSums) (w : W32) (f g : Nat) (y : Int),
    ((f32Val p.1).isNaN = true →
      t.offer i p = { t with reject := if t.reject = 0xFFFFFFFF then t.reject else t.reject + 1 }) ∧
    ((f32Val p.1).isNaN = false → Claims.normalRow (t.rows.get [] i) = true →
      (t.offer i p).rows.get [] j = (if j = i then Claims.placed t.k (t.rows.get [] i) p else t.rows.get [] j) ∧
      (t.offer i p).sum = t.sum ∧ (t.offer i p).k = t.k ∧ (t.offer i p).ranked = t.ranked ∧ (t.offer i p).reject = t.reject) ∧
    (Claims.normalAt t i = true → Claims.normalAt (t.offer i p) i = true) ∧
    (Claims.normalAt t i = true → Claims.normalAt t j = true →
      ((t.offer i p).offer j q).rows.get [] n = ((t.offer j q).offer i p).rows.get [] n ∧
      ((t.offer i p).offer j q).reject = ((t.offer j q).offer i p).reject) ∧
    (t.mergeRows [] = t ∧ t.mergeRows ((i, []) :: src) = t.mergeRows src ∧
      t.mergeRows ((i, p :: r) :: src) = (t.offer i p).mergeRows ((i, r) :: src)) ∧
    (t.rowThreshold i = (if t.ranked = true ∧ 0 < t.k ∧ (t.rows.get [] i).length = t.k
      then ((t.rows.get [] i).getD (t.k - 1) (0, 0)).1 else 0xFF800000)) ∧
    ((List.range 64).all (fun r => Claims.normalAt t r) = true →
      (∀ m ∈ List.range 64, (f32Val (t.rowThreshold m)).lt (f32Val t.threshold) = false) ∧
      (∃ m ∈ List.range 64, t.threshold = t.rowThreshold m)) ∧
    ((∀ p ∈ ps, Claims.finite p.1 = true ∧ Claims.finite p.2 = true) →
      Claims.valueOf (dotEx ps).1 = (ps.map (fun p => Claims.valueOf p.1 * Claims.valueOf p.2)).sum ∧
      Claims.finite (dotEx ps).1 = true ∧ (dotEx ps).2 = 0) ∧
    ((∃ p ∈ ps, p.1.isNaN = true ∨ p.2.isNaN = true) → (dotEx ps).1 = .nan) ∧
    ((∃ p ∈ ps, (p.1.isInf = true ∧ p.2.isZero = true) ∨ (p.1.isZero = true ∧ p.2.isInf = true)) → dotEx ps = (.nan, 1)) ∧
    ((∃ p ∈ ps, (Ex.mul p.1 p.2).1 = .inf true) → (∃ p ∈ ps, (Ex.mul p.1 p.2).1 = .inf false) → dotEx ps = (.nan, 1)) ∧
    ((∃ p ∈ ps, (Ex.mul p.1 p.2).1 = .inf neg) → (∀ p ∈ ps, (Ex.mul p.1 p.2).1 ≠ .inf !neg ∧ (Ex.mul p.1 p.2).1 ≠ .nan) →
      dotEx ps = (.inf neg, 0)) ∧
    (Claims.finite b = true → Claims.valueOf b ≠ 0 →
      Ex.mul (.inf neg) b = (.inf (neg != decide (Claims.valueOf b < 0)), 0) ∧
      Ex.mul b (.inf neg) = (.inf (neg != decide (Claims.valueOf b < 0)), 0)) ∧
    ((operandKind f g = some true ↔ (f ∈ [3, 4] ∧ g ∈ [3, 4]) ∨ (f ∈ [1, 2] ∧ g ∈ [1, 2])) ∧
      (operandKind f g = some false ↔ f ∈ [7, 10] ∧ g ∈ [7, 10, 11])) ∧
    ((f ∈ [1, 2, 3, 4] → bufValue f n = (fmtOf f).value n) ∧
      (f ∈ [7, 11] → bufValue f n = Ex.ofInt (BitVec.ofNat 8 n).toInt) ∧ bufValue 10 n = Ex.ofInt (BitVec.ofNat 8 n).toNat) ∧
    (x.fp = true → promoteEntry e x zero t i j = Claims.promotedAll e x (if zero then 0 else t.sum.get 0 (64 * i + j)) i j) ∧
    (x.fp = false → Claims.finite (x.vals.get Ex.zero ((64 * i + j) * 4)) = true →
      Claims.valueOf (x.vals.get Ex.zero ((64 * i + j) * 4)) = y →
      promoteEntry e x zero t i j =
        (BitVec.ofInt 32 ((if zero then (0 : W32) else t.sum.get 0 (64 * i + j)).toInt + y),
          if -(2 ^ 31) ≤ (if zero then (0 : W32) else t.sum.get 0 (64 * i + j)).toInt + y ∧
            (if zero then (0 : W32) else t.sum.get 0 (64 * i + j)).toInt + y < 2 ^ 31 then 0 else 128)) ∧
    ((f ∈ [0, 1, 2, 3, 4] → drainBits true f w = (fmtOf f).round .rne (decide (f = 3 ∨ f = 4)) (Ex.ofInt w.toInt)) ∧
      (f ∈ [5, 8] → drainBits true f w = (w.toNat, 0)) ∧
      (f ∈ [6, 7, 9, 10] → drainBits true f w =
        ((BitVec.ofInt (elemBits f) (max (Claims.lowest (elemBits f) (elemSigned f)) (min (Claims.highest (elemBits f) (elemSigned f)) w.toInt))).toNat,
          if w.toInt < Claims.lowest (elemBits f) (elemSigned f) ∨ Claims.highest (elemBits f) (elemSigned f) < w.toInt then 16 else 0)) ∧
      drainBits false 0 w = (w.toNat, 0) ∧
      (f ∈ [1, 2, 3, 4] → drainBits false f w = (fmtOf f).round .rne (decide (f = 3 ∨ f = 4)) (f32Val w))) ∧
    (t.ranked = false → i < 64 → j < 64 → (drainPlan t zero f n g).length = 4096 ∧
      (drainPlan t zero f n g).getD (64 * i + j) default =
        (64 * n + i, 64 * g + j, (drainBits zero f (t.sum.get 0 (64 * i + j))).1, (drainBits zero f (t.sum.get 0 (64 * i + j))).2)) ∧
    (t.ranked = true → i < 64 → j < t.k → (drainPlan t zero f n g).length = 128 * t.k ∧
      (drainPlan t zero f n g).getD (2 * (t.k * i + j)) default =
        (64 * n + i, 2 * t.k * g + 2 * j, ((t.rows.get [] i).getD j (0xFF800000, 0xFFFFFFFF)).1.toNat, 0) ∧
      (drainPlan t zero f n g).getD (2 * (t.k * i + j) + 1) default =
        (64 * n + i, 2 * t.k * g + 2 * j + 1, ((t.rows.get [] i).getD j (0xFF800000, 0xFFFFFFFF)).2.toNat, 0))

namespace Sys2Proof.Claims

/-- FILE, REG and GROUP of a pending write, and its value's doublewords; none for a register of a file that has no code (R453). -/
def shadowCode : Wr → Option (BitVec 4 × Nat × Nat × List W64)
  | .s k n x => some (if k then 6 else 0, n, 0, [x])
  | .p k n x => some (if k then 7 else 1, n, 0, [if x then 1 else 0])
  | .v g n lanes =>
    let lane := fun i => (lanes.lookup i).getD 0
    some (2, n, g, (List.range 8).map (fun k => lane (2 * k + 1) ++ lane (2 * k)))
  | .vm g n _ x => some (3, n, g, (List.range 8).map (fun k =>
      (if x.getLsbD (2 * k + 1) then (1 : W32) else 0) ++ (if x.getLsbD (2 * k) then (1 : W32) else 0)))
  | .sb g n x => some (4, n, g, [x.setWidth 64])
  | .mp n x => some (5, n, 0, [x])
  | _ => none
/-- The entries of the shadow buffer that have a code, the primary's first, then h1's and h2's. -/
def shadowEntries (r : Res) : List (BitVec 2 × Shadow) :=
  (r.primary.shadow.map (fun e => (0#2, e)) ++ r.h1.shadow.map (fun e => (1#2, e)) ++ r.h2.shadow.map (fun e => (2#2, e))).filter
    (fun e => (shadowCode e.2.w).isSome)
/-- Doubleword w of an entry: its descriptor, then its value (R453). -/
def shadowWord (e : BitVec 2 × Shadow) (w : Nat) : W64 :=
  match shadowCode e.2.w with
  | some (file, n, g, x) =>
    if w = 0 then 1#1 ++ e.1 ++ BitVec.ofNat 3 g ++ 0#6 ++ file ++ BitVec.ofNat 8 n ++ 0#8 ++ BitVec.ofNat 32 e.2.count
    else if w = 9 then 0 else x.getD (w - 1) 0
  | none => 0

/-- A register with a scoreboarded result pending (R64). -/
def pends (r : Res) (f : SReg → Bool) : Bool := r.pend.any (fun e => f e.1)
/-- A context by its number in the views. -/
def nth (c : Nat) : CtxId := if c = 0 then .primary else if c = 1 then .h1 else .h2

/-- A transfer slot's doubleword w (R453). -/
def slotWord (x : Xfer) (w : Nat) : W64 :=
  [1#1 ++ 0#31 ++ (encode x.ins).getD 0 0, ((encode x.ins).getD 1 0).setWidth 64, ((encode x.ins).getD 2 0).setWidth 64,
    x.target.setWidth 64, BitVec.ofNat 64 (max x.landed (x.parts.length * x.destSize)), x.xa, x.xb, x.pc.setWidth 64].getD w 0

end Sys2Proof.Claims

/-- R34, R38, R329 to R334: what reaches a context between its groups: the posts and arrivals held during its save, in order, the
trap of an access that its home refused (R387, R456), else of its oldest asynchronous record, and COOLANT_LOST.

R339, R340, R453: the debugger halts a core at a boundary, lets it go on or issue one group, sets EBRK, and
reads a view; none is taken before READY (R459).

R293, R341, R356, R453: the doubleword that each debug view shows of a halted core's active context. View 0, the flags, register images and
vector state as a save would write them (the places are those of log 16); 1, a pending write's descriptor and value; 2, the registers
scoreboarded; 3, tiles, their heads, the routine and the commands; 4, transfers and fault records; 5, flags and arrivals; 6, a queue
of the core's partition; 7, a barrier's entry and counts; 8, a sector. An INDEX beyond its view, and a VIEW that is none, read 0. -/
def Obligations.ContextAndDebugEvents : Prop :=
  (∀ (s : State) (c : CoreId) (r : Slot) (f : AFault) (rest : List AFault) (zone : BitVec 9) (d : Denied)
     (more : List Denied),
     ((s.res c r).place ≠ .saving →
       exec (.heldPostApply c r) s = .next ((s.res c r).heldArrivals.foldl (fun t w => (t.queueArrival c (some r) w).1)
         ((s.res c r).heldPosts.foldl (fun t p => t.postAt c r p.1 p.2.1.toNat p.2.2)
           (s.modRes c r (fun y => { y with heldPosts := [], heldArrivals := [] }))))) ∧
     ((s.core c).act = r → (s.res c r).denied = d :: more → Claims.deliverable s c d.ctx = true →
       exec (.asyncFaultDelivery c r) s = .next ((s.modRes c r (fun y => { y with denied := more })).takeTrapAt c r d.ctx
         { cause := d.cause, sub := d.sub, tval := d.tval } true ((s.res c r).ctx d.ctx).pc ((s.res c r).ctx d.ctx).pc 0)) ∧
     ((s.core c).act = r → (s.res c r).denied = [] → (s.res c r).faults = f :: rest → Claims.deliverable s c ((s.res c r).receiver f) = true →
       exec (.asyncFaultDelivery c r) s = .next ((s.modRes c r Res.takeRecord).takeTrapAt c r ((s.res c r).receiver f)
         { cause := f.cause.1, sub := f.cause.2, code := f.code.setWidth 16 } true
         ((s.res c r).ctx ((s.res c r).receiver f)).pc ((s.res c r).ctx ((s.res c r).receiver f)).pc 0)) ∧
     ((Claims.active s c).machine = some (cCoolant, zone) → (Claims.active s c).occ = true →
       (Claims.active s c).place = .here → (Claims.active s c).primary.run = .live → Claims.working s c = true →
       exec (.machineTrap c zone) s = .next
         ((s.modRes c (s.core c).act (fun y => { y with machine := none })).takeTrapAt c (s.core c).act .primary
           { cause := cCoolant, sub := zone.setWidth 8, tval := zone.setWidth 64 } true
           (Claims.active s c).primary.pc (Claims.active s c).primary.pc 0))) ∧
  (∀ (s : State) (c : CoreId) (on : Bool),
     (s.boot.phase = 5 → exec (.dbgHalt c on) s = .next (s.modCore c (fun k => { k with dbgHalt := on }))) ∧
     (s.boot.phase = 5 → exec (.dbgEbrk c on) s = .next (s.modCore c (fun k => { k with dbgEbrk := on }))) ∧
     (s.boot.phase ≠ 5 → exec (.dbgHalt c on) s = .next s.rejected ∧ exec (.dbgEbrk c on) s = .next s.rejected ∧
       exec (.dbgResume c) s = .next s.rejected ∧ exec (.dbgStep c) s = .next s.rejected ∧
       exec (.dbgVdataRead c) s = .next s.rejected) ∧
     ((s.core c).dbgHalt = true → (s.core c).halted = false → (Claims.active s c).place ≠ .saving →
       (Claims.active s c).machine = none ∨ (Claims.active s c).primary.run ≠ .live →
       exec (.debugHaltLanding c) s = .next ((s.modRes c (s.core c).act (fun r => r.captureAll (s.core c).stuck (s.core c).cycle)).modCore c
         (fun k => { k with halted := true, dbgStep := false, dbgEbh := false, haltedAt := s.steps }))) ∧
     (s.boot.phase = 5 → (s.core c).halted = true →
       exec (.dbgResume c) s = .next ((s.modRes c (s.core c).act (fun r => { r with eng := { r.eng with stopped := false } })).modCore c
         (fun k => { k with halted := false, dbgStep := false, dbgEbh := false }))) ∧
     (s.boot.phase = 5 → (s.core c).halted = true →
       exec (.dbgStep c) s = .next (s.modCore c (fun k => { k with dbgStep := true }))) ∧
     (s.boot.phase = 5 → (s.core c).halted = true →
       exec (.dbgVdataRead c) s = .next (Claims.viewed s c
         (s.viewWord c ((s.core c).dbgVsel.extractLsb' 40 8).toNat ((s.core c).dbgVsel.setWidth 40 : BitVec 40).toNat)))) ∧
  (∀ (s : State) (c : CoreId) (n k i j t w : Nat) (p : W32 × W32) (g : GroupId),
     let r := Claims.active s c
     let v := s.viewWord c
     (n < 8 → k < 4 → (v 0 n).extractLsb' (16 * k) 16 = r.flags.get 0 (4 * n + k) ∧ v 5 n = v 0 n) ∧
     (v 0 8 = r.primary.pc.setWidth 64 ∧ (n < 32 → v 0 (9 + n) = r.primary.s.get 0 n) ∧
       (n < 8 → v 0 (42 + n) = (r.primary.readB n).setWidth 64) ∧
       (n < 16 → v 0 (51 + n) = r.h1.s.get 0 n ∧ v 0 (77 + n) = r.h2.s.get 0 n ∧ v 0 (102 + n) = r.primary.ks.get 0 n ∧
         v 0 (124 + n) = r.h1.ks.get 0 n ∧ v 0 (146 + n) = r.h2.ks.get 0 n) ∧
       v 0 120 = r.primary.tcause.setWidth 64 ∧ v 0 121 = r.primary.tepc.setWidth 64 ∧ v 0 122 = r.primary.tval ∧
       (n < 2048 → v 0 (1016 + n) = r.v.get 0 (2 * n + 1) ++ r.v.get 0 (2 * n))) ∧
     (i < 64 → w < 10 → v 1 (10 * i + w) = (((Claims.shadowEntries r)[i]?).map (fun e => Claims.shadowWord e w)).getD 0) ∧
     (k < 3 →
       (n < 32 → (v 2 (8 * k)).getLsbD n = Claims.pends r (fun e => match e with | .s x _ m => x == Claims.nth k && m == n | _ => false)) ∧
       (n < 8 → (v 2 (8 * k)).getLsbD (32 + n) =
           Claims.pends r (fun e => match e with | .p x _ m => x == Claims.nth k && m == n | _ => false) ∧
         (v 2 (8 * k)).getLsbD (40 + n) = (v 2 (8 * k)).getLsbD (32 + n)) ∧
       v 2 (8 * k + 5) = 0 ∧ v 2 (8 * k + 6) = 0 ∧ v 2 (8 * k + 7) = 0) ∧
     (n < 8 → k < 32 → (v 2 (1 + (32 * n + k) / 64)).getLsbD ((32 * n + k) % 64) =
       Claims.pends r (fun e => match e with | .v a b => 32 * a + b == 32 * n + k | _ => false)) ∧
     (t < 8 → i < 64 → j < 32 →
       ((r.eng.tile t).ranked = false → v 3 (2048 * t + 32 * i + j) =
         (r.eng.tile t).sum.get 0 (64 * i + 2 * j + 1) ++ (r.eng.tile t).sum.get 0 (64 * i + 2 * j)) ∧
       ((r.eng.tile t).ranked = true →
         (((r.eng.tile t).rows.get [] i)[j]? = some p → v 3 (2048 * t + 32 * i + j) = p.2 ++ p.1) ∧
         (((r.eng.tile t).rows.get [] i)[j]? = none → v 3 (2048 * t + 32 * i + j) = 0)) ∧
       v 3 (16384 + 16 * t) = (if (r.eng.tile t).ranked then 1#2 else 0#2) ++ BitVec.ofNat 6 (r.eng.tile t).k ++ 0#24 ++ (r.eng.tile t).reject ∧
       (v 3 (16385 + 16 * t + i / 8)).extractLsb' (8 * (i % 8)) 8 = BitVec.ofNat 8 ((r.eng.tile t).rows.get [] i).length ∧
       v 3 (16393 + 16 * t) = (r.eng.tile t).threshold.setWidth 64) ∧
     ((v 3 16512).extractLsb' 62 2 = (if r.eng.stopped then 2#2 else if r.eng.call.isSome then 1#2 else 0#2) ∧
       (v 3 16512).extractLsb' 12 10 = (r.eng.call.map (fun k => k.idx)).getD 0 ∧ (v 3 16512).extractLsb' 0 12 = r.eng.pos ∧
       (n < 8 → v 3 (16513 + n) = r.eng.m.get 0 (2 * n + 1) ++ r.eng.m.get 0 (2 * n)) ∧
       (n < 4 → v 3 (16521 + n) = ((r.eng.loops[n]?).map (fun e => e.2.2 ++ 0#8 ++ e.2.1 ++ e.1)).getD 0)) ∧
     (i < 4 → r.eng.queue.length ≤ i → k < 9 → v 3 (16525 + 9 * i + k) = 0) ∧
     (∀ e ∈ (r.eng.queue[i]?).toList, i < 4 →
       (v 3 (16525 + 9 * i) = (match e with | .call _ _ _ _ q _ => q | .mode _ _ _ q => q | .clr _ q => q | .merge _ _ _ q => q).words) ∧
       (k < 8 → v 3 (16526 + 9 * i + k) = (match e with | .call _ _ _ m _ _ => m.get 0 k | _ => 0))) ∧
     (i < 16 → w < 8 → v 4 (8 * i + w) = ((r.xfers.get none i).map (fun x => Claims.slotWord x w)).getD 0) ∧
     (i < 17 → w < 4 → v 4 (128 + 4 * i + w) = ((r.faults[i]?).map (fun f => f.bits.extractLsb' (64 * w) 64)).getD 0) ∧
     (i < 16 → v 5 (8 + 4 * i) = ((r.arrivals[i]?).map (fun a => 1#1 ++ 0#15 ++ a.handler)).getD 0 ∧
       v 5 (9 + 4 * i) = ((r.arrivals[i]?).map (fun a => a.addr)).getD 0 ∧
       v 5 (10 + 4 * i) = ((r.arrivals[i]?).map (fun a => a.len)).getD 0 ∧
       v 5 (11 + 4 * i) = ((r.arrivals[i]?).map (fun a => a.src.setWidth 64)).getD 0) ∧
     (i < 1024 → w < 4 →
       ((s.queue (BitVec.ofNat 10 i)).state ≠ 0 → s.dieOwner (dieOf c) = some (s.queue (BitVec.ofNat 10 i)).part →
         v 6 (4 * i + w) = (s.queue (BitVec.ofNat 10 i)).descriptor.extractLsb' (64 * w) 64) ∧
       (s.dieOwner (dieOf c) ≠ some (s.queue (BitVec.ofNat 10 i)).part → v 6 (4 * i + w) = 0)) ∧
     (i < 4 → groupSlot r.groupSet i = some g →
       (w < 8 → v 7 (16 * i + w) = (s.arm g).bits.extractLsb' (64 * w) 64) ∧
       (w < 4 → k < 4 → (v 7 (16 * i + 8 + w)).extractLsb' (16 * k) 16 = BitVec.ofNat 16 ((s.arm g).count.get 0 (4 * w + k))) ∧
       (w < 4 → v 7 (16 * i + 12 + w) = 0)) ∧
     (i < 4 → groupSlot r.groupSet i = none → w < 16 → v 7 (16 * i + w) = 0) ∧
     (n < 2 ^ 40 → v 8 n = (s.patina.get patinaReset n).setWidth 64) ∧
     (v 0 (4088 + n) = 0 ∧ v 1 (640 + n) = 0 ∧ v 2 (24 + n) = 0 ∧ v 3 (16561 + n) = 0 ∧ v 4 (196 + n) = 0 ∧ v 5 (72 + n) = 0 ∧
       v 6 (4096 + n) = 0 ∧ v 7 (64 + n) = 0 ∧ v (9 + k) n = 0))

namespace Sys2Proof.Claims

/-- A device that is up, and a requester that reaches the blocks of a die (R452, R459). -/
def reaches (s : State) (p : Option PartId) (d : DieId) : Bool := s.boot.phase == 5 && s.reachesDie p d
/-- A number held between two ends. -/
def between (lo hi : Nat) (x : BitVec 10) : BitVec 10 := if x.toNat < lo then BitVec.ofNat 10 lo else if hi < x.toNat then BitVec.ofNat 10 hi else x
/-- A register of the dispatcher block of the partition whose lowest-numbered die this is (R452). -/
def inDispatcher (s : State) (d : DieId) (f : Part → Part) : State :=
  match s.dispatcherOf d with
  | some q => s.modPart q f
  | none => s

end Sys2Proof.Claims

/-- R450 to R454, R459: the host. A doubleword of memory is read as it is, or written with no other byte changed; the management
space answers; one whose line is held waits, and those after it behind it; an access out of reach completes with an error; a write of a
partition's entry is refused where R451 says so, or taken and measured, the kernel banks of the dies that leave cleared; SOFTERR is
cleared; a failed link holds its partitions' doorbells, which ring once another link is given. The model's choices are in log 42 (an
error for another die's block, HBM_OWN never refused, accesses of one doubleword), log 80 (a held partition's HLINK) and log 84 (an
access that waits).

R296, R325, R331, R366, R384, R391, R423, R438, R440, R443, R447, R452, R453: the registers that hold what is written to them. PCTL
clamps its limits, and the rails follow; CAT and ZLIM take a zone's limits, MAXFLOW 0 as 1; COOL_BUDGET is CD0's; the dispatcher block is on
the partition's lowest-numbered die; FAB_DEPTH is taken only while every port is DOWN. An unlisted offset, and one within a doubleword,
changes nothing. The rails' following at once, and a FAB_DEPTH out of range, are the model's choices (log 42). -/
def Obligations.HostAndManagement : Prop :=
  (∀ (s : State) (x : HostAccess) (p : Option PartId) (d : DieId) (o : BitVec 12) (off : BitVec 20) (w : W64) (l : BitVec 2) (q : PartId)
     (m : BitVec 16) (c : CoreId),
     (Claims.toMemory s x = true → x.write = false → Claims.atOnce s x = true →
       exec (.hostMainbandAccess x) s = .next (Claims.told s (BitVec.ofNat 64 (s.readList (Claims.hostPiece x).addr)))) ∧
     (Claims.toMemory s x = true → x.write = true → Claims.atOnce s x = true →
       exec (.hostMainbandAccess x) s = .next (Claims.told (Claims.signalled s (Claims.hostPiece x) x.data.toNat) 0)) ∧
     (Claims.toMemory s x = true → Claims.atOnce s x = false →
       exec (.hostMainbandAccess x) s = .next { s with hostQueue := s.hostQueue ++ [x] }) ∧
     (Claims.toSpace s x = true → x.write = false → isVdata (x.addr.setWidth 20).toNat = false →
       exec (.hostMainbandAccess x) s =
         .next (Claims.told s (s.mgmtRead (x.addr.extractLsb' 20 4) (x.addr.setWidth 20).toNat))) ∧
     (s.ready = true → s.linkCarries x = false → exec (.hostMainbandAccess x) s = .next (Claims.failed s)) ∧
     (s.ready = false → bootAccess x = false → exec (.hostMainbandAccess x) s = .next s.rejected) ∧
     (exec (.hostLinkFailure l) s = .next { s.modDie (linkDie l) (fun k => { k with linkFenced := true }) with
       parts := s.parts.map (fun e =>
         (e.1, if e.2.cfg.getLsbD 63 && e.2.cfg.extractLsb' 61 2 == l then { e.2 with held := true } else e.2)) }) ∧
     (s.boot.phase = 5 → exec (.softerrWrite d) s = .next (s.modDie d (fun k => { k with softerr := 0 }))) ∧
     (Claims.configures s = true → o.toNat % 8 = 0 → 0x100 ≤ o.toNat → o.toNat < 0x400 →
       exec (.partitionTableWrite o w) s = .next ((Claims.owned s o w).measureWrite o.toNat w)) ∧
     (Claims.configures s = true → o.toNat % 8 = 0 → o.toNat < 0x80 → s.cfgRefused (o.toNat / 8) (Claims.entryOf w) = true →
       exec (.partitionTableWrite o w) s = .next s) ∧
     (Claims.configures s = true → o.toNat % 8 = 0 → o.toNat < 0x80 → s.cfgRefused (o.toNat / 8) (Claims.entryOf w) = false →
       exec (.partitionTableWrite o w) s = .next ((((s.clearBanks (Claims.leaving (s.parts.get {} (o.toNat / 8)).cfg
           (Claims.entryOf w))).modPart (BitVec.ofNat 4 (o.toNat / 8)) (fun k =>
         { k with cfg := Claims.entryOf w
                  held := k.held && (Claims.entryOf w).extractLsb' 61 2 == k.cfg.extractLsb' 61 2 })).measureWrite o.toNat
           (Claims.entryOf w)).ringHeld (BitVec.ofNat 4 (o.toNat / 8)))) ∧
     (s.cfgRefused q.toNat w = (decide (256 < (w.extractLsb' 44 8).toNat + (w.extractLsb' 52 9).toNat) ||
       (List.range 16).any (fun m => m != q.toNat && Claims.clashes w (s.parts.get {} m).cfg) ||
       (w != (s.part q).cfg && s.diesBusy ((s.part q).cfg.setWidth 16) && !((s.part q).held && Claims.linkOnly w (s.part q).cfg)))) ∧
     (s.diesBusy m = true ↔ (∃ e ∈ s.cores, m.getLsbD (e.1 / 256) = true ∧ ∃ r ∈ e.2.all, r.2.occ = true) ∨
       (∃ e ∈ s.queues, e.2.state = 1 ∧ m.getLsbD e.2.homedie.toNat = true)) ∧
     (((s.clearBanks m).res c .a).primary.ks = (if m.getLsbD (c.toNat / 256) then [] else (s.res c .a).primary.ks) ∧
       ((s.clearBanks m).res c .b).h1.kp = (if m.getLsbD (c.toNat / 256) then [] else (s.res c .b).h1.kp) ∧
       ((s.clearBanks m).res c .a).primary.s = (s.res c .a).primary.s ∧ (s.clearBanks m).mem = s.mem) ∧
     (s.boot.phase = 5 → s.reachesDie p d = true → off = 0x6028 →
       exec (.mgmtRegisterWrite p d off w) s = .next (s.modDie d (fun k => { k with shootMask := w }))) ∧
     (s.boot.phase = 5 → s.reachesDie p d = true → off.toNat % 8 ≠ 0 →
       exec (.mgmtRegisterWrite p d off w) s = .next s) ∧
     (s.boot.phase = 5 → s.reachesDie p d = false →
       exec (.mgmtRegisterWrite p d off w) s = .next { s with hostError := true }) ∧
     ((s.part q).held = false → s.ready = true →
       s.ringHeld q = (s.part q).bells.foldl (fun u b => u.doorbell q b) (s.modPart q (fun k => { k with bells := [] }))) ∧
     ((s.part q).held = true → s.ringHeld q = s) ∧
     (s.boot.phase ≠ 5 → exec (.softerrWrite d) s = .next s.rejected ∧
       exec (.mgmtRegisterWrite (some q) d off w) s = .next s.rejected) ∧
     (Claims.configures s = false →
       exec (.mgmtRegisterWrite p d off w) s = .next s.rejected ∧ exec (.partitionTableWrite o w) s = .next s.rejected)) ∧
  (∀ (s : State) (p : Option PartId) (d : DieId) (w : W64) (z : BitVec 4) (i : BitVec 2) (n : BitVec 8) (c : CoreId) (off : BitVec 20),
     Claims.reaches s p d = true →
     (∃ t, exec (.mgmtRegisterWrite p d 0x3000 w) s = .next t ∧
       t.die d = { s.die d with vmax := Claims.between 780 950 (w.extractLsb' 32 10)
                                vfloor := Claims.between 620 780 (w.extractLsb' 16 10) } ∧
       (dieOf c = d → (s.core c).nextChange = none → s.cores.any (fun e => e.1 == c.toNat) = true →
         (t.core c).railSet = setpoint (Claims.between 620 780 (w.extractLsb' 16 10)).toNat (s.core c).divs) ∧
       (dieOf c ≠ d → t.core c = s.core c) ∧ t.mem = s.mem) ∧
     (exec (.mgmtRegisterWrite p d 0x3008 w) s = .next (s.modDie d (fun k =>
       { k with sramMax := w.extractLsb' 44 10, sramFloor := w.extractLsb' 34 10, sramSetpt := w.extractLsb' 16 18 }))) ∧
     (exec (.mgmtRegisterWrite p d (0x7000 + 8 * z.setWidth 20) w) s = .next (s.modDie d (fun k =>
       { k with zones := k.zones.mod {} z.toNat (fun e =>
         { e with maxflow := if w.extractLsb' 28 11 = 0 then 1 else w.extractLsb' 28 11 }) }))) ∧
     (exec (.mgmtRegisterWrite p d 0x7080 w) s = .next
       (if d = 0 then { s with hostMaxflow := if w.extractLsb' 28 11 = 0 then 1 else w.extractLsb' 28 11 } else s)) ∧
     (exec (.mgmtRegisterWrite p d (0x7180 + 8 * z.setWidth 20) w) s = .next (s.modDie d (fun k =>
       { k with zones := k.zones.mod {} z.toNat (fun e =>
         { e with pmax := w.extractLsb' 52 12, fmin := w.extractLsb' 41 11, tmax := w.extractLsb' 28 13 }) }))) ∧
     (exec (.mgmtRegisterWrite p d 0x7200 w) s = .next (if d = 0 then { s with budget := w.extractLsb' 16 16 } else s)) ∧
     (exec (.mgmtRegisterWrite p d (0x2010 + 8 * i.setWidth 20) w) s = .next (Claims.inDispatcher s d (fun k => { k with args := k.args.put 0 i.toNat w }))) ∧
     (exec (.mgmtRegisterWrite p d 0x2038 w) s = .next (Claims.inDispatcher s d (fun k =>
       { k with raceCfg := w.extractLsb' 16 48 ++ 0#4 ++ w.extractLsb' 8 4 ++ 0#6 ++ (if w.extractLsb' 0 2 = 3#2 then 0#2 else w.extractLsb' 0 2) }))) ∧
     (exec (.mgmtRegisterWrite p d 0x2040 w) s = .next (Claims.inDispatcher s d (fun k => { k with dlog := w.extractLsb' 12 52 ++ 0#8 ++ w.extractLsb' 0 4 }))) ∧
     (exec (.mgmtRegisterWrite p d 0x2048 w) s = .next (Claims.inDispatcher s d (fun k => { k with elog := w.extractLsb' 12 52 ++ 0#8 ++ w.extractLsb' 0 4 }))) ∧
     (exec (.mgmtRegisterWrite p d 0x2050 w) s = .next (Claims.inDispatcher s d (fun k => { k with tvec := 0#16 ++ w.extractLsb' 12 36 ++ 0#12 }))) ∧
     (exec (.mgmtRegisterWrite p d 0x6018 w) s = .next
       (if s.fab.ports.all (fun e => e.2.state == 0) = true ∧ 64 ≤ (w.extractLsb' 0 11).toNat ∧ (w.extractLsb' 0 11).toNat ≤ 1024 then
         { s with fab := { s.fab with ofus := s.fab.ofus.mod {} d.toNat (fun o => { o with depth := w.extractLsb' 0 11 }) } } else s)) ∧
     (exec (.mgmtRegisterWrite p d 0x6028 w) s = .next (s.modDie d (fun k => { k with shootMask := w }))) ∧
     (exec (.mgmtRegisterWrite p d 0x6030 w) s = .next (s.modDie d (fun k =>
       { k with fabLog := w.extractLsb' 12 52 ++ 0#8 ++ w.extractLsb' 0 4 }))) ∧
     ((s.die d).stk.stage.toNat ≤ (w.extractLsb' 0 32).toNat → exec (.mgmtRegisterWrite p d 0x4010 w) s = .next (s.modDie d (fun k =>
       { k with stk := { k.stk with stage := w.extractLsb' 0 32 } }))) ∧
     (exec (.mgmtRegisterWrite p d 0x4018 w) s = .next (s.modDie d (fun k =>
       { k with stk := { k.stk with mirror := w.extractLsb' 12 34 } }))) ∧
     (exec (.mgmtRegisterWrite p d (0x10010 + 256 * n.setWidth 20) w) s = .next (s.modCore (d ++ n) (fun k =>
       { k with dbgVsel := w.extractLsb' 0 48 |>.setWidth 64 }))) ∧
     (∃ t, exec (.mgmtRegisterWrite p d (0x20020 + 8 * i.setWidth 20) w) s = .next t ∧
       (t.die d).nonce.extractLsb' (64 * i.toNat) 64 = w ∧ t.mem = s.mem ∧
       (∀ j ∈ List.range 4, j ≠ i.toNat → (t.die d).nonce.extractLsb' (64 * j) 64 = (s.die d).nonce.extractLsb' (64 * j) 64)) ∧
     (off.toNat % 8 ≠ 0 ∨ off.toNat < 0x2000 ∨ (0x2058 ≤ off.toNat ∧ off.toNat < 0x3000) ∨ (0x3010 ≤ off.toNat ∧ off.toNat < 0x4000) ∨
         (0x7208 ≤ off.toNat ∧ off.toNat < 0x10000) ∨ 0x20040 ≤ off.toNat →
       exec (.mgmtRegisterWrite p d off w) s = .next s))

namespace Sys2Proof.Claims

/-- The depth of a context's loop stack: 6 for the primary, 2 for a handler (R171). -/
def shallow (r : Res) : Bool := decide (r.primary.loops.length ≤ 6) && decide (r.h1.loops.length ≤ 2) && decide (r.h2.loops.length ≤ 2)
/-- What the manual bounds in a core: the depth of each loop stack, four commands in each engine's queue (R223), a swallow count of at
most 56 (R427). -/
def boundedCore (k : Core) : Bool :=
  (k.all.map (fun e => e.2) ++ k.prev.toList).all (fun r => shallow r && decide (r.eng.queue.length ≤ 4)) && decide (k.swal.toNat ≤ 56)
def bounded (s : State) : Bool := s.cores.all (fun e => boundedCore e.2)
/-- The fixed-latency results in flight that have a destination (R45). -/
def results (s : State) : Nat := (s.rc.inflight.filter (fun f => f.w != .none)).length

end Sys2Proof.Claims

/-- R45, R171, R223, R427: the bounds of the machine. They hold after reset, and every step keeps them: a loop stack is no deeper than 6,
or 2 of a handler, an engine's queue holds at most four commands, and a swallow count is at most 56. An instruction that issues leaves at
most 64 results in flight, or those that it found. -/
def Obligations.BoundsKept : Prop :=
  Claims.bounded State.reset = true ∧
  (∀ (s t : State), Claims.bounded s = true → step s = .next t → Claims.bounded t = true) ∧
  (∀ (s t : State) (i : Instr), i.head.isSome = true → s.cx.rep = none → exec i s = .next t → t.mark = .none →
    Claims.results t ≤ 64 ∨ t.rc.inflight = s.rc.inflight)
end

