-- ==== Sys2Proof/Laws/Tab.lean ====
section
/-! SUPPORT. The laws of finite tables: reading after writing, writing twice, and the canonical form. -/

namespace Sys2Proof.Machine

variable {α : Type}

theorem Tab.get_place_same (d : α) (t : Tab α) (k : Nat) (x : α) (h : ∀ p ∈ t, p.1 ≠ k) :
    Tab.get d (Tab.place k x t) k = x := by
  induction t with
  | nil => simp [Tab.place, Tab.get]
  | cons p t ih =>
    have hp : p.1 ≠ k := h p (by simp)
    have ht := ih (fun q hq => h q (by simp [hq]))
    unfold Tab.place
    split
    · simp [Tab.get]
    · simp [Tab.get, hp, ht]

theorem Tab.get_place_ne (d : α) (t : Tab α) (k j : Nat) (x : α) (h : j ≠ k) :
    Tab.get d (Tab.place k x t) j = Tab.get d t j := by
  induction t with
  | nil => simp [Tab.place, Tab.get, h.symm]
  | cons p t ih =>
    unfold Tab.place
    split
    · simp [Tab.get, h.symm]
    · simp [Tab.get, ih]

theorem Tab.drop_fst_ne (t : Tab α) (k : Nat) : ∀ p ∈ t.drop k, p.1 ≠ k := by
  intro p hp
  simp only [Tab.drop, List.mem_filter, bne_iff_ne, ne_eq] at hp
  exact hp.2

theorem Tab.get_of_not_mem (d : α) (t : Tab α) (k : Nat) (h : ∀ p ∈ t, p.1 ≠ k) : Tab.get d t k = d := by
  induction t with
  | nil => rfl
  | cons p t ih => simp [Tab.get, h p (by simp), ih (fun q hq => h q (by simp [hq]))]

theorem Tab.get_drop_ne (d : α) (t : Tab α) (k j : Nat) (h : j ≠ k) : Tab.get d (t.drop k) j = Tab.get d t j := by
  induction t with
  | nil => rfl
  | cons p t ih =>
    have ih' : Tab.get d (List.filter (fun p => p.1 != k) t) j = Tab.get d t j := ih
    by_cases hp : p.1 = k
    · have : p.1 ≠ j := fun e => h (e ▸ hp)
      simp [Tab.drop, hp, Tab.get, ih', Ne.symm h]
    · simp [Tab.drop, hp, Tab.get, ih']

variable [DecidableEq α]

/-- What was put is read back. -/
@[simp] theorem Tab.get_put_same (d : α) (t : Tab α) (k : Nat) (x : α) : Tab.get d (t.put d k x) k = x := by
  unfold Tab.put
  split
  · next h => rw [Tab.get_of_not_mem d _ k (t.drop_fst_ne k), h]
  · exact Tab.get_place_same d _ k x (t.drop_fst_ne k)

/-- A write leaves every other key alone. -/
theorem Tab.get_put_ne (d : α) (t : Tab α) (k j : Nat) (x : α) (h : j ≠ k) :
    Tab.get d (t.put d k x) j = Tab.get d t j := by
  unfold Tab.put
  split
  · exact Tab.get_drop_ne d t k j h
  · rw [Tab.get_place_ne d _ k j x h, Tab.get_drop_ne d t k j h]

theorem Tab.get_put (d : α) (t : Tab α) (k j : Nat) (x : α) :
    Tab.get d (t.put d k x) j = if j = k then x else Tab.get d t j := by
  split
  · next h => subst h; simp
  · next h => exact Tab.get_put_ne d t k j x h

omit [DecidableEq α] in
theorem Tab.drop_place (t : Tab α) (k : Nat) (x : α) : (Tab.place k x t).drop k = t.drop k := by
  induction t with
  | nil => simp [Tab.place, Tab.drop]
  | cons p t ih =>
    have ih' : List.filter (fun p => p.1 != k) (Tab.place k x t) = List.filter (fun p => p.1 != k) t := ih
    unfold Tab.place
    split
    · simp [Tab.drop, List.filter_cons]
    · simp only [Tab.drop, List.filter_cons, ih']

omit [DecidableEq α] in
theorem Tab.drop_drop (t : Tab α) (k : Nat) : (t.drop k).drop k = t.drop k := by
  simp [Tab.drop, List.filter_filter]

/-- The second of two writes to one key stands. -/
@[simp] theorem Tab.put_put (d : α) (t : Tab α) (k : Nat) (x y : α) : (t.put d k y).put d k x = t.put d k x := by
  have h : (t.put d k y).drop k = t.drop k := by
    unfold Tab.put
    split
    · exact Tab.drop_drop t k
    · rw [Tab.drop_place, Tab.drop_drop]
  unfold Tab.put
  unfold Tab.put at h
  rw [h]

/-! ## The canonical form -/

theorem Tab.wf_cons (d : α) (p : Nat × α) (t : Tab α) :
    Tab.wf d (p :: t) = true ↔ p.2 ≠ d ∧ (∀ q ∈ t, p.1 < q.1) ∧ Tab.wf d t = true := by
  obtain ⟨i, x⟩ := p
  simp [Tab.wf, and_assoc]

theorem Tab.wf_filter (d : α) (t : Tab α) (f : Nat × α → Bool) (h : Tab.wf d t = true) : Tab.wf d (t.filter f) = true := by
  induction t with
  | nil => simp [Tab.wf]
  | cons p t ih =>
    rw [Tab.wf_cons] at h
    have ih' := ih h.2.2
    rw [List.filter_cons]
    split
    · rw [Tab.wf_cons]
      exact ⟨h.1, fun q hq => h.2.1 q (List.mem_filter.mp hq).1, ih'⟩
    · exact ih'

omit [DecidableEq α] in
theorem Tab.mem_place (t : Tab α) (k : Nat) (x : α) (q : Nat × α) :
    q ∈ Tab.place k x t ↔ q = (k, x) ∨ q ∈ t := by
  induction t with
  | nil => simp [Tab.place]
  | cons p t ih =>
    unfold Tab.place
    split
    · simp
    · simp only [List.mem_cons, ih]
      exact or_left_comm

theorem Tab.wf_place (d : α) (t : Tab α) (k : Nat) (x : α) (hx : x ≠ d) (hk : ∀ p ∈ t, p.1 ≠ k)
    (h : Tab.wf d t = true) : Tab.wf d (Tab.place k x t) = true := by
  induction t with
  | nil => simp [Tab.place, Tab.wf, hx]
  | cons p t ih =>
    have hp := (Tab.wf_cons d p t).mp h
    unfold Tab.place
    split
    · next hlt =>
      rw [Tab.wf_cons]
      refine ⟨hx, fun q hq => ?_, h⟩
      rcases List.mem_cons.mp hq with rfl | hq
      · exact hlt
      · exact Nat.lt_trans hlt (hp.2.1 q hq)
    · next hlt =>
      rw [Tab.wf_cons]
      refine ⟨hp.1, fun q hq => ?_, ih (fun q hq => hk q (by simp [hq])) hp.2.2⟩
      rcases (Tab.mem_place t k x q).mp hq with rfl | hq
      · have := hk p (by simp)
        show p.1 < k
        have hlt' : ¬ k < p.1 := hlt
        omega
      · exact hp.2.1 q hq

/-- A write keeps the canonical form. -/
theorem Tab.wf_put (d : α) (t : Tab α) (k : Nat) (x : α) (h : Tab.wf d t = true) : Tab.wf d (t.put d k x) = true := by
  unfold Tab.put
  split
  · exact Tab.wf_filter d t _ h
  · next hx => exact Tab.wf_place d _ k x hx (t.drop_fst_ne k) (Tab.wf_filter d t _ h)

theorem Tab.wf_putAll (d : α) (l : List (Nat × α)) (t : Tab α) (h : Tab.wf d t = true) :
    Tab.wf d (t.putAll d l) = true := by
  induction l generalizing t with
  | nil => exact h
  | cons p l ih => exact ih _ (Tab.wf_put d t p.1 p.2 h)

/-- Writes to other keys leave a key alone. -/
theorem Tab.get_putAll_of_not_mem (d : α) (l : List (Nat × α)) (t : Tab α) (k : Nat) (h : ∀ p ∈ l, p.1 ≠ k) :
    Tab.get d (t.putAll d l) k = Tab.get d t k := by
  induction l generalizing t with
  | nil => rfl
  | cons p l ih =>
    have e : Tab.putAll d t (p :: l) = Tab.putAll d (t.put d p.1 p.2) l := rfl
    rw [e, ih _ (fun q hq => h q (by simp [hq])), Tab.get_put_ne d t p.1 k p.2 (h p (by simp)).symm]

end Sys2Proof.Machine
end

