-- ==== Sys2Proof/Laws/State.lean ====
section
/-! SUPPORT. The fields of the state after each named update, and reading back the part an update changes. -/

namespace Sys2Proof.Machine

/-! ## What an update leaves alone, field by field -/

@[simp] theorem State.setCore_dies (s : State) (c : CoreId) (k : Core) : (s.setCore c k).dies = s.dies := rfl
@[simp] theorem State.setCore_mem (s : State) (c : CoreId) (k : Core) : (s.setCore c k).mem = s.mem := rfl
@[simp] theorem State.setCore_reqs (s : State) (c : CoreId) (k : Core) : (s.setCore c k).reqs = s.reqs := rfl
@[simp] theorem State.setCore_homes (s : State) (c : CoreId) (k : Core) : (s.setCore c k).homes = s.homes := rfl
@[simp] theorem State.setCore_replicas (s : State) (c : CoreId) (k : Core) : (s.setCore c k).replicas = s.replicas := rfl
@[simp] theorem State.setCore_patina (s : State) (c : CoreId) (k : Core) : (s.setCore c k).patina = s.patina := rfl
@[simp] theorem State.setCore_tags (s : State) (c : CoreId) (k : Core) : (s.setCore c k).tags = s.tags := rfl
@[simp] theorem State.setCore_shoots (s : State) (c : CoreId) (k : Core) : (s.setCore c k).shoots = s.shoots := rfl
@[simp] theorem State.setCore_queues (s : State) (c : CoreId) (k : Core) : (s.setCore c k).queues = s.queues := rfl
@[simp] theorem State.setCore_tasks (s : State) (c : CoreId) (k : Core) : (s.setCore c k).tasks = s.tasks := rfl
@[simp] theorem State.setCore_arms (s : State) (c : CoreId) (k : Core) : (s.setCore c k).arms = s.arms := rfl
@[simp] theorem State.setCore_parts (s : State) (c : CoreId) (k : Core) : (s.setCore c k).parts = s.parts := rfl
@[simp] theorem State.setCore_hbmOwn (s : State) (c : CoreId) (k : Core) : (s.setCore c k).hbmOwn = s.hbmOwn := rfl
@[simp] theorem State.setCore_lands (s : State) (c : CoreId) (k : Core) : (s.setCore c k).lands = s.lands := rfl
@[simp] theorem State.setCore_fab (s : State) (c : CoreId) (k : Core) : (s.setCore c k).fab = s.fab := rfl
@[simp] theorem State.setCore_boot (s : State) (c : CoreId) (k : Core) : (s.setCore c k).boot = s.boot := rfl
@[simp] theorem State.setCore_peer (s : State) (c : CoreId) (k : Core) : (s.setCore c k).peer = s.peer := rfl
@[simp] theorem State.setCore_domain (s : State) (c : CoreId) (k : Core) : (s.setCore c k).domain = s.domain := rfl
@[simp] theorem State.setCore_supply (s : State) (c : CoreId) (k : Core) : (s.setCore c k).supply = s.supply := rfl
@[simp] theorem State.setCore_budget (s : State) (c : CoreId) (k : Core) : (s.setCore c k).budget = s.budget := rfl
@[simp] theorem State.setCore_hostMaxflow (s : State) (c : CoreId) (k : Core) : (s.setCore c k).hostMaxflow = s.hostMaxflow := rfl
@[simp] theorem State.setCore_hostValve (s : State) (c : CoreId) (k : Core) : (s.setCore c k).hostValve = s.hostValve := rfl
@[simp] theorem State.setCore_hcap (s : State) (c : CoreId) (k : Core) : (s.setCore c k).hcap = s.hcap := rfl
@[simp] theorem State.setCore_hostData (s : State) (c : CoreId) (k : Core) : (s.setCore c k).hostData = s.hostData := rfl
@[simp] theorem State.setCore_hostError (s : State) (c : CoreId) (k : Core) : (s.setCore c k).hostError = s.hostError := rfl
@[simp] theorem State.setCore_hostQueue (s : State) (c : CoreId) (k : Core) : (s.setCore c k).hostQueue = s.hostQueue := rfl
@[simp] theorem State.setCore_serial (s : State) (c : CoreId) (k : Core) : (s.setCore c k).serial = s.serial := rfl
@[simp] theorem State.setCore_launched (s : State) (c : CoreId) (k : Core) : (s.setCore c k).launched = s.launched := rfl
@[simp] theorem State.setCore_turns (s : State) (c : CoreId) (k : Core) : (s.setCore c k).turns = s.turns := rfl
@[simp] theorem State.setCore_steps (s : State) (c : CoreId) (k : Core) : (s.setCore c k).steps = s.steps := rfl
@[simp] theorem State.setCore_cur (s : State) (c : CoreId) (k : Core) : (s.setCore c k).cur = s.cur := rfl
@[simp] theorem State.setCore_mark (s : State) (c : CoreId) (k : Core) : (s.setCore c k).mark = s.mark := rfl

@[simp] theorem State.modCore_dies (s : State) (c : CoreId) (f : Core → Core) : (s.modCore c f).dies = s.dies := rfl
@[simp] theorem State.modCore_mem (s : State) (c : CoreId) (f : Core → Core) : (s.modCore c f).mem = s.mem := rfl
@[simp] theorem State.modCore_reqs (s : State) (c : CoreId) (f : Core → Core) : (s.modCore c f).reqs = s.reqs := rfl
@[simp] theorem State.modCore_homes (s : State) (c : CoreId) (f : Core → Core) : (s.modCore c f).homes = s.homes := rfl
@[simp] theorem State.modCore_replicas (s : State) (c : CoreId) (f : Core → Core) : (s.modCore c f).replicas = s.replicas := rfl
@[simp] theorem State.modCore_patina (s : State) (c : CoreId) (f : Core → Core) : (s.modCore c f).patina = s.patina := rfl
@[simp] theorem State.modCore_tags (s : State) (c : CoreId) (f : Core → Core) : (s.modCore c f).tags = s.tags := rfl
@[simp] theorem State.modCore_shoots (s : State) (c : CoreId) (f : Core → Core) : (s.modCore c f).shoots = s.shoots := rfl
@[simp] theorem State.modCore_queues (s : State) (c : CoreId) (f : Core → Core) : (s.modCore c f).queues = s.queues := rfl
@[simp] theorem State.modCore_tasks (s : State) (c : CoreId) (f : Core → Core) : (s.modCore c f).tasks = s.tasks := rfl
@[simp] theorem State.modCore_arms (s : State) (c : CoreId) (f : Core → Core) : (s.modCore c f).arms = s.arms := rfl
@[simp] theorem State.modCore_parts (s : State) (c : CoreId) (f : Core → Core) : (s.modCore c f).parts = s.parts := rfl
@[simp] theorem State.modCore_hbmOwn (s : State) (c : CoreId) (f : Core → Core) : (s.modCore c f).hbmOwn = s.hbmOwn := rfl
@[simp] theorem State.modCore_lands (s : State) (c : CoreId) (f : Core → Core) : (s.modCore c f).lands = s.lands := rfl
@[simp] theorem State.modCore_fab (s : State) (c : CoreId) (f : Core → Core) : (s.modCore c f).fab = s.fab := rfl
@[simp] theorem State.modCore_boot (s : State) (c : CoreId) (f : Core → Core) : (s.modCore c f).boot = s.boot := rfl
@[simp] theorem State.modCore_peer (s : State) (c : CoreId) (f : Core → Core) : (s.modCore c f).peer = s.peer := rfl
@[simp] theorem State.modCore_domain (s : State) (c : CoreId) (f : Core → Core) : (s.modCore c f).domain = s.domain := rfl
@[simp] theorem State.modCore_supply (s : State) (c : CoreId) (f : Core → Core) : (s.modCore c f).supply = s.supply := rfl
@[simp] theorem State.modCore_budget (s : State) (c : CoreId) (f : Core → Core) : (s.modCore c f).budget = s.budget := rfl
@[simp] theorem State.modCore_hostMaxflow (s : State) (c : CoreId) (f : Core → Core) : (s.modCore c f).hostMaxflow = s.hostMaxflow := rfl
@[simp] theorem State.modCore_hostValve (s : State) (c : CoreId) (f : Core → Core) : (s.modCore c f).hostValve = s.hostValve := rfl
@[simp] theorem State.modCore_hcap (s : State) (c : CoreId) (f : Core → Core) : (s.modCore c f).hcap = s.hcap := rfl
@[simp] theorem State.modCore_hostData (s : State) (c : CoreId) (f : Core → Core) : (s.modCore c f).hostData = s.hostData := rfl
@[simp] theorem State.modCore_hostError (s : State) (c : CoreId) (f : Core → Core) : (s.modCore c f).hostError = s.hostError := rfl
@[simp] theorem State.modCore_hostQueue (s : State) (c : CoreId) (f : Core → Core) : (s.modCore c f).hostQueue = s.hostQueue := rfl
@[simp] theorem State.modCore_serial (s : State) (c : CoreId) (f : Core → Core) : (s.modCore c f).serial = s.serial := rfl
@[simp] theorem State.modCore_launched (s : State) (c : CoreId) (f : Core → Core) : (s.modCore c f).launched = s.launched := rfl
@[simp] theorem State.modCore_turns (s : State) (c : CoreId) (f : Core → Core) : (s.modCore c f).turns = s.turns := rfl
@[simp] theorem State.modCore_steps (s : State) (c : CoreId) (f : Core → Core) : (s.modCore c f).steps = s.steps := rfl
@[simp] theorem State.modCore_cur (s : State) (c : CoreId) (f : Core → Core) : (s.modCore c f).cur = s.cur := rfl
@[simp] theorem State.modCore_mark (s : State) (c : CoreId) (f : Core → Core) : (s.modCore c f).mark = s.mark := rfl

@[simp] theorem State.setRes_dies (s : State) (c : CoreId) (r : Slot) (x : Res) : (s.setRes c r x).dies = s.dies := rfl
@[simp] theorem State.setRes_mem (s : State) (c : CoreId) (r : Slot) (x : Res) : (s.setRes c r x).mem = s.mem := rfl
@[simp] theorem State.setRes_reqs (s : State) (c : CoreId) (r : Slot) (x : Res) : (s.setRes c r x).reqs = s.reqs := rfl
@[simp] theorem State.setRes_homes (s : State) (c : CoreId) (r : Slot) (x : Res) : (s.setRes c r x).homes = s.homes := rfl
@[simp] theorem State.setRes_replicas (s : State) (c : CoreId) (r : Slot) (x : Res) : (s.setRes c r x).replicas = s.replicas := rfl
@[simp] theorem State.setRes_patina (s : State) (c : CoreId) (r : Slot) (x : Res) : (s.setRes c r x).patina = s.patina := rfl
@[simp] theorem State.setRes_tags (s : State) (c : CoreId) (r : Slot) (x : Res) : (s.setRes c r x).tags = s.tags := rfl
@[simp] theorem State.setRes_shoots (s : State) (c : CoreId) (r : Slot) (x : Res) : (s.setRes c r x).shoots = s.shoots := rfl
@[simp] theorem State.setRes_queues (s : State) (c : CoreId) (r : Slot) (x : Res) : (s.setRes c r x).queues = s.queues := rfl
@[simp] theorem State.setRes_tasks (s : State) (c : CoreId) (r : Slot) (x : Res) : (s.setRes c r x).tasks = s.tasks := rfl
@[simp] theorem State.setRes_arms (s : State) (c : CoreId) (r : Slot) (x : Res) : (s.setRes c r x).arms = s.arms := rfl
@[simp] theorem State.setRes_parts (s : State) (c : CoreId) (r : Slot) (x : Res) : (s.setRes c r x).parts = s.parts := rfl
@[simp] theorem State.setRes_hbmOwn (s : State) (c : CoreId) (r : Slot) (x : Res) : (s.setRes c r x).hbmOwn = s.hbmOwn := rfl
@[simp] theorem State.setRes_lands (s : State) (c : CoreId) (r : Slot) (x : Res) : (s.setRes c r x).lands = s.lands := rfl
@[simp] theorem State.setRes_fab (s : State) (c : CoreId) (r : Slot) (x : Res) : (s.setRes c r x).fab = s.fab := rfl
@[simp] theorem State.setRes_boot (s : State) (c : CoreId) (r : Slot) (x : Res) : (s.setRes c r x).boot = s.boot := rfl
@[simp] theorem State.setRes_peer (s : State) (c : CoreId) (r : Slot) (x : Res) : (s.setRes c r x).peer = s.peer := rfl
@[simp] theorem State.setRes_domain (s : State) (c : CoreId) (r : Slot) (x : Res) : (s.setRes c r x).domain = s.domain := rfl
@[simp] theorem State.setRes_supply (s : State) (c : CoreId) (r : Slot) (x : Res) : (s.setRes c r x).supply = s.supply := rfl
@[simp] theorem State.setRes_budget (s : State) (c : CoreId) (r : Slot) (x : Res) : (s.setRes c r x).budget = s.budget := rfl
@[simp] theorem State.setRes_hostMaxflow (s : State) (c : CoreId) (r : Slot) (x : Res) : (s.setRes c r x).hostMaxflow = s.hostMaxflow := rfl
@[simp] theorem State.setRes_hostValve (s : State) (c : CoreId) (r : Slot) (x : Res) : (s.setRes c r x).hostValve = s.hostValve := rfl
@[simp] theorem State.setRes_hcap (s : State) (c : CoreId) (r : Slot) (x : Res) : (s.setRes c r x).hcap = s.hcap := rfl
@[simp] theorem State.setRes_hostData (s : State) (c : CoreId) (r : Slot) (x : Res) : (s.setRes c r x).hostData = s.hostData := rfl
@[simp] theorem State.setRes_hostError (s : State) (c : CoreId) (r : Slot) (x : Res) : (s.setRes c r x).hostError = s.hostError := rfl
@[simp] theorem State.setRes_hostQueue (s : State) (c : CoreId) (r : Slot) (x : Res) : (s.setRes c r x).hostQueue = s.hostQueue := rfl
@[simp] theorem State.setRes_serial (s : State) (c : CoreId) (r : Slot) (x : Res) : (s.setRes c r x).serial = s.serial := rfl
@[simp] theorem State.setRes_launched (s : State) (c : CoreId) (r : Slot) (x : Res) : (s.setRes c r x).launched = s.launched := rfl
@[simp] theorem State.setRes_turns (s : State) (c : CoreId) (r : Slot) (x : Res) : (s.setRes c r x).turns = s.turns := rfl
@[simp] theorem State.setRes_steps (s : State) (c : CoreId) (r : Slot) (x : Res) : (s.setRes c r x).steps = s.steps := rfl
@[simp] theorem State.setRes_cur (s : State) (c : CoreId) (r : Slot) (x : Res) : (s.setRes c r x).cur = s.cur := rfl
@[simp] theorem State.setRes_mark (s : State) (c : CoreId) (r : Slot) (x : Res) : (s.setRes c r x).mark = s.mark := rfl

@[simp] theorem State.modRes_dies (s : State) (c : CoreId) (r : Slot) (f : Res → Res) : (s.modRes c r f).dies = s.dies := rfl
@[simp] theorem State.modRes_mem (s : State) (c : CoreId) (r : Slot) (f : Res → Res) : (s.modRes c r f).mem = s.mem := rfl
@[simp] theorem State.modRes_reqs (s : State) (c : CoreId) (r : Slot) (f : Res → Res) : (s.modRes c r f).reqs = s.reqs := rfl
@[simp] theorem State.modRes_homes (s : State) (c : CoreId) (r : Slot) (f : Res → Res) : (s.modRes c r f).homes = s.homes := rfl
@[simp] theorem State.modRes_replicas (s : State) (c : CoreId) (r : Slot) (f : Res → Res) : (s.modRes c r f).replicas = s.replicas := rfl
@[simp] theorem State.modRes_patina (s : State) (c : CoreId) (r : Slot) (f : Res → Res) : (s.modRes c r f).patina = s.patina := rfl
@[simp] theorem State.modRes_tags (s : State) (c : CoreId) (r : Slot) (f : Res → Res) : (s.modRes c r f).tags = s.tags := rfl
@[simp] theorem State.modRes_shoots (s : State) (c : CoreId) (r : Slot) (f : Res → Res) : (s.modRes c r f).shoots = s.shoots := rfl
@[simp] theorem State.modRes_queues (s : State) (c : CoreId) (r : Slot) (f : Res → Res) : (s.modRes c r f).queues = s.queues := rfl
@[simp] theorem State.modRes_tasks (s : State) (c : CoreId) (r : Slot) (f : Res → Res) : (s.modRes c r f).tasks = s.tasks := rfl
@[simp] theorem State.modRes_arms (s : State) (c : CoreId) (r : Slot) (f : Res → Res) : (s.modRes c r f).arms = s.arms := rfl
@[simp] theorem State.modRes_parts (s : State) (c : CoreId) (r : Slot) (f : Res → Res) : (s.modRes c r f).parts = s.parts := rfl
@[simp] theorem State.modRes_hbmOwn (s : State) (c : CoreId) (r : Slot) (f : Res → Res) : (s.modRes c r f).hbmOwn = s.hbmOwn := rfl
@[simp] theorem State.modRes_lands (s : State) (c : CoreId) (r : Slot) (f : Res → Res) : (s.modRes c r f).lands = s.lands := rfl
@[simp] theorem State.modRes_fab (s : State) (c : CoreId) (r : Slot) (f : Res → Res) : (s.modRes c r f).fab = s.fab := rfl
@[simp] theorem State.modRes_boot (s : State) (c : CoreId) (r : Slot) (f : Res → Res) : (s.modRes c r f).boot = s.boot := rfl
@[simp] theorem State.modRes_peer (s : State) (c : CoreId) (r : Slot) (f : Res → Res) : (s.modRes c r f).peer = s.peer := rfl
@[simp] theorem State.modRes_domain (s : State) (c : CoreId) (r : Slot) (f : Res → Res) : (s.modRes c r f).domain = s.domain := rfl
@[simp] theorem State.modRes_supply (s : State) (c : CoreId) (r : Slot) (f : Res → Res) : (s.modRes c r f).supply = s.supply := rfl
@[simp] theorem State.modRes_budget (s : State) (c : CoreId) (r : Slot) (f : Res → Res) : (s.modRes c r f).budget = s.budget := rfl
@[simp] theorem State.modRes_hostMaxflow (s : State) (c : CoreId) (r : Slot) (f : Res → Res) : (s.modRes c r f).hostMaxflow = s.hostMaxflow := rfl
@[simp] theorem State.modRes_hostValve (s : State) (c : CoreId) (r : Slot) (f : Res → Res) : (s.modRes c r f).hostValve = s.hostValve := rfl
@[simp] theorem State.modRes_hcap (s : State) (c : CoreId) (r : Slot) (f : Res → Res) : (s.modRes c r f).hcap = s.hcap := rfl
@[simp] theorem State.modRes_hostData (s : State) (c : CoreId) (r : Slot) (f : Res → Res) : (s.modRes c r f).hostData = s.hostData := rfl
@[simp] theorem State.modRes_hostError (s : State) (c : CoreId) (r : Slot) (f : Res → Res) : (s.modRes c r f).hostError = s.hostError := rfl
@[simp] theorem State.modRes_hostQueue (s : State) (c : CoreId) (r : Slot) (f : Res → Res) : (s.modRes c r f).hostQueue = s.hostQueue := rfl
@[simp] theorem State.modRes_serial (s : State) (c : CoreId) (r : Slot) (f : Res → Res) : (s.modRes c r f).serial = s.serial := rfl
@[simp] theorem State.modRes_launched (s : State) (c : CoreId) (r : Slot) (f : Res → Res) : (s.modRes c r f).launched = s.launched := rfl
@[simp] theorem State.modRes_turns (s : State) (c : CoreId) (r : Slot) (f : Res → Res) : (s.modRes c r f).turns = s.turns := rfl
@[simp] theorem State.modRes_steps (s : State) (c : CoreId) (r : Slot) (f : Res → Res) : (s.modRes c r f).steps = s.steps := rfl
@[simp] theorem State.modRes_cur (s : State) (c : CoreId) (r : Slot) (f : Res → Res) : (s.modRes c r f).cur = s.cur := rfl
@[simp] theorem State.modRes_mark (s : State) (c : CoreId) (r : Slot) (f : Res → Res) : (s.modRes c r f).mark = s.mark := rfl

@[simp] theorem State.modRc_dies (s : State) (f : Res → Res) : (s.modRc f).dies = s.dies := rfl
@[simp] theorem State.modRc_mem (s : State) (f : Res → Res) : (s.modRc f).mem = s.mem := rfl
@[simp] theorem State.modRc_reqs (s : State) (f : Res → Res) : (s.modRc f).reqs = s.reqs := rfl
@[simp] theorem State.modRc_homes (s : State) (f : Res → Res) : (s.modRc f).homes = s.homes := rfl
@[simp] theorem State.modRc_replicas (s : State) (f : Res → Res) : (s.modRc f).replicas = s.replicas := rfl
@[simp] theorem State.modRc_patina (s : State) (f : Res → Res) : (s.modRc f).patina = s.patina := rfl
@[simp] theorem State.modRc_tags (s : State) (f : Res → Res) : (s.modRc f).tags = s.tags := rfl
@[simp] theorem State.modRc_shoots (s : State) (f : Res → Res) : (s.modRc f).shoots = s.shoots := rfl
@[simp] theorem State.modRc_queues (s : State) (f : Res → Res) : (s.modRc f).queues = s.queues := rfl
@[simp] theorem State.modRc_tasks (s : State) (f : Res → Res) : (s.modRc f).tasks = s.tasks := rfl
@[simp] theorem State.modRc_arms (s : State) (f : Res → Res) : (s.modRc f).arms = s.arms := rfl
@[simp] theorem State.modRc_parts (s : State) (f : Res → Res) : (s.modRc f).parts = s.parts := rfl
@[simp] theorem State.modRc_hbmOwn (s : State) (f : Res → Res) : (s.modRc f).hbmOwn = s.hbmOwn := rfl
@[simp] theorem State.modRc_lands (s : State) (f : Res → Res) : (s.modRc f).lands = s.lands := rfl
@[simp] theorem State.modRc_fab (s : State) (f : Res → Res) : (s.modRc f).fab = s.fab := rfl
@[simp] theorem State.modRc_boot (s : State) (f : Res → Res) : (s.modRc f).boot = s.boot := rfl
@[simp] theorem State.modRc_peer (s : State) (f : Res → Res) : (s.modRc f).peer = s.peer := rfl
@[simp] theorem State.modRc_domain (s : State) (f : Res → Res) : (s.modRc f).domain = s.domain := rfl
@[simp] theorem State.modRc_supply (s : State) (f : Res → Res) : (s.modRc f).supply = s.supply := rfl
@[simp] theorem State.modRc_budget (s : State) (f : Res → Res) : (s.modRc f).budget = s.budget := rfl
@[simp] theorem State.modRc_hostMaxflow (s : State) (f : Res → Res) : (s.modRc f).hostMaxflow = s.hostMaxflow := rfl
@[simp] theorem State.modRc_hostValve (s : State) (f : Res → Res) : (s.modRc f).hostValve = s.hostValve := rfl
@[simp] theorem State.modRc_hcap (s : State) (f : Res → Res) : (s.modRc f).hcap = s.hcap := rfl
@[simp] theorem State.modRc_hostData (s : State) (f : Res → Res) : (s.modRc f).hostData = s.hostData := rfl
@[simp] theorem State.modRc_hostError (s : State) (f : Res → Res) : (s.modRc f).hostError = s.hostError := rfl
@[simp] theorem State.modRc_hostQueue (s : State) (f : Res → Res) : (s.modRc f).hostQueue = s.hostQueue := rfl
@[simp] theorem State.modRc_serial (s : State) (f : Res → Res) : (s.modRc f).serial = s.serial := rfl
@[simp] theorem State.modRc_launched (s : State) (f : Res → Res) : (s.modRc f).launched = s.launched := rfl
@[simp] theorem State.modRc_turns (s : State) (f : Res → Res) : (s.modRc f).turns = s.turns := rfl
@[simp] theorem State.modRc_steps (s : State) (f : Res → Res) : (s.modRc f).steps = s.steps := rfl
@[simp] theorem State.modRc_cur (s : State) (f : Res → Res) : (s.modRc f).cur = s.cur := rfl
@[simp] theorem State.modRc_mark (s : State) (f : Res → Res) : (s.modRc f).mark = s.mark := rfl

@[simp] theorem State.modCx_dies (s : State) (f : Ctx → Ctx) : (s.modCx f).dies = s.dies := rfl
@[simp] theorem State.modCx_mem (s : State) (f : Ctx → Ctx) : (s.modCx f).mem = s.mem := rfl
@[simp] theorem State.modCx_reqs (s : State) (f : Ctx → Ctx) : (s.modCx f).reqs = s.reqs := rfl
@[simp] theorem State.modCx_homes (s : State) (f : Ctx → Ctx) : (s.modCx f).homes = s.homes := rfl
@[simp] theorem State.modCx_replicas (s : State) (f : Ctx → Ctx) : (s.modCx f).replicas = s.replicas := rfl
@[simp] theorem State.modCx_patina (s : State) (f : Ctx → Ctx) : (s.modCx f).patina = s.patina := rfl
@[simp] theorem State.modCx_tags (s : State) (f : Ctx → Ctx) : (s.modCx f).tags = s.tags := rfl
@[simp] theorem State.modCx_shoots (s : State) (f : Ctx → Ctx) : (s.modCx f).shoots = s.shoots := rfl
@[simp] theorem State.modCx_queues (s : State) (f : Ctx → Ctx) : (s.modCx f).queues = s.queues := rfl
@[simp] theorem State.modCx_tasks (s : State) (f : Ctx → Ctx) : (s.modCx f).tasks = s.tasks := rfl
@[simp] theorem State.modCx_arms (s : State) (f : Ctx → Ctx) : (s.modCx f).arms = s.arms := rfl
@[simp] theorem State.modCx_parts (s : State) (f : Ctx → Ctx) : (s.modCx f).parts = s.parts := rfl
@[simp] theorem State.modCx_hbmOwn (s : State) (f : Ctx → Ctx) : (s.modCx f).hbmOwn = s.hbmOwn := rfl
@[simp] theorem State.modCx_lands (s : State) (f : Ctx → Ctx) : (s.modCx f).lands = s.lands := rfl
@[simp] theorem State.modCx_fab (s : State) (f : Ctx → Ctx) : (s.modCx f).fab = s.fab := rfl
@[simp] theorem State.modCx_boot (s : State) (f : Ctx → Ctx) : (s.modCx f).boot = s.boot := rfl
@[simp] theorem State.modCx_peer (s : State) (f : Ctx → Ctx) : (s.modCx f).peer = s.peer := rfl
@[simp] theorem State.modCx_domain (s : State) (f : Ctx → Ctx) : (s.modCx f).domain = s.domain := rfl
@[simp] theorem State.modCx_supply (s : State) (f : Ctx → Ctx) : (s.modCx f).supply = s.supply := rfl
@[simp] theorem State.modCx_budget (s : State) (f : Ctx → Ctx) : (s.modCx f).budget = s.budget := rfl
@[simp] theorem State.modCx_hostMaxflow (s : State) (f : Ctx → Ctx) : (s.modCx f).hostMaxflow = s.hostMaxflow := rfl
@[simp] theorem State.modCx_hostValve (s : State) (f : Ctx → Ctx) : (s.modCx f).hostValve = s.hostValve := rfl
@[simp] theorem State.modCx_hcap (s : State) (f : Ctx → Ctx) : (s.modCx f).hcap = s.hcap := rfl
@[simp] theorem State.modCx_hostData (s : State) (f : Ctx → Ctx) : (s.modCx f).hostData = s.hostData := rfl
@[simp] theorem State.modCx_hostError (s : State) (f : Ctx → Ctx) : (s.modCx f).hostError = s.hostError := rfl
@[simp] theorem State.modCx_hostQueue (s : State) (f : Ctx → Ctx) : (s.modCx f).hostQueue = s.hostQueue := rfl
@[simp] theorem State.modCx_serial (s : State) (f : Ctx → Ctx) : (s.modCx f).serial = s.serial := rfl
@[simp] theorem State.modCx_launched (s : State) (f : Ctx → Ctx) : (s.modCx f).launched = s.launched := rfl
@[simp] theorem State.modCx_turns (s : State) (f : Ctx → Ctx) : (s.modCx f).turns = s.turns := rfl
@[simp] theorem State.modCx_steps (s : State) (f : Ctx → Ctx) : (s.modCx f).steps = s.steps := rfl
@[simp] theorem State.modCx_cur (s : State) (f : Ctx → Ctx) : (s.modCx f).cur = s.cur := rfl
@[simp] theorem State.modCx_mark (s : State) (f : Ctx → Ctx) : (s.modCx f).mark = s.mark := rfl

@[simp] theorem State.modHere_dies (s : State) (f : Core → Core) : (s.modHere f).dies = s.dies := rfl
@[simp] theorem State.modHere_mem (s : State) (f : Core → Core) : (s.modHere f).mem = s.mem := rfl
@[simp] theorem State.modHere_reqs (s : State) (f : Core → Core) : (s.modHere f).reqs = s.reqs := rfl
@[simp] theorem State.modHere_homes (s : State) (f : Core → Core) : (s.modHere f).homes = s.homes := rfl
@[simp] theorem State.modHere_replicas (s : State) (f : Core → Core) : (s.modHere f).replicas = s.replicas := rfl
@[simp] theorem State.modHere_patina (s : State) (f : Core → Core) : (s.modHere f).patina = s.patina := rfl
@[simp] theorem State.modHere_tags (s : State) (f : Core → Core) : (s.modHere f).tags = s.tags := rfl
@[simp] theorem State.modHere_shoots (s : State) (f : Core → Core) : (s.modHere f).shoots = s.shoots := rfl
@[simp] theorem State.modHere_queues (s : State) (f : Core → Core) : (s.modHere f).queues = s.queues := rfl
@[simp] theorem State.modHere_tasks (s : State) (f : Core → Core) : (s.modHere f).tasks = s.tasks := rfl
@[simp] theorem State.modHere_arms (s : State) (f : Core → Core) : (s.modHere f).arms = s.arms := rfl
@[simp] theorem State.modHere_parts (s : State) (f : Core → Core) : (s.modHere f).parts = s.parts := rfl
@[simp] theorem State.modHere_hbmOwn (s : State) (f : Core → Core) : (s.modHere f).hbmOwn = s.hbmOwn := rfl
@[simp] theorem State.modHere_lands (s : State) (f : Core → Core) : (s.modHere f).lands = s.lands := rfl
@[simp] theorem State.modHere_fab (s : State) (f : Core → Core) : (s.modHere f).fab = s.fab := rfl
@[simp] theorem State.modHere_boot (s : State) (f : Core → Core) : (s.modHere f).boot = s.boot := rfl
@[simp] theorem State.modHere_peer (s : State) (f : Core → Core) : (s.modHere f).peer = s.peer := rfl
@[simp] theorem State.modHere_domain (s : State) (f : Core → Core) : (s.modHere f).domain = s.domain := rfl
@[simp] theorem State.modHere_supply (s : State) (f : Core → Core) : (s.modHere f).supply = s.supply := rfl
@[simp] theorem State.modHere_budget (s : State) (f : Core → Core) : (s.modHere f).budget = s.budget := rfl
@[simp] theorem State.modHere_hostMaxflow (s : State) (f : Core → Core) : (s.modHere f).hostMaxflow = s.hostMaxflow := rfl
@[simp] theorem State.modHere_hostValve (s : State) (f : Core → Core) : (s.modHere f).hostValve = s.hostValve := rfl
@[simp] theorem State.modHere_hcap (s : State) (f : Core → Core) : (s.modHere f).hcap = s.hcap := rfl
@[simp] theorem State.modHere_hostData (s : State) (f : Core → Core) : (s.modHere f).hostData = s.hostData := rfl
@[simp] theorem State.modHere_hostError (s : State) (f : Core → Core) : (s.modHere f).hostError = s.hostError := rfl
@[simp] theorem State.modHere_hostQueue (s : State) (f : Core → Core) : (s.modHere f).hostQueue = s.hostQueue := rfl
@[simp] theorem State.modHere_serial (s : State) (f : Core → Core) : (s.modHere f).serial = s.serial := rfl
@[simp] theorem State.modHere_launched (s : State) (f : Core → Core) : (s.modHere f).launched = s.launched := rfl
@[simp] theorem State.modHere_turns (s : State) (f : Core → Core) : (s.modHere f).turns = s.turns := rfl
@[simp] theorem State.modHere_steps (s : State) (f : Core → Core) : (s.modHere f).steps = s.steps := rfl
@[simp] theorem State.modHere_cur (s : State) (f : Core → Core) : (s.modHere f).cur = s.cur := rfl
@[simp] theorem State.modHere_mark (s : State) (f : Core → Core) : (s.modHere f).mark = s.mark := rfl

@[simp] theorem State.setStream_dies (s : State) (n : BitVec 5) (x : Stream) : (s.setStream n x).dies = s.dies := rfl
@[simp] theorem State.setStream_mem (s : State) (n : BitVec 5) (x : Stream) : (s.setStream n x).mem = s.mem := rfl
@[simp] theorem State.setStream_reqs (s : State) (n : BitVec 5) (x : Stream) : (s.setStream n x).reqs = s.reqs := rfl
@[simp] theorem State.setStream_homes (s : State) (n : BitVec 5) (x : Stream) : (s.setStream n x).homes = s.homes := rfl
@[simp] theorem State.setStream_replicas (s : State) (n : BitVec 5) (x : Stream) : (s.setStream n x).replicas = s.replicas := rfl
@[simp] theorem State.setStream_patina (s : State) (n : BitVec 5) (x : Stream) : (s.setStream n x).patina = s.patina := rfl
@[simp] theorem State.setStream_tags (s : State) (n : BitVec 5) (x : Stream) : (s.setStream n x).tags = s.tags := rfl
@[simp] theorem State.setStream_shoots (s : State) (n : BitVec 5) (x : Stream) : (s.setStream n x).shoots = s.shoots := rfl
@[simp] theorem State.setStream_queues (s : State) (n : BitVec 5) (x : Stream) : (s.setStream n x).queues = s.queues := rfl
@[simp] theorem State.setStream_tasks (s : State) (n : BitVec 5) (x : Stream) : (s.setStream n x).tasks = s.tasks := rfl
@[simp] theorem State.setStream_arms (s : State) (n : BitVec 5) (x : Stream) : (s.setStream n x).arms = s.arms := rfl
@[simp] theorem State.setStream_parts (s : State) (n : BitVec 5) (x : Stream) : (s.setStream n x).parts = s.parts := rfl
@[simp] theorem State.setStream_hbmOwn (s : State) (n : BitVec 5) (x : Stream) : (s.setStream n x).hbmOwn = s.hbmOwn := rfl
@[simp] theorem State.setStream_lands (s : State) (n : BitVec 5) (x : Stream) : (s.setStream n x).lands = s.lands := rfl
@[simp] theorem State.setStream_fab (s : State) (n : BitVec 5) (x : Stream) : (s.setStream n x).fab = s.fab := rfl
@[simp] theorem State.setStream_boot (s : State) (n : BitVec 5) (x : Stream) : (s.setStream n x).boot = s.boot := rfl
@[simp] theorem State.setStream_peer (s : State) (n : BitVec 5) (x : Stream) : (s.setStream n x).peer = s.peer := rfl
@[simp] theorem State.setStream_domain (s : State) (n : BitVec 5) (x : Stream) : (s.setStream n x).domain = s.domain := rfl
@[simp] theorem State.setStream_supply (s : State) (n : BitVec 5) (x : Stream) : (s.setStream n x).supply = s.supply := rfl
@[simp] theorem State.setStream_budget (s : State) (n : BitVec 5) (x : Stream) : (s.setStream n x).budget = s.budget := rfl
@[simp] theorem State.setStream_hostMaxflow (s : State) (n : BitVec 5) (x : Stream) : (s.setStream n x).hostMaxflow = s.hostMaxflow := rfl
@[simp] theorem State.setStream_hostValve (s : State) (n : BitVec 5) (x : Stream) : (s.setStream n x).hostValve = s.hostValve := rfl
@[simp] theorem State.setStream_hcap (s : State) (n : BitVec 5) (x : Stream) : (s.setStream n x).hcap = s.hcap := rfl
@[simp] theorem State.setStream_hostData (s : State) (n : BitVec 5) (x : Stream) : (s.setStream n x).hostData = s.hostData := rfl
@[simp] theorem State.setStream_hostError (s : State) (n : BitVec 5) (x : Stream) : (s.setStream n x).hostError = s.hostError := rfl
@[simp] theorem State.setStream_hostQueue (s : State) (n : BitVec 5) (x : Stream) : (s.setStream n x).hostQueue = s.hostQueue := rfl
@[simp] theorem State.setStream_serial (s : State) (n : BitVec 5) (x : Stream) : (s.setStream n x).serial = s.serial := rfl
@[simp] theorem State.setStream_launched (s : State) (n : BitVec 5) (x : Stream) : (s.setStream n x).launched = s.launched := rfl
@[simp] theorem State.setStream_turns (s : State) (n : BitVec 5) (x : Stream) : (s.setStream n x).turns = s.turns := rfl
@[simp] theorem State.setStream_steps (s : State) (n : BitVec 5) (x : Stream) : (s.setStream n x).steps = s.steps := rfl
@[simp] theorem State.setStream_cur (s : State) (n : BitVec 5) (x : Stream) : (s.setStream n x).cur = s.cur := rfl
@[simp] theorem State.setStream_mark (s : State) (n : BitVec 5) (x : Stream) : (s.setStream n x).mark = s.mark := rfl

@[simp] theorem State.modDie_cores (s : State) (d : DieId) (f : Die → Die) : (s.modDie d f).cores = s.cores := rfl
@[simp] theorem State.modDie_mem (s : State) (d : DieId) (f : Die → Die) : (s.modDie d f).mem = s.mem := rfl
@[simp] theorem State.modDie_reqs (s : State) (d : DieId) (f : Die → Die) : (s.modDie d f).reqs = s.reqs := rfl
@[simp] theorem State.modDie_homes (s : State) (d : DieId) (f : Die → Die) : (s.modDie d f).homes = s.homes := rfl
@[simp] theorem State.modDie_replicas (s : State) (d : DieId) (f : Die → Die) : (s.modDie d f).replicas = s.replicas := rfl
@[simp] theorem State.modDie_patina (s : State) (d : DieId) (f : Die → Die) : (s.modDie d f).patina = s.patina := rfl
@[simp] theorem State.modDie_tags (s : State) (d : DieId) (f : Die → Die) : (s.modDie d f).tags = s.tags := rfl
@[simp] theorem State.modDie_shoots (s : State) (d : DieId) (f : Die → Die) : (s.modDie d f).shoots = s.shoots := rfl
@[simp] theorem State.modDie_queues (s : State) (d : DieId) (f : Die → Die) : (s.modDie d f).queues = s.queues := rfl
@[simp] theorem State.modDie_tasks (s : State) (d : DieId) (f : Die → Die) : (s.modDie d f).tasks = s.tasks := rfl
@[simp] theorem State.modDie_arms (s : State) (d : DieId) (f : Die → Die) : (s.modDie d f).arms = s.arms := rfl
@[simp] theorem State.modDie_parts (s : State) (d : DieId) (f : Die → Die) : (s.modDie d f).parts = s.parts := rfl
@[simp] theorem State.modDie_hbmOwn (s : State) (d : DieId) (f : Die → Die) : (s.modDie d f).hbmOwn = s.hbmOwn := rfl
@[simp] theorem State.modDie_lands (s : State) (d : DieId) (f : Die → Die) : (s.modDie d f).lands = s.lands := rfl
@[simp] theorem State.modDie_fab (s : State) (d : DieId) (f : Die → Die) : (s.modDie d f).fab = s.fab := rfl
@[simp] theorem State.modDie_boot (s : State) (d : DieId) (f : Die → Die) : (s.modDie d f).boot = s.boot := rfl
@[simp] theorem State.modDie_peer (s : State) (d : DieId) (f : Die → Die) : (s.modDie d f).peer = s.peer := rfl
@[simp] theorem State.modDie_domain (s : State) (d : DieId) (f : Die → Die) : (s.modDie d f).domain = s.domain := rfl
@[simp] theorem State.modDie_supply (s : State) (d : DieId) (f : Die → Die) : (s.modDie d f).supply = s.supply := rfl
@[simp] theorem State.modDie_budget (s : State) (d : DieId) (f : Die → Die) : (s.modDie d f).budget = s.budget := rfl
@[simp] theorem State.modDie_hostMaxflow (s : State) (d : DieId) (f : Die → Die) : (s.modDie d f).hostMaxflow = s.hostMaxflow := rfl
@[simp] theorem State.modDie_hostValve (s : State) (d : DieId) (f : Die → Die) : (s.modDie d f).hostValve = s.hostValve := rfl
@[simp] theorem State.modDie_hcap (s : State) (d : DieId) (f : Die → Die) : (s.modDie d f).hcap = s.hcap := rfl
@[simp] theorem State.modDie_hostData (s : State) (d : DieId) (f : Die → Die) : (s.modDie d f).hostData = s.hostData := rfl
@[simp] theorem State.modDie_hostError (s : State) (d : DieId) (f : Die → Die) : (s.modDie d f).hostError = s.hostError := rfl
@[simp] theorem State.modDie_hostQueue (s : State) (d : DieId) (f : Die → Die) : (s.modDie d f).hostQueue = s.hostQueue := rfl
@[simp] theorem State.modDie_serial (s : State) (d : DieId) (f : Die → Die) : (s.modDie d f).serial = s.serial := rfl
@[simp] theorem State.modDie_launched (s : State) (d : DieId) (f : Die → Die) : (s.modDie d f).launched = s.launched := rfl
@[simp] theorem State.modDie_turns (s : State) (d : DieId) (f : Die → Die) : (s.modDie d f).turns = s.turns := rfl
@[simp] theorem State.modDie_steps (s : State) (d : DieId) (f : Die → Die) : (s.modDie d f).steps = s.steps := rfl
@[simp] theorem State.modDie_cur (s : State) (d : DieId) (f : Die → Die) : (s.modDie d f).cur = s.cur := rfl
@[simp] theorem State.modDie_mark (s : State) (d : DieId) (f : Die → Die) : (s.modDie d f).mark = s.mark := rfl

@[simp] theorem State.modPart_cores (s : State) (p : PartId) (f : Part → Part) : (s.modPart p f).cores = s.cores := rfl
@[simp] theorem State.modPart_dies (s : State) (p : PartId) (f : Part → Part) : (s.modPart p f).dies = s.dies := rfl
@[simp] theorem State.modPart_mem (s : State) (p : PartId) (f : Part → Part) : (s.modPart p f).mem = s.mem := rfl
@[simp] theorem State.modPart_reqs (s : State) (p : PartId) (f : Part → Part) : (s.modPart p f).reqs = s.reqs := rfl
@[simp] theorem State.modPart_homes (s : State) (p : PartId) (f : Part → Part) : (s.modPart p f).homes = s.homes := rfl
@[simp] theorem State.modPart_replicas (s : State) (p : PartId) (f : Part → Part) : (s.modPart p f).replicas = s.replicas := rfl
@[simp] theorem State.modPart_patina (s : State) (p : PartId) (f : Part → Part) : (s.modPart p f).patina = s.patina := rfl
@[simp] theorem State.modPart_tags (s : State) (p : PartId) (f : Part → Part) : (s.modPart p f).tags = s.tags := rfl
@[simp] theorem State.modPart_shoots (s : State) (p : PartId) (f : Part → Part) : (s.modPart p f).shoots = s.shoots := rfl
@[simp] theorem State.modPart_queues (s : State) (p : PartId) (f : Part → Part) : (s.modPart p f).queues = s.queues := rfl
@[simp] theorem State.modPart_tasks (s : State) (p : PartId) (f : Part → Part) : (s.modPart p f).tasks = s.tasks := rfl
@[simp] theorem State.modPart_arms (s : State) (p : PartId) (f : Part → Part) : (s.modPart p f).arms = s.arms := rfl
@[simp] theorem State.modPart_hbmOwn (s : State) (p : PartId) (f : Part → Part) : (s.modPart p f).hbmOwn = s.hbmOwn := rfl
@[simp] theorem State.modPart_lands (s : State) (p : PartId) (f : Part → Part) : (s.modPart p f).lands = s.lands := rfl
@[simp] theorem State.modPart_fab (s : State) (p : PartId) (f : Part → Part) : (s.modPart p f).fab = s.fab := rfl
@[simp] theorem State.modPart_boot (s : State) (p : PartId) (f : Part → Part) : (s.modPart p f).boot = s.boot := rfl
@[simp] theorem State.modPart_peer (s : State) (p : PartId) (f : Part → Part) : (s.modPart p f).peer = s.peer := rfl
@[simp] theorem State.modPart_domain (s : State) (p : PartId) (f : Part → Part) : (s.modPart p f).domain = s.domain := rfl
@[simp] theorem State.modPart_supply (s : State) (p : PartId) (f : Part → Part) : (s.modPart p f).supply = s.supply := rfl
@[simp] theorem State.modPart_budget (s : State) (p : PartId) (f : Part → Part) : (s.modPart p f).budget = s.budget := rfl
@[simp] theorem State.modPart_hostMaxflow (s : State) (p : PartId) (f : Part → Part) : (s.modPart p f).hostMaxflow = s.hostMaxflow := rfl
@[simp] theorem State.modPart_hostValve (s : State) (p : PartId) (f : Part → Part) : (s.modPart p f).hostValve = s.hostValve := rfl
@[simp] theorem State.modPart_hcap (s : State) (p : PartId) (f : Part → Part) : (s.modPart p f).hcap = s.hcap := rfl
@[simp] theorem State.modPart_hostData (s : State) (p : PartId) (f : Part → Part) : (s.modPart p f).hostData = s.hostData := rfl
@[simp] theorem State.modPart_hostError (s : State) (p : PartId) (f : Part → Part) : (s.modPart p f).hostError = s.hostError := rfl
@[simp] theorem State.modPart_hostQueue (s : State) (p : PartId) (f : Part → Part) : (s.modPart p f).hostQueue = s.hostQueue := rfl
@[simp] theorem State.modPart_serial (s : State) (p : PartId) (f : Part → Part) : (s.modPart p f).serial = s.serial := rfl
@[simp] theorem State.modPart_launched (s : State) (p : PartId) (f : Part → Part) : (s.modPart p f).launched = s.launched := rfl
@[simp] theorem State.modPart_turns (s : State) (p : PartId) (f : Part → Part) : (s.modPart p f).turns = s.turns := rfl
@[simp] theorem State.modPart_steps (s : State) (p : PartId) (f : Part → Part) : (s.modPart p f).steps = s.steps := rfl
@[simp] theorem State.modPart_cur (s : State) (p : PartId) (f : Part → Part) : (s.modPart p f).cur = s.cur := rfl
@[simp] theorem State.modPart_mark (s : State) (p : PartId) (f : Part → Part) : (s.modPart p f).mark = s.mark := rfl

@[simp] theorem State.modQueue_cores (s : State) (q : QueueId) (f : Queue → Queue) : (s.modQueue q f).cores = s.cores := rfl
@[simp] theorem State.modQueue_dies (s : State) (q : QueueId) (f : Queue → Queue) : (s.modQueue q f).dies = s.dies := rfl
@[simp] theorem State.modQueue_mem (s : State) (q : QueueId) (f : Queue → Queue) : (s.modQueue q f).mem = s.mem := rfl
@[simp] theorem State.modQueue_reqs (s : State) (q : QueueId) (f : Queue → Queue) : (s.modQueue q f).reqs = s.reqs := rfl
@[simp] theorem State.modQueue_homes (s : State) (q : QueueId) (f : Queue → Queue) : (s.modQueue q f).homes = s.homes := rfl
@[simp] theorem State.modQueue_replicas (s : State) (q : QueueId) (f : Queue → Queue) : (s.modQueue q f).replicas = s.replicas := rfl
@[simp] theorem State.modQueue_patina (s : State) (q : QueueId) (f : Queue → Queue) : (s.modQueue q f).patina = s.patina := rfl
@[simp] theorem State.modQueue_tags (s : State) (q : QueueId) (f : Queue → Queue) : (s.modQueue q f).tags = s.tags := rfl
@[simp] theorem State.modQueue_shoots (s : State) (q : QueueId) (f : Queue → Queue) : (s.modQueue q f).shoots = s.shoots := rfl
@[simp] theorem State.modQueue_tasks (s : State) (q : QueueId) (f : Queue → Queue) : (s.modQueue q f).tasks = s.tasks := rfl
@[simp] theorem State.modQueue_arms (s : State) (q : QueueId) (f : Queue → Queue) : (s.modQueue q f).arms = s.arms := rfl
@[simp] theorem State.modQueue_parts (s : State) (q : QueueId) (f : Queue → Queue) : (s.modQueue q f).parts = s.parts := rfl
@[simp] theorem State.modQueue_hbmOwn (s : State) (q : QueueId) (f : Queue → Queue) : (s.modQueue q f).hbmOwn = s.hbmOwn := rfl
@[simp] theorem State.modQueue_lands (s : State) (q : QueueId) (f : Queue → Queue) : (s.modQueue q f).lands = s.lands := rfl
@[simp] theorem State.modQueue_fab (s : State) (q : QueueId) (f : Queue → Queue) : (s.modQueue q f).fab = s.fab := rfl
@[simp] theorem State.modQueue_boot (s : State) (q : QueueId) (f : Queue → Queue) : (s.modQueue q f).boot = s.boot := rfl
@[simp] theorem State.modQueue_peer (s : State) (q : QueueId) (f : Queue → Queue) : (s.modQueue q f).peer = s.peer := rfl
@[simp] theorem State.modQueue_domain (s : State) (q : QueueId) (f : Queue → Queue) : (s.modQueue q f).domain = s.domain := rfl
@[simp] theorem State.modQueue_supply (s : State) (q : QueueId) (f : Queue → Queue) : (s.modQueue q f).supply = s.supply := rfl
@[simp] theorem State.modQueue_budget (s : State) (q : QueueId) (f : Queue → Queue) : (s.modQueue q f).budget = s.budget := rfl
@[simp] theorem State.modQueue_hostMaxflow (s : State) (q : QueueId) (f : Queue → Queue) : (s.modQueue q f).hostMaxflow = s.hostMaxflow := rfl
@[simp] theorem State.modQueue_hostValve (s : State) (q : QueueId) (f : Queue → Queue) : (s.modQueue q f).hostValve = s.hostValve := rfl
@[simp] theorem State.modQueue_hcap (s : State) (q : QueueId) (f : Queue → Queue) : (s.modQueue q f).hcap = s.hcap := rfl
@[simp] theorem State.modQueue_hostData (s : State) (q : QueueId) (f : Queue → Queue) : (s.modQueue q f).hostData = s.hostData := rfl
@[simp] theorem State.modQueue_hostError (s : State) (q : QueueId) (f : Queue → Queue) : (s.modQueue q f).hostError = s.hostError := rfl
@[simp] theorem State.modQueue_hostQueue (s : State) (q : QueueId) (f : Queue → Queue) : (s.modQueue q f).hostQueue = s.hostQueue := rfl
@[simp] theorem State.modQueue_serial (s : State) (q : QueueId) (f : Queue → Queue) : (s.modQueue q f).serial = s.serial := rfl
@[simp] theorem State.modQueue_launched (s : State) (q : QueueId) (f : Queue → Queue) : (s.modQueue q f).launched = s.launched := rfl
@[simp] theorem State.modQueue_turns (s : State) (q : QueueId) (f : Queue → Queue) : (s.modQueue q f).turns = s.turns := rfl
@[simp] theorem State.modQueue_steps (s : State) (q : QueueId) (f : Queue → Queue) : (s.modQueue q f).steps = s.steps := rfl
@[simp] theorem State.modQueue_cur (s : State) (q : QueueId) (f : Queue → Queue) : (s.modQueue q f).cur = s.cur := rfl
@[simp] theorem State.modQueue_mark (s : State) (q : QueueId) (f : Queue → Queue) : (s.modQueue q f).mark = s.mark := rfl

@[simp] theorem State.modArm_cores (s : State) (g : GroupId) (f : Arm → Arm) : (s.modArm g f).cores = s.cores := rfl
@[simp] theorem State.modArm_dies (s : State) (g : GroupId) (f : Arm → Arm) : (s.modArm g f).dies = s.dies := rfl
@[simp] theorem State.modArm_mem (s : State) (g : GroupId) (f : Arm → Arm) : (s.modArm g f).mem = s.mem := rfl
@[simp] theorem State.modArm_reqs (s : State) (g : GroupId) (f : Arm → Arm) : (s.modArm g f).reqs = s.reqs := rfl
@[simp] theorem State.modArm_homes (s : State) (g : GroupId) (f : Arm → Arm) : (s.modArm g f).homes = s.homes := rfl
@[simp] theorem State.modArm_replicas (s : State) (g : GroupId) (f : Arm → Arm) : (s.modArm g f).replicas = s.replicas := rfl
@[simp] theorem State.modArm_patina (s : State) (g : GroupId) (f : Arm → Arm) : (s.modArm g f).patina = s.patina := rfl
@[simp] theorem State.modArm_tags (s : State) (g : GroupId) (f : Arm → Arm) : (s.modArm g f).tags = s.tags := rfl
@[simp] theorem State.modArm_shoots (s : State) (g : GroupId) (f : Arm → Arm) : (s.modArm g f).shoots = s.shoots := rfl
@[simp] theorem State.modArm_queues (s : State) (g : GroupId) (f : Arm → Arm) : (s.modArm g f).queues = s.queues := rfl
@[simp] theorem State.modArm_tasks (s : State) (g : GroupId) (f : Arm → Arm) : (s.modArm g f).tasks = s.tasks := rfl
@[simp] theorem State.modArm_parts (s : State) (g : GroupId) (f : Arm → Arm) : (s.modArm g f).parts = s.parts := rfl
@[simp] theorem State.modArm_hbmOwn (s : State) (g : GroupId) (f : Arm → Arm) : (s.modArm g f).hbmOwn = s.hbmOwn := rfl
@[simp] theorem State.modArm_lands (s : State) (g : GroupId) (f : Arm → Arm) : (s.modArm g f).lands = s.lands := rfl
@[simp] theorem State.modArm_fab (s : State) (g : GroupId) (f : Arm → Arm) : (s.modArm g f).fab = s.fab := rfl
@[simp] theorem State.modArm_boot (s : State) (g : GroupId) (f : Arm → Arm) : (s.modArm g f).boot = s.boot := rfl
@[simp] theorem State.modArm_peer (s : State) (g : GroupId) (f : Arm → Arm) : (s.modArm g f).peer = s.peer := rfl
@[simp] theorem State.modArm_domain (s : State) (g : GroupId) (f : Arm → Arm) : (s.modArm g f).domain = s.domain := rfl
@[simp] theorem State.modArm_supply (s : State) (g : GroupId) (f : Arm → Arm) : (s.modArm g f).supply = s.supply := rfl
@[simp] theorem State.modArm_budget (s : State) (g : GroupId) (f : Arm → Arm) : (s.modArm g f).budget = s.budget := rfl
@[simp] theorem State.modArm_hostMaxflow (s : State) (g : GroupId) (f : Arm → Arm) : (s.modArm g f).hostMaxflow = s.hostMaxflow := rfl
@[simp] theorem State.modArm_hostValve (s : State) (g : GroupId) (f : Arm → Arm) : (s.modArm g f).hostValve = s.hostValve := rfl
@[simp] theorem State.modArm_hcap (s : State) (g : GroupId) (f : Arm → Arm) : (s.modArm g f).hcap = s.hcap := rfl
@[simp] theorem State.modArm_hostData (s : State) (g : GroupId) (f : Arm → Arm) : (s.modArm g f).hostData = s.hostData := rfl
@[simp] theorem State.modArm_hostError (s : State) (g : GroupId) (f : Arm → Arm) : (s.modArm g f).hostError = s.hostError := rfl
@[simp] theorem State.modArm_hostQueue (s : State) (g : GroupId) (f : Arm → Arm) : (s.modArm g f).hostQueue = s.hostQueue := rfl
@[simp] theorem State.modArm_serial (s : State) (g : GroupId) (f : Arm → Arm) : (s.modArm g f).serial = s.serial := rfl
@[simp] theorem State.modArm_launched (s : State) (g : GroupId) (f : Arm → Arm) : (s.modArm g f).launched = s.launched := rfl
@[simp] theorem State.modArm_turns (s : State) (g : GroupId) (f : Arm → Arm) : (s.modArm g f).turns = s.turns := rfl
@[simp] theorem State.modArm_steps (s : State) (g : GroupId) (f : Arm → Arm) : (s.modArm g f).steps = s.steps := rfl
@[simp] theorem State.modArm_cur (s : State) (g : GroupId) (f : Arm → Arm) : (s.modArm g f).cur = s.cur := rfl
@[simp] theorem State.modArm_mark (s : State) (g : GroupId) (f : Arm → Arm) : (s.modArm g f).mark = s.mark := rfl

@[simp] theorem State.modTask_cores (s : State) (id : W32) (f : Task → Task) : (s.modTask id f).cores = s.cores := rfl
@[simp] theorem State.modTask_dies (s : State) (id : W32) (f : Task → Task) : (s.modTask id f).dies = s.dies := rfl
@[simp] theorem State.modTask_mem (s : State) (id : W32) (f : Task → Task) : (s.modTask id f).mem = s.mem := rfl
@[simp] theorem State.modTask_reqs (s : State) (id : W32) (f : Task → Task) : (s.modTask id f).reqs = s.reqs := rfl
@[simp] theorem State.modTask_homes (s : State) (id : W32) (f : Task → Task) : (s.modTask id f).homes = s.homes := rfl
@[simp] theorem State.modTask_replicas (s : State) (id : W32) (f : Task → Task) : (s.modTask id f).replicas = s.replicas := rfl
@[simp] theorem State.modTask_patina (s : State) (id : W32) (f : Task → Task) : (s.modTask id f).patina = s.patina := rfl
@[simp] theorem State.modTask_tags (s : State) (id : W32) (f : Task → Task) : (s.modTask id f).tags = s.tags := rfl
@[simp] theorem State.modTask_shoots (s : State) (id : W32) (f : Task → Task) : (s.modTask id f).shoots = s.shoots := rfl
@[simp] theorem State.modTask_queues (s : State) (id : W32) (f : Task → Task) : (s.modTask id f).queues = s.queues := rfl
@[simp] theorem State.modTask_arms (s : State) (id : W32) (f : Task → Task) : (s.modTask id f).arms = s.arms := rfl
@[simp] theorem State.modTask_parts (s : State) (id : W32) (f : Task → Task) : (s.modTask id f).parts = s.parts := rfl
@[simp] theorem State.modTask_hbmOwn (s : State) (id : W32) (f : Task → Task) : (s.modTask id f).hbmOwn = s.hbmOwn := rfl
@[simp] theorem State.modTask_lands (s : State) (id : W32) (f : Task → Task) : (s.modTask id f).lands = s.lands := rfl
@[simp] theorem State.modTask_fab (s : State) (id : W32) (f : Task → Task) : (s.modTask id f).fab = s.fab := rfl
@[simp] theorem State.modTask_boot (s : State) (id : W32) (f : Task → Task) : (s.modTask id f).boot = s.boot := rfl
@[simp] theorem State.modTask_peer (s : State) (id : W32) (f : Task → Task) : (s.modTask id f).peer = s.peer := rfl
@[simp] theorem State.modTask_domain (s : State) (id : W32) (f : Task → Task) : (s.modTask id f).domain = s.domain := rfl
@[simp] theorem State.modTask_supply (s : State) (id : W32) (f : Task → Task) : (s.modTask id f).supply = s.supply := rfl
@[simp] theorem State.modTask_budget (s : State) (id : W32) (f : Task → Task) : (s.modTask id f).budget = s.budget := rfl
@[simp] theorem State.modTask_hostMaxflow (s : State) (id : W32) (f : Task → Task) : (s.modTask id f).hostMaxflow = s.hostMaxflow := rfl
@[simp] theorem State.modTask_hostValve (s : State) (id : W32) (f : Task → Task) : (s.modTask id f).hostValve = s.hostValve := rfl
@[simp] theorem State.modTask_hcap (s : State) (id : W32) (f : Task → Task) : (s.modTask id f).hcap = s.hcap := rfl
@[simp] theorem State.modTask_hostData (s : State) (id : W32) (f : Task → Task) : (s.modTask id f).hostData = s.hostData := rfl
@[simp] theorem State.modTask_hostError (s : State) (id : W32) (f : Task → Task) : (s.modTask id f).hostError = s.hostError := rfl
@[simp] theorem State.modTask_hostQueue (s : State) (id : W32) (f : Task → Task) : (s.modTask id f).hostQueue = s.hostQueue := rfl
@[simp] theorem State.modTask_serial (s : State) (id : W32) (f : Task → Task) : (s.modTask id f).serial = s.serial := rfl
@[simp] theorem State.modTask_launched (s : State) (id : W32) (f : Task → Task) : (s.modTask id f).launched = s.launched := rfl
@[simp] theorem State.modTask_turns (s : State) (id : W32) (f : Task → Task) : (s.modTask id f).turns = s.turns := rfl
@[simp] theorem State.modTask_steps (s : State) (id : W32) (f : Task → Task) : (s.modTask id f).steps = s.steps := rfl
@[simp] theorem State.modTask_cur (s : State) (id : W32) (f : Task → Task) : (s.modTask id f).cur = s.cur := rfl
@[simp] theorem State.modTask_mark (s : State) (id : W32) (f : Task → Task) : (s.modTask id f).mark = s.mark := rfl

@[simp] theorem State.endTask_cores (s : State) (id : W32) (x y z : Byte) : (s.endTask id x y z).cores = s.cores := rfl
@[simp] theorem State.endTask_dies (s : State) (id : W32) (x y z : Byte) : (s.endTask id x y z).dies = s.dies := rfl
@[simp] theorem State.endTask_mem (s : State) (id : W32) (x y z : Byte) : (s.endTask id x y z).mem = s.mem := rfl
@[simp] theorem State.endTask_reqs (s : State) (id : W32) (x y z : Byte) : (s.endTask id x y z).reqs = s.reqs := rfl
@[simp] theorem State.endTask_homes (s : State) (id : W32) (x y z : Byte) : (s.endTask id x y z).homes = s.homes := rfl
@[simp] theorem State.endTask_replicas (s : State) (id : W32) (x y z : Byte) : (s.endTask id x y z).replicas = s.replicas := rfl
@[simp] theorem State.endTask_patina (s : State) (id : W32) (x y z : Byte) : (s.endTask id x y z).patina = s.patina := rfl
@[simp] theorem State.endTask_tags (s : State) (id : W32) (x y z : Byte) : (s.endTask id x y z).tags = s.tags := rfl
@[simp] theorem State.endTask_shoots (s : State) (id : W32) (x y z : Byte) : (s.endTask id x y z).shoots = s.shoots := rfl
@[simp] theorem State.endTask_queues (s : State) (id : W32) (x y z : Byte) : (s.endTask id x y z).queues = s.queues := rfl
@[simp] theorem State.endTask_arms (s : State) (id : W32) (x y z : Byte) : (s.endTask id x y z).arms = s.arms := rfl
@[simp] theorem State.endTask_parts (s : State) (id : W32) (x y z : Byte) : (s.endTask id x y z).parts = s.parts := rfl
@[simp] theorem State.endTask_hbmOwn (s : State) (id : W32) (x y z : Byte) : (s.endTask id x y z).hbmOwn = s.hbmOwn := rfl
@[simp] theorem State.endTask_lands (s : State) (id : W32) (x y z : Byte) : (s.endTask id x y z).lands = s.lands := rfl
@[simp] theorem State.endTask_fab (s : State) (id : W32) (x y z : Byte) : (s.endTask id x y z).fab = s.fab := rfl
@[simp] theorem State.endTask_boot (s : State) (id : W32) (x y z : Byte) : (s.endTask id x y z).boot = s.boot := rfl
@[simp] theorem State.endTask_peer (s : State) (id : W32) (x y z : Byte) : (s.endTask id x y z).peer = s.peer := rfl
@[simp] theorem State.endTask_domain (s : State) (id : W32) (x y z : Byte) : (s.endTask id x y z).domain = s.domain := rfl
@[simp] theorem State.endTask_supply (s : State) (id : W32) (x y z : Byte) : (s.endTask id x y z).supply = s.supply := rfl
@[simp] theorem State.endTask_budget (s : State) (id : W32) (x y z : Byte) : (s.endTask id x y z).budget = s.budget := rfl
@[simp] theorem State.endTask_hostMaxflow (s : State) (id : W32) (x y z : Byte) : (s.endTask id x y z).hostMaxflow = s.hostMaxflow := rfl
@[simp] theorem State.endTask_hostValve (s : State) (id : W32) (x y z : Byte) : (s.endTask id x y z).hostValve = s.hostValve := rfl
@[simp] theorem State.endTask_hcap (s : State) (id : W32) (x y z : Byte) : (s.endTask id x y z).hcap = s.hcap := rfl
@[simp] theorem State.endTask_hostData (s : State) (id : W32) (x y z : Byte) : (s.endTask id x y z).hostData = s.hostData := rfl
@[simp] theorem State.endTask_hostError (s : State) (id : W32) (x y z : Byte) : (s.endTask id x y z).hostError = s.hostError := rfl
@[simp] theorem State.endTask_hostQueue (s : State) (id : W32) (x y z : Byte) : (s.endTask id x y z).hostQueue = s.hostQueue := rfl
@[simp] theorem State.endTask_serial (s : State) (id : W32) (x y z : Byte) : (s.endTask id x y z).serial = s.serial := rfl
@[simp] theorem State.endTask_launched (s : State) (id : W32) (x y z : Byte) : (s.endTask id x y z).launched = s.launched := rfl
@[simp] theorem State.endTask_turns (s : State) (id : W32) (x y z : Byte) : (s.endTask id x y z).turns = s.turns := rfl
@[simp] theorem State.endTask_steps (s : State) (id : W32) (x y z : Byte) : (s.endTask id x y z).steps = s.steps := rfl
@[simp] theorem State.endTask_cur (s : State) (id : W32) (x y z : Byte) : (s.endTask id x y z).cur = s.cur := rfl
@[simp] theorem State.endTask_mark (s : State) (id : W32) (x y z : Byte) : (s.endTask id x y z).mark = s.mark := rfl

@[simp] theorem State.bump_cores (s : State) : (s.bump).cores = s.cores := rfl
@[simp] theorem State.bump_dies (s : State) : (s.bump).dies = s.dies := rfl
@[simp] theorem State.bump_mem (s : State) : (s.bump).mem = s.mem := rfl
@[simp] theorem State.bump_reqs (s : State) : (s.bump).reqs = s.reqs := rfl
@[simp] theorem State.bump_homes (s : State) : (s.bump).homes = s.homes := rfl
@[simp] theorem State.bump_replicas (s : State) : (s.bump).replicas = s.replicas := rfl
@[simp] theorem State.bump_patina (s : State) : (s.bump).patina = s.patina := rfl
@[simp] theorem State.bump_tags (s : State) : (s.bump).tags = s.tags := rfl
@[simp] theorem State.bump_shoots (s : State) : (s.bump).shoots = s.shoots := rfl
@[simp] theorem State.bump_queues (s : State) : (s.bump).queues = s.queues := rfl
@[simp] theorem State.bump_tasks (s : State) : (s.bump).tasks = s.tasks := rfl
@[simp] theorem State.bump_arms (s : State) : (s.bump).arms = s.arms := rfl
@[simp] theorem State.bump_parts (s : State) : (s.bump).parts = s.parts := rfl
@[simp] theorem State.bump_hbmOwn (s : State) : (s.bump).hbmOwn = s.hbmOwn := rfl
@[simp] theorem State.bump_lands (s : State) : (s.bump).lands = s.lands := rfl
@[simp] theorem State.bump_fab (s : State) : (s.bump).fab = s.fab := rfl
@[simp] theorem State.bump_boot (s : State) : (s.bump).boot = s.boot := rfl
@[simp] theorem State.bump_peer (s : State) : (s.bump).peer = s.peer := rfl
@[simp] theorem State.bump_domain (s : State) : (s.bump).domain = s.domain := rfl
@[simp] theorem State.bump_supply (s : State) : (s.bump).supply = s.supply := rfl
@[simp] theorem State.bump_budget (s : State) : (s.bump).budget = s.budget := rfl
@[simp] theorem State.bump_hostMaxflow (s : State) : (s.bump).hostMaxflow = s.hostMaxflow := rfl
@[simp] theorem State.bump_hostValve (s : State) : (s.bump).hostValve = s.hostValve := rfl
@[simp] theorem State.bump_hcap (s : State) : (s.bump).hcap = s.hcap := rfl
@[simp] theorem State.bump_hostData (s : State) : (s.bump).hostData = s.hostData := rfl
@[simp] theorem State.bump_hostError (s : State) : (s.bump).hostError = s.hostError := rfl
@[simp] theorem State.bump_hostQueue (s : State) : (s.bump).hostQueue = s.hostQueue := rfl
@[simp] theorem State.bump_launched (s : State) : (s.bump).launched = s.launched := rfl
@[simp] theorem State.bump_turns (s : State) : (s.bump).turns = s.turns := rfl
@[simp] theorem State.bump_steps (s : State) : (s.bump).steps = s.steps := rfl
@[simp] theorem State.bump_cur (s : State) : (s.bump).cur = s.cur := rfl
@[simp] theorem State.bump_mark (s : State) : (s.bump).mark = s.mark := rfl

@[simp] theorem State.hold_cores (s : State) (h : Hold) : (s.hold h).cores = s.cores := rfl
@[simp] theorem State.hold_dies (s : State) (h : Hold) : (s.hold h).dies = s.dies := rfl
@[simp] theorem State.hold_mem (s : State) (h : Hold) : (s.hold h).mem = s.mem := rfl
@[simp] theorem State.hold_reqs (s : State) (h : Hold) : (s.hold h).reqs = s.reqs := rfl
@[simp] theorem State.hold_homes (s : State) (h : Hold) : (s.hold h).homes = s.homes := rfl
@[simp] theorem State.hold_replicas (s : State) (h : Hold) : (s.hold h).replicas = s.replicas := rfl
@[simp] theorem State.hold_patina (s : State) (h : Hold) : (s.hold h).patina = s.patina := rfl
@[simp] theorem State.hold_tags (s : State) (h : Hold) : (s.hold h).tags = s.tags := rfl
@[simp] theorem State.hold_shoots (s : State) (h : Hold) : (s.hold h).shoots = s.shoots := rfl
@[simp] theorem State.hold_queues (s : State) (h : Hold) : (s.hold h).queues = s.queues := rfl
@[simp] theorem State.hold_tasks (s : State) (h : Hold) : (s.hold h).tasks = s.tasks := rfl
@[simp] theorem State.hold_arms (s : State) (h : Hold) : (s.hold h).arms = s.arms := rfl
@[simp] theorem State.hold_parts (s : State) (h : Hold) : (s.hold h).parts = s.parts := rfl
@[simp] theorem State.hold_hbmOwn (s : State) (h : Hold) : (s.hold h).hbmOwn = s.hbmOwn := rfl
@[simp] theorem State.hold_lands (s : State) (h : Hold) : (s.hold h).lands = s.lands := rfl
@[simp] theorem State.hold_fab (s : State) (h : Hold) : (s.hold h).fab = s.fab := rfl
@[simp] theorem State.hold_boot (s : State) (h : Hold) : (s.hold h).boot = s.boot := rfl
@[simp] theorem State.hold_peer (s : State) (h : Hold) : (s.hold h).peer = s.peer := rfl
@[simp] theorem State.hold_domain (s : State) (h : Hold) : (s.hold h).domain = s.domain := rfl
@[simp] theorem State.hold_supply (s : State) (h : Hold) : (s.hold h).supply = s.supply := rfl
@[simp] theorem State.hold_budget (s : State) (h : Hold) : (s.hold h).budget = s.budget := rfl
@[simp] theorem State.hold_hostMaxflow (s : State) (h : Hold) : (s.hold h).hostMaxflow = s.hostMaxflow := rfl
@[simp] theorem State.hold_hostValve (s : State) (h : Hold) : (s.hold h).hostValve = s.hostValve := rfl
@[simp] theorem State.hold_hcap (s : State) (h : Hold) : (s.hold h).hcap = s.hcap := rfl
@[simp] theorem State.hold_hostData (s : State) (h : Hold) : (s.hold h).hostData = s.hostData := rfl
@[simp] theorem State.hold_hostError (s : State) (h : Hold) : (s.hold h).hostError = s.hostError := rfl
@[simp] theorem State.hold_hostQueue (s : State) (h : Hold) : (s.hold h).hostQueue = s.hostQueue := rfl
@[simp] theorem State.hold_serial (s : State) (h : Hold) : (s.hold h).serial = s.serial := rfl
@[simp] theorem State.hold_launched (s : State) (h : Hold) : (s.hold h).launched = s.launched := rfl
@[simp] theorem State.hold_turns (s : State) (h : Hold) : (s.hold h).turns = s.turns := rfl
@[simp] theorem State.hold_steps (s : State) (h : Hold) : (s.hold h).steps = s.steps := rfl
@[simp] theorem State.hold_cur (s : State) (h : Hold) : (s.hold h).cur = s.cur := rfl

@[simp] theorem State.trap_cores (s : State) (t : Trap) : (s.trap t).cores = s.cores := rfl
@[simp] theorem State.trap_dies (s : State) (t : Trap) : (s.trap t).dies = s.dies := rfl
@[simp] theorem State.trap_mem (s : State) (t : Trap) : (s.trap t).mem = s.mem := rfl
@[simp] theorem State.trap_reqs (s : State) (t : Trap) : (s.trap t).reqs = s.reqs := rfl
@[simp] theorem State.trap_homes (s : State) (t : Trap) : (s.trap t).homes = s.homes := rfl
@[simp] theorem State.trap_replicas (s : State) (t : Trap) : (s.trap t).replicas = s.replicas := rfl
@[simp] theorem State.trap_patina (s : State) (t : Trap) : (s.trap t).patina = s.patina := rfl
@[simp] theorem State.trap_tags (s : State) (t : Trap) : (s.trap t).tags = s.tags := rfl
@[simp] theorem State.trap_shoots (s : State) (t : Trap) : (s.trap t).shoots = s.shoots := rfl
@[simp] theorem State.trap_queues (s : State) (t : Trap) : (s.trap t).queues = s.queues := rfl
@[simp] theorem State.trap_tasks (s : State) (t : Trap) : (s.trap t).tasks = s.tasks := rfl
@[simp] theorem State.trap_arms (s : State) (t : Trap) : (s.trap t).arms = s.arms := rfl
@[simp] theorem State.trap_parts (s : State) (t : Trap) : (s.trap t).parts = s.parts := rfl
@[simp] theorem State.trap_hbmOwn (s : State) (t : Trap) : (s.trap t).hbmOwn = s.hbmOwn := rfl
@[simp] theorem State.trap_lands (s : State) (t : Trap) : (s.trap t).lands = s.lands := rfl
@[simp] theorem State.trap_fab (s : State) (t : Trap) : (s.trap t).fab = s.fab := rfl
@[simp] theorem State.trap_boot (s : State) (t : Trap) : (s.trap t).boot = s.boot := rfl
@[simp] theorem State.trap_peer (s : State) (t : Trap) : (s.trap t).peer = s.peer := rfl
@[simp] theorem State.trap_domain (s : State) (t : Trap) : (s.trap t).domain = s.domain := rfl
@[simp] theorem State.trap_supply (s : State) (t : Trap) : (s.trap t).supply = s.supply := rfl
@[simp] theorem State.trap_budget (s : State) (t : Trap) : (s.trap t).budget = s.budget := rfl
@[simp] theorem State.trap_hostMaxflow (s : State) (t : Trap) : (s.trap t).hostMaxflow = s.hostMaxflow := rfl
@[simp] theorem State.trap_hostValve (s : State) (t : Trap) : (s.trap t).hostValve = s.hostValve := rfl
@[simp] theorem State.trap_hcap (s : State) (t : Trap) : (s.trap t).hcap = s.hcap := rfl
@[simp] theorem State.trap_hostData (s : State) (t : Trap) : (s.trap t).hostData = s.hostData := rfl
@[simp] theorem State.trap_hostError (s : State) (t : Trap) : (s.trap t).hostError = s.hostError := rfl
@[simp] theorem State.trap_hostQueue (s : State) (t : Trap) : (s.trap t).hostQueue = s.hostQueue := rfl
@[simp] theorem State.trap_serial (s : State) (t : Trap) : (s.trap t).serial = s.serial := rfl
@[simp] theorem State.trap_launched (s : State) (t : Trap) : (s.trap t).launched = s.launched := rfl
@[simp] theorem State.trap_turns (s : State) (t : Trap) : (s.trap t).turns = s.turns := rfl
@[simp] theorem State.trap_steps (s : State) (t : Trap) : (s.trap t).steps = s.steps := rfl
@[simp] theorem State.trap_cur (s : State) (t : Trap) : (s.trap t).cur = s.cur := rfl

@[simp] theorem State.post_dies (s : State) (e : Eng) (l : Nat) (w : Wr) (g : Flags8) : (s.post e l w g).dies = s.dies := rfl
@[simp] theorem State.post_mem (s : State) (e : Eng) (l : Nat) (w : Wr) (g : Flags8) : (s.post e l w g).mem = s.mem := rfl
@[simp] theorem State.post_reqs (s : State) (e : Eng) (l : Nat) (w : Wr) (g : Flags8) : (s.post e l w g).reqs = s.reqs := rfl
@[simp] theorem State.post_homes (s : State) (e : Eng) (l : Nat) (w : Wr) (g : Flags8) : (s.post e l w g).homes = s.homes := rfl
@[simp] theorem State.post_replicas (s : State) (e : Eng) (l : Nat) (w : Wr) (g : Flags8) : (s.post e l w g).replicas = s.replicas := rfl
@[simp] theorem State.post_patina (s : State) (e : Eng) (l : Nat) (w : Wr) (g : Flags8) : (s.post e l w g).patina = s.patina := rfl
@[simp] theorem State.post_tags (s : State) (e : Eng) (l : Nat) (w : Wr) (g : Flags8) : (s.post e l w g).tags = s.tags := rfl
@[simp] theorem State.post_shoots (s : State) (e : Eng) (l : Nat) (w : Wr) (g : Flags8) : (s.post e l w g).shoots = s.shoots := rfl
@[simp] theorem State.post_queues (s : State) (e : Eng) (l : Nat) (w : Wr) (g : Flags8) : (s.post e l w g).queues = s.queues := rfl
@[simp] theorem State.post_tasks (s : State) (e : Eng) (l : Nat) (w : Wr) (g : Flags8) : (s.post e l w g).tasks = s.tasks := rfl
@[simp] theorem State.post_arms (s : State) (e : Eng) (l : Nat) (w : Wr) (g : Flags8) : (s.post e l w g).arms = s.arms := rfl
@[simp] theorem State.post_parts (s : State) (e : Eng) (l : Nat) (w : Wr) (g : Flags8) : (s.post e l w g).parts = s.parts := rfl
@[simp] theorem State.post_hbmOwn (s : State) (e : Eng) (l : Nat) (w : Wr) (g : Flags8) : (s.post e l w g).hbmOwn = s.hbmOwn := rfl
@[simp] theorem State.post_lands (s : State) (e : Eng) (l : Nat) (w : Wr) (g : Flags8) : (s.post e l w g).lands = s.lands := rfl
@[simp] theorem State.post_fab (s : State) (e : Eng) (l : Nat) (w : Wr) (g : Flags8) : (s.post e l w g).fab = s.fab := rfl
@[simp] theorem State.post_boot (s : State) (e : Eng) (l : Nat) (w : Wr) (g : Flags8) : (s.post e l w g).boot = s.boot := rfl
@[simp] theorem State.post_peer (s : State) (e : Eng) (l : Nat) (w : Wr) (g : Flags8) : (s.post e l w g).peer = s.peer := rfl
@[simp] theorem State.post_domain (s : State) (e : Eng) (l : Nat) (w : Wr) (g : Flags8) : (s.post e l w g).domain = s.domain := rfl
@[simp] theorem State.post_supply (s : State) (e : Eng) (l : Nat) (w : Wr) (g : Flags8) : (s.post e l w g).supply = s.supply := rfl
@[simp] theorem State.post_budget (s : State) (e : Eng) (l : Nat) (w : Wr) (g : Flags8) : (s.post e l w g).budget = s.budget := rfl
@[simp] theorem State.post_hostMaxflow (s : State) (e : Eng) (l : Nat) (w : Wr) (g : Flags8) : (s.post e l w g).hostMaxflow = s.hostMaxflow := rfl
@[simp] theorem State.post_hostValve (s : State) (e : Eng) (l : Nat) (w : Wr) (g : Flags8) : (s.post e l w g).hostValve = s.hostValve := rfl
@[simp] theorem State.post_hcap (s : State) (e : Eng) (l : Nat) (w : Wr) (g : Flags8) : (s.post e l w g).hcap = s.hcap := rfl
@[simp] theorem State.post_hostData (s : State) (e : Eng) (l : Nat) (w : Wr) (g : Flags8) : (s.post e l w g).hostData = s.hostData := rfl
@[simp] theorem State.post_hostError (s : State) (e : Eng) (l : Nat) (w : Wr) (g : Flags8) : (s.post e l w g).hostError = s.hostError := rfl
@[simp] theorem State.post_hostQueue (s : State) (e : Eng) (l : Nat) (w : Wr) (g : Flags8) : (s.post e l w g).hostQueue = s.hostQueue := rfl
@[simp] theorem State.post_serial (s : State) (e : Eng) (l : Nat) (w : Wr) (g : Flags8) : (s.post e l w g).serial = s.serial := rfl
@[simp] theorem State.post_launched (s : State) (e : Eng) (l : Nat) (w : Wr) (g : Flags8) : (s.post e l w g).launched = s.launched := rfl
@[simp] theorem State.post_turns (s : State) (e : Eng) (l : Nat) (w : Wr) (g : Flags8) : (s.post e l w g).turns = s.turns := rfl
@[simp] theorem State.post_steps (s : State) (e : Eng) (l : Nat) (w : Wr) (g : Flags8) : (s.post e l w g).steps = s.steps := rfl
@[simp] theorem State.post_cur (s : State) (e : Eng) (l : Nat) (w : Wr) (g : Flags8) : (s.post e l w g).cur = s.cur := rfl
@[simp] theorem State.post_mark (s : State) (e : Eng) (l : Nat) (w : Wr) (g : Flags8) : (s.post e l w g).mark = s.mark := rfl

@[simp] theorem State.setByte_cores (s : State) (a : Nat) (b : Byte) : (s.setByte a b).cores = s.cores := rfl
@[simp] theorem State.setByte_dies (s : State) (a : Nat) (b : Byte) : (s.setByte a b).dies = s.dies := rfl
@[simp] theorem State.setByte_reqs (s : State) (a : Nat) (b : Byte) : (s.setByte a b).reqs = s.reqs := rfl
@[simp] theorem State.setByte_homes (s : State) (a : Nat) (b : Byte) : (s.setByte a b).homes = s.homes := rfl
@[simp] theorem State.setByte_replicas (s : State) (a : Nat) (b : Byte) : (s.setByte a b).replicas = s.replicas := rfl
@[simp] theorem State.setByte_patina (s : State) (a : Nat) (b : Byte) : (s.setByte a b).patina = s.patina := rfl
@[simp] theorem State.setByte_tags (s : State) (a : Nat) (b : Byte) : (s.setByte a b).tags = s.tags := rfl
@[simp] theorem State.setByte_shoots (s : State) (a : Nat) (b : Byte) : (s.setByte a b).shoots = s.shoots := rfl
@[simp] theorem State.setByte_queues (s : State) (a : Nat) (b : Byte) : (s.setByte a b).queues = s.queues := rfl
@[simp] theorem State.setByte_tasks (s : State) (a : Nat) (b : Byte) : (s.setByte a b).tasks = s.tasks := rfl
@[simp] theorem State.setByte_arms (s : State) (a : Nat) (b : Byte) : (s.setByte a b).arms = s.arms := rfl
@[simp] theorem State.setByte_parts (s : State) (a : Nat) (b : Byte) : (s.setByte a b).parts = s.parts := rfl
@[simp] theorem State.setByte_hbmOwn (s : State) (a : Nat) (b : Byte) : (s.setByte a b).hbmOwn = s.hbmOwn := rfl
@[simp] theorem State.setByte_lands (s : State) (a : Nat) (b : Byte) : (s.setByte a b).lands = s.lands := rfl
@[simp] theorem State.setByte_fab (s : State) (a : Nat) (b : Byte) : (s.setByte a b).fab = s.fab := rfl
@[simp] theorem State.setByte_boot (s : State) (a : Nat) (b : Byte) : (s.setByte a b).boot = s.boot := rfl
@[simp] theorem State.setByte_peer (s : State) (a : Nat) (b : Byte) : (s.setByte a b).peer = s.peer := rfl
@[simp] theorem State.setByte_domain (s : State) (a : Nat) (b : Byte) : (s.setByte a b).domain = s.domain := rfl
@[simp] theorem State.setByte_supply (s : State) (a : Nat) (b : Byte) : (s.setByte a b).supply = s.supply := rfl
@[simp] theorem State.setByte_budget (s : State) (a : Nat) (b : Byte) : (s.setByte a b).budget = s.budget := rfl
@[simp] theorem State.setByte_hostMaxflow (s : State) (a : Nat) (b : Byte) : (s.setByte a b).hostMaxflow = s.hostMaxflow := rfl
@[simp] theorem State.setByte_hostValve (s : State) (a : Nat) (b : Byte) : (s.setByte a b).hostValve = s.hostValve := rfl
@[simp] theorem State.setByte_hcap (s : State) (a : Nat) (b : Byte) : (s.setByte a b).hcap = s.hcap := rfl
@[simp] theorem State.setByte_hostData (s : State) (a : Nat) (b : Byte) : (s.setByte a b).hostData = s.hostData := rfl
@[simp] theorem State.setByte_hostError (s : State) (a : Nat) (b : Byte) : (s.setByte a b).hostError = s.hostError := rfl
@[simp] theorem State.setByte_hostQueue (s : State) (a : Nat) (b : Byte) : (s.setByte a b).hostQueue = s.hostQueue := rfl
@[simp] theorem State.setByte_serial (s : State) (a : Nat) (b : Byte) : (s.setByte a b).serial = s.serial := rfl
@[simp] theorem State.setByte_launched (s : State) (a : Nat) (b : Byte) : (s.setByte a b).launched = s.launched := rfl
@[simp] theorem State.setByte_turns (s : State) (a : Nat) (b : Byte) : (s.setByte a b).turns = s.turns := rfl
@[simp] theorem State.setByte_steps (s : State) (a : Nat) (b : Byte) : (s.setByte a b).steps = s.steps := rfl
@[simp] theorem State.setByte_cur (s : State) (a : Nat) (b : Byte) : (s.setByte a b).cur = s.cur := rfl
@[simp] theorem State.setByte_mark (s : State) (a : Nat) (b : Byte) : (s.setByte a b).mark = s.mark := rfl

@[simp] theorem State.writeList_cores (s : State) (l : List (Nat × Byte)) : (s.writeList l).cores = s.cores := rfl
@[simp] theorem State.writeList_dies (s : State) (l : List (Nat × Byte)) : (s.writeList l).dies = s.dies := rfl
@[simp] theorem State.writeList_reqs (s : State) (l : List (Nat × Byte)) : (s.writeList l).reqs = s.reqs := rfl
@[simp] theorem State.writeList_homes (s : State) (l : List (Nat × Byte)) : (s.writeList l).homes = s.homes := rfl
@[simp] theorem State.writeList_replicas (s : State) (l : List (Nat × Byte)) : (s.writeList l).replicas = s.replicas := rfl
@[simp] theorem State.writeList_patina (s : State) (l : List (Nat × Byte)) : (s.writeList l).patina = s.patina := rfl
@[simp] theorem State.writeList_tags (s : State) (l : List (Nat × Byte)) : (s.writeList l).tags = s.tags := rfl
@[simp] theorem State.writeList_shoots (s : State) (l : List (Nat × Byte)) : (s.writeList l).shoots = s.shoots := rfl
@[simp] theorem State.writeList_queues (s : State) (l : List (Nat × Byte)) : (s.writeList l).queues = s.queues := rfl
@[simp] theorem State.writeList_tasks (s : State) (l : List (Nat × Byte)) : (s.writeList l).tasks = s.tasks := rfl
@[simp] theorem State.writeList_arms (s : State) (l : List (Nat × Byte)) : (s.writeList l).arms = s.arms := rfl
@[simp] theorem State.writeList_parts (s : State) (l : List (Nat × Byte)) : (s.writeList l).parts = s.parts := rfl
@[simp] theorem State.writeList_hbmOwn (s : State) (l : List (Nat × Byte)) : (s.writeList l).hbmOwn = s.hbmOwn := rfl
@[simp] theorem State.writeList_lands (s : State) (l : List (Nat × Byte)) : (s.writeList l).lands = s.lands := rfl
@[simp] theorem State.writeList_fab (s : State) (l : List (Nat × Byte)) : (s.writeList l).fab = s.fab := rfl
@[simp] theorem State.writeList_boot (s : State) (l : List (Nat × Byte)) : (s.writeList l).boot = s.boot := rfl
@[simp] theorem State.writeList_peer (s : State) (l : List (Nat × Byte)) : (s.writeList l).peer = s.peer := rfl
@[simp] theorem State.writeList_domain (s : State) (l : List (Nat × Byte)) : (s.writeList l).domain = s.domain := rfl
@[simp] theorem State.writeList_supply (s : State) (l : List (Nat × Byte)) : (s.writeList l).supply = s.supply := rfl
@[simp] theorem State.writeList_budget (s : State) (l : List (Nat × Byte)) : (s.writeList l).budget = s.budget := rfl
@[simp] theorem State.writeList_hostMaxflow (s : State) (l : List (Nat × Byte)) : (s.writeList l).hostMaxflow = s.hostMaxflow := rfl
@[simp] theorem State.writeList_hostValve (s : State) (l : List (Nat × Byte)) : (s.writeList l).hostValve = s.hostValve := rfl
@[simp] theorem State.writeList_hcap (s : State) (l : List (Nat × Byte)) : (s.writeList l).hcap = s.hcap := rfl
@[simp] theorem State.writeList_hostData (s : State) (l : List (Nat × Byte)) : (s.writeList l).hostData = s.hostData := rfl
@[simp] theorem State.writeList_hostError (s : State) (l : List (Nat × Byte)) : (s.writeList l).hostError = s.hostError := rfl
@[simp] theorem State.writeList_hostQueue (s : State) (l : List (Nat × Byte)) : (s.writeList l).hostQueue = s.hostQueue := rfl
@[simp] theorem State.writeList_serial (s : State) (l : List (Nat × Byte)) : (s.writeList l).serial = s.serial := rfl
@[simp] theorem State.writeList_launched (s : State) (l : List (Nat × Byte)) : (s.writeList l).launched = s.launched := rfl
@[simp] theorem State.writeList_turns (s : State) (l : List (Nat × Byte)) : (s.writeList l).turns = s.turns := rfl
@[simp] theorem State.writeList_steps (s : State) (l : List (Nat × Byte)) : (s.writeList l).steps = s.steps := rfl
@[simp] theorem State.writeList_cur (s : State) (l : List (Nat × Byte)) : (s.writeList l).cur = s.cur := rfl
@[simp] theorem State.writeList_mark (s : State) (l : List (Nat × Byte)) : (s.writeList l).mark = s.mark := rfl

@[simp] theorem State.postReq_cores (s : State) (p : Path) (k : ReqKind) (l : List Piece) (d : Dest) (q r : Option (BitVec 3)) : (s.postReq p k l d q r).cores = s.cores := rfl
@[simp] theorem State.postReq_dies (s : State) (p : Path) (k : ReqKind) (l : List Piece) (d : Dest) (q r : Option (BitVec 3)) : (s.postReq p k l d q r).dies = s.dies := rfl
@[simp] theorem State.postReq_mem (s : State) (p : Path) (k : ReqKind) (l : List Piece) (d : Dest) (q r : Option (BitVec 3)) : (s.postReq p k l d q r).mem = s.mem := rfl
@[simp] theorem State.postReq_homes (s : State) (p : Path) (k : ReqKind) (l : List Piece) (d : Dest) (q r : Option (BitVec 3)) : (s.postReq p k l d q r).homes = s.homes := rfl
@[simp] theorem State.postReq_replicas (s : State) (p : Path) (k : ReqKind) (l : List Piece) (d : Dest) (q r : Option (BitVec 3)) : (s.postReq p k l d q r).replicas = s.replicas := rfl
@[simp] theorem State.postReq_patina (s : State) (p : Path) (k : ReqKind) (l : List Piece) (d : Dest) (q r : Option (BitVec 3)) : (s.postReq p k l d q r).patina = s.patina := rfl
@[simp] theorem State.postReq_tags (s : State) (p : Path) (k : ReqKind) (l : List Piece) (d : Dest) (q r : Option (BitVec 3)) : (s.postReq p k l d q r).tags = s.tags := rfl
@[simp] theorem State.postReq_shoots (s : State) (p : Path) (k : ReqKind) (l : List Piece) (d : Dest) (q r : Option (BitVec 3)) : (s.postReq p k l d q r).shoots = s.shoots := rfl
@[simp] theorem State.postReq_queues (s : State) (p : Path) (k : ReqKind) (l : List Piece) (d : Dest) (q r : Option (BitVec 3)) : (s.postReq p k l d q r).queues = s.queues := rfl
@[simp] theorem State.postReq_tasks (s : State) (p : Path) (k : ReqKind) (l : List Piece) (d : Dest) (q r : Option (BitVec 3)) : (s.postReq p k l d q r).tasks = s.tasks := rfl
@[simp] theorem State.postReq_arms (s : State) (p : Path) (k : ReqKind) (l : List Piece) (d : Dest) (q r : Option (BitVec 3)) : (s.postReq p k l d q r).arms = s.arms := rfl
@[simp] theorem State.postReq_parts (s : State) (p : Path) (k : ReqKind) (l : List Piece) (d : Dest) (q r : Option (BitVec 3)) : (s.postReq p k l d q r).parts = s.parts := rfl
@[simp] theorem State.postReq_hbmOwn (s : State) (p : Path) (k : ReqKind) (l : List Piece) (d : Dest) (q r : Option (BitVec 3)) : (s.postReq p k l d q r).hbmOwn = s.hbmOwn := rfl
@[simp] theorem State.postReq_lands (s : State) (p : Path) (k : ReqKind) (l : List Piece) (d : Dest) (q r : Option (BitVec 3)) : (s.postReq p k l d q r).lands = s.lands := rfl
@[simp] theorem State.postReq_fab (s : State) (p : Path) (k : ReqKind) (l : List Piece) (d : Dest) (q r : Option (BitVec 3)) : (s.postReq p k l d q r).fab = s.fab := rfl
@[simp] theorem State.postReq_boot (s : State) (p : Path) (k : ReqKind) (l : List Piece) (d : Dest) (q r : Option (BitVec 3)) : (s.postReq p k l d q r).boot = s.boot := rfl
@[simp] theorem State.postReq_peer (s : State) (p : Path) (k : ReqKind) (l : List Piece) (d : Dest) (q r : Option (BitVec 3)) : (s.postReq p k l d q r).peer = s.peer := rfl
@[simp] theorem State.postReq_domain (s : State) (p : Path) (k : ReqKind) (l : List Piece) (d : Dest) (q r : Option (BitVec 3)) : (s.postReq p k l d q r).domain = s.domain := rfl
@[simp] theorem State.postReq_supply (s : State) (p : Path) (k : ReqKind) (l : List Piece) (d : Dest) (q r : Option (BitVec 3)) : (s.postReq p k l d q r).supply = s.supply := rfl
@[simp] theorem State.postReq_budget (s : State) (p : Path) (k : ReqKind) (l : List Piece) (d : Dest) (q r : Option (BitVec 3)) : (s.postReq p k l d q r).budget = s.budget := rfl
@[simp] theorem State.postReq_hostMaxflow (s : State) (p : Path) (k : ReqKind) (l : List Piece) (d : Dest) (q r : Option (BitVec 3)) : (s.postReq p k l d q r).hostMaxflow = s.hostMaxflow := rfl
@[simp] theorem State.postReq_hostValve (s : State) (p : Path) (k : ReqKind) (l : List Piece) (d : Dest) (q r : Option (BitVec 3)) : (s.postReq p k l d q r).hostValve = s.hostValve := rfl
@[simp] theorem State.postReq_hcap (s : State) (p : Path) (k : ReqKind) (l : List Piece) (d : Dest) (q r : Option (BitVec 3)) : (s.postReq p k l d q r).hcap = s.hcap := rfl
@[simp] theorem State.postReq_hostData (s : State) (p : Path) (k : ReqKind) (l : List Piece) (d : Dest) (q r : Option (BitVec 3)) : (s.postReq p k l d q r).hostData = s.hostData := rfl
@[simp] theorem State.postReq_hostError (s : State) (p : Path) (k : ReqKind) (l : List Piece) (d : Dest) (q r : Option (BitVec 3)) : (s.postReq p k l d q r).hostError = s.hostError := rfl
@[simp] theorem State.postReq_hostQueue (s : State) (p : Path) (k : ReqKind) (l : List Piece) (d : Dest) (q r : Option (BitVec 3)) : (s.postReq p k l d q r).hostQueue = s.hostQueue := rfl
@[simp] theorem State.postReq_launched (s : State) (p : Path) (k : ReqKind) (l : List Piece) (d : Dest) (q r : Option (BitVec 3)) : (s.postReq p k l d q r).launched = s.launched := rfl
@[simp] theorem State.postReq_turns (s : State) (p : Path) (k : ReqKind) (l : List Piece) (d : Dest) (q r : Option (BitVec 3)) : (s.postReq p k l d q r).turns = s.turns := rfl
@[simp] theorem State.postReq_steps (s : State) (p : Path) (k : ReqKind) (l : List Piece) (d : Dest) (q r : Option (BitVec 3)) : (s.postReq p k l d q r).steps = s.steps := rfl
@[simp] theorem State.postReq_cur (s : State) (p : Path) (k : ReqKind) (l : List Piece) (d : Dest) (q r : Option (BitVec 3)) : (s.postReq p k l d q r).cur = s.cur := rfl
@[simp] theorem State.postReq_mark (s : State) (p : Path) (k : ReqKind) (l : List Piece) (d : Dest) (q r : Option (BitVec 3)) : (s.postReq p k l d q r).mark = s.mark := rfl

@[simp] theorem State.await_dies (s : State) (g : SReg) : (s.await g).dies = s.dies := rfl
@[simp] theorem State.await_mem (s : State) (g : SReg) : (s.await g).mem = s.mem := rfl
@[simp] theorem State.await_reqs (s : State) (g : SReg) : (s.await g).reqs = s.reqs := rfl
@[simp] theorem State.await_homes (s : State) (g : SReg) : (s.await g).homes = s.homes := rfl
@[simp] theorem State.await_replicas (s : State) (g : SReg) : (s.await g).replicas = s.replicas := rfl
@[simp] theorem State.await_patina (s : State) (g : SReg) : (s.await g).patina = s.patina := rfl
@[simp] theorem State.await_tags (s : State) (g : SReg) : (s.await g).tags = s.tags := rfl
@[simp] theorem State.await_shoots (s : State) (g : SReg) : (s.await g).shoots = s.shoots := rfl
@[simp] theorem State.await_queues (s : State) (g : SReg) : (s.await g).queues = s.queues := rfl
@[simp] theorem State.await_tasks (s : State) (g : SReg) : (s.await g).tasks = s.tasks := rfl
@[simp] theorem State.await_arms (s : State) (g : SReg) : (s.await g).arms = s.arms := rfl
@[simp] theorem State.await_parts (s : State) (g : SReg) : (s.await g).parts = s.parts := rfl
@[simp] theorem State.await_hbmOwn (s : State) (g : SReg) : (s.await g).hbmOwn = s.hbmOwn := rfl
@[simp] theorem State.await_lands (s : State) (g : SReg) : (s.await g).lands = s.lands := rfl
@[simp] theorem State.await_fab (s : State) (g : SReg) : (s.await g).fab = s.fab := rfl
@[simp] theorem State.await_boot (s : State) (g : SReg) : (s.await g).boot = s.boot := rfl
@[simp] theorem State.await_peer (s : State) (g : SReg) : (s.await g).peer = s.peer := rfl
@[simp] theorem State.await_domain (s : State) (g : SReg) : (s.await g).domain = s.domain := rfl
@[simp] theorem State.await_supply (s : State) (g : SReg) : (s.await g).supply = s.supply := rfl
@[simp] theorem State.await_budget (s : State) (g : SReg) : (s.await g).budget = s.budget := rfl
@[simp] theorem State.await_hostMaxflow (s : State) (g : SReg) : (s.await g).hostMaxflow = s.hostMaxflow := rfl
@[simp] theorem State.await_hostValve (s : State) (g : SReg) : (s.await g).hostValve = s.hostValve := rfl
@[simp] theorem State.await_hcap (s : State) (g : SReg) : (s.await g).hcap = s.hcap := rfl
@[simp] theorem State.await_hostData (s : State) (g : SReg) : (s.await g).hostData = s.hostData := rfl
@[simp] theorem State.await_hostError (s : State) (g : SReg) : (s.await g).hostError = s.hostError := rfl
@[simp] theorem State.await_hostQueue (s : State) (g : SReg) : (s.await g).hostQueue = s.hostQueue := rfl
@[simp] theorem State.await_serial (s : State) (g : SReg) : (s.await g).serial = s.serial := rfl
@[simp] theorem State.await_launched (s : State) (g : SReg) : (s.await g).launched = s.launched := rfl
@[simp] theorem State.await_turns (s : State) (g : SReg) : (s.await g).turns = s.turns := rfl
@[simp] theorem State.await_steps (s : State) (g : SReg) : (s.await g).steps = s.steps := rfl
@[simp] theorem State.await_cur (s : State) (g : SReg) : (s.await g).cur = s.cur := rfl
@[simp] theorem State.await_mark (s : State) (g : SReg) : (s.await g).mark = s.mark := rfl

@[simp] theorem State.modFab_cores (s : State) (g : Fabric → Fabric) : (s.modFab g).cores = s.cores := rfl
@[simp] theorem State.modFab_dies (s : State) (g : Fabric → Fabric) : (s.modFab g).dies = s.dies := rfl
@[simp] theorem State.modFab_mem (s : State) (g : Fabric → Fabric) : (s.modFab g).mem = s.mem := rfl
@[simp] theorem State.modFab_reqs (s : State) (g : Fabric → Fabric) : (s.modFab g).reqs = s.reqs := rfl
@[simp] theorem State.modFab_homes (s : State) (g : Fabric → Fabric) : (s.modFab g).homes = s.homes := rfl
@[simp] theorem State.modFab_replicas (s : State) (g : Fabric → Fabric) : (s.modFab g).replicas = s.replicas := rfl
@[simp] theorem State.modFab_patina (s : State) (g : Fabric → Fabric) : (s.modFab g).patina = s.patina := rfl
@[simp] theorem State.modFab_tags (s : State) (g : Fabric → Fabric) : (s.modFab g).tags = s.tags := rfl
@[simp] theorem State.modFab_shoots (s : State) (g : Fabric → Fabric) : (s.modFab g).shoots = s.shoots := rfl
@[simp] theorem State.modFab_queues (s : State) (g : Fabric → Fabric) : (s.modFab g).queues = s.queues := rfl
@[simp] theorem State.modFab_tasks (s : State) (g : Fabric → Fabric) : (s.modFab g).tasks = s.tasks := rfl
@[simp] theorem State.modFab_arms (s : State) (g : Fabric → Fabric) : (s.modFab g).arms = s.arms := rfl
@[simp] theorem State.modFab_parts (s : State) (g : Fabric → Fabric) : (s.modFab g).parts = s.parts := rfl
@[simp] theorem State.modFab_hbmOwn (s : State) (g : Fabric → Fabric) : (s.modFab g).hbmOwn = s.hbmOwn := rfl
@[simp] theorem State.modFab_lands (s : State) (g : Fabric → Fabric) : (s.modFab g).lands = s.lands := rfl
@[simp] theorem State.modFab_boot (s : State) (g : Fabric → Fabric) : (s.modFab g).boot = s.boot := rfl
@[simp] theorem State.modFab_peer (s : State) (g : Fabric → Fabric) : (s.modFab g).peer = s.peer := rfl
@[simp] theorem State.modFab_domain (s : State) (g : Fabric → Fabric) : (s.modFab g).domain = s.domain := rfl
@[simp] theorem State.modFab_supply (s : State) (g : Fabric → Fabric) : (s.modFab g).supply = s.supply := rfl
@[simp] theorem State.modFab_budget (s : State) (g : Fabric → Fabric) : (s.modFab g).budget = s.budget := rfl
@[simp] theorem State.modFab_hostMaxflow (s : State) (g : Fabric → Fabric) : (s.modFab g).hostMaxflow = s.hostMaxflow := rfl
@[simp] theorem State.modFab_hostValve (s : State) (g : Fabric → Fabric) : (s.modFab g).hostValve = s.hostValve := rfl
@[simp] theorem State.modFab_hcap (s : State) (g : Fabric → Fabric) : (s.modFab g).hcap = s.hcap := rfl
@[simp] theorem State.modFab_hostData (s : State) (g : Fabric → Fabric) : (s.modFab g).hostData = s.hostData := rfl
@[simp] theorem State.modFab_hostError (s : State) (g : Fabric → Fabric) : (s.modFab g).hostError = s.hostError := rfl
@[simp] theorem State.modFab_hostQueue (s : State) (g : Fabric → Fabric) : (s.modFab g).hostQueue = s.hostQueue := rfl
@[simp] theorem State.modFab_serial (s : State) (g : Fabric → Fabric) : (s.modFab g).serial = s.serial := rfl
@[simp] theorem State.modFab_launched (s : State) (g : Fabric → Fabric) : (s.modFab g).launched = s.launched := rfl
@[simp] theorem State.modFab_turns (s : State) (g : Fabric → Fabric) : (s.modFab g).turns = s.turns := rfl
@[simp] theorem State.modFab_steps (s : State) (g : Fabric → Fabric) : (s.modFab g).steps = s.steps := rfl
@[simp] theorem State.modFab_cur (s : State) (g : Fabric → Fabric) : (s.modFab g).cur = s.cur := rfl
@[simp] theorem State.modFab_mark (s : State) (g : Fabric → Fabric) : (s.modFab g).mark = s.mark := rfl

@[simp] theorem State.modZone_cores (s : State) (z : Nat) (f : Zone → Zone) : (s.modZone z f).cores = s.cores := rfl
@[simp] theorem State.modZone_mem (s : State) (z : Nat) (f : Zone → Zone) : (s.modZone z f).mem = s.mem := rfl
@[simp] theorem State.modZone_reqs (s : State) (z : Nat) (f : Zone → Zone) : (s.modZone z f).reqs = s.reqs := rfl
@[simp] theorem State.modZone_homes (s : State) (z : Nat) (f : Zone → Zone) : (s.modZone z f).homes = s.homes := rfl
@[simp] theorem State.modZone_replicas (s : State) (z : Nat) (f : Zone → Zone) : (s.modZone z f).replicas = s.replicas := rfl
@[simp] theorem State.modZone_patina (s : State) (z : Nat) (f : Zone → Zone) : (s.modZone z f).patina = s.patina := rfl
@[simp] theorem State.modZone_tags (s : State) (z : Nat) (f : Zone → Zone) : (s.modZone z f).tags = s.tags := rfl
@[simp] theorem State.modZone_shoots (s : State) (z : Nat) (f : Zone → Zone) : (s.modZone z f).shoots = s.shoots := rfl
@[simp] theorem State.modZone_queues (s : State) (z : Nat) (f : Zone → Zone) : (s.modZone z f).queues = s.queues := rfl
@[simp] theorem State.modZone_tasks (s : State) (z : Nat) (f : Zone → Zone) : (s.modZone z f).tasks = s.tasks := rfl
@[simp] theorem State.modZone_arms (s : State) (z : Nat) (f : Zone → Zone) : (s.modZone z f).arms = s.arms := rfl
@[simp] theorem State.modZone_parts (s : State) (z : Nat) (f : Zone → Zone) : (s.modZone z f).parts = s.parts := rfl
@[simp] theorem State.modZone_hbmOwn (s : State) (z : Nat) (f : Zone → Zone) : (s.modZone z f).hbmOwn = s.hbmOwn := rfl
@[simp] theorem State.modZone_lands (s : State) (z : Nat) (f : Zone → Zone) : (s.modZone z f).lands = s.lands := rfl
@[simp] theorem State.modZone_fab (s : State) (z : Nat) (f : Zone → Zone) : (s.modZone z f).fab = s.fab := rfl
@[simp] theorem State.modZone_boot (s : State) (z : Nat) (f : Zone → Zone) : (s.modZone z f).boot = s.boot := rfl
@[simp] theorem State.modZone_peer (s : State) (z : Nat) (f : Zone → Zone) : (s.modZone z f).peer = s.peer := rfl
@[simp] theorem State.modZone_domain (s : State) (z : Nat) (f : Zone → Zone) : (s.modZone z f).domain = s.domain := rfl
@[simp] theorem State.modZone_supply (s : State) (z : Nat) (f : Zone → Zone) : (s.modZone z f).supply = s.supply := rfl
@[simp] theorem State.modZone_budget (s : State) (z : Nat) (f : Zone → Zone) : (s.modZone z f).budget = s.budget := rfl
@[simp] theorem State.modZone_hostMaxflow (s : State) (z : Nat) (f : Zone → Zone) : (s.modZone z f).hostMaxflow = s.hostMaxflow := rfl
@[simp] theorem State.modZone_hostValve (s : State) (z : Nat) (f : Zone → Zone) : (s.modZone z f).hostValve = s.hostValve := rfl
@[simp] theorem State.modZone_hcap (s : State) (z : Nat) (f : Zone → Zone) : (s.modZone z f).hcap = s.hcap := rfl
@[simp] theorem State.modZone_hostData (s : State) (z : Nat) (f : Zone → Zone) : (s.modZone z f).hostData = s.hostData := rfl
@[simp] theorem State.modZone_hostError (s : State) (z : Nat) (f : Zone → Zone) : (s.modZone z f).hostError = s.hostError := rfl
@[simp] theorem State.modZone_hostQueue (s : State) (z : Nat) (f : Zone → Zone) : (s.modZone z f).hostQueue = s.hostQueue := rfl
@[simp] theorem State.modZone_serial (s : State) (z : Nat) (f : Zone → Zone) : (s.modZone z f).serial = s.serial := rfl
@[simp] theorem State.modZone_launched (s : State) (z : Nat) (f : Zone → Zone) : (s.modZone z f).launched = s.launched := rfl
@[simp] theorem State.modZone_turns (s : State) (z : Nat) (f : Zone → Zone) : (s.modZone z f).turns = s.turns := rfl
@[simp] theorem State.modZone_steps (s : State) (z : Nat) (f : Zone → Zone) : (s.modZone z f).steps = s.steps := rfl
@[simp] theorem State.modZone_cur (s : State) (z : Nat) (f : Zone → Zone) : (s.modZone z f).cur = s.cur := rfl
@[simp] theorem State.modZone_mark (s : State) (z : Nat) (f : Zone → Zone) : (s.modZone z f).mark = s.mark := rfl

/-! ## What an update changes -/

@[simp] theorem State.core_setCore (s : State) (c : CoreId) (k : Core) : (s.setCore c k).core c = k := by
  simp [State.core, State.setCore]
@[simp] theorem State.setCore_setCore (s : State) (c : CoreId) (k l : Core) : (s.setCore c k).setCore c l = s.setCore c l := by
  simp [State.setCore]
theorem State.core_setCore_ne (s : State) (c e : CoreId) (k : Core) (h : e ≠ c) : (s.setCore c k).core e = s.core e := by
  have hn : e.toNat ≠ c.toNat := fun x => h (BitVec.eq_of_toNat_eq x)
  simp [State.core, State.setCore, Tab.get_put_ne _ _ _ _ _ hn]
@[simp] theorem Core.res_setRes (k : Core) (r : Slot) (x : Res) : (k.setRes r x).res r = x := by
  cases r <;> simp [Core.res, Core.setRes]
@[simp] theorem Core.setRes_setRes (k : Core) (r : Slot) (x y : Res) : (k.setRes r x).setRes r y = k.setRes r y := by
  cases r <;> simp [Core.setRes]
@[simp] theorem Core.cycle_setRes (k : Core) (r : Slot) (x : Res) : (k.setRes r x).cycle = k.cycle := by
  cases r <;> rfl
@[simp] theorem Core.divs_setRes (k : Core) (r : Slot) (x : Res) : (k.setRes r x).divs = k.divs := by
  cases r <;> rfl
@[simp] theorem State.res_setRes (s : State) (c : CoreId) (r : Slot) (x : Res) : (s.setRes c r x).res c r = x := by
  simp [State.res, State.setRes]
@[simp] theorem State.setRes_setRes (s : State) (c : CoreId) (r : Slot) (x y : Res) :
    (s.setRes c r x).setRes c r y = s.setRes c r y := by
  simp [State.setRes]
@[simp] theorem Res.ctx_setCtx (r : Res) (i : CtxId) (x : Ctx) : (r.setCtx i x).ctx i = x := by
  cases i <;> rfl
@[simp] theorem Res.setCtx_setCtx (r : Res) (i : CtxId) (x y : Ctx) : (r.setCtx i x).setCtx i y = r.setCtx i y := by
  cases i <;> rfl

/-- The issuing context after a change of it. -/
@[simp] theorem State.rc_modRc (s : State) (f : Res → Res) : (s.modRc f).rc = f s.rc := by
  simp [State.rc, State.modRc, State.modRes]
@[simp] theorem State.modRc_modRc (s : State) (f g : Res → Res) : (s.modRc f).modRc g = s.modRc (fun r => g (f r)) := by
  simp [State.modRc, State.modRes]
@[simp] theorem State.cycle_modRc (s : State) (f : Res → Res) : (s.modRc f).here.cycle = s.here.cycle := by
  simp [State.here, State.modRc, State.modRes, State.setRes]
@[simp] theorem State.divs_modRc (s : State) (f : Res → Res) : (s.modRc f).here.divs = s.here.divs := by
  simp [State.here, State.modRc, State.modRes, State.setRes]
@[simp] theorem State.fab_modFab (s : State) (g : Fabric → Fabric) : (s.modFab g).fab = g s.fab := rfl
@[simp] theorem State.modFab_modFab (s : State) (f g : Fabric → Fabric) : (s.modFab f).modFab g = s.modFab (fun b => g (f b)) := rfl
@[simp] theorem State.zone_modZone (s : State) (z : Nat) (f : Zone → Zone) : (s.modZone z f).zone z = f (s.zone z) := by
  simp [State.zone, State.modZone, State.die, State.modDie, Tab.mod]
@[simp] theorem State.cx_modCx (s : State) (f : Ctx → Ctx) : (s.modCx f).cx = f s.cx := by
  simp [State.cx, State.modCx, Res.modCtx]

end Sys2Proof.Machine
end

