-- ==== Sys2Proof/Laws/Memory.lean ====
section
/-! SUPPORT. Memory: every operation keeps its canonical form, a byte written is read back, and other bytes stay. -/

namespace Sys2Proof.Machine

theorem Memory.wf_setByte (s : State) (a : Nat) (b : Byte) (h : Memory.wf s.mem = true) :
    Memory.wf (s.setByte a b).mem = true :=
  Tab.wf_put 0 s.mem a b h

theorem Memory.wf_writeList (s : State) (l : List (Nat × Byte)) (h : Memory.wf s.mem = true) :
    Memory.wf (s.writeList l).mem = true :=
  Tab.wf_putAll 0 l s.mem h

theorem Memory.wf_writeNat (s : State) (a n x : Nat) (h : Memory.wf s.mem = true) :
    Memory.wf (s.writeNat a n x).mem = true :=
  Memory.wf_writeList s _ h

theorem Memory.wf_filter (m : List Host.Cell) (f : Host.Cell → Bool) (h : Memory.wf m = true) :
    Memory.wf (m.filter f) = true :=
  Tab.wf_filter 0 m f h

@[simp] theorem State.byte_setByte_same (s : State) (a : Nat) (b : Byte) : (s.setByte a b).byte a = b :=
  Tab.get_put_same 0 s.mem a b

theorem State.byte_setByte_ne (s : State) (a k : Nat) (b : Byte) (h : k ≠ a) : (s.setByte a b).byte k = s.byte k :=
  Tab.get_put_ne 0 s.mem a k b h

theorem State.byte_writeList_of_not_mem (s : State) (l : List (Nat × Byte)) (k : Nat) (h : ∀ p ∈ l, p.1 ≠ k) :
    (s.writeList l).byte k = s.byte k :=
  Tab.get_putAll_of_not_mem 0 l s.mem k h

/-- A write at its home writes its bytes; beside them it changes only what landings hold (R369). -/
theorem State.writeHome_eq (s : State) (l : List (Nat × Byte)) :
    s.writeHome l = { s.writeList l with lands := s.lands.map ((s.writeList l).passed (l.map (fun e => e.1))) } := rfl

@[simp] theorem State.writeHome_mem (s : State) (l : List (Nat × Byte)) : (s.writeHome l).mem = (s.writeList l).mem := rfl

theorem State.writeHome_noLands (s : State) (l : List (Nat × Byte)) (h : s.lands = []) : s.writeHome l = s.writeList l := by
  rw [State.writeHome_eq, h]; exact (congrArg (fun x => { s.writeList l with lands := x }) h).symm

theorem Memory.wf_writeHome (s : State) (l : List (Nat × Byte)) (h : Memory.wf s.mem = true) :
    Memory.wf (s.writeHome l).mem = true :=
  Memory.wf_writeList s l h

end Sys2Proof.Machine
end

