-- ==== Sys2Proof/Laws/Ops.lean ====
section
/-! SUPPORT. What each shared operation of issue comes to: results sent, an instruction that runs, one whose guard is false,
one that is held, one that traps. -/

namespace Sys2Proof.Machine

/-! ## The state an instruction begins in -/

@[simp] theorem State.clean_mark (s : State) : s.clean.mark = .none := rfl
@[simp] theorem State.clean_cur (s : State) : s.clean.cur = s.cur := rfl
@[simp] theorem State.clean_rc (s : State) : s.clean.rc = s.rc := rfl
@[simp] theorem State.clean_cx (s : State) : s.clean.cx = s.cx := rfl
@[simp] theorem State.clean_here (s : State) : s.clean.here = s.here := rfl
@[simp] theorem State.clean_sreg (s : State) (n : BitVec 5) : s.clean.sreg n = s.sreg n := rfl
@[simp] theorem State.clean_preg (s : State) (n : Nat) : s.clean.preg n = s.preg n := rfl
@[simp] theorem State.clean_breg (s : State) (n : Nat) : s.clean.breg n = s.breg n := rfl
@[simp] theorem State.clean_stream (s : State) (n : BitVec 5) : s.clean.stream n = s.stream n := rfl
@[simp] theorem State.clean_fval (s : State) (n : BitVec 5) : s.clean.fval n = s.fval n := rfl
@[simp] theorem State.clean_clean (s : State) : s.clean.clean = s.clean := rfl

/-! ## Sending results -/

theorem State.post_eq (s : State) (e : Eng) (l : Nat) (w : Wr) (g : Flags8) :
    s.post e l w g = s.modRc (fun r => { r with inflight := r.inflight ++ [s.fly e l w g] }) := rfl

/-- A posted result, counted from a state that differs from s in results in flight alone. -/
theorem State.sends_post (s : State) (k : List Fly) (e : Eng) (l : Nat) (w : Wr) (g : Flags8) :
    (s.sends k).post e l w g = s.sends (k ++ [s.fly e l w g]) := by
  have hc : s.clean.here = s.here := rfl
  simp [State.sends, State.post, State.fly, hc, List.append_assoc]

theorem State.clean_post (s : State) (e : Eng) (l : Nat) (w : Wr) (g : Flags8) :
    s.clean.post e l w g = s.sends [s.fly e l w g] := rfl
theorem State.clean_postS (s : State) (l : Nat) (d : BitVec 5) (x : W64) (g : Flags8) :
    s.clean.postS l d x g = s.sends [s.flyS l d x g] := rfl
theorem State.clean_postP (s : State) (l : Nat) (d : BitVec 5) (x : Bool) (g : Flags8) :
    s.clean.postP l d x g = s.sends [s.flyP l d x g] := rfl

@[simp] theorem State.sends_mark (s : State) (l : List Fly) : (s.sends l).mark = .none := rfl
@[simp] theorem State.sends_rc (s : State) (l : List Fly) :
    (s.sends l).rc = { s.rc with inflight := s.rc.inflight ++ l } :=
  State.rc_modRc s.clean _
@[simp] theorem State.sends_sends (s : State) (k l : List Fly) : (s.sends k).sends l = s.sends (k ++ l) := by
  have h : ∀ t : State, t.mark = .none → t.clean = t := fun t ht => by cases t; cases ht; rfl
  have e : (s.sends k).sends l = (s.sends k).modRc (fun r => { r with inflight := r.inflight ++ l }) := by
    show State.modRc ((s.sends k).clean) _ = _
    rw [h _ rfl]
  rw [e]
  simp [State.sends, List.append_assoc]

/-! ## Running -/

/-- At most 64 results in flight is never too many (R45). -/
theorem Res.not_overfull (r : Res) (h : r.inflight.length ≤ 64) : r.overfull = false := by
  have hl : (r.inflight.filter (fun f => !(f.w == .none))).length ≤ r.inflight.length := List.length_filter_le _ _
  unfold Res.overfull
  exact decide_eq_false (by omega)

/-- The conditions under which an instruction runs, one by one. -/
theorem State.runs_parts (s : State) (i : Instr) (n : Nat) (h : s.runs i n = true) :
    s.decodeTrap i i.firstWord = none ∧ s.stalls i = false ∧ s.preg i.pred = true ∧ i.noLanes = false ∧
      s.rc.inflight.length + n ≤ 64 := by
  simp only [State.runs, Bool.and_eq_true, decide_eq_true_eq, Option.isNone_iff_eq_none, Bool.not_eq_true'] at h
  exact ⟨h.1.1.1.1, h.1.1.1.2, h.1.1.2, h.1.2, h.2⟩

/-- An instruction that runs is well-formed (R136). -/
theorem State.runs_wf (s : State) (i : Instr) (n : Nat) (h : s.runs i n = true) : i.wf = true := by
  have h1 := (State.runs_parts s i n h).1
  unfold State.decodeTrap at h1
  split at h1
  · exact absurd h1 (by simp)
  · next hb =>
    simp only [State.badEncoding, Bool.or_eq_true, Bool.not_eq_true', not_or] at hb
    simpa using hb.1.1.1.1.1.1

/-- What an instruction of a core answers. -/
theorem run_eq (s : State) (i : Instr) (body : State → State) :
    run i s body = .next (s.clean.settle (s.clean.attempt i i.firstWord body)) := rfl

theorem State.attempt_trap (s : State) (i : Instr) (w : W64) (body : State → State) (t : Trap)
    (h : s.decodeTrap i w = some t) : s.clean.attempt i w body = s.clean.trap t := by
  have e : s.clean.decodeTrap i w = some t := h
  simp only [State.attempt, e]
theorem State.attempt_stalls (s : State) (i : Instr) (w : W64) (body : State → State) (h : s.decodeTrap i w = none)
    (h2 : s.stalls i = true) : s.clean.attempt i w body = s.clean.hold := by
  have e : s.clean.decodeTrap i w = none := h
  have e2 : s.clean.stalls i = true := h2
  simp only [State.attempt, e, e2, if_true]
theorem State.attempt_guard (s : State) (i : Instr) (w : W64) (body : State → State) (h : s.decodeTrap i w = none)
    (h2 : s.stalls i = false) (h3 : s.preg i.pred = false) : s.clean.attempt i w body = s.clean := by
  have e : s.clean.decodeTrap i w = none := h
  have e2 : s.clean.stalls i = false := h2
  simp [State.attempt, e, e2, h3]
theorem State.attempt_runs (s : State) (i : Instr) (n : Nat) (body : State → State) (h : s.runs i n = true)
    (hn : (body s.clean).rc.inflight.length ≤ 64) : s.clean.attempt i i.firstWord body = body s.clean := by
  obtain ⟨h1, h2, h3, h4, -⟩ := State.runs_parts s i n h
  have e1 : s.clean.decodeTrap i i.firstWord = none := h1
  have e2 : s.clean.stalls i = false := h2
  simp [State.attempt, e1, e2, h3, h4, Res.not_overfull _ hn]

/-- An instruction that runs answers the state its effect gives, where that effect meets no hold and no trap. -/
theorem run_effect (s : State) (i : Instr) (n : Nat) (body : State → State) (t : State) (h : s.runs i n = true)
    (hb : body s.clean = t) (hm : t.mark = .none) (hn : t.rc.inflight.length ≤ 64) : run i s body = .next t := by
  rw [run_eq, State.attempt_runs s i n body h (by rw [hb]; exact hn), hb, State.settle, hm]

/-- An instruction whose effect is to send results. -/
theorem run_sends (s : State) (i : Instr) (n : Nat) (body : State → State) (l : List Fly) (h : s.runs i n = true)
    (hb : body s.clean = s.sends l) (hl : l.length ≤ n) : run i s body = .next (s.sends l) := by
  obtain ⟨-, -, -, -, h4⟩ := State.runs_parts s i n h
  refine run_effect s i n body _ h hb rfl ?_
  simp only [State.sends_rc, List.length_append]
  omega

/-- An instruction whose guard is false has no effect (R54). -/
theorem run_guard_false (s : State) (i : Instr) (body : State → State) (h1 : s.decodeTrap i i.firstWord = none)
    (h2 : s.stalls i = false) (h3 : s.preg i.pred = false) : run i s body = .next s.clean := by
  rw [run_eq, State.attempt_guard s i _ body h1 h2 h3]
  rfl

/-- An instruction that traps at decode has that trap taken in place of its effect (R136, R326). -/
theorem run_decode_trap (s : State) (i : Instr) (body : State → State) (t : Trap)
    (h : s.decodeTrap i i.firstWord = some t) :
    run i s body = .next { s.clean.takeTrap t with mark := .trapped t } := by
  rw [run_eq, State.attempt_trap s i _ body t h]
  rfl

/-- An instruction held at issue changes nothing (R64, R65, R178). -/
theorem run_stalls (s : State) (i : Instr) (body : State → State) (h1 : s.decodeTrap i i.firstWord = none)
    (h2 : s.stalls i = true) : run i s body = .next { s with mark := .held .plain } := by
  rw [run_eq, State.attempt_stalls s i _ body h1 h2]
  rfl

/-- An instruction whose effect meets a trap leaves nothing but that trap's entry (R326). -/
theorem run_body_trap (s : State) (i : Instr) (n : Nat) (body : State → State) (t : Trap) (h : s.runs i n = true)
    (hb : body s.clean = s.clean.trap t) : run i s body = .next { s.clean.takeTrap t with mark := .trapped t } := by
  obtain ⟨-, -, -, -, h4⟩ := State.runs_parts s i n h
  have h5 : (body s.clean).rc.inflight.length ≤ 64 := by
    rw [hb]
    show s.rc.inflight.length ≤ 64
    omega
  rw [run_eq, State.attempt_runs s i n body h h5, hb]
  rfl

/-! ## What bring-up lets through (R459) -/

theorem State.atReady_ready (s : State) (f : State → State) (h : s.ready = true) : s.atReady f = f s := if_pos h
theorem State.atReady_early (s : State) (f : State → State) (h : s.ready = false) : s.atReady f = s.rejected := if_neg (by simp [h])
theorem State.onceReady_ready (s : State) (f : State → State) (h : s.ready = true) : s.onceReady f = f s := if_pos h
theorem State.onceReady_early (s : State) (f : State → State) (h : s.ready = false) : s.onceReady f = s := if_neg (by simp [h])
theorem State.atConfigure_early (s : State) (f : State → State) (h : s.boot.phase ≠ 4) (k : s.ready = false) :
    s.atConfigure f = s.rejected := if_neg (by simpa [k] using h)

end Sys2Proof.Machine
end

