-- ==== Sys2Proof/Laws/PerInstr.lean ====
section
/-! SUPPORT. Per-instruction facts of the syntax: an instruction of a core encodes to as many words as its LEN says. -/

namespace Sys2Proof.Laws.Encoding

/-- The words of an instruction are as many as its head says (R121). -/
def Statement (i : Instr) : Prop := ∀ k h n, i.head = some (k, h, n) → (encode i).length = n

theorem add (h : Hdr) (f : S32) : Statement (.add h f) := fun _ _ _ e => by cases e; rfl
theorem addI (h : Hdr) (f : SF) : Statement (.addI h f) := fun _ _ _ e => by cases e; rfl
theorem addL (h : Hdr) (f : SF) : Statement (.addL h f) := fun _ _ _ e => by cases e; rfl
theorem sub (h : Hdr) (f : S32) : Statement (.sub h f) := fun _ _ _ e => by cases e; rfl
theorem subI (h : Hdr) (f : SF) : Statement (.subI h f) := fun _ _ _ e => by cases e; rfl
theorem subL (h : Hdr) (f : SF) : Statement (.subL h f) := fun _ _ _ e => by cases e; rfl
theorem mul (h : Hdr) (f : S32) : Statement (.mul h f) := fun _ _ _ e => by cases e; rfl
theorem mulI (h : Hdr) (f : SF) : Statement (.mulI h f) := fun _ _ _ e => by cases e; rfl
theorem mulL (h : Hdr) (f : SF) : Statement (.mulL h f) := fun _ _ _ e => by cases e; rfl
theorem mulh (h : Hdr) (f : S32) : Statement (.mulh h f) := fun _ _ _ e => by cases e; rfl
theorem mulhI (h : Hdr) (f : SF) : Statement (.mulhI h f) := fun _ _ _ e => by cases e; rfl
theorem mulhL (h : Hdr) (f : SF) : Statement (.mulhL h f) := fun _ _ _ e => by cases e; rfl
theorem mulhz (h : Hdr) (f : S32) : Statement (.mulhz h f) := fun _ _ _ e => by cases e; rfl
theorem mulhzI (h : Hdr) (f : SF) : Statement (.mulhzI h f) := fun _ _ _ e => by cases e; rfl
theorem mulhzL (h : Hdr) (f : SF) : Statement (.mulhzL h f) := fun _ _ _ e => by cases e; rfl
theorem div (h : Hdr) (f : S32) : Statement (.div h f) := fun _ _ _ e => by cases e; rfl
theorem divI (h : Hdr) (f : SF) : Statement (.divI h f) := fun _ _ _ e => by cases e; rfl
theorem divL (h : Hdr) (f : SF) : Statement (.divL h f) := fun _ _ _ e => by cases e; rfl
theorem divz (h : Hdr) (f : S32) : Statement (.divz h f) := fun _ _ _ e => by cases e; rfl
theorem divzI (h : Hdr) (f : SF) : Statement (.divzI h f) := fun _ _ _ e => by cases e; rfl
theorem divzL (h : Hdr) (f : SF) : Statement (.divzL h f) := fun _ _ _ e => by cases e; rfl
theorem rem (h : Hdr) (f : S32) : Statement (.rem h f) := fun _ _ _ e => by cases e; rfl
theorem remI (h : Hdr) (f : SF) : Statement (.remI h f) := fun _ _ _ e => by cases e; rfl
theorem remL (h : Hdr) (f : SF) : Statement (.remL h f) := fun _ _ _ e => by cases e; rfl
theorem remz (h : Hdr) (f : S32) : Statement (.remz h f) := fun _ _ _ e => by cases e; rfl
theorem remzI (h : Hdr) (f : SF) : Statement (.remzI h f) := fun _ _ _ e => by cases e; rfl
theorem remzL (h : Hdr) (f : SF) : Statement (.remzL h f) := fun _ _ _ e => by cases e; rfl
theorem and (h : Hdr) (f : S32) : Statement (.and h f) := fun _ _ _ e => by cases e; rfl
theorem andI (h : Hdr) (f : SF) : Statement (.andI h f) := fun _ _ _ e => by cases e; rfl
theorem andL (h : Hdr) (f : SF) : Statement (.andL h f) := fun _ _ _ e => by cases e; rfl
theorem or (h : Hdr) (f : S32) : Statement (.or h f) := fun _ _ _ e => by cases e; rfl
theorem orI (h : Hdr) (f : SF) : Statement (.orI h f) := fun _ _ _ e => by cases e; rfl
theorem orL (h : Hdr) (f : SF) : Statement (.orL h f) := fun _ _ _ e => by cases e; rfl
theorem xor (h : Hdr) (f : S32) : Statement (.xor h f) := fun _ _ _ e => by cases e; rfl
theorem xorI (h : Hdr) (f : SF) : Statement (.xorI h f) := fun _ _ _ e => by cases e; rfl
theorem xorL (h : Hdr) (f : SF) : Statement (.xorL h f) := fun _ _ _ e => by cases e; rfl
theorem andn (h : Hdr) (f : S32) : Statement (.andn h f) := fun _ _ _ e => by cases e; rfl
theorem andnI (h : Hdr) (f : SF) : Statement (.andnI h f) := fun _ _ _ e => by cases e; rfl
theorem andnL (h : Hdr) (f : SF) : Statement (.andnL h f) := fun _ _ _ e => by cases e; rfl
theorem shl (h : Hdr) (f : S32) : Statement (.shl h f) := fun _ _ _ e => by cases e; rfl
theorem shlI (h : Hdr) (f : SF) : Statement (.shlI h f) := fun _ _ _ e => by cases e; rfl
theorem shlL (h : Hdr) (f : SF) : Statement (.shlL h f) := fun _ _ _ e => by cases e; rfl
theorem shr (h : Hdr) (f : S32) : Statement (.shr h f) := fun _ _ _ e => by cases e; rfl
theorem shrI (h : Hdr) (f : SF) : Statement (.shrI h f) := fun _ _ _ e => by cases e; rfl
theorem shrL (h : Hdr) (f : SF) : Statement (.shrL h f) := fun _ _ _ e => by cases e; rfl
theorem sra (h : Hdr) (f : S32) : Statement (.sra h f) := fun _ _ _ e => by cases e; rfl
theorem sraI (h : Hdr) (f : SF) : Statement (.sraI h f) := fun _ _ _ e => by cases e; rfl
theorem sraL (h : Hdr) (f : SF) : Statement (.sraL h f) := fun _ _ _ e => by cases e; rfl
theorem rotl (h : Hdr) (f : S32) : Statement (.rotl h f) := fun _ _ _ e => by cases e; rfl
theorem rotlI (h : Hdr) (f : SF) : Statement (.rotlI h f) := fun _ _ _ e => by cases e; rfl
theorem rotlL (h : Hdr) (f : SF) : Statement (.rotlL h f) := fun _ _ _ e => by cases e; rfl
theorem min (h : Hdr) (f : S32) : Statement (.min h f) := fun _ _ _ e => by cases e; rfl
theorem minI (h : Hdr) (f : SF) : Statement (.minI h f) := fun _ _ _ e => by cases e; rfl
theorem minL (h : Hdr) (f : SF) : Statement (.minL h f) := fun _ _ _ e => by cases e; rfl
theorem max (h : Hdr) (f : S32) : Statement (.max h f) := fun _ _ _ e => by cases e; rfl
theorem maxI (h : Hdr) (f : SF) : Statement (.maxI h f) := fun _ _ _ e => by cases e; rfl
theorem maxL (h : Hdr) (f : SF) : Statement (.maxL h f) := fun _ _ _ e => by cases e; rfl
theorem minz (h : Hdr) (f : S32) : Statement (.minz h f) := fun _ _ _ e => by cases e; rfl
theorem minzI (h : Hdr) (f : SF) : Statement (.minzI h f) := fun _ _ _ e => by cases e; rfl
theorem minzL (h : Hdr) (f : SF) : Statement (.minzL h f) := fun _ _ _ e => by cases e; rfl
theorem maxz (h : Hdr) (f : S32) : Statement (.maxz h f) := fun _ _ _ e => by cases e; rfl
theorem maxzI (h : Hdr) (f : SF) : Statement (.maxzI h f) := fun _ _ _ e => by cases e; rfl
theorem maxzL (h : Hdr) (f : SF) : Statement (.maxzL h f) := fun _ _ _ e => by cases e; rfl
theorem clz (h : Hdr) (f : S32) : Statement (.clz h f) := fun _ _ _ e => by cases e; rfl
theorem clzW (h : Hdr) (f : SF) : Statement (.clzW h f) := fun _ _ _ e => by cases e; rfl
theorem ctz (h : Hdr) (f : S32) : Statement (.ctz h f) := fun _ _ _ e => by cases e; rfl
theorem ctzW (h : Hdr) (f : SF) : Statement (.ctzW h f) := fun _ _ _ e => by cases e; rfl
theorem popc (h : Hdr) (f : S32) : Statement (.popc h f) := fun _ _ _ e => by cases e; rfl
theorem popcW (h : Hdr) (f : SF) : Statement (.popcW h f) := fun _ _ _ e => by cases e; rfl
theorem lea (h : Hdr) (f : SF) : Statement (.lea h f) := fun _ _ _ e => by cases e; rfl
theorem leaL (h : Hdr) (f : SF) : Statement (.leaL h f) := fun _ _ _ e => by cases e; rfl
theorem sel (h : Hdr) (f : SF) : Statement (.sel h f) := fun _ _ _ e => by cases e; rfl
theorem bfx (h : Hdr) (f : SF) : Statement (.bfx h f) := fun _ _ _ e => by cases e; rfl
theorem bfi (h : Hdr) (f : SF) : Statement (.bfi h f) := fun _ _ _ e => by cases e; rfl
theorem ext (h : Hdr) (f : SF) : Statement (.ext h f) := fun _ _ _ e => by cases e; rfl
theorem li (h : Hdr) (f : SF) : Statement (.li h f) := fun _ _ _ e => by cases e; rfl
theorem liL (h : Hdr) (f : SF) : Statement (.liL h f) := fun _ _ _ e => by cases e; rfl
theorem lih (h : Hdr) (f : SF) : Statement (.lih h f) := fun _ _ _ e => by cases e; rfl
theorem lihL (h : Hdr) (f : SF) : Statement (.lihL h f) := fun _ _ _ e => by cases e; rfl
theorem bperm (h : Hdr) (f : SF) : Statement (.bperm h f) := fun _ _ _ e => by cases e; rfl
theorem cmp (h : Hdr) (f : SF) : Statement (.cmp h f) := fun _ _ _ e => by cases e; rfl
theorem cmpL (h : Hdr) (f : SF) : Statement (.cmpL h f) := fun _ _ _ e => by cases e; rfl
theorem plog (h : Hdr) (f : SF) : Statement (.plog h f) := fun _ _ _ e => by cases e; rfl
theorem fadd (h : Hdr) (f : S32) : Statement (.fadd h f) := fun _ _ _ e => by cases e; rfl
theorem faddRnd (h : Hdr) (f : SF) : Statement (.faddRnd h f) := fun _ _ _ e => by cases e; rfl
theorem fsub (h : Hdr) (f : S32) : Statement (.fsub h f) := fun _ _ _ e => by cases e; rfl
theorem fsubRnd (h : Hdr) (f : SF) : Statement (.fsubRnd h f) := fun _ _ _ e => by cases e; rfl
theorem fmul (h : Hdr) (f : S32) : Statement (.fmul h f) := fun _ _ _ e => by cases e; rfl
theorem fmulRnd (h : Hdr) (f : SF) : Statement (.fmulRnd h f) := fun _ _ _ e => by cases e; rfl
theorem fma (h : Hdr) (f : SF) : Statement (.fma h f) := fun _ _ _ e => by cases e; rfl
theorem fmin (h : Hdr) (f : S32) : Statement (.fmin h f) := fun _ _ _ e => by cases e; rfl
theorem fmin64 (h : Hdr) (f : SF) : Statement (.fmin64 h f) := fun _ _ _ e => by cases e; rfl
theorem fmax (h : Hdr) (f : S32) : Statement (.fmax h f) := fun _ _ _ e => by cases e; rfl
theorem fmax64 (h : Hdr) (f : SF) : Statement (.fmax64 h f) := fun _ _ _ e => by cases e; rfl
theorem fcmp (h : Hdr) (f : SF) : Statement (.fcmp h f) := fun _ _ _ e => by cases e; rfl
theorem fcvt (h : Hdr) (f : SF) : Statement (.fcvt h f) := fun _ _ _ e => by cases e; rfl
theorem ld (h : Hdr) (f : SF) : Statement (.ld h f) := fun _ _ _ e => by cases e; rfl
theorem ldL (h : Hdr) (f : SF) : Statement (.ldL h f) := fun _ _ _ e => by cases e; rfl
theorem st (h : Hdr) (f : SF) : Statement (.st h f) := fun _ _ _ e => by cases e; rfl
theorem stL (h : Hdr) (f : SF) : Statement (.stL h f) := fun _ _ _ e => by cases e; rfl
theorem ldaq (h : Hdr) (f : SF) : Statement (.ldaq h f) := fun _ _ _ e => by cases e; rfl
theorem ldaqL (h : Hdr) (f : SF) : Statement (.ldaqL h f) := fun _ _ _ e => by cases e; rfl
theorem strl (h : Hdr) (f : SF) : Statement (.strl h f) := fun _ _ _ e => by cases e; rfl
theorem strlL (h : Hdr) (f : SF) : Statement (.strlL h f) := fun _ _ _ e => by cases e; rfl
theorem lds (h : Hdr) (f : SF) : Statement (.lds h f) := fun _ _ _ e => by cases e; rfl
theorem ldsL (h : Hdr) (f : SF) : Statement (.ldsL h f) := fun _ _ _ e => by cases e; rfl
theorem sts (h : Hdr) (f : SF) : Statement (.sts h f) := fun _ _ _ e => by cases e; rfl
theorem stsL (h : Hdr) (f : SF) : Statement (.stsL h f) := fun _ _ _ e => by cases e; rfl
theorem amo (h : Hdr) (f : SF) : Statement (.amo h f) := fun _ _ _ e => by cases e; rfl
theorem amoL (h : Hdr) (f : SF) : Statement (.amoL h f) := fun _ _ _ e => by cases e; rfl
theorem acas (h : Hdr) (f : SF) : Statement (.acas h f) := fun _ _ _ e => by cases e; rfl
theorem acasL (h : Hdr) (f : SF) : Statement (.acasL h f) := fun _ _ _ e => by cases e; rfl
theorem aclaim (h : Hdr) (f : SF) : Statement (.aclaim h f) := fun _ _ _ e => by cases e; rfl
theorem movsv (h : Hdr) (f : SF) : Statement (.movsv h f) := fun _ _ _ e => by cases e; rfl
theorem movvs (h : Hdr) (f : SF) : Statement (.movvs h f) := fun _ _ _ e => by cases e; rfl
theorem movsm (h : Hdr) (f : S32) : Statement (.movsm h f) := fun _ _ _ e => by cases e; rfl
theorem movms (h : Hdr) (f : S32) : Statement (.movms h f) := fun _ _ _ e => by cases e; rfl
theorem movfs (h : Hdr) (f : S32) : Statement (.movfs h f) := fun _ _ _ e => by cases e; rfl
theorem movps (h : Hdr) (f : S32) : Statement (.movps h f) := fun _ _ _ e => by cases e; rfl
theorem movsp (h : Hdr) (f : S32) : Statement (.movsp h f) := fun _ _ _ e => by cases e; rfl
theorem stdef (h : Hdr) (f : SF) : Statement (.stdef h f) := fun _ _ _ e => by cases e; rfl
theorem stld (h : Hdr) (f : SF) : Statement (.stld h f) := fun _ _ _ e => by cases e; rfl
theorem stldL (h : Hdr) (f : SF) : Statement (.stldL h f) := fun _ _ _ e => by cases e; rfl
theorem stst (h : Hdr) (f : SF) : Statement (.stst h f) := fun _ _ _ e => by cases e; rfl
theorem ststL (h : Hdr) (f : SF) : Statement (.ststL h f) := fun _ _ _ e => by cases e; rfl
theorem bpld (h : Hdr) (f : SF) : Statement (.bpld h f) := fun _ _ _ e => by cases e; rfl
theorem bpldL (h : Hdr) (f : SF) : Statement (.bpldL h f) := fun _ _ _ e => by cases e; rfl
theorem vadd (h : Hdr) (f : VF) : Statement (.vadd h f) := fun _ _ _ e => by cases e; rfl
theorem vaddL (h : Hdr) (f : VF) (lit : W32) : Statement (.vaddL h f lit) := fun _ _ _ e => by cases e; rfl
theorem vsub (h : Hdr) (f : VF) : Statement (.vsub h f) := fun _ _ _ e => by cases e; rfl
theorem vsubL (h : Hdr) (f : VF) (lit : W32) : Statement (.vsubL h f lit) := fun _ _ _ e => by cases e; rfl
theorem vmul (h : Hdr) (f : VF) : Statement (.vmul h f) := fun _ _ _ e => by cases e; rfl
theorem vmulL (h : Hdr) (f : VF) (lit : W32) : Statement (.vmulL h f lit) := fun _ _ _ e => by cases e; rfl
theorem vfma (h : Hdr) (f : VF) : Statement (.vfma h f) := fun _ _ _ e => by cases e; rfl
theorem vfmaL (h : Hdr) (f : VF) (lit : W32) : Statement (.vfmaL h f lit) := fun _ _ _ e => by cases e; rfl
theorem vmin (h : Hdr) (f : VF) : Statement (.vmin h f) := fun _ _ _ e => by cases e; rfl
theorem vminL (h : Hdr) (f : VF) (lit : W32) : Statement (.vminL h f lit) := fun _ _ _ e => by cases e; rfl
theorem vmax (h : Hdr) (f : VF) : Statement (.vmax h f) := fun _ _ _ e => by cases e; rfl
theorem vmaxL (h : Hdr) (f : VF) (lit : W32) : Statement (.vmaxL h f lit) := fun _ _ _ e => by cases e; rfl
theorem vabs (h : Hdr) (f : VF) : Statement (.vabs h f) := fun _ _ _ e => by cases e; rfl
theorem vneg (h : Hdr) (f : VF) : Statement (.vneg h f) := fun _ _ _ e => by cases e; rfl
theorem vand (h : Hdr) (f : VF) : Statement (.vand h f) := fun _ _ _ e => by cases e; rfl
theorem vandL (h : Hdr) (f : VF) (lit : W32) : Statement (.vandL h f lit) := fun _ _ _ e => by cases e; rfl
theorem vor (h : Hdr) (f : VF) : Statement (.vor h f) := fun _ _ _ e => by cases e; rfl
theorem vorL (h : Hdr) (f : VF) (lit : W32) : Statement (.vorL h f lit) := fun _ _ _ e => by cases e; rfl
theorem vxor (h : Hdr) (f : VF) : Statement (.vxor h f) := fun _ _ _ e => by cases e; rfl
theorem vxorL (h : Hdr) (f : VF) (lit : W32) : Statement (.vxorL h f lit) := fun _ _ _ e => by cases e; rfl
theorem vshl (h : Hdr) (f : VF) : Statement (.vshl h f) := fun _ _ _ e => by cases e; rfl
theorem vshlL (h : Hdr) (f : VF) (lit : W32) : Statement (.vshlL h f lit) := fun _ _ _ e => by cases e; rfl
theorem vshr (h : Hdr) (f : VF) : Statement (.vshr h f) := fun _ _ _ e => by cases e; rfl
theorem vshrL (h : Hdr) (f : VF) (lit : W32) : Statement (.vshrL h f lit) := fun _ _ _ e => by cases e; rfl
theorem vsra (h : Hdr) (f : VF) : Statement (.vsra h f) := fun _ _ _ e => by cases e; rfl
theorem vsraL (h : Hdr) (f : VF) (lit : W32) : Statement (.vsraL h f lit) := fun _ _ _ e => by cases e; rfl
theorem vcmp (h : Hdr) (f : VF) : Statement (.vcmp h f) := fun _ _ _ e => by cases e; rfl
theorem vcmpL (h : Hdr) (f : VF) (lit : W32) : Statement (.vcmpL h f lit) := fun _ _ _ e => by cases e; rfl
theorem vsel (h : Hdr) (f : VF) : Statement (.vsel h f) := fun _ _ _ e => by cases e; rfl
theorem vselL (h : Hdr) (f : VF) (lit : W32) : Statement (.vselL h f lit) := fun _ _ _ e => by cases e; rfl
theorem vmov (h : Hdr) (f : VF) : Statement (.vmov h f) := fun _ _ _ e => by cases e; rfl
theorem vli (h : Hdr) (f : VF) (lit : W32) : Statement (.vli h f lit) := fun _ _ _ e => by cases e; rfl
theorem vcvt (h : Hdr) (f : VF) : Statement (.vcvt h f) := fun _ _ _ e => by cases e; rfl
theorem vrcp (h : Hdr) (f : VF) : Statement (.vrcp h f) := fun _ _ _ e => by cases e; rfl
theorem vrsq (h : Hdr) (f : VF) : Statement (.vrsq h f) := fun _ _ _ e => by cases e; rfl
theorem vexp2 (h : Hdr) (f : VF) : Statement (.vexp2 h f) := fun _ _ _ e => by cases e; rfl
theorem vlg2 (h : Hdr) (f : VF) : Statement (.vlg2 h f) := fun _ _ _ e => by cases e; rfl
theorem vtanh (h : Hdr) (f : VF) : Statement (.vtanh h f) := fun _ _ _ e => by cases e; rfl
theorem vpopc (h : Hdr) (f : VF) : Statement (.vpopc h f) := fun _ _ _ e => by cases e; rfl
theorem vclz (h : Hdr) (f : VF) : Statement (.vclz h f) := fun _ _ _ e => by cases e; rfl
theorem vdot4 (h : Hdr) (f : VF) : Statement (.vdot4 h f) := fun _ _ _ e => by cases e; rfl
theorem vdot4L (h : Hdr) (f : VF) (lit : W32) : Statement (.vdot4L h f lit) := fun _ _ _ e => by cases e; rfl
theorem vmlog (h : Hdr) (f : VF) : Statement (.vmlog h f) := fun _ _ _ e => by cases e; rfl
theorem vshuf (h : Hdr) (f : VF) : Statement (.vshuf h f) := fun _ _ _ e => by cases e; rfl
theorem vbcst (h : Hdr) (f : VF) : Statement (.vbcst h f) := fun _ _ _ e => by cases e; rfl
theorem vradd (h : Hdr) (f : VF) : Statement (.vradd h f) := fun _ _ _ e => by cases e; rfl
theorem vrmax (h : Hdr) (f : VF) : Statement (.vrmax h f) := fun _ _ _ e => by cases e; rfl
theorem vrmin (h : Hdr) (f : VF) : Statement (.vrmin h f) := fun _ _ _ e => by cases e; rfl
theorem vxg (h : Hdr) (f : VF) : Statement (.vxg h f) := fun _ _ _ e => by cases e; rfl
theorem vscan (h : Hdr) (f : VF) : Statement (.vscan h f) := fun _ _ _ e => by cases e; rfl
theorem vsld (h : Hdr) (f : VF) : Statement (.vsld h f) := fun _ _ _ e => by cases e; rfl
theorem vsst (h : Hdr) (f : VF) : Statement (.vsst h f) := fun _ _ _ e => by cases e; rfl
theorem vgld (h : Hdr) (f : VF) : Statement (.vgld h f) := fun _ _ _ e => by cases e; rfl
theorem vsct (h : Hdr) (f : VF) : Statement (.vsct h f) := fun _ _ _ e => by cases e; rfl
theorem vsamo (h : Hdr) (f : VF) : Statement (.vsamo h f) := fun _ _ _ e => by cases e; rfl
theorem vamax (h : Hdr) (f : VF) : Statement (.vamax h f) := fun _ _ _ e => by cases e; rfl
theorem vqcvt (h : Hdr) (f : VF) : Statement (.vqcvt h f) := fun _ _ _ e => by cases e; rfl
theorem vdq (h : Hdr) (f : VF) : Statement (.vdq h f) := fun _ _ _ e => by cases e; rfl
theorem vdqL (h : Hdr) (f : VF) (lit : W32) : Statement (.vdqL h f lit) := fun _ _ _ e => by cases e; rfl
theorem vunp3 (h : Hdr) (f : VF) : Statement (.vunp3 h f) := fun _ _ _ e => by cases e; rfl
theorem vpack3 (h : Hdr) (f : VF) : Statement (.vpack3 h f) := fun _ _ _ e => by cases e; rfl
theorem vbperm (h : Hdr) (f : VF) : Statement (.vbperm h f) := fun _ _ _ e => by cases e; rfl
theorem vsbr (h : Hdr) (f : VF) : Statement (.vsbr h f) := fun _ _ _ e => by cases e; rfl
theorem vthr (h : Hdr) (f : VF) : Statement (.vthr h f) := fun _ _ _ e => by cases e; rfl
theorem mcall (h : Hdr) (f : MF) : Statement (.mcall h f) := fun _ _ _ e => by cases e; rfl
theorem mmode (h : Hdr) (f : MF) : Statement (.mmode h f) := fun _ _ _ e => by cases e; rfl
theorem mclr (h : Hdr) (f : MF) : Statement (.mclr h f) := fun _ _ _ e => by cases e; rfl
theorem mmerge (h : Hdr) (f : MF) : Statement (.mmerge h f) := fun _ _ _ e => by cases e; rfl
theorem mpld (h : Hdr) (f : MF) : Statement (.mpld h f) := fun _ _ _ e => by cases e; rfl
theorem mabort (h : Hdr) (f : MF) : Statement (.mabort h f) := fun _ _ _ e => by cases e; rfl
theorem cpyPlain (h : Hdr) (f : XF) : Statement (.cpyPlain h f) := fun _ _ _ e => by cases e; rfl
theorem cpyConvert (h : Hdr) (f : XF) : Statement (.cpyConvert h f) := fun _ _ _ e => by cases e; rfl
theorem cpyRank (h : Hdr) (f : XF) : Statement (.cpyRank h f) := fun _ _ _ e => by cases e; rfl
theorem cpyRankmerge (h : Hdr) (f : XF) : Statement (.cpyRankmerge h f) := fun _ _ _ e => by cases e; rfl
theorem put (h : Hdr) (f : XF) : Statement (.put h f) := fun _ _ _ e => by cases e; rfl
theorem putGlob (h : Hdr) (f : XF) : Statement (.putGlob h f) := fun _ _ _ e => by cases e; rfl
theorem get (h : Hdr) (f : XF) : Statement (.get h f) := fun _ _ _ e => by cases e; rfl
theorem getGlob (h : Hdr) (f : XF) : Statement (.getGlob h f) := fun _ _ _ e => by cases e; rfl
theorem xflag (h : Hdr) (f : XF) : Statement (.xflag h f) := fun _ _ _ e => by cases e; rfl
theorem send (h : Hdr) (f : XF) : Statement (.send h f) := fun _ _ _ e => by cases e; rfl
theorem sendm (h : Hdr) (f : XF) (lit : W32) : Statement (.sendm h f lit) := fun _ _ _ e => by cases e; rfl
theorem pref (h : Hdr) (f : XF) : Statement (.pref h f) := fun _ _ _ e => by cases e; rfl
theorem prefSlice (h : Hdr) (f : XF) : Statement (.prefSlice h f) := fun _ _ _ e => by cases e; rfl
theorem flush (h : Hdr) (f : XF) : Statement (.flush h f) := fun _ _ _ e => by cases e; rfl
theorem fwait (h : Hdr) (f : YF) : Statement (.fwait h f) := fun _ _ _ e => by cases e; rfl
theorem fpost (h : Hdr) (f : YF) : Statement (.fpost h f) := fun _ _ _ e => by cases e; rfl
theorem fset (h : Hdr) (f : YF) : Statement (.fset h f) := fun _ _ _ e => by cases e; rfl
theorem bara (h : Hdr) (f : YF) : Statement (.bara h f) := fun _ _ _ e => by cases e; rfl
theorem barw (h : Hdr) (f : YF) : Statement (.barw h f) := fun _ _ _ e => by cases e; rfl
theorem baraw (h : Hdr) (f : YF) : Statement (.baraw h f) := fun _ _ _ e => by cases e; rfl
theorem fence (h : Hdr) (f : YF) : Statement (.fence h f) := fun _ _ _ e => by cases e; rfl
theorem pbrReg (h : Hdr) (f : BF) : Statement (.pbrReg h f) := fun _ _ _ e => by cases e; rfl
theorem pbr (h : Hdr) (f : BF) (off : W32) : Statement (.pbr h f off) := fun _ _ _ e => by cases e; rfl
theorem br (h : Hdr) (f : BF) : Statement (.br h f) := fun _ _ _ e => by cases e; rfl
theorem call (h : Hdr) (f : BF) : Statement (.call h f) := fun _ _ _ e => by cases e; rfl
theorem loop (h : Hdr) (f : BF) (off : W32) : Statement (.loop h f off) := fun _ _ _ e => by cases e; rfl
theorem lbrk (h : Hdr) (f : BF) : Statement (.lbrk h f) := fun _ _ _ e => by cases e; rfl
theorem swpt (h : Hdr) (f : BF) : Statement (.swpt h f) := fun _ _ _ e => by cases e; rfl
theorem brt (h : Hdr) (f : BF) : Statement (.brt h f) := fun _ _ _ e => by cases e; rfl
theorem exit (h : Hdr) (f : BF) : Statement (.exit h f) := fun _ _ _ e => by cases e; rfl
theorem trap (h : Hdr) (f : BF) : Statement (.trap h f) := fun _ _ _ e => by cases e; rfl
theorem nop (h : Hdr) (f : CF) : Statement (.nop h f) := fun _ _ _ e => by cases e; rfl
theorem nop64 (h : Hdr) (f : CF) : Statement (.nop64 h f) := fun _ _ _ e => by cases e; rfl
theorem nop96 (h : Hdr) (f : CF) : Statement (.nop96 h f) := fun _ _ _ e => by cases e; rfl
theorem rdc (h : Hdr) (f : CF) (csr : BitVec 12) : Statement (.rdc h f csr) := fun _ _ _ e => by cases e; rfl
theorem wrc (h : Hdr) (f : CF) (csr : BitVec 12) : Statement (.wrc h f csr) := fun _ _ _ e => by cases e; rfl
theorem clkdiv (h : Hdr) (f : CF) : Statement (.clkdiv h f) := fun _ _ _ e => by cases e; rfl
theorem pwrq (h : Hdr) (f : CF) : Statement (.pwrq h f) := fun _ _ _ e => by cases e; rfl
theorem rep (h : Hdr) (f : CF) (x : RepF) : Statement (.rep h f x) := fun _ _ _ e => by cases e; rfl
theorem ebreak (h : Hdr) (f : CF) : Statement (.ebreak h f) := fun _ _ _ e => by cases e; rfl
theorem sysc (h : Hdr) (f : CF) : Statement (.sysc h f) := fun _ _ _ e => by cases e; rfl
theorem rfe (h : Hdr) (f : CF) : Statement (.rfe h f) := fun _ _ _ e => by cases e; rfl
theorem tlbiPage (h : Hdr) (f : CF) : Statement (.tlbiPage h f) := fun _ _ _ e => by cases e; rfl
theorem tlbiSpace (h : Hdr) (f : CF) : Statement (.tlbiSpace h f) := fun _ _ _ e => by cases e; rfl
theorem tlbiPart (h : Hdr) (f : CF) : Statement (.tlbiPart h f) := fun _ _ _ e => by cases e; rfl
theorem tlbiReplica (h : Hdr) (f : CF) : Statement (.tlbiReplica h f) := fun _ _ _ e => by cases e; rfl
theorem tlbiRwflush (h : Hdr) (f : CF) : Statement (.tlbiRwflush h f) := fun _ _ _ e => by cases e; rfl
theorem tlbiRcinit (h : Hdr) (f : CF) : Statement (.tlbiRcinit h f) := fun _ _ _ e => by cases e; rfl
theorem idle (h : Hdr) (f : CF) : Statement (.idle h f) := fun _ _ _ e => by cases e; rfl
theorem tnop (f : UF) : Statement (.tnop f) := fun _ _ _ e => nomatch e
theorem tfa (f : UF) : Statement (.tfa f) := fun _ _ _ e => nomatch e
theorem tfb (f : UF) : Statement (.tfb f) := fun _ _ _ e => nomatch e
theorem tscl (f : UF) : Statement (.tscl f) := fun _ _ _ e => nomatch e
theorem tmac (f : UF) : Statement (.tmac f) := fun _ _ _ e => nomatch e
theorem tprom (f : UF) : Statement (.tprom f) := fun _ _ _ e => nomatch e
theorem trank (f : UF) : Statement (.trank f) := fun _ _ _ e => nomatch e
theorem tdrain (f : UF) : Statement (.tdrain f) := fun _ _ _ e => nomatch e
theorem twalk (f : UF) : Statement (.twalk f) := fun _ _ _ e => nomatch e
theorem tloop (f : UF) : Statement (.tloop f) := fun _ _ _ e => nomatch e
theorem tend (f : UF) : Statement (.tend f) := fun _ _ _ e => nomatch e
theorem tjmp (f : UF) : Statement (.tjmp f) := fun _ _ _ e => nomatch e
theorem tyld (f : UF) : Statement (.tyld f) := fun _ _ _ e => nomatch e
theorem tflag (f : UF) : Statement (.tflag f) := fun _ _ _ e => nomatch e
theorem tret (f : UF) : Statement (.tret f) := fun _ _ _ e => nomatch e
theorem tset (f : UF) : Statement (.tset f) := fun _ _ _ e => nomatch e
theorem fixedResultWriteback (c : CoreId) : Statement (.fixedResultWriteback c) := fun _ _ _ e => nomatch e
theorem scoreboardResultLand (n : Nat) : Statement (.scoreboardResultLand n) := fun _ _ _ e => nomatch e
theorem shadowResultLand (c : CoreId) : Statement (.shadowResultLand c) := fun _ _ _ e => nomatch e
theorem preemptionRequest (c : CoreId) : Statement (.preemptionRequest c) := fun _ _ _ e => nomatch e
theorem preemptionLanding (c : CoreId) : Statement (.preemptionLanding c) := fun _ _ _ e => nomatch e
theorem forcedPreemption (c : CoreId) : Statement (.forcedPreemption c) := fun _ _ _ e => nomatch e
theorem contextSave (c : CoreId) : Statement (.contextSave c) := fun _ _ _ e => nomatch e
theorem contextRestore (c : CoreId) : Statement (.contextRestore c) := fun _ _ _ e => nomatch e
theorem heldPostApply (c : CoreId) (r : Slot) : Statement (.heldPostApply c r) := fun _ _ _ e => nomatch e
theorem remoteFlagPost (c : CoreId) (task : W32) (f : BitVec 5) (amt : BitVec 16) : Statement (.remoteFlagPost c task f amt) := fun _ _ _ e => nomatch e
theorem transferComplete (c : CoreId) (r : Slot) (n : BitVec 4) : Statement (.transferComplete c r n) := fun _ _ _ e => nomatch e
theorem arrivalQueueRoom (c : CoreId) (r : Slot) : Statement (.arrivalQueueRoom c r) := fun _ _ _ e => nomatch e
theorem handlerStart (c : CoreId) (r : Slot) : Statement (.handlerStart c r) := fun _ _ _ e => nomatch e
theorem transferFault (c : CoreId) (r : Slot) (n : BitVec 4) (x : XferFault) : Statement (.transferFault c r n x) := fun _ _ _ e => nomatch e
theorem rankmergeApply (c : CoreId) (r : Slot) (n : BitVec 4) : Statement (.rankmergeApply c r n) := fun _ _ _ e => nomatch e
theorem mcallStart (c : CoreId) (r : Slot) : Statement (.mcallStart c r) := fun _ _ _ e => nomatch e
theorem mmodeExec (c : CoreId) (r : Slot) : Statement (.mmodeExec c r) := fun _ _ _ e => nomatch e
theorem mclrExec (c : CoreId) (r : Slot) : Statement (.mclrExec c r) := fun _ _ _ e => nomatch e
theorem mmergeExec (c : CoreId) (r : Slot) : Statement (.mmergeExec c r) := fun _ _ _ e => nomatch e
theorem asyncFaultDelivery (c : CoreId) (r : Slot) : Statement (.asyncFaultDelivery c r) := fun _ _ _ e => nomatch e
theorem machineTrap (c : CoreId) (zone : BitVec 9) : Statement (.machineTrap c zone) := fun _ _ _ e => nomatch e
theorem uncorrectableError (c : CoreId) (x : Consumer) (pa : BitVec 46) : Statement (.uncorrectableError c x pa) := fun _ _ _ e => nomatch e
theorem coreFence (c : CoreId) : Statement (.coreFence c) := fun _ _ _ e => nomatch e
theorem dieFence (d : DieId) : Statement (.dieFence d) := fun _ _ _ e => nomatch e
theorem barrierDieComplete (g : GroupId) (d : DieId) : Statement (.barrierDieComplete g d) := fun _ _ _ e => nomatch e
theorem barrierGenerationComplete (g : GroupId) : Statement (.barrierGenerationComplete g) := fun _ _ _ e => nomatch e
theorem barrierRelease (g : GroupId) (c : CoreId) : Statement (.barrierRelease g c) := fun _ _ _ e => nomatch e
theorem atomicAtHome (n : Nat) : Statement (.atomicAtHome n) := fun _ _ _ e => nomatch e
theorem lineHomeHandover (line : Nat) : Statement (.lineHomeHandover line) := fun _ _ _ e => nomatch e
theorem l1Eviction (line : Nat) : Statement (.l1Eviction line) := fun _ _ _ e => nomatch e
theorem sliceEviction (line : Nat) : Statement (.sliceEviction line) := fun _ _ _ e => nomatch e
theorem walkComplete (d : DieId) (k : Nat) : Statement (.walkComplete d k) := fun _ _ _ e => nomatch e
theorem tlbiComplete (n : Nat) : Statement (.tlbiComplete n) := fun _ _ _ e => nomatch e
theorem shootdownRequest (peer : PeerId) (kind : BitVec 3) (page : VAddr) (root : BitVec 34) : Statement (.shootdownRequest peer kind page root) := fun _ _ _ e => nomatch e
theorem shootdownAck (n : Nat) (peer : PeerId) : Statement (.shootdownAck n peer) := fun _ _ _ e => nomatch e
theorem shootdownTimeout (n : Nat) (peer : PeerId) : Statement (.shootdownTimeout n peer) := fun _ _ _ e => nomatch e
theorem bankRetireProposal (d : DieId) (bank : BitVec 14) (live : Bool) : Statement (.bankRetireProposal d bank live) := fun _ _ _ e => nomatch e
theorem stkPropose (d : DieId) : Statement (.stkPropose d) := fun _ _ _ e => nomatch e
theorem stkGo (d : DieId) (pseq : BitVec 16) : Statement (.stkGo d pseq) := fun _ _ _ e => nomatch e
theorem restripeComplete (d : DieId) : Statement (.restripeComplete d) := fun _ _ _ e => nomatch e
theorem testerBusVisit (d : DieId) (faulty : Bool) (spareLeft : Bool) : Statement (.testerBusVisit d faulty spareLeft) := fun _ _ _ e => nomatch e
theorem doorbell (part : PartId) (w : W64) : Statement (.doorbell part w) := fun _ _ _ e => nomatch e
theorem qcmdCreate (part : PartId) (w : W64) : Statement (.qcmdCreate part w) := fun _ _ _ e => nomatch e
theorem qcmdDestroy (part : PartId) (w : W64) : Statement (.qcmdDestroy part w) := fun _ _ _ e => nomatch e
theorem qcmdKill (part : PartId) (w : W64) : Statement (.qcmdKill part w) := fun _ _ _ e => nomatch e
theorem qcmdClearerr (part : PartId) (w : W64) : Statement (.qcmdClearerr part w) := fun _ _ _ e => nomatch e
theorem qcmdArmreload (part : PartId) (w : W64) : Statement (.qcmdArmreload part w) := fun _ _ _ e => nomatch e
theorem qcmdQuery (part : PartId) (w : W64) : Statement (.qcmdQuery part w) := fun _ _ _ e => nomatch e
theorem launch (q : QueueId) (pkt : Packet) : Statement (.launch q pkt) := fun _ _ _ e => nomatch e
theorem admissionRetry (q : QueueId) : Statement (.admissionRetry q) := fun _ _ _ e => nomatch e
theorem signalPacket (q : QueueId) (pkt : Packet) : Statement (.signalPacket q pkt) := fun _ _ _ e => nomatch e
theorem waitsig (q : QueueId) (pkt : Packet) : Statement (.waitsig q pkt) := fun _ _ _ e => nomatch e
theorem waitsigReread (q : QueueId) : Statement (.waitsigReread q) := fun _ _ _ e => nomatch e
theorem nopPacket (q : QueueId) (pkt : Packet) : Statement (.nopPacket q pkt) := fun _ _ _ e => nomatch e
theorem topoReconfigure (q : QueueId) (pkt : Packet) : Statement (.topoReconfigure q pkt) := fun _ _ _ e => nomatch e
theorem topoLoad (q : QueueId) (pkt : Packet) : Statement (.topoLoad q pkt) := fun _ _ _ e => nomatch e
theorem topoRetrain (q : QueueId) (pkt : Packet) : Statement (.topoRetrain q pkt) := fun _ _ _ e => nomatch e
theorem topoDrainEnd : Statement .topoDrainEnd := fun _ _ _ e => nomatch e
theorem fabCtlResume (d : DieId) (w : W64) : Statement (.fabCtlResume d w) := fun _ _ _ e => nomatch e
theorem topoTimeout : Statement .topoTimeout := fun _ _ _ e => nomatch e
theorem topoTrainEnd (failed : W32) : Statement (.topoTrainEnd failed) := fun _ _ _ e => nomatch e
theorem topoTableLoad : Statement .topoTableLoad := fun _ _ _ e => nomatch e
theorem taskEnd (task : W32) : Statement (.taskEnd task) := fun _ _ _ e => nomatch e
theorem slotBoundary : Statement .slotBoundary := fun _ _ _ e => nomatch e
theorem markerLockLoss : Statement .markerLockLoss := fun _ _ _ e => nomatch e
theorem frameHeader (fr : Frame) : Statement (.frameHeader fr) := fun _ _ _ e => nomatch e
theorem frameGlobalWrite (fr : Frame) : Statement (.frameGlobalWrite fr) := fun _ _ _ e => nomatch e
theorem frameScratchpadWrite (fr : Frame) : Statement (.frameScratchpadWrite fr) := fun _ _ _ e => nomatch e
theorem frameReadRequest (fr : Frame) : Statement (.frameReadRequest fr) := fun _ _ _ e => nomatch e
theorem frameReadResponse (fr : Frame) : Statement (.frameReadResponse fr) := fun _ _ _ e => nomatch e
theorem frameSend (fr : Frame) : Statement (.frameSend fr) := fun _ _ _ e => nomatch e
theorem frameSendm (fr : Frame) : Statement (.frameSendm fr) := fun _ _ _ e => nomatch e
theorem frameXflag (fr : Frame) : Statement (.frameXflag fr) := fun _ _ _ e => nomatch e
theorem frameTranslationRequest (fr : Frame) : Statement (.frameTranslationRequest fr) := fun _ _ _ e => nomatch e
theorem frameTranslationResponse (fr : Frame) : Statement (.frameTranslationResponse fr) := fun _ _ _ e => nomatch e
theorem retransmitTimeout (peer : PeerId) : Statement (.retransmitTimeout peer) := fun _ _ _ e => nomatch e
theorem propose (peer : PeerId) (m : RepairMsg) : Statement (.propose peer m) := fun _ _ _ e => nomatch e
theorem accept (peer : PeerId) (m : RepairMsg) : Statement (.accept peer m) := fun _ _ _ e => nomatch e
theorem defer (peer : PeerId) (m : RepairMsg) : Statement (.defer peer m) := fun _ _ _ e => nomatch e
theorem retune (peer : PeerId) (m : RepairMsg) : Statement (.retune peer m) := fun _ _ _ e => nomatch e
theorem portdown (peer : PeerId) (m : RepairMsg) : Statement (.portdown peer m) := fun _ _ _ e => nomatch e
theorem retrain (peer : PeerId) (m : RepairMsg) : Statement (.retrain peer m) := fun _ _ _ e => nomatch e
theorem rejoin (peer : PeerId) (m : RepairMsg) : Statement (.rejoin peer m) := fun _ _ _ e => nomatch e
theorem flushed (peer : PeerId) (m : RepairMsg) : Statement (.flushed peer m) := fun _ _ _ e => nomatch e
theorem repairApply : Statement .repairApply := fun _ _ _ e => nomatch e
theorem repairRepropose : Statement .repairRepropose := fun _ _ _ e => nomatch e
theorem portdownApply : Statement .portdownApply := fun _ _ _ e => nomatch e
theorem lineDrift (port : PortId) (line : BitVec 8) (mhz : BitVec 16) : Statement (.lineDrift port line mhz) := fun _ _ _ e => nomatch e
theorem lineRetuneStart (port : PortId) (line : BitVec 8) : Statement (.lineRetuneStart port line) := fun _ _ _ e => nomatch e
theorem retuneEnd (port : PortId) (line : BitVec 8) (mhz : BitVec 16) : Statement (.retuneEnd port line mhz) := fun _ _ _ e => nomatch e
theorem combFailure (port : PortId) : Statement (.combFailure port) := fun _ _ _ e => nomatch e
theorem retrainEnd (port : PortId) (peer : PeerId) : Statement (.retrainEnd port peer) := fun _ _ _ e => nomatch e
theorem peerSilenceTimeout (peer : PeerId) : Statement (.peerSilenceTimeout peer) := fun _ _ _ e => nomatch e
theorem peerRemoval (peer : PeerId) : Statement (.peerRemoval peer) := fun _ _ _ e => nomatch e
theorem ofuReset (d : DieId) : Statement (.ofuReset d) := fun _ _ _ e => nomatch e
theorem expertBlockRelease (win : BitVec 8) (e : BitVec 5) : Statement (.expertBlockRelease win e) := fun _ _ _ e => nomatch e
theorem clkdivDecision (c : CoreId) : Statement (.clkdivDecision c) := fun _ _ _ e => nomatch e
theorem divisorSwitch (c : CoreId) : Statement (.divisorSwitch c) := fun _ _ _ e => nomatch e
theorem railStep (c : CoreId) : Statement (.railStep c) := fun _ _ _ e => nomatch e
theorem throttleUpdate (c : CoreId) (swal : BitVec 6) : Statement (.throttleUpdate c swal) := fun _ _ _ e => nomatch e
theorem stallSample (d : DieId) (banks : List (Nat × Nat)) : Statement (.stallSample d banks) := fun _ _ _ e => nomatch e
theorem levelFall (c : CoreId) : Statement (.levelFall c) := fun _ _ _ e => nomatch e
theorem sramRailWindow (d : DieId) (corrected : Nat) (unc : Bool) : Statement (.sramRailWindow d corrected unc) := fun _ _ _ e => nomatch e
theorem valveControl (d : DieId) (z : BitVec 5) (valve : Byte) : Statement (.valveControl d z valve) := fun _ _ _ e => nomatch e
theorem sensorSample (d : DieId) (z : BitVec 4) (sens : W64) : Statement (.sensorSample d z sens) := fun _ _ _ e => nomatch e
theorem evacuationStep (d : DieId) (z : BitVec 4) (dry : Bool) : Statement (.evacuationStep d z dry) := fun _ _ _ e => nomatch e
theorem coolantSupplyDrop (supply : BitVec 16) : Statement (.coolantSupplyDrop supply) := fun _ _ _ e => nomatch e
theorem zclr (d : DieId) (w : W64) : Statement (.zclr d w) := fun _ _ _ e => nomatch e
theorem dbgHalt (c : CoreId) (on : Bool) : Statement (.dbgHalt c on) := fun _ _ _ e => nomatch e
theorem debugHaltLanding (c : CoreId) : Statement (.debugHaltLanding c) := fun _ _ _ e => nomatch e
theorem dbgResume (c : CoreId) : Statement (.dbgResume c) := fun _ _ _ e => nomatch e
theorem dbgStep (c : CoreId) : Statement (.dbgStep c) := fun _ _ _ e => nomatch e
theorem dbgEbrk (c : CoreId) (on : Bool) : Statement (.dbgEbrk c on) := fun _ _ _ e => nomatch e
theorem dbgVdataRead (c : CoreId) : Statement (.dbgVdataRead c) := fun _ _ _ e => nomatch e
theorem deviceReset : Statement .deviceReset := fun _ _ _ e => nomatch e
theorem bootGo : Statement .bootGo := fun _ _ _ e => nomatch e
theorem attGo (d : DieId) (w : W64) : Statement (.attGo d w) := fun _ _ _ e => nomatch e
theorem attestationReport (d : DieId) : Statement (.attestationReport d) := fun _ _ _ e => nomatch e
theorem partitionTableWrite (offset : BitVec 12) (w : W64) : Statement (.partitionTableWrite offset w) := fun _ _ _ e => nomatch e
theorem softerrWrite (d : DieId) : Statement (.softerrWrite d) := fun _ _ _ e => nomatch e
theorem hostMainbandAccess (x : HostAccess) : Statement (.hostMainbandAccess x) := fun _ _ _ e => nomatch e
theorem hostLinkFailure (link : BitVec 2) : Statement (.hostLinkFailure link) := fun _ _ _ e => nomatch e
theorem mgmtRegisterWrite (part : Option PartId) (d : DieId) (offset : BitVec 20) (w : W64) : Statement (.mgmtRegisterWrite part d offset w) := fun _ _ _ e => nomatch e
theorem markerLockAcquired (rot : W32) (slot : BitVec 6) : Statement (.markerLockAcquired rot slot) := fun _ _ _ e => nomatch e
theorem coolantSupplyRestored (supply : BitVec 16) : Statement (.coolantSupplyRestored supply) := fun _ _ _ e => nomatch e
theorem repRepetition (c : CoreId) : Statement (.repRepetition c) := fun _ _ _ e => nomatch e
theorem illegalEncoding (w : W32) : Statement (.illegalEncoding w) := fun _ _ _ e => nomatch e

end Sys2Proof.Laws.Encoding
end

