-- ==== Sys2Proof/Laws/Routes.lean ====
section
/-! SUPPORT. What marking the routes of an Armature entry does: its barrier traffic runs on the marked ports. -/

namespace Sys2Proof.Machine

/-- The ports of a group whose mark is set. -/
def State.marked (s : State) (g : GroupId) (e : Nat × Nat) : Bool :=
  ((s.die (BitVec.ofNat 4 e.1)).marks.get 0 e.2).getLsbD g.toNat

theorem State.routed_eq (s : State) (g : GroupId) (c : CoreId) : s.routed g c = ((s.arm g).route c).all (s.marked g) := rfl

theorem State.die_modDie (s : State) (d e : DieId) (f : Die → Die) :
    (s.modDie d f).die e = if e = d then f (s.die d) else s.die e := by
  simp only [State.die, State.modDie, Tab.mod, Tab.get_put, BitVec.toNat_inj]

/-- Marking one port marks it, and leaves every other mark. -/
theorem State.marked_modDie (s : State) (g : GroupId) (e x : Nat × Nat) :
    State.marked (s.modDie (BitVec.ofNat 4 e.1) (fun d => { d with marks := d.marks.mod 0 e.2 (fun m => m ||| (1#256 <<< g.toNat)) }))
      g x = (s.marked g x || (BitVec.ofNat 4 x.1 == BitVec.ofNat 4 e.1 && x.2 == e.2)) := by
  have hg : (1#256 <<< g.toNat).getLsbD g.toNat = true := by
    have := g.isLt
    simp [BitVec.getLsbD_shiftLeft]
    omega
  unfold State.marked
  rw [State.die_modDie]
  by_cases h : BitVec.ofNat 4 x.1 = BitVec.ofNat 4 e.1
  · by_cases h2 : x.2 = e.2
    · simp [h, h2, Tab.mod, hg]
    · simp [h, h2, Tab.mod, Tab.get_put]
  · simp [h]

theorem State.marked_foldl (g : GroupId) (x : Nat × Nat) (l : List (Nat × Nat)) : ∀ s : State,
    State.marked (l.foldl (fun s e =>
      s.modDie (BitVec.ofNat 4 e.1) (fun d => { d with marks := d.marks.mod 0 e.2 (fun m => m ||| (1#256 <<< g.toNat)) })) s) g x =
    (s.marked g x || l.any (fun e => BitVec.ofNat 4 x.1 == BitVec.ofNat 4 e.1 && x.2 == e.2)) := by
  induction l with
  | nil => simp
  | cons e l ih =>
    intro s
    simp only [List.foldl_cons, ih, State.marked_modDie, List.any_cons, Bool.or_assoc]

theorem State.arms_markRoutes (s : State) (g : GroupId) (m : List CoreId) : (s.markRoutes g m).arms = s.arms := by
  have h : ∀ (l : List (Nat × Nat)) (s : State), (l.foldl (fun s e =>
      s.modDie (BitVec.ofNat 4 e.1) (fun d => { d with marks := d.marks.mod 0 e.2 (fun m => m ||| (1#256 <<< g.toNat)) })) s).arms =
      s.arms := by
    intro l
    induction l with
    | nil => intro s; rfl
    | cons e l ih => intro s; rw [List.foldl_cons, ih]; rfl
  exact h _ s

theorem State.cores_markRoutes (s : State) (g : GroupId) (m : List CoreId) : (s.markRoutes g m).cores = s.cores := by
  have h : ∀ (l : List (Nat × Nat)) (s : State), (l.foldl (fun s e =>
      s.modDie (BitVec.ofNat 4 e.1) (fun d => { d with marks := d.marks.mod 0 e.2 (fun m => m ||| (1#256 <<< g.toNat)) })) s).cores =
      s.cores := by
    intro l
    induction l with
    | nil => intro s; rfl
    | cons e l ih => intro s; rw [List.foldl_cons, ih]; rfl
  exact h _ s

/-- The barrier traffic of a member whose routes are marked reaches the home die (R357, R358). -/
theorem State.routed_markRoutes (s : State) (g : GroupId) (m : List CoreId) (c : CoreId) (hc : c ∈ m) :
    (s.markRoutes g m).routed g c = true := by
  have ha : (s.markRoutes g m).arm g = s.arm g := by simp only [State.arm, State.arms_markRoutes]
  rw [State.routed_eq, ha, List.all_eq_true]
  intro e he
  have h : s.markRoutes g m = (m.flatMap (s.arm g).route).foldl (fun s e =>
      s.modDie (BitVec.ofNat 4 e.1) (fun d => { d with marks := d.marks.mod 0 e.2 (fun m => m ||| (1#256 <<< g.toNat)) })) s := rfl
  rw [h, State.marked_foldl, Bool.or_eq_true, List.any_eq_true]
  exact .inr ⟨e, List.mem_flatMap.mpr ⟨c, hc, he⟩, by simp⟩

/-- Where no port of the core's die is marked, its barrier traffic waits. -/
theorem State.routed_unmarked (s : State) (g : GroupId) (c : CoreId) (h : (s.die (dieOf c)).marks = []) : s.routed g c = false := by
  have hb : ∀ a b : Nat, between a b ≠ [] := by
    intro a b
    unfold between
    split <;> simp
  have hr : routersOf c ≠ [] := by
    unfold routersOf
    simp [hb]
  obtain ⟨k, l, hk⟩ := List.exists_cons_of_ne_nil hr
  rw [State.routed_eq]
  simp [Arm.route, hk, State.marked, h, Tab.get]

end Sys2Proof.Machine
end

