-- ==== Sys2Proof/Tests/Slice0.lean ====
section
/-! SUPPORT. Tests of the model: ill-formed instructions, words written out from the spec's formats, single steps against the spec's
worked figures, and for each statement concrete states and operands that meet what each of its clauses assumes. -/

open Sys2Proof Sys2Proof.Machine

namespace Sys2Proof.Tests

set_option Elab.async false

/-! ## The states the tests start from -/

/-- A leaf entry of a translation table: page address pa, HOME, core of a window, and the permission bits. -/
def leaf (pa home core bits : Nat) : W64 := BitVec.ofNat 64 (3 + bits + home * 1024 + pa / 4096 * 4096 + core * 2 ^ 48)

/-- What the core's TLB holds: HBM, read only, a window of core 1, a slice, another slice, and an uncached page. -/
def pages : List TlbE :=
  [{ root := 5, page := 1, log := 16, pte := leaf 0x100000 0 0 0xF0, part := 1 },
   { root := 5, page := 2, log := 16, pte := leaf 0x110000 0 0 0x20, part := 1 },
   { root := 5, page := 4, log := 16, pte := leaf 0x200000080000 2 1 0xF0, part := 1 },
   { root := 5, page := 5, log := 16, pte := leaf 0x100000000000 1 0 0x2F0, part := 1 },
   { root := 5, page := 6, log := 16, pte := leaf 0x101000000000 1 0 0xF0, part := 1 },
   { root := 5, page := 7, log := 16, pte := leaf 0x120000 3 0 0x1F0, part := 1 }]

/-- A context whose s1 to s12 hold addresses and s13 to s31 data. -/
def context (mode : Bool) : Ctx :=
  { s := (List.range 31).map (fun i => (i + 1, BitVec.ofNat 64 ([0x10000, 0x10008, 0x10010, 0x10001, 0x20000, 0x30000,
      0x1000000000000, 0x40008, 0x50000, 0x60000, 0x70010, 0x90000].getD i (i * 0x0923456789ABCDEF))))
    ks := (List.range 15).map (fun i => (i + 1, BitVec.ofNat 64 ((i + 1) * 0x10010)))
    p := [(1, true), (3, true), (6, true)], kp := [(2, true)]
    b := [(0, 0x10040), (3, 0x20000), (7, 0x10080)], pc := 0x10000, mode := mode, run := .live }

/-- A task resident in a slot, with data in its vector registers, streams, flag counters and results in flight. -/
def resident (mode : Bool) : Res :=
  { occ := true, task := 9, ncores := 2, groupSet := 0x300000503, root := 5, part := 1, prio := 2, swtab := 0x12000
    spBase := 0x1000, spSize := 0x2000, tiles := 4, primary := context mode
    v := (List.range 256).map (fun i =>
      (((i / 64) * 32 + (i / 16 % 4)) * 16 + i % 16, BitVec.ofNat 32 (0x3F800000 + 0x1357913 * i)))
    vm := [(1, 0x0F0F), (9, 0xFF00)], sb := [(0, 5)], mp := [(0, 7), (3, 9)]
    streams := [(1, { base := 0x100, format := 10, count0 := 40, stride0 := 1 }),
      (2, { base := 0x10000, space := 3, count0 := 4, stride0 := 4 }), (3, { base := 0x200, format := 11, blklog := 6 })]
    flags := [(1, 5), (2, 0xFFFF), (3, 1)]
    inflight := [{ due := 103, ctx := .primary, w := .s false 29 77 }, { due := 101, ctx := .h1, w := .none, flags := 1 }] }

def core0 (mode : Bool) : Core :=
  { a := resident mode, cycle := 100, tlb := pages, walkFaults := [(5, 3, 1)], divs := { ctl := 4, mat := 6, vec := 5, cpy := 3 } }

/-- A device that runs one task of two cores, core 0 issuing an instruction of its primary context. -/
def base (mode : Bool := false) : State :=
  { cores := [(0, core0 mode), (1, { a := { resident false with tci := 1 }, cycle := 90 })]
    mem := [(0x100000, 5), (0x100008, 0xFF), (0x200000001008, 7), (0x200000001010, 0x99)]
    tasks := [{ id := 9, queue := 3, packet := 0, part := 1, root := 5, pdid := 2, prio := 2, cls := 0, signal := 0
                cores := [(0, .a), (1, .a)] }]
    parts := [(1, { cfg := 0x8000000000000001, tvec := 0x80000000 })], boot := { phase := 5 }, dies := [(0, { stk := { stage := 100 } })]
    arms := [(3, { v := true, expect := [(0, 2)], dies := 1 }), (5, { v := true, expect := [(0, 1)], dies := 1 })]
    serial := 40, mark := .held .plain
    cur := { core := 0, slot := .a, ctx := .primary, gpc := 0x10000, next := 0x10010, ipc := 0x10004, pos := 1 } }

/-- A header with guard p0, or another. -/
def hdr (p : BitVec 3 := 0) : Hdr := ⟨p, false, true⟩

def nextOf (o : Out) (s : State) : State := match o with | .next t => t | _ => s
def isNext (o : Out) : Bool := match o with | .next _ => true | _ => false
theorem next_of {o : Out} (s : State) (h : isNext o = true) : o = .next (nextOf o s) := by
  cases o <;> simp_all [isNext, nextOf]

/-! ## Ill-formed instructions, one for each check -/

/-- A field that the opcode does not use, of each format (R122), and the reserved codes of WID, SCP and TYPE (R123, R126). -/
theorem test_ill_formed_unused :
    ∀ i ∈ [Instr.clz hdr ⟨1, 2, 3⟩, .movsp hdr ⟨1, 2, 3⟩, .addI hdr { (default : SF) with b := 1 }, .addI hdr { (default : SF) with c := 1 },
      .addI hdr { (default : SF) with scp := 1 }, .addI hdr { (default : SF) with md := 1 }, .addL hdr { (default : SF) with imm := 1 },
      .addI hdr { (default : SF) with wid := 4 }, .ldaq hdr { (default : SF) with scp := 6 }, .bfi hdr { (default : SF) with imm := 64, sgn := true },
      .st hdr { (default : SF) with sgn := true }, .li hdr { (default : SF) with a := 1 }, .aclaim hdr { (default : SF) with wid := 1 },
      .vadd hdr { (default : VF) with ty := 12 }, .vadd hdr { (default : VF) with vc := 1 }, .vaddL hdr { (default : VF) with vb := 1 } 0,
      .vaddL hdr { (default : VF) with bsrc := true } 0, .vmov hdr { (default : VF) with mod6 := 1 }, .vli hdr { (default : VF) with va := 1 } 0,
      .vsst hdr { (default : VF) with vd := 1 }, .mabort hdr { (default : MF) with idx := 1 }, .mclr hdr { (default : MF) with f := 1 },
      .mcall hdr { (default : MF) with k := 1 }, .mcall hdr { (default : MF) with mode := 1 }, .mcall hdr { (default : MF) with accb := 1 },
      .mcall hdr { (default : MF) with sa := 1 }, .mpld hdr { (default : MF) with acc := 1 }, .pref hdr { (default : XF) with f := 1 },
      .pref hdr { (default : XF) with xb := 1 }, .pref hdr { (default : XF) with xc := 1 }, .pref hdr { (default : XF) with xh := 1 },
      .pref hdr { (default : XF) with acc := 1 }, .pref hdr { (default : XF) with k := 1 }, .pref hdr { (default : XF) with frem := true },
      .xflag hdr { (default : XF) with fnone := true }, .bara hdr { (default : YF) with f := 1 }, .bara hdr { (default : YF) with sa := 1 },
      .bara hdr { (default : YF) with n := 1 }, .bara hdr { (default : YF) with pd := 1 }, .fence hdr { (default : YF) with gid := 1 },
      .fwait hdr { (default : YF) with scp := 1 }, .exit hdr { (default : BF) with bt := 1 }, .exit hdr { (default : BF) with yld := true },
      .exit hdr { (default : BF) with sa := 1 }, .exit hdr { (default : BF) with sb := 1 }, .nop hdr ⟨1, 0, 0⟩, .nop hdr ⟨0, 1, 0⟩,
      .nop hdr ⟨0, 0, 1⟩, .tnop { (default : UF) with ma := 1 }, .tret { (default : UF) with mb := 1 }, .tend { (default : UF) with mc := 1 },
      .tyld { (default : UF) with imm := 1 }], i.wf = false := by decide +kernel

/-- Operands outside what a rule lists (R122, R125, R151, R187, R191, R229 to R244, R255, R259, R131 to R133, R171). -/
theorem test_ill_formed_operands :
    ∀ i ∈ [Instr.bfx hdr { (default : SF) with imm := 63 }, .bfx hdr { (default : SF) with imm := 65 * 64 }, .bfx hdr { (default : SF) with imm := 0x2040 },
      .lea hdr { (default : SF) with c := 8 }, .cmp hdr { (default : SF) with d := 8 }, .cmp hdr { (default : SF) with md := 6 },
      .plog hdr { (default : SF) with a := 8 }, .fma hdr { (default : SF) with md := 4 }, .fcvt hdr { (default : SF) with wid := 1 },
      .amo hdr { (default : SF) with wid := 2, md := 10 }, .amo hdr { (default : SF) with wid := 2, c := 1 }, .amo hdr { (default : SF) with wid := 1 },
      .acas hdr { (default : SF) with wid := 1 }, .aclaim hdr { (default : SF) with d := 1 }, .movsv hdr { (default : SF) with imm := 0x1100 },
      .movvs hdr { (default : SF) with imm := 8 }, .movsm hdr ⟨8, 0, 0⟩, .movms hdr ⟨0, 8, 0⟩, .stdef hdr { (default : SF) with md := 14 },
      .stld hdr { (default : SF) with d := 16 }, .bpld hdr { (default : SF) with d := 8 }, .vadd hdr { (default : VF) with ty := 3 },
      .vshl hdr { (default : VF) with ty := 0 }, .vrcp hdr { (default : VF) with ty := 5 }, .vdot4 hdr { (default : VF) with ty := 6 },
      .vmlog hdr { (default : VF) with vm := 1 }, .vcmp hdr { (default : VF) with mod6 := 6 }, .vsel hdr { (default : VF) with vc := 8 },
      .vcvt hdr { (default : VF) with mod6 := 11 }, .vshuf hdr { (default : VF) with ty := 1 }, .vsld hdr { (default : VF) with va := 16 },
      .vsamo hdr { (default : VF) with mod6 := 10 }, .vsamo hdr { (default : VF) with vd := 1 }, .vamax hdr { (default : VF) with ty := 0 },
      .vdq hdr { (default : VF) with ty := 0 }, .vunp3 hdr { (default : VF) with ty := 11, mod6 := 5 }, .vunp3 hdr { (default : VF) with ty := 10 },
      .mmode hdr { (default : MF) with mode := 2 }, .mmode hdr { (default : MF) with k := 1 },
      .cpyRank hdr { (default : XF) with xmode := 2 }, .cpyRank hdr { (default : XF) with xmode := 2, k := 33 },
      .cpyPlain hdr { (default : XF) with xmode := 4 }, .put hdr { (default : XF) with xa := 16 }, .put hdr { (default : XF) with f := 1, fnone := true },
      .fpost hdr { (default : YF) with sa := 1, n := 1 }, .fence hdr { (default : YF) with scp := 6 }, .brt hdr { (default : BF) with sb := 8 },
      .loop hdr default 0, .loop hdr default 0xFFFFFFFF, .clkdiv hdr ⟨0, 0, 7⟩, .clkdiv hdr ⟨0, 4, 4⟩, .pwrq hdr ⟨0, 0, 3⟩,
      .rep ⟨1, false, true⟩ default default, .rep hdr ⟨0, 1, 0⟩ ⟨1, 0, 0, 0⟩, .tlbiPage hdr ⟨0, 0, 1⟩, .tlbiPart hdr ⟨0, 1, 2⟩,
      .tfa ⟨0, 0, 1, 0⟩, .tfa ⟨0, 0, 0, 64⟩, .tscl ⟨0, 0, 0, 4⟩, .tprom ⟨0, 0, 0, 16⟩, .trank ⟨0, 0, 0, 128⟩, .tdrain ⟨0, 0, 0, 512⟩,
      .twalk ⟨1, 1, 2, 0x30⟩, .twalk ⟨1, 2, 3, 0x10⟩, .tjmp ⟨0, 0, 0, 0⟩, .tjmp ⟨0, 3, 0, 1⟩, .tjmp ⟨1, 0, 0, 1⟩, .tflag ⟨0, 0, 0, 32⟩,
      .tset ⟨0, 0, 0, 16⟩, .tset ⟨0, 1, 0, 0x400⟩, .tset ⟨0, 0, 0, 0xC08⟩], i.wf = false := by decide +kernel

/-- What decode refuses, by name: a short group of words, LEN 11, CLASS 111, an opcode not shown, an illegal length, a reserved bit. -/
theorem test_decode_refuses :
    ∀ ws ∈ ([[], [0x00000007], [0x0000003C], [0x0000F404], [0x0000080C], [0x00006404], [0x0020002C], [0x00000005],
      [0x0000000D, 0x00078000]] : List (List W32)), (decode ws).instr? = none := by decide +kernel

/-! ## Words written out from the encodings -/

/-- Words of the S class (R123, R125), every field a row uses at a value of its own, written out from the format and R134. -/
theorem test_decode_S1 :
    let h : Hdr := ⟨5, true, true⟩
    ∀ p ∈ ([
      ([0xD2AA02C4], .add h ⟨21, 10, 26⟩),
      ([0x02AA02C5, 0x01408421], .addI h { (default : SF) with d := 21, a := 10, imm := 0x8421, wid := 2, sgn := true }),
      ([0x02AA02C6, 0x01400000, 0x80000421], .addL h { (default : SF) with d := 21, a := 10, wid := 2, sgn := true, lit := 0x80000421 }),
      ([0xD2AA06C4], .sub h ⟨21, 10, 26⟩),
      ([0x02AA06C5, 0x01408421], .subI h { (default : SF) with d := 21, a := 10, imm := 0x8421, wid := 2, sgn := true }),
      ([0x02AA06C6, 0x01400000, 0x80000421], .subL h { (default : SF) with d := 21, a := 10, wid := 2, sgn := true, lit := 0x80000421 }),
      ([0xD2AA0AC4], .mul h ⟨21, 10, 26⟩),
      ([0x02AA0AC5, 0x01408421], .mulI h { (default : SF) with d := 21, a := 10, imm := 0x8421, wid := 2, sgn := true }),
      ([0x02AA0AC6, 0x01400000, 0x80000421], .mulL h { (default : SF) with d := 21, a := 10, wid := 2, sgn := true, lit := 0x80000421 }),
      ([0xD2AA0EC4], .mulh h ⟨21, 10, 26⟩),
      ([0x02AA0EC5, 0x01408421], .mulhI h { (default : SF) with d := 21, a := 10, imm := 0x8421, wid := 2, sgn := true }),
      ([0x02AA0EC6, 0x01400000, 0x80000421], .mulhL h { (default : SF) with d := 21, a := 10, wid := 2, sgn := true, lit := 0x80000421 }),
      ([0xD2AA12C4], .mulhz h ⟨21, 10, 26⟩),
      ([0x02AA12C5, 0x01408421], .mulhzI h { (default : SF) with d := 21, a := 10, imm := 0x8421, wid := 2, sgn := true }),
      ([0x02AA12C6, 0x01400000, 0x80000421], .mulhzL h { (default : SF) with d := 21, a := 10, wid := 2, sgn := true, lit := 0x80000421 }),
      ([0xD2AA16C4], .div h ⟨21, 10, 26⟩),
      ([0x02AA16C5, 0x01408421], .divI h { (default : SF) with d := 21, a := 10, imm := 0x8421, wid := 2, sgn := true }),
      ([0x02AA16C6, 0x01400000, 0x80000421], .divL h { (default : SF) with d := 21, a := 10, wid := 2, sgn := true, lit := 0x80000421 }),
      ([0xD2AA1AC4], .divz h ⟨21, 10, 26⟩),
      ([0x02AA1AC5, 0x01408421], .divzI h { (default : SF) with d := 21, a := 10, imm := 0x8421, wid := 2, sgn := true }),
      ([0x02AA1AC6, 0x01400000, 0x80000421], .divzL h { (default : SF) with d := 21, a := 10, wid := 2, sgn := true, lit := 0x80000421 }),
      ([0xD2AA1EC4], .rem h ⟨21, 10, 26⟩),
      ([0x02AA1EC5, 0x01408421], .remI h { (default : SF) with d := 21, a := 10, imm := 0x8421, wid := 2, sgn := true }),
      ([0x02AA1EC6, 0x01400000, 0x80000421], .remL h { (default : SF) with d := 21, a := 10, wid := 2, sgn := true, lit := 0x80000421 }),
      ([0xD2AA22C4], .remz h ⟨21, 10, 26⟩),
      ([0x02AA22C5, 0x01408421], .remzI h { (default : SF) with d := 21, a := 10, imm := 0x8421, wid := 2, sgn := true }),
      ([0x02AA22C6, 0x01400000, 0x80000421], .remzL h { (default : SF) with d := 21, a := 10, wid := 2, sgn := true, lit := 0x80000421 }),
      ([0xD2AA26C4], .and h ⟨21, 10, 26⟩),
      ([0x02AA26C5, 0x01408421], .andI h { (default : SF) with d := 21, a := 10, imm := 0x8421, wid := 2, sgn := true }),
      ([0x02AA26C6, 0x01400000, 0x80000421], .andL h { (default : SF) with d := 21, a := 10, wid := 2, sgn := true, lit := 0x80000421 }),
      ([0xD2AA2AC4], .or h ⟨21, 10, 26⟩),
      ([0x02AA2AC5, 0x01408421], .orI h { (default : SF) with d := 21, a := 10, imm := 0x8421, wid := 2, sgn := true }),
      ([0x02AA2AC6, 0x01400000, 0x80000421], .orL h { (default : SF) with d := 21, a := 10, wid := 2, sgn := true, lit := 0x80000421 }),
      ([0xD2AA2EC4], .xor h ⟨21, 10, 26⟩),
      ([0x02AA2EC5, 0x01408421], .xorI h { (default : SF) with d := 21, a := 10, imm := 0x8421, wid := 2, sgn := true }),
      ([0x02AA2EC6, 0x01400000, 0x80000421], .xorL h { (default : SF) with d := 21, a := 10, wid := 2, sgn := true, lit := 0x80000421 }),
      ([0xD2AA32C4], .andn h ⟨21, 10, 26⟩),
      ([0x02AA32C5, 0x01408421], .andnI h { (default : SF) with d := 21, a := 10, imm := 0x8421, wid := 2, sgn := true }),
      ([0x02AA32C6, 0x01400000, 0x80000421], .andnL h { (default : SF) with d := 21, a := 10, wid := 2, sgn := true, lit := 0x80000421 }),
      ([0xD2AA36C4], .shl h ⟨21, 10, 26⟩)] : List (List W32 × Instr)), decode p.1 = .ok p.2 [] := by decide +kernel

/-- Words of the S class (R123, R125), every field a row uses at a value of its own, written out from the format and R134. -/
theorem test_decode_S2 :
    let h : Hdr := ⟨5, true, true⟩
    ∀ p ∈ ([
      ([0x02AA36C5, 0x01408421], .shlI h { (default : SF) with d := 21, a := 10, imm := 0x8421, wid := 2, sgn := true }),
      ([0x02AA36C6, 0x01400000, 0x80000421], .shlL h { (default : SF) with d := 21, a := 10, wid := 2, sgn := true, lit := 0x80000421 }),
      ([0xD2AA3AC4], .shr h ⟨21, 10, 26⟩),
      ([0x02AA3AC5, 0x01408421], .shrI h { (default : SF) with d := 21, a := 10, imm := 0x8421, wid := 2, sgn := true }),
      ([0x02AA3AC6, 0x01400000, 0x80000421], .shrL h { (default : SF) with d := 21, a := 10, wid := 2, sgn := true, lit := 0x80000421 }),
      ([0xD2AA3EC4], .sra h ⟨21, 10, 26⟩),
      ([0x02AA3EC5, 0x01408421], .sraI h { (default : SF) with d := 21, a := 10, imm := 0x8421, wid := 2, sgn := true }),
      ([0x02AA3EC6, 0x01400000, 0x80000421], .sraL h { (default : SF) with d := 21, a := 10, wid := 2, sgn := true, lit := 0x80000421 }),
      ([0xD2AA42C4], .rotl h ⟨21, 10, 26⟩),
      ([0x02AA42C5, 0x01408421], .rotlI h { (default : SF) with d := 21, a := 10, imm := 0x8421, wid := 2, sgn := true }),
      ([0x02AA42C6, 0x01400000, 0x80000421], .rotlL h { (default : SF) with d := 21, a := 10, wid := 2, sgn := true, lit := 0x80000421 }),
      ([0xD2AA46C4], .min h ⟨21, 10, 26⟩),
      ([0x02AA46C5, 0x01408421], .minI h { (default : SF) with d := 21, a := 10, imm := 0x8421, wid := 2, sgn := true }),
      ([0x02AA46C6, 0x01400000, 0x80000421], .minL h { (default : SF) with d := 21, a := 10, wid := 2, sgn := true, lit := 0x80000421 }),
      ([0xD2AA4AC4], .max h ⟨21, 10, 26⟩),
      ([0x02AA4AC5, 0x01408421], .maxI h { (default : SF) with d := 21, a := 10, imm := 0x8421, wid := 2, sgn := true }),
      ([0x02AA4AC6, 0x01400000, 0x80000421], .maxL h { (default : SF) with d := 21, a := 10, wid := 2, sgn := true, lit := 0x80000421 }),
      ([0xD2AA4EC4], .minz h ⟨21, 10, 26⟩),
      ([0x02AA4EC5, 0x01408421], .minzI h { (default : SF) with d := 21, a := 10, imm := 0x8421, wid := 2, sgn := true }),
      ([0x02AA4EC6, 0x01400000, 0x80000421], .minzL h { (default : SF) with d := 21, a := 10, wid := 2, sgn := true, lit := 0x80000421 }),
      ([0xD2AA52C4], .maxz h ⟨21, 10, 26⟩),
      ([0x02AA52C5, 0x01408421], .maxzI h { (default : SF) with d := 21, a := 10, imm := 0x8421, wid := 2, sgn := true }),
      ([0x02AA52C6, 0x01400000, 0x80000421], .maxzL h { (default : SF) with d := 21, a := 10, wid := 2, sgn := true, lit := 0x80000421 }),
      ([0x02AA56C4], .clz h ⟨21, 10, 0⟩),
      ([0x02AA56C5, 0x00400000], .clzW h { (default : SF) with d := 21, a := 10, wid := 2 }),
      ([0x02AA5AC4], .ctz h ⟨21, 10, 0⟩),
      ([0x02AA5AC5, 0x00400000], .ctzW h { (default : SF) with d := 21, a := 10, wid := 2 }),
      ([0x02AA5EC4], .popc h ⟨21, 10, 0⟩),
      ([0x02AA5EC5, 0x00400000], .popcW h { (default : SF) with d := 21, a := 10, wid := 2 }),
      ([0xD2AA62C5, 0x00078421], .lea h { (default : SF) with d := 21, a := 10, b := 26, imm := 0x8421, c := 7 }),
      ([0xD2AA62C6, 0x00070000, 0x80000421], .leaL h { (default : SF) with d := 21, a := 10, b := 26, c := 7, lit := 0x80000421 }),
      ([0xD2AA66C5, 0x00070000], .sel h { (default : SF) with d := 21, a := 10, b := 26, c := 7 }),
      ([0x02AA6AC5, 0x01000849], .bfx h { (default : SF) with d := 21, a := 10, imm := 0x849, sgn := true }),
      ([0x02AA6EC5, 0x00000849], .bfi h { (default : SF) with d := 21, a := 10, imm := 0x849 }),
      ([0x02AA72C5, 0x01400000], .ext h { (default : SF) with d := 21, a := 10, wid := 2, sgn := true }),
      ([0x002A76C5, 0x00008421], .li h { (default : SF) with d := 21, imm := 0x8421 }),
      ([0x002A76C6, 0x00000000, 0x80000421], .liL h { (default : SF) with d := 21, lit := 0x80000421 }),
      ([0x002A7AC5, 0x00008421], .lih h { (default : SF) with d := 21, imm := 0x8421 }),
      ([0x002A7AC6, 0x00000000, 0x80000421], .lihL h { (default : SF) with d := 21, lit := 0x80000421 }),
      ([0xD2AA7EC5, 0x00070000], .bperm h { (default : SF) with d := 21, a := 10, b := 26, c := 7 })] : List (List W32 × Instr)), decode p.1 = .ok p.2 [] := by decide +kernel

/-- Words of the S class (R123, R125), every field a row uses at a value of its own, written out from the format and R134. -/
theorem test_decode_S3 :
    let h : Hdr := ⟨5, true, true⟩
    ∀ p ∈ ([
      ([0xD28E82C5, 0x51408421], .cmp h { (default : SF) with d := 7, a := 10, b := 26, imm := 0x8421, wid := 2, sgn := true, md := 5 }),
      ([0xD28E82C6, 0x51400000, 0x80000421], .cmpL h { (default : SF) with d := 7, a := 10, b := 26, wid := 2, sgn := true, md := 5, lit := 0x80000421 }),
      ([0x39CE86C5, 0x90000000], .plog h { (default : SF) with d := 7, a := 7, b := 7, md := 9 }),
      ([0xD2AA8AC4], .fadd h ⟨21, 10, 26⟩),
      ([0xD2AA8AC5, 0x30000000], .faddRnd h { (default : SF) with d := 21, a := 10, b := 26, md := 3 }),
      ([0xD2AA8EC4], .fsub h ⟨21, 10, 26⟩),
      ([0xD2AA8EC5, 0x30000000], .fsubRnd h { (default : SF) with d := 21, a := 10, b := 26, md := 3 }),
      ([0xD2AA92C4], .fmul h ⟨21, 10, 26⟩),
      ([0xD2AA92C5, 0x30000000], .fmulRnd h { (default : SF) with d := 21, a := 10, b := 26, md := 3 }),
      ([0xD2AA96C5, 0x301D0000], .fma h { (default : SF) with d := 21, a := 10, b := 26, c := 29, md := 3 }),
      ([0xD2AA9AC4], .fmin h ⟨21, 10, 26⟩),
      ([0xD2AA9AC5, 0x00000000], .fmin64 h { (default : SF) with d := 21, a := 10, b := 26 }),
      ([0xD2AA9EC4], .fmax h ⟨21, 10, 26⟩),
      ([0xD2AA9EC5, 0x00000000], .fmax64 h { (default : SF) with d := 21, a := 10, b := 26 }),
      ([0xD28EA2C5, 0x50000000], .fcmp h { (default : SF) with d := 7, a := 10, b := 26, md := 5 }),
      ([0x02AAA6C5, 0x71400000], .fcvt h { (default : SF) with d := 21, a := 10, wid := 2, sgn := true, md := 7 }),
      ([0x02AAC2C5, 0x01408421], .ld h { (default : SF) with d := 21, a := 10, imm := 0x8421, wid := 2, sgn := true }),
      ([0x02AAC2C6, 0x01400000, 0x80000421], .ldL h { (default : SF) with d := 21, a := 10, wid := 2, sgn := true, lit := 0x80000421 }),
      ([0x02AAC6C5, 0x00408421], .st h { (default : SF) with d := 21, a := 10, imm := 0x8421, wid := 2 }),
      ([0x02AAC6C6, 0x00400000, 0x80000421], .stL h { (default : SF) with d := 21, a := 10, wid := 2, lit := 0x80000421 }),
      ([0x02AACAC5, 0x0B408421], .ldaq h { (default : SF) with d := 21, a := 10, imm := 0x8421, wid := 2, sgn := true, scp := 5 }),
      ([0x02AACAC6, 0x0B400000, 0x80000421], .ldaqL h { (default : SF) with d := 21, a := 10, wid := 2, sgn := true, scp := 5, lit := 0x80000421 }),
      ([0x02AACEC5, 0x0A408421], .strl h { (default : SF) with d := 21, a := 10, imm := 0x8421, wid := 2, scp := 5 }),
      ([0x02AACEC6, 0x0A400000, 0x80000421], .strlL h { (default : SF) with d := 21, a := 10, wid := 2, scp := 5, lit := 0x80000421 }),
      ([0x02AAD2C5, 0x015D8421], .lds h { (default : SF) with d := 21, a := 10, imm := 0x8421, c := 29, wid := 2, sgn := true }),
      ([0x02AAD2C6, 0x015D0000, 0x80000421], .ldsL h { (default : SF) with d := 21, a := 10, c := 29, wid := 2, sgn := true, lit := 0x80000421 }),
      ([0x02AAD6C5, 0x005D8421], .sts h { (default : SF) with d := 21, a := 10, imm := 0x8421, c := 29, wid := 2 }),
      ([0x02AAD6C6, 0x005D0000, 0x80000421], .stsL h { (default : SF) with d := 21, a := 10, c := 29, wid := 2, lit := 0x80000421 }),
      ([0xD2AAE2C5, 0x9B478421], .amo h { (default : SF) with d := 21, a := 10, b := 26, imm := 0x8421, c := 7, wid := 2, sgn := true, scp := 5, md := 9 }),
      ([0xD2AAE2C6, 0x9B470000, 0x80000421], .amoL h { (default : SF) with d := 21, a := 10, b := 26, c := 7, wid := 2, sgn := true, scp := 5, md := 9, lit := 0x80000421 }),
      ([0xD2AAE6C5, 0x0B5D8421], .acas h { (default : SF) with d := 21, a := 10, b := 26, imm := 0x8421, c := 29, wid := 2, sgn := true, scp := 5 }),
      ([0xD2AAE6C6, 0x0B5D0000, 0x80000421], .acasL h { (default : SF) with d := 21, a := 10, b := 26, c := 29, wid := 2, sgn := true, scp := 5, lit := 0x80000421 }),
      ([0x02A8EAC6, 0x00008421, 0x80000421], .aclaim h { (default : SF) with d := 20, a := 10, imm := 0x8421, lit := 0x80000421 }),
      ([0x02AB02C5, 0x000005F3], .movsv h { (default : SF) with d := 21, a := 10, imm := 0x5f3 }),
      ([0x02AB06C5, 0x01000F07], .movvs h { (default : SF) with d := 21, a := 10, imm := 0xf07, sgn := true }),
      ([0x028B0AC4], .movsm h ⟨5, 10, 0⟩),
      ([0x06AB0EC4], .movms h ⟨21, 26, 0⟩),
      ([0x02AB12C4], .movfs h ⟨21, 10, 0⟩),
      ([0x01AB16C4], .movps h ⟨21, 6, 0⟩),
      ([0x028B1AC4], .movsp h ⟨5, 10, 0⟩)] : List (List W32 × Instr)), decode p.1 = .ok p.2 [] := by decide +kernel

/-- Words of the S class (R123, R125), every field a row uses at a value of its own, written out from the format and R134. -/
theorem test_decode_S4 :
    let h : Hdr := ⟨5, true, true⟩
    ∀ p ∈ ([
      ([0x029F22C5, 0x90000000], .stdef h { (default : SF) with d := 15, a := 10, md := 9 }),
      ([0x029F26C5, 0x00008421], .stld h { (default : SF) with d := 15, a := 10, imm := 0x8421 }),
      ([0x029F26C6, 0x00000000, 0x80000421], .stldL h { (default : SF) with d := 15, a := 10, lit := 0x80000421 }),
      ([0x029F2AC5, 0x00008421], .stst h { (default : SF) with d := 15, a := 10, imm := 0x8421 }),
      ([0x029F2AC6, 0x00000000, 0x80000421], .ststL h { (default : SF) with d := 15, a := 10, lit := 0x80000421 }),
      ([0x028F2EC5, 0x00008421], .bpld h { (default : SF) with d := 7, a := 10, imm := 0x8421 }),
      ([0x028F2EC6, 0x00000000, 0x80000421], .bpldL h { (default : SF) with d := 7, a := 10, lit := 0x80000421 })] : List (List W32 × Instr)), decode p.1 = .ok p.2 [] := by decide +kernel

/-- Words of the V class (R126, R127), every field a row uses at a value of its own, written out from the format and R134. -/
theorem test_decode_V1 :
    let h : Hdr := ⟨5, true, true⟩
    ∀ p ∈ ([
      ([0x2B4A02CD, 0x0374834A], .vadd h ⟨165, 21, 10, 26, 0, 9, 2, true, 5, true, 0⟩),
      ([0x2B4A02CE, 0x0174800A, 0xC0490FDB], .vaddL h ⟨165, 21, 10, 0, 0, 9, 2, true, 5, false, 0⟩ 0xC0490FDB),
      ([0x2B4A06CD, 0x0374834A], .vsub h ⟨165, 21, 10, 26, 0, 9, 2, true, 5, true, 0⟩),
      ([0x2B4A06CE, 0x0174800A, 0xC0490FDB], .vsubL h ⟨165, 21, 10, 0, 0, 9, 2, true, 5, false, 0⟩ 0xC0490FDB),
      ([0x2B4A0ACD, 0x0374834A], .vmul h ⟨165, 21, 10, 26, 0, 9, 2, true, 5, true, 0⟩),
      ([0x2B4A0ACE, 0x0174800A, 0xC0490FDB], .vmulL h ⟨165, 21, 10, 0, 0, 9, 2, true, 5, false, 0⟩ 0xC0490FDB),
      ([0x2B4A0ECD, 0x0374B74A], .vfma h ⟨165, 21, 10, 26, 13, 9, 2, true, 5, true, 0⟩),
      ([0x2B4A0ECE, 0x0174B40A, 0xC0490FDB], .vfmaL h ⟨165, 21, 10, 0, 13, 9, 2, true, 5, false, 0⟩ 0xC0490FDB),
      ([0x2B4A12CD, 0x0374834A], .vmin h ⟨165, 21, 10, 26, 0, 9, 2, true, 5, true, 0⟩),
      ([0x2B4A12CE, 0x0174800A, 0xC0490FDB], .vminL h ⟨165, 21, 10, 0, 0, 9, 2, true, 5, false, 0⟩ 0xC0490FDB),
      ([0x2B4A16CD, 0x0374834A], .vmax h ⟨165, 21, 10, 26, 0, 9, 2, true, 5, true, 0⟩),
      ([0x2B4A16CE, 0x0174800A, 0xC0490FDB], .vmaxL h ⟨165, 21, 10, 0, 0, 9, 2, true, 5, false, 0⟩ 0xC0490FDB),
      ([0x2B4A1ACD, 0x0174800A], .vabs h ⟨165, 21, 10, 0, 0, 9, 2, true, 5, false, 0⟩),
      ([0x2B4A1ECD, 0x0174800A], .vneg h ⟨165, 21, 10, 0, 0, 9, 2, true, 5, false, 0⟩),
      ([0x2B4A22CD, 0x0374834A], .vand h ⟨165, 21, 10, 26, 0, 9, 2, true, 5, true, 0⟩),
      ([0x2B4A22CE, 0x0174800A, 0xC0490FDB], .vandL h ⟨165, 21, 10, 0, 0, 9, 2, true, 5, false, 0⟩ 0xC0490FDB),
      ([0x2B4A26CD, 0x0374834A], .vor h ⟨165, 21, 10, 26, 0, 9, 2, true, 5, true, 0⟩),
      ([0x2B4A26CE, 0x0174800A, 0xC0490FDB], .vorL h ⟨165, 21, 10, 0, 0, 9, 2, true, 5, false, 0⟩ 0xC0490FDB),
      ([0x2B4A2ACD, 0x0374834A], .vxor h ⟨165, 21, 10, 26, 0, 9, 2, true, 5, true, 0⟩),
      ([0x2B4A2ACE, 0x0174800A, 0xC0490FDB], .vxorL h ⟨165, 21, 10, 0, 0, 9, 2, true, 5, false, 0⟩ 0xC0490FDB),
      ([0x2B4A2ECD, 0x0373034A], .vshl h ⟨165, 21, 10, 26, 0, 6, 2, true, 5, true, 0⟩),
      ([0x2B4A2ECE, 0x0173000A, 0xC0490FDB], .vshlL h ⟨165, 21, 10, 0, 0, 6, 2, true, 5, false, 0⟩ 0xC0490FDB),
      ([0x2B4A32CD, 0x0373034A], .vshr h ⟨165, 21, 10, 26, 0, 6, 2, true, 5, true, 0⟩),
      ([0x2B4A32CE, 0x0173000A, 0xC0490FDB], .vshrL h ⟨165, 21, 10, 0, 0, 6, 2, true, 5, false, 0⟩ 0xC0490FDB),
      ([0x2B4A36CD, 0x0373034A], .vsra h ⟨165, 21, 10, 26, 0, 6, 2, true, 5, true, 0⟩),
      ([0x2B4A36CE, 0x0173000A, 0xC0490FDB], .vsraL h ⟨165, 21, 10, 0, 0, 6, 2, true, 5, false, 0⟩ 0xC0490FDB),
      ([0x0F4A3ACD, 0x1774834A], .vcmp h ⟨165, 7, 10, 26, 0, 9, 2, true, 5, true, 5⟩),
      ([0x0F4A3ACE, 0x1574800A, 0xC0490FDB], .vcmpL h ⟨165, 7, 10, 0, 0, 9, 2, true, 5, false, 5⟩ 0xC0490FDB),
      ([0x2B4A3ECD, 0x03749F4A], .vsel h ⟨165, 21, 10, 26, 7, 9, 2, true, 5, true, 0⟩),
      ([0x2B4A3ECE, 0x01749C0A, 0xC0490FDB], .vselL h ⟨165, 21, 10, 0, 7, 9, 2, true, 5, false, 0⟩ 0xC0490FDB),
      ([0x2B4A42CD, 0x0174800A], .vmov h ⟨165, 21, 10, 0, 0, 9, 2, true, 5, false, 0⟩),
      ([0x2B4A46CE, 0x01748000, 0xC0490FDB], .vli h ⟨165, 21, 0, 0, 0, 9, 2, true, 5, false, 0⟩ 0xC0490FDB),
      ([0x2B4A4ACD, 0x2974800A], .vcvt h ⟨165, 21, 10, 0, 0, 9, 2, true, 5, false, 10⟩),
      ([0x2B4A4ECD, 0x0171000A], .vrcp h ⟨165, 21, 10, 0, 0, 2, 2, true, 5, false, 0⟩),
      ([0x2B4A52CD, 0x0171000A], .vrsq h ⟨165, 21, 10, 0, 0, 2, 2, true, 5, false, 0⟩),
      ([0x2B4A56CD, 0x0171000A], .vexp2 h ⟨165, 21, 10, 0, 0, 2, 2, true, 5, false, 0⟩),
      ([0x2B4A5ACD, 0x0171000A], .vlg2 h ⟨165, 21, 10, 0, 0, 2, 2, true, 5, false, 0⟩),
      ([0x2B4A5ECD, 0x0171000A], .vtanh h ⟨165, 21, 10, 0, 0, 2, 2, true, 5, false, 0⟩),
      ([0x2B4A62CD, 0x0173000A], .vpopc h ⟨165, 21, 10, 0, 0, 6, 2, true, 5, false, 0⟩),
      ([0x2B4A66CD, 0x0173000A], .vclz h ⟨165, 21, 10, 0, 0, 6, 2, true, 5, false, 0⟩)] : List (List W32 × Instr)), decode p.1 = .ok p.2 [] := by decide +kernel

/-- Words of the V class (R126, R127), every field a row uses at a value of its own, written out from the format and R134. -/
theorem test_decode_V2 :
    let h : Hdr := ⟨5, true, true⟩
    ∀ p ∈ ([
      ([0x2B4A6ACD, 0x0373B74A], .vdot4 h ⟨165, 21, 10, 26, 13, 7, 2, true, 5, true, 0⟩),
      ([0x2B4A6ACE, 0x0173B40A, 0xC0490FDB], .vdot4L h ⟨165, 21, 10, 0, 13, 7, 2, true, 5, false, 0⟩ 0xC0490FDB),
      ([0x0F4A6ECD, 0x3C3000E7], .vmlog h ⟨165, 7, 7, 7, 0, 0, 2, true, 0, false, 15⟩),
      ([0x2B4A82CD, 0x0170034A], .vshuf h ⟨165, 21, 10, 26, 0, 0, 2, true, 5, false, 0⟩),
      ([0x2B4A86CD, 0x3D70000A], .vbcst h ⟨165, 21, 10, 0, 0, 0, 2, true, 5, false, 15⟩),
      ([0x2B4A8ACD, 0x0574800A], .vradd h ⟨165, 21, 10, 0, 0, 9, 2, true, 5, false, 1⟩),
      ([0x2B4A8ECD, 0x0574800A], .vrmax h ⟨165, 21, 10, 0, 0, 9, 2, true, 5, false, 1⟩),
      ([0x2B4A92CD, 0x0574800A], .vrmin h ⟨165, 21, 10, 0, 0, 9, 2, true, 5, false, 1⟩),
      ([0x2B4A96CD, 0x1D70000A], .vxg h ⟨165, 21, 10, 0, 0, 0, 2, true, 5, false, 7⟩),
      ([0x2B4A9ACD, 0x0D74800A], .vscan h ⟨165, 21, 10, 0, 0, 9, 2, true, 5, false, 3⟩),
      ([0x2B4AC2CD, 0x0170000A], .vsld h ⟨165, 21, 10, 0, 0, 0, 2, true, 5, false, 0⟩),
      ([0x014AC6CD, 0x0170034A], .vsst h ⟨165, 0, 10, 26, 0, 0, 2, true, 5, false, 0⟩),
      ([0x2B4ACACD, 0x0170034A], .vgld h ⟨165, 21, 10, 26, 0, 0, 2, true, 5, false, 0⟩),
      ([0x014ACECD, 0x0170374A], .vsct h ⟨165, 0, 10, 26, 13, 0, 2, true, 5, false, 0⟩),
      ([0x2B4AD2CD, 0x6570374A], .vsamo h ⟨165, 21, 10, 26, 13, 0, 2, true, 5, false, 25⟩),
      ([0x014AE2CD, 0x0572000A], .vamax h ⟨165, 0, 10, 0, 0, 4, 2, true, 5, false, 1⟩),
      ([0x2B4AE6CD, 0x0572000A], .vqcvt h ⟨165, 21, 10, 0, 0, 4, 2, true, 5, false, 1⟩),
      ([0x2B4AEACD, 0x0372834A], .vdq h ⟨165, 21, 10, 26, 0, 5, 2, true, 5, true, 0⟩),
      ([0x2B4AEACE, 0x0172800A, 0xC0490FDB], .vdqL h ⟨165, 21, 10, 0, 0, 5, 2, true, 5, false, 0⟩ 0xC0490FDB),
      ([0x2B4AEECD, 0x1175800A], .vunp3 h ⟨165, 21, 10, 0, 0, 11, 2, true, 5, false, 4⟩),
      ([0x2B4AF2CD, 0x1175B40A], .vpack3 h ⟨165, 21, 10, 0, 13, 11, 2, true, 5, false, 4⟩),
      ([0x2B4AF6CD, 0x1D70034A], .vbperm h ⟨165, 21, 10, 26, 0, 0, 2, true, 5, false, 7⟩),
      ([0x2B4AFACD, 0x05700000], .vsbr h ⟨165, 21, 0, 0, 0, 0, 2, true, 5, false, 1⟩),
      ([0x2B4B02CD, 0x3D700000], .vthr h ⟨165, 21, 0, 0, 0, 0, 2, true, 5, false, 15⟩)] : List (List W32 × Instr)), decode p.1 = .ok p.2 [] := by decide +kernel

/-- Words of the M class (R128), every field a row uses at a value of its own, written out from the format and R134. -/
theorem test_decode_M :
    let h : Hdr := ⟨5, true, true⟩
    ∀ p ∈ ([
      ([0x2D4A02D5, 0x00000015], .mcall h ⟨677, 5, 21, 0, 0, 0, 0⟩),
      ([0x280006D5, 0x00000C20], .mmode h ⟨0, 5, 0, 33, 1, 0, 0⟩),
      ([0x28000AD5, 0x00000000], .mclr h ⟨0, 5, 0, 0, 0, 0, 0⟩),
      ([0x28000ED5, 0x0000C015], .mmerge h ⟨0, 5, 21, 0, 0, 6, 0⟩),
      ([0x054A12D5, 0x001D0000], .mpld h ⟨677, 0, 0, 0, 0, 0, 29⟩),
      ([0x000016D5, 0x00000000], .mabort h ⟨0, 0, 0, 0, 0, 0, 0⟩)] : List (List W32 × Instr)), decode p.1 = .ok p.2 [] := by decide +kernel

/-- Words of the X class (R130), every field a row uses at a value of its own, written out from the format and R134. -/
theorem test_decode_X :
    let h : Hdr := ⟨5, true, true⟩
    ∀ p ∈ ([
      ([0x7BEA02DD, 0x0044201D], .cpyPlain h ⟨21, 15, 15, 29, 0, 0, 33, 0, true, false⟩),
      ([0x7BEA02DD, 0x004C201D], .cpyConvert h ⟨21, 15, 15, 29, 0, 0, 33, 1, true, false⟩),
      ([0x7BEA02DD, 0x00523400], .cpyRank h ⟨21, 15, 15, 0, 0, 5, 17, 2, true, false⟩),
      ([0x03EA02DD, 0x005A341D], .cpyRankmerge h ⟨21, 15, 0, 29, 0, 5, 17, 3, true, false⟩),
      ([0x9BEA06DD, 0x004002DD], .put h ⟨21, 15, 19, 29, 22, 0, 0, 0, true, false⟩),
      ([0x9BEA06DD, 0x004802DD], .putGlob h ⟨21, 15, 19, 29, 22, 0, 0, 1, true, false⟩),
      ([0x7EAA0ADD, 0x0040001D], .get h ⟨21, 26, 15, 29, 0, 0, 0, 0, true, false⟩),
      ([0x7EAA0ADD, 0x0048001D], .getGlob h ⟨21, 26, 15, 29, 0, 0, 0, 1, true, false⟩),
      ([0x06AA0EDD, 0x0000001D], .xflag h ⟨21, 26, 0, 29, 0, 0, 0, 0, false, false⟩),
      ([0x9BEA12DD, 0x0044201D], .send h ⟨21, 15, 19, 29, 0, 0, 33, 0, true, false⟩),
      ([0x9BC016DE, 0x0084201D, 0x80000421], .sendm h ⟨0, 15, 19, 29, 0, 0, 33, 0, false, true⟩ 0x80000421),
      ([0x06801ADD, 0x00000000], .pref h ⟨0, 26, 0, 0, 0, 0, 0, 0, false, false⟩),
      ([0x06801ADD, 0x00080000], .prefSlice h ⟨0, 26, 0, 0, 0, 0, 0, 1, false, false⟩),
      ([0x06801EDD, 0x00000000], .flush h ⟨0, 26, 0, 0, 0, 0, 0, 0, false, false⟩)] : List (List W32 × Instr)), decode p.1 = .ok p.2 [] := by decide +kernel

/-- Words of the Y class (R131), every field a row uses at a value of its own, written out from the format and R134. -/
theorem test_decode_Y :
    let h : Hdr := ⟨5, true, true⟩
    ∀ p ∈ ([
      ([0x002A02E5, 0x00008421], .fwait h ⟨21, 0, 33825, 0, 0, 0⟩),
      ([0x06AA06E5, 0x00000000], .fpost h ⟨21, 26, 0, 0, 0, 0⟩),
      ([0x002A0AE5, 0x00008421], .fset h ⟨21, 0, 33825, 0, 0, 0⟩),
      ([0x00000EE5, 0x00A50000], .bara h ⟨0, 0, 0, 165, 0, 0⟩),
      ([0x000012E5, 0x06A50000], .barw h ⟨0, 0, 0, 165, 6, 0⟩),
      ([0x000016E5, 0x06A50000], .baraw h ⟨0, 0, 0, 165, 6, 0⟩),
      ([0x002A1AE5, 0x28000000], .fence h ⟨21, 0, 0, 0, 0, 5⟩)] : List (List W32 × Instr)), decode p.1 = .ok p.2 [] := by decide +kernel

/-- Words of the B class (R132), every field a row uses at a value of its own, written out from the format and R134. -/
theorem test_decode_B :
    let h : Hdr := ⟨5, true, true⟩
    ∀ p ∈ ([
      ([0x054C02EC], .pbrReg h ⟨6, false, 21, 0⟩),
      ([0x000C02ED, 0x80000421], .pbr h ⟨6, false, 0, 0⟩ 0x80000421),
      ([0x000C06EC], .br h ⟨6, false, 0, 0⟩),
      ([0x000C0AEC], .call h ⟨6, false, 0, 0⟩),
      ([0x05500EED, 0x00000421], .loop h ⟨0, true, 21, 0⟩ 0x421),
      ([0x000012EC], .lbrk h ⟨0, false, 0, 0⟩),
      ([0xD54016EC], .swpt h ⟨0, false, 21, 26⟩),
      ([0x3D4C1AEC], .brt h ⟨6, false, 21, 7⟩),
      ([0x00001EEC], .exit h ⟨0, false, 0, 0⟩),
      ([0xD54022EC], .trap h ⟨0, false, 21, 26⟩)] : List (List W32 × Instr)), decode p.1 = .ok p.2 [] := by decide +kernel

/-- Words of the C class (R133), every field a row uses at a value of its own, written out from the format and R134. -/
theorem test_decode_C :
    let h : Hdr := ⟨5, true, true⟩
    ∀ p ∈ ([
      ([0x000002F4], .nop h ⟨0, 0, 0⟩),
      ([0x000002F5, 0x00000000], .nop64 h ⟨0, 0, 0⟩),
      ([0x000002F6, 0x00000000, 0x00000000], .nop96 h ⟨0, 0, 0⟩),
      ([0x002A06F5, 0x00000A21], .rdc h ⟨21, 0, 0⟩ 0xA21),
      ([0x06800AF5, 0x00000A21], .wrc h ⟨0, 26, 0⟩ 0xA21),
      ([0x40CE0EF4], .clkdiv h ⟨7, 3, 8⟩),
      ([0x100012F4], .pwrq h ⟨0, 0, 2⟩),
      ([0x00001431, 0x00398421], .rep ⟨0, false, false⟩ ⟨0, 0, 0⟩ ⟨0x8421, 1, 2, 3⟩),
      ([0x00001AF4], .ebreak h ⟨0, 0, 0⟩),
      ([0x9E801EF4], .sysc h ⟨0, 26, 19⟩),
      ([0x000022F4], .rfe h ⟨0, 0, 0⟩),
      ([0x068026F4], .tlbiPage h ⟨0, 26, 0⟩),
      ([0x0E8026F4], .tlbiSpace h ⟨0, 26, 1⟩),
      ([0x100026F4], .tlbiPart h ⟨0, 0, 2⟩),
      ([0x1E8026F4], .tlbiReplica h ⟨0, 26, 3⟩),
      ([0x200026F4], .tlbiRwflush h ⟨0, 0, 4⟩),
      ([0x2E8026F4], .tlbiRcinit h ⟨0, 26, 5⟩),
      ([0x00002AF4], .idle h ⟨0, 0, 0⟩)] : List (List W32 × Instr)), decode p.1 = .ok p.2 [] := by decide +kernel

/-- Words of the micro-operations (R129, R134). -/
theorem test_decode_micro :
    ∀ p ∈ ([
      (0x00000000, .tnop ⟨0, 0, 0, 0x0⟩),
      (0x03AD6901, .tfa ⟨9, 6, 13, 0x3a⟩),
      (0x01A06902, .tfb ⟨9, 6, 0, 0x1a⟩),
      (0x00300003, .tscl ⟨0, 0, 0, 0x3⟩),
      (0x00200004, .tmac ⟨0, 0, 0, 0x2⟩),
      (0x00D00005, .tprom ⟨0, 0, 0, 0xd⟩),
      (0x05500906, .trank ⟨9, 0, 0, 0x55⟩),
      (0x15506907, .tdrain ⟨9, 6, 0, 0x155⟩),
      (0x035D6908, .twalk ⟨9, 6, 13, 0x35⟩),
      (0x00000909, .tloop ⟨9, 0, 0, 0x0⟩),
      (0x0000000A, .tend ⟨0, 0, 0, 0x0⟩),
      (0xF850290B, .tjmp ⟨9, 2, 0, 0xf85⟩),
      (0x0000000C, .tyld ⟨0, 0, 0, 0x0⟩),
      (0x0150000D, .tflag ⟨0, 0, 0, 0x15⟩),
      (0x0000000E, .tret ⟨0, 0, 0, 0x0⟩),
      (0x8A50690F, .tset ⟨9, 6, 0, 0x8a5⟩)] : List (W32 × Instr)), decodeMicro p.1 = .ok p.2 [] := by decide +kernel

/-- The encodings that spec/05, 06, 07, 08 and 09 print beside their examples. -/
theorem test_decode_printed :
    ∀ p ∈ ([
      ([0x01480005, 0x01000064], .addI hdr { (default : SF) with d := 4, a := 5, imm := 100, sgn := true }),
      ([0x018AC805, 0x08600010], .ldaq hdr { (default : SF) with d := 5, a := 6, imm := 16, wid := 3, scp := 4 }),
      ([0x00060025, 0x00000004], .fwait hdr { (default : YF) with f := 3, n := 4 }),
      ([0x00221825, 0x28000000], .fence hdr { (default : YF) with f := 17, scp := 5 }),
      ([0x0004002D, 0x00000040], .pbr hdr { (default : BF) with bt := 2 } 0x40),
      ([0x00001C2C], .exit hdr default),
      ([0x01FEE00D, 0x00018001], .vamax hdr { (default : VF) with gmask := 0xFF, va := 1, ty := 3 }),
      ([0x07FEE40D, 0x04018001], .vqcvt hdr { (default : VF) with gmask := 0xFF, vd := 3, va := 1, ty := 3, mod6 := 1 }),
      ([0x080A0015, 0x00000007], .mcall hdr { (default : MF) with idx := 5, acc := 1, f := 7 }),
      ([0x10000415, 0x00000900], .mmode hdr { (default : MF) with acc := 2, k := 8, mode := 1 }),
      ([0x08000815, 0x00000000], .mclr hdr { (default : MF) with acc := 1 }),
      ([0x00000C15, 0x00006002], .mmerge hdr { (default : MF) with accb := 3, f := 2 }),
      ([0x00001015, 0x00090000], .mpld hdr { (default : MF) with sa := 9 }),
      ([0x00001415, 0x00000000], .mabort hdr default),
      ([0x4086041D, 0x00480149], .putGlob hdr { (default : XF) with f := 3, xa := 2, xb := 8, xc := 9, xh := 10, xmode := 1, frem := true }),
      ([0x290C001D, 0x0010C800], .cpyRank hdr { (default : XF) with f := 6, xa := 4, xb := 5, acc := 2, k := 6, xmode := 2 }),
      ([0x01CA0C1D, 0x00000009], .xflag hdr { (default : XF) with f := 5, xa := 7, xc := 9 }),
      ([0x4044101D, 0x0000A000], .send hdr { (default : XF) with f := 2, xa := 1, xb := 8, k := 5 }),
      ([0x4044141E, 0x0000A000, 0x00000006], .sendm hdr { (default : XF) with f := 2, xa := 1, xb := 8, k := 5 } 6),
      ([0x00001431, 0x00050003], .rep ⟨0, false, false⟩ default ⟨3, 1, 1, 0⟩),
      ([0x12BC0004], .add hdr ⟨30, 10, 2⟩)] : List (List W32 × Instr)), decode p.1 = .ok p.2 [] := by decide +kernel

/-- Words of the routine image of spec/08. -/
theorem test_decode_routine :
    ∀ p ∈ ([
      (0x0000010F, .tset { (default : UF) with ma := 1 }),
      (0x4000020F, .tset { (default : UF) with ma := 2, imm := 0x400 }),
      (0x00000109, .tloop { (default : UF) with ma := 1 }),
      (0x00002301, .tfa { (default : UF) with ma := 3, mb := 2 }),
      (0x00103202, .tfb { (default : UF) with ma := 2, mb := 3, imm := 1 }),
      (0x8010220F, .tset { (default : UF) with ma := 2, mb := 2, imm := 0x801 }),
      (0x01003307, .tdrain { (default : UF) with ma := 3, mb := 3, imm := 0x10 }),
      (0x0000000E, .tret default)] : List (W32 × Instr)), decodeMicro p.1 = .ok p.2 [] := by decide +kernel

/-! ## One step on a small state, against the worked figures of the spec and hand calculation -/

/-- The core's result of an instruction: the last write it has sent on its way, and its flags. -/
noncomputable def result (i : Instr) (s : State) : Option (Wr × Flags8) :=
  (nextOf (exec i s) s).rc.inflight.getLast?.map (fun f => (f.w, f.flags))

def holding (a b : W64) : State := base.modCx (fun x => (x.putS false 1 a).putS false 2 b)

/-- R148: ADD wraps, MULH of −1 and −1 is 0, SRA shifts by its amount mod 64. -/
theorem test_add_wraps : result (.add hdr ⟨5, 1, 2⟩) (holding (-1) 2) = some (.s false 5 1, 0) := by decide +kernel
theorem test_mulh_signed : result (.mulh hdr ⟨5, 1, 2⟩) (holding (-1) (-1)) = some (.s false 5 0, 0) := by decide +kernel
theorem test_sra_amount : result (.sra hdr ⟨5, 1, 2⟩) (holding (-8) 65) = some (.s false 5 (-4), 0) := by decide +kernel
/-- R83: division by zero, and the most negative number divided by −1. -/
theorem test_div_by_zero : result (.div hdr ⟨5, 1, 2⟩) (holding 7 0) = some (.s false 5 (-1), 0) := by decide +kernel
theorem test_rem_by_zero : result (.rem hdr ⟨5, 1, 2⟩) (holding 7 0) = some (.s false 5 7, 0) := by decide +kernel
theorem test_div_overflow : result (.div hdr ⟨5, 1, 2⟩) (holding 0x8000000000000000 (-1)) = some (.s false 5 0x8000000000000000, 0) := by
  decide +kernel
/-- R124: ADD.s8 of 127 and 1 is −128. -/
theorem test_add_s8 : result (.addI hdr { (default : SF) with d := 5, a := 1, imm := 1, sgn := true }) (holding 0x17F 0) =
    some (.s false 5 0xFFFFFFFFFFFFFF80, 0) := by decide +kernel
/-- R149: CLZ of 0 is the width. -/
theorem test_clz_zero : result (.clzW hdr { (default : SF) with d := 5, a := 1, wid := 1 }) (holding 0x10000 0) = some (.s false 5 16, 0) := by
  decide +kernel
/-- R125: bit 2a + b of MOD is PLOG's result for p_A and p_B. -/
theorem test_plog : result (.plog hdr { (default : SF) with d := 5, a := 1, b := 2, md := 4 }) base = some (.p false 5 true, 0) := by
  decide +kernel
/-- R154 and R83's NaN rules: ∞ − ∞ is the canonical NaN and sets NV. -/
theorem test_fadd_nan : result (.fadd hdr ⟨5, 1, 2⟩) (holding 0x7F800000 0xFF800000) = some (.s false 5 0x7FC00000, fNV) := by decide +kernel
/-- s0 takes no result (R52). -/
theorem test_add_s0 : result (.add hdr ⟨0, 1, 2⟩) (holding 1 2) = some (.none, 0) := by decide +kernel

/-- The worked encodings of spec/03: 1, −2.5, 0.0625, 2^−9 and 448 in f32, bf16, f16, e4m3 and e5m2. -/
theorem test_worked_encodings :
    ∀ row ∈ [[0x3F800000, 0x3F80, 0x3C00, 0x38, 0x3C], [0xC0200000, 0xC020, 0xC100, 0xC2, 0xC1], [0x3D800000, 0x3D80, 0x2C00, 0x18, 0x2C],
      [0x3B000000, 0x3B00, 0x1800, 0x01, 0x18], [0x43E00000, 0x43E0, 0x5F00, 0x7E, 0x5F]],
    [Fmt.f32, .bf16, .f16, .e4m3, .e5m2].map (fun f => f.round .rne false (Fmt.f32.value (row.headD 0))) = row.map (fun x => (x, 0)) := by
  decide +kernel

/-- The conversions from f32 to FP8 that spec/03 works out: 300, 460 and 470. -/
theorem test_worked_conversions :
    Fmt.round .e4m3 .rne false (.ofInt 300) = (0x79, fNX) ∧ Fmt.round .e5m2 .rne false (.ofInt 300) = (0x5D, fNX) ∧
    Fmt.round .e4m3 .rne false (.ofInt 460) = (0x7E, fNX) ∧ Fmt.round .e4m3 .rne true (.ofInt 470) = (0x7E, fOF ||| fSAT ||| fNX) ∧
    Fmt.round .e4m3 .rne false (.ofInt 470) = (0x7F, fOF ||| fNX) ∧ Fmt.round .e4m3 .rtz false (.ofInt 470) = (0x7E, fNX) := by decide +kernel

/-- R66's examples: the latencies of VADD, VFMA and VRCP, and of MOVSV, at five pairs of divisors. -/
theorem test_scaled_latencies :
    ∀ row ∈ [(4, 4, [2, 4, 8], 3), (4, 8, [4, 8, 16], 6), (3, 4, [3, 6, 11], 4), (4, 3, [2, 3, 6], 3), (6, 5, [2, 4, 7], 3)],
    [2, 4, 8].map (scaledLat { ctl := row.1, mat := 4, vec := row.2.1, cpy := 4 } .vec) = row.2.2.1 ∧
    scaledLat { ctl := row.1, mat := 4, vec := row.2.1, cpy := 4 } .ctlVec 3 = row.2.2.2 := by decide +kernel

/-- The ranked row that spec/08 works out under R245 to R249: 2, 7, 5, 5, NaN, −0 and −1 offered at 100 up, k = 3; then the merge of
(5, 100) and (7, 101). -/
def rankedRow : Tile :=
  [(0x40000000, 100), (0x40E00000, 101), (0x40A00000, 102), (0x40A00000, 103), (0x7FC00000, 104), (0x80000000, 105), (0xBF800000, 106)].foldl
    (fun t p => t.offer 0 p) { ranked := true, k := 3 }
theorem test_ranked_row : rankedRow.row 0 = [(0x40E00000, 101), (0x40A00000, 102), (0x40A00000, 103)] ∧ rankedRow.reject = 1 ∧
    rankedRow.rowThreshold 0 = 0x40A00000 := by decide +kernel
theorem test_ranked_merge : (rankedRow.mergeRows [(0, [(0x40A00000, 100), (0x40E00000, 101)])]).row 0 =
    [(0x40E00000, 101), (0x40A00000, 100), (0x40A00000, 102)] := by decide +kernel

/-- R338: the trap at cycle 202 of spec/13, with a DIV due at 219 and a VFMA due at 205. -/
def trapping : State := (base.modCore 0 (fun k => { k with cycle := 202 })).modRc (fun r => { r with
  inflight := [{ due := 219, ctx := .primary, w := .s false 20 7 }, { due := 205, ctx := .primary, w := .none, eng := .vec }] })
theorem test_trap_record :
    let t := trapping.takeTrap { cause := cXlate, tval := 0x70010 }
    t.cx.tcause = 4 ∧ t.cx.tval = 0x70010 ∧ t.cx.tepc = 0x10000 ∧ t.cx.tnpc = 0x10010 ∧ t.cx.mode = true ∧
    t.cx.shadow.map (fun e => e.count) = [17, 3] ∧ t.cx.s = trapping.cx.s := by decide +kernel

/-- The example of R116: with banks 7 and 300 of layer 0 retired the die holds 4,094 MiB, line 20,000 is in bank 908, and line
20,001 in bank 904 of layer 1. -/
theorem test_retired_banks :
    let k : Stk := { dead := [(7, true), (300, true)] }
    k.capacity = 4094 ∧ k.bankOf 20000 = 908 ∧ k.bankOf 20001 = 4096 + 904 := by decide +kernel

/-! ## What the statements assume can be met -/

theorem ok_of {ε α : Type} {x : Except ε α} {y : α} (h : x.toOption = some y) : x = .ok y := by
  cases x <;> simp_all [Except.toOption]
/-- What was fetched. -/
def fetchedWords {α : Type} : Fetched α → Option α
  | .ok x => some x
  | .hold _ => none
  | .trap _ => none
theorem fetched_of {α : Type} {x : Fetched α} {y : α} (h : fetchedWords x = some y) : x = .ok y := by
  cases x <;> simp_all [fetchedWords]

theorem meets2 {A B} {p : A → B → Prop} (x : A × B) (h : p x.1 x.2) :
    ∃ x0 x1, p x0 x1 :=
  ⟨_, _, h⟩

theorem meets3 {A B C} {p : A → B → C → Prop} (x : A × B × C) (h : p x.1 x.2.1 x.2.2) :
    ∃ x0 x1 x2, p x0 x1 x2 :=
  ⟨_, _, _, h⟩

theorem meets4 {A B C D} {p : A → B → C → D → Prop} (x : A × B × C × D) (h : p x.1 x.2.1 x.2.2.1 x.2.2.2) :
    ∃ x0 x1 x2 x3, p x0 x1 x2 x3 :=
  ⟨_, _, _, _, h⟩

theorem meets5 {A B C D E} {p : A → B → C → D → E → Prop} (x : A × B × C × D × E) (h : p x.1 x.2.1 x.2.2.1 x.2.2.2.1 x.2.2.2.2) :
    ∃ x0 x1 x2 x3 x4, p x0 x1 x2 x3 x4 :=
  ⟨_, _, _, _, _, h⟩

theorem meets6 {A B C D E F} {p : A → B → C → D → E → F → Prop} (x : A × B × C × D × E × F) (h : p x.1 x.2.1 x.2.2.1 x.2.2.2.1 x.2.2.2.2.1 x.2.2.2.2.2) :
    ∃ x0 x1 x2 x3 x4 x5, p x0 x1 x2 x3 x4 x5 :=
  ⟨_, _, _, _, _, _, h⟩

theorem meets7 {A B C D E F G} {p : A → B → C → D → E → F → G → Prop} (x : A × B × C × D × E × F × G) (h : p x.1 x.2.1 x.2.2.1 x.2.2.2.1 x.2.2.2.2.1 x.2.2.2.2.2.1 x.2.2.2.2.2.2) :
    ∃ x0 x1 x2 x3 x4 x5 x6, p x0 x1 x2 x3 x4 x5 x6 :=
  ⟨_, _, _, _, _, _, _, h⟩

theorem meets8 {A B C D E F G H} {p : A → B → C → D → E → F → G → H → Prop} (x : A × B × C × D × E × F × G × H) (h : p x.1 x.2.1 x.2.2.1 x.2.2.2.1 x.2.2.2.2.1 x.2.2.2.2.2.1 x.2.2.2.2.2.2.1 x.2.2.2.2.2.2.2) :
    ∃ x0 x1 x2 x3 x4 x5 x6 x7, p x0 x1 x2 x3 x4 x5 x6 x7 :=
  ⟨_, _, _, _, _, _, _, _, h⟩

theorem meets9 {A B C D E F G H I} {p : A → B → C → D → E → F → G → H → I → Prop} (x : A × B × C × D × E × F × G × H × I) (h : p x.1 x.2.1 x.2.2.1 x.2.2.2.1 x.2.2.2.2.1 x.2.2.2.2.2.1 x.2.2.2.2.2.2.1 x.2.2.2.2.2.2.2.1 x.2.2.2.2.2.2.2.2) :
    ∃ x0 x1 x2 x3 x4 x5 x6 x7 x8, p x0 x1 x2 x3 x4 x5 x6 x7 x8 :=
  ⟨_, _, _, _, _, _, _, _, _, h⟩

theorem meets10 {A B C D E F G H I J} {p : A → B → C → D → E → F → G → H → I → J → Prop} (x : A × B × C × D × E × F × G × H × I × J) (h : p x.1 x.2.1 x.2.2.1 x.2.2.2.1 x.2.2.2.2.1 x.2.2.2.2.2.1 x.2.2.2.2.2.2.1 x.2.2.2.2.2.2.2.1 x.2.2.2.2.2.2.2.2.1 x.2.2.2.2.2.2.2.2.2) :
    ∃ x0 x1 x2 x3 x4 x5 x6 x7 x8 x9, p x0 x1 x2 x3 x4 x5 x6 x7 x8 x9 :=
  ⟨_, _, _, _, _, _, _, _, _, _, h⟩

theorem meets11 {A B C D E F G H I J K} {p : A → B → C → D → E → F → G → H → I → J → K → Prop} (x : A × B × C × D × E × F × G × H × I × J × K) (h : p x.1 x.2.1 x.2.2.1 x.2.2.2.1 x.2.2.2.2.1 x.2.2.2.2.2.1 x.2.2.2.2.2.2.1 x.2.2.2.2.2.2.2.1 x.2.2.2.2.2.2.2.2.1 x.2.2.2.2.2.2.2.2.2.1 x.2.2.2.2.2.2.2.2.2.2) :
    ∃ x0 x1 x2 x3 x4 x5 x6 x7 x8 x9 x10, p x0 x1 x2 x3 x4 x5 x6 x7 x8 x9 x10 :=
  ⟨_, _, _, _, _, _, _, _, _, _, _, h⟩

theorem meets12 {A B C D E F G H I J K L} {p : A → B → C → D → E → F → G → H → I → J → K → L → Prop} (x : A × B × C × D × E × F × G × H × I × J × K × L) (h : p x.1 x.2.1 x.2.2.1 x.2.2.2.1 x.2.2.2.2.1 x.2.2.2.2.2.1 x.2.2.2.2.2.2.1 x.2.2.2.2.2.2.2.1 x.2.2.2.2.2.2.2.2.1 x.2.2.2.2.2.2.2.2.2.1 x.2.2.2.2.2.2.2.2.2.2.1 x.2.2.2.2.2.2.2.2.2.2.2) :
    ∃ x0 x1 x2 x3 x4 x5 x6 x7 x8 x9 x10 x11, p x0 x1 x2 x3 x4 x5 x6 x7 x8 x9 x10 x11 :=
  ⟨_, _, _, _, _, _, _, _, _, _, _, _, h⟩

theorem meets13 {A B C D E F G H I J K L M} {p : A → B → C → D → E → F → G → H → I → J → K → L → M → Prop} (x : A × B × C × D × E × F × G × H × I × J × K × L × M) (h : p x.1 x.2.1 x.2.2.1 x.2.2.2.1 x.2.2.2.2.1 x.2.2.2.2.2.1 x.2.2.2.2.2.2.1 x.2.2.2.2.2.2.2.1 x.2.2.2.2.2.2.2.2.1 x.2.2.2.2.2.2.2.2.2.1 x.2.2.2.2.2.2.2.2.2.2.1 x.2.2.2.2.2.2.2.2.2.2.2.1 x.2.2.2.2.2.2.2.2.2.2.2.2) :
    ∃ x0 x1 x2 x3 x4 x5 x6 x7 x8 x9 x10 x11 x12, p x0 x1 x2 x3 x4 x5 x6 x7 x8 x9 x10 x11 x12 :=
  ⟨_, _, _, _, _, _, _, _, _, _, _, _, _, h⟩

theorem meets14 {A B C D E F G H I J K L M N} {p : A → B → C → D → E → F → G → H → I → J → K → L → M → N → Prop} (x : A × B × C × D × E × F × G × H × I × J × K × L × M × N) (h : p x.1 x.2.1 x.2.2.1 x.2.2.2.1 x.2.2.2.2.1 x.2.2.2.2.2.1 x.2.2.2.2.2.2.1 x.2.2.2.2.2.2.2.1 x.2.2.2.2.2.2.2.2.1 x.2.2.2.2.2.2.2.2.2.1 x.2.2.2.2.2.2.2.2.2.2.1 x.2.2.2.2.2.2.2.2.2.2.2.1 x.2.2.2.2.2.2.2.2.2.2.2.2.1 x.2.2.2.2.2.2.2.2.2.2.2.2.2) :
    ∃ x0 x1 x2 x3 x4 x5 x6 x7 x8 x9 x10 x11 x12 x13, p x0 x1 x2 x3 x4 x5 x6 x7 x8 x9 x10 x11 x12 x13 :=
  ⟨_, _, _, _, _, _, _, _, _, _, _, _, _, _, h⟩

theorem meets15 {A B C D E F G H I J K L M N O} {p : A → B → C → D → E → F → G → H → I → J → K → L → M → N → O → Prop} (x : A × B × C × D × E × F × G × H × I × J × K × L × M × N × O) (h : p x.1 x.2.1 x.2.2.1 x.2.2.2.1 x.2.2.2.2.1 x.2.2.2.2.2.1 x.2.2.2.2.2.2.1 x.2.2.2.2.2.2.2.1 x.2.2.2.2.2.2.2.2.1 x.2.2.2.2.2.2.2.2.2.1 x.2.2.2.2.2.2.2.2.2.2.1 x.2.2.2.2.2.2.2.2.2.2.2.1 x.2.2.2.2.2.2.2.2.2.2.2.2.1 x.2.2.2.2.2.2.2.2.2.2.2.2.2.1 x.2.2.2.2.2.2.2.2.2.2.2.2.2.2) :
    ∃ x0 x1 x2 x3 x4 x5 x6 x7 x8 x9 x10 x11 x12 x13 x14, p x0 x1 x2 x3 x4 x5 x6 x7 x8 x9 x10 x11 x12 x13 x14 :=
  ⟨_, _, _, _, _, _, _, _, _, _, _, _, _, _, _, h⟩

theorem meets16 {A B C D E F G H I J K L M N O P} {p : A → B → C → D → E → F → G → H → I → J → K → L → M → N → O → P → Prop} (x : A × B × C × D × E × F × G × H × I × J × K × L × M × N × O × P) (h : p x.1 x.2.1 x.2.2.1 x.2.2.2.1 x.2.2.2.2.1 x.2.2.2.2.2.1 x.2.2.2.2.2.2.1 x.2.2.2.2.2.2.2.1 x.2.2.2.2.2.2.2.2.1 x.2.2.2.2.2.2.2.2.2.1 x.2.2.2.2.2.2.2.2.2.2.1 x.2.2.2.2.2.2.2.2.2.2.2.1 x.2.2.2.2.2.2.2.2.2.2.2.2.1 x.2.2.2.2.2.2.2.2.2.2.2.2.2.1 x.2.2.2.2.2.2.2.2.2.2.2.2.2.2.1 x.2.2.2.2.2.2.2.2.2.2.2.2.2.2.2) :
    ∃ x0 x1 x2 x3 x4 x5 x6 x7 x8 x9 x10 x11 x12 x13 x14 x15, p x0 x1 x2 x3 x4 x5 x6 x7 x8 x9 x10 x11 x12 x13 x14 x15 :=
  ⟨_, _, _, _, _, _, _, _, _, _, _, _, _, _, _, _, h⟩

theorem meets18 {A B C D E F G H I J K L M N O P Q R} {p : A → B → C → D → E → F → G → H → I → J → K → L → M → N → O → P → Q → R → Prop} (x : A × B × C × D × E × F × G × H × I × J × K × L × M × N × O × P × Q × R) (h : p x.1 x.2.1 x.2.2.1 x.2.2.2.1 x.2.2.2.2.1 x.2.2.2.2.2.1 x.2.2.2.2.2.2.1 x.2.2.2.2.2.2.2.1 x.2.2.2.2.2.2.2.2.1 x.2.2.2.2.2.2.2.2.2.1 x.2.2.2.2.2.2.2.2.2.2.1 x.2.2.2.2.2.2.2.2.2.2.2.1 x.2.2.2.2.2.2.2.2.2.2.2.2.1 x.2.2.2.2.2.2.2.2.2.2.2.2.2.1 x.2.2.2.2.2.2.2.2.2.2.2.2.2.2.1 x.2.2.2.2.2.2.2.2.2.2.2.2.2.2.2.1 x.2.2.2.2.2.2.2.2.2.2.2.2.2.2.2.2.1 x.2.2.2.2.2.2.2.2.2.2.2.2.2.2.2.2.2) :
    ∃ x0 x1 x2 x3 x4 x5 x6 x7 x8 x9 x10 x11 x12 x13 x14 x15 x16 x17, p x0 x1 x2 x3 x4 x5 x6 x7 x8 x9 x10 x11 x12 x13 x14 x15 x16 x17 :=
  ⟨_, _, _, _, _, _, _, _, _, _, _, _, _, _, _, _, _, _, h⟩

theorem meets22 {A B C D E F G H I J K L M N O P Q R S T U V} {p : A → B → C → D → E → F → G → H → I → J → K → L → M → N → O → P → Q → R → S → T → U → V → Prop} (x : A × B × C × D × E × F × G × H × I × J × K × L × M × N × O × P × Q × R × S × T × U × V) (h : p x.1 x.2.1 x.2.2.1 x.2.2.2.1 x.2.2.2.2.1 x.2.2.2.2.2.1 x.2.2.2.2.2.2.1 x.2.2.2.2.2.2.2.1 x.2.2.2.2.2.2.2.2.1 x.2.2.2.2.2.2.2.2.2.1 x.2.2.2.2.2.2.2.2.2.2.1 x.2.2.2.2.2.2.2.2.2.2.2.1 x.2.2.2.2.2.2.2.2.2.2.2.2.1 x.2.2.2.2.2.2.2.2.2.2.2.2.2.1 x.2.2.2.2.2.2.2.2.2.2.2.2.2.2.1 x.2.2.2.2.2.2.2.2.2.2.2.2.2.2.2.1 x.2.2.2.2.2.2.2.2.2.2.2.2.2.2.2.2.1 x.2.2.2.2.2.2.2.2.2.2.2.2.2.2.2.2.2.1 x.2.2.2.2.2.2.2.2.2.2.2.2.2.2.2.2.2.2.1 x.2.2.2.2.2.2.2.2.2.2.2.2.2.2.2.2.2.2.2.1 x.2.2.2.2.2.2.2.2.2.2.2.2.2.2.2.2.2.2.2.2.1 x.2.2.2.2.2.2.2.2.2.2.2.2.2.2.2.2.2.2.2.2.2) :
    ∃ x0 x1 x2 x3 x4 x5 x6 x7 x8 x9 x10 x11 x12 x13 x14 x15 x16 x17 x18 x19 x20 x21, p x0 x1 x2 x3 x4 x5 x6 x7 x8 x9 x10 x11 x12 x13 x14 x15 x16 x17 x18 x19 x20 x21 :=
  ⟨_, _, _, _, _, _, _, _, _, _, _, _, _, _, _, _, _, _, _, _, _, _, h⟩

def atAluResults (r : S32) (f : SF) : Hdr × S32 × SF × State :=
  (hdr, r, f, base)

/-- What `Obligations.AluResults` assumes, clause by clause, can be met. -/
theorem witness_AluResults :
    (∃ (h : Hdr) (r : S32) (f : SF) (s : State),
      ∀ row ∈ Claims.aluRows, s.runs (row.reg h r) 1 = true ∧ s.runs (row.imm h f) 1 = true) ∧
    (∃ (h : Hdr) (_ : S32) (f : SF) (s : State),
      ∀ row ∈ Claims.aluRows, s.runs (row.lit h f) 1 = true) :=
  ⟨meets4 (atAluResults (⟨31, 10, 0⟩) ({ (default : SF) with d := 5, a := 9, imm := 65535, wid := 3 })) (by decide +kernel),
   meets4 (atAluResults (⟨31, 10, 0⟩) ({ (default : SF) with d := 5, a := 9, lit := 2147483648, wid := 1, sgn := true })) (by decide +kernel)⟩

def atCountResults (r : S32) (f : SF) : Hdr × S32 × SF × State :=
  (hdr, r, f, base)

/-- What `Obligations.CountAndPredicateResults` assumes, clause by clause, can be met (its part on CountResults). -/
theorem witness_CountResults :
    (∃ (h : Hdr) (r : S32) (f : SF) (s : State),
      ∀ row ∈ [(Count.clz, Instr.clz, Instr.clzW), (.ctz, .ctz, .ctzW), (.popc, .popc, .popcW)],
      s.runs (row.2.1 h r) 1 = true ∧ s.runs (row.2.2 h f) 1 = true) :=
  meets4 (atCountResults (⟨31, 10, 0⟩) ({ (default : SF) with d := 5, a := 9, wid := 2 })) (by decide +kernel)

def atAddressAndLoadImmediate (f : SF) : Hdr × SF × State :=
  (hdr 3, f, base)

/-- What `Obligations.AddressesAndBitFields` assumes, clause by clause, can be met (its part on AddressAndLoadImmediate). -/
theorem witness_AddressAndLoadImmediate :
    (∃ (h : Hdr) (f : SF) (s : State),
      s.runs (.lea h f) 1 = true) ∧
    (∃ (h : Hdr) (f : SF) (s : State),
      s.runs (.leaL h f) 1 = true) ∧
    (∃ (h : Hdr) (f : SF) (s : State),
      s.runs (.sel h f) 1 = true) ∧
    (∃ (h : Hdr) (f : SF) (s : State),
      s.runs (.li h f) 1 = true) ∧
    (∃ (h : Hdr) (f : SF) (s : State),
      s.runs (.liL h f) 1 = true) ∧
    (∃ (h : Hdr) (f : SF) (s : State),
      s.runs (.lih h f) 1 = true) ∧
    (∃ (h : Hdr) (f : SF) (s : State),
      s.runs (.lihL h f) 1 = true) :=
  ⟨meets3 (atAddressAndLoadImmediate ({ (default : SF) with d := 31, a := 9, b := 2, c := 7, imm := 32768 })) (by decide +kernel),
   meets3 (atAddressAndLoadImmediate ({ (default : SF) with d := 31, a := 9, b := 2, c := 7, lit := 4294967295 })) (by decide +kernel),
   meets3 (atAddressAndLoadImmediate ({ (default : SF) with d := 31, a := 9, b := 2, c := 7 })) (by decide +kernel),
   meets3 (atAddressAndLoadImmediate ({ (default : SF) with d := 31, imm := 32768 })) (by decide +kernel),
   meets3 (atAddressAndLoadImmediate ({ (default : SF) with d := 31, lit := 2147483648 })) (by decide +kernel),
   meets3 (atAddressAndLoadImmediate ({ (default : SF) with d := 31, imm := 32768 })) (by decide +kernel),
   meets3 (atAddressAndLoadImmediate ({ (default : SF) with d := 31, lit := 2147483648 })) (by decide +kernel)⟩

def atBitFields (f : SF) : Hdr × SF × State :=
  (hdr, f, base)

/-- What `Obligations.AddressesAndBitFields` assumes, clause by clause, can be met (its part on BitFields). -/
theorem witness_BitFields :
    (∃ (h : Hdr) (f : SF) (s : State),
      s.runs (.bfx h f) 1 = true) ∧
    (∃ (h : Hdr) (f : SF) (s : State),
      s.runs (.bfi h f) 1 = true) ∧
    (∃ (h : Hdr) (f : SF) (s : State),
      s.runs (.ext h f) 1 = true) ∧
    (∃ (h : Hdr) (f : SF) (s : State),
      s.runs (.bperm h f) 1 = true) :=
  ⟨meets3 (atBitFields ({ (default : SF) with d := 31, a := 12, imm := 4159, sgn := true })) (by decide +kernel),
   meets3 (atBitFields ({ (default : SF) with d := 31, a := 12, imm := 4159 })) (by decide +kernel),
   meets3 (atBitFields ({ (default : SF) with d := 31, a := 12, wid := 3, sgn := true })) (by decide +kernel),
   meets3 (atBitFields ({ (default : SF) with d := 31, a := 12, b := 13, c := 7 })) (by decide +kernel)⟩

def atPredicateResults (f : SF) : Hdr × SF × State :=
  (hdr, f, base)

/-- What `Obligations.CountAndPredicateResults` assumes, clause by clause, can be met (its part on PredicateResults). -/
theorem witness_PredicateResults :
    (∃ (h : Hdr) (f : SF) (s : State),
      s.runs (.cmp h f) 1 = true) ∧
    (∃ (h : Hdr) (f : SF) (s : State),
      s.runs (.cmpL h f) 1 = true) ∧
    (∃ (h : Hdr) (f : SF) (s : State),
      s.runs (.plog h f) 1 = true) :=
  ⟨meets3 (atPredicateResults ({ (default : SF) with d := 7, a := 12, b := 13, wid := 3, sgn := true, md := 5, imm := 65535 })) (by decide +kernel),
   meets3 (atPredicateResults ({ (default : SF) with d := 7, a := 12, wid := 1, md := 5, lit := 4294967295 })) (by decide +kernel),
   meets3 (atPredicateResults ({ (default : SF) with d := 7, a := 6, b := 3, md := 15 })) (by decide +kernel)⟩

def atScalarFloat (g : S32) (f : SF) : Hdr × S32 × SF × State :=
  (hdr, g, f, base)

/-- What `Obligations.ScalarFloat` assumes, clause by clause, can be met. -/
theorem witness_ScalarFloat :
    (∃ (h : Hdr) (g : S32) (f : SF) (s : State),
      ∀ row ∈ Claims.floatRows, s.runs (row.reg h g) 1 = true ∧ s.runs (row.form h f) 1 = true) ∧
    (∃ (h : Hdr) (g : S32) (f : SF) (s : State),
      ∀ row ∈ [(Ex.min, Instr.fmin, Instr.fmin64), (Ex.max, .fmax, .fmax64)],
      s.runs (row.2.1 h g) 1 = true ∧ s.runs (row.2.2 h f) 1 = true) ∧
    (∃ (h : Hdr) (_ : S32) (f : SF) (s : State),
      s.runs (.fma h f) 1 = true) ∧
    (∃ (h : Hdr) (_ : S32) (f : SF) (s : State),
      s.runs (.fcmp h f) 1 = true) ∧
    (∃ (h : Hdr) (_ : S32) (f : SF) (s : State),
      s.runs (.fcvt h f) 1 = true ∧ f.md.getLsbD 2 = true) ∧
    (∃ (h : Hdr) (_ : S32) (f : SF) (s : State),
      s.runs (.fcvt h f) 1 = true ∧ f.md.getLsbD 2 = false) :=
  ⟨meets4 (atScalarFloat (⟨31, 12, 13⟩) ({ (default : SF) with d := 31, a := 12, b := 13, md := 0 })) (by decide +kernel),
   meets4 (atScalarFloat (⟨31, 12, 13⟩) ({ (default : SF) with d := 31, a := 12, b := 13, md := 0 })) (by decide +kernel),
   meets4 (atScalarFloat (⟨31, 12, 13⟩) ({ (default : SF) with d := 31, a := 12, b := 13, md := 0 })) (by decide +kernel),
   meets4 (atScalarFloat (⟨31, 12, 13⟩) ({ (default : SF) with d := 7, a := 12, b := 13, md := 5 })) (by decide +kernel),
   meets4 (atScalarFloat (⟨31, 12, 13⟩) ({ (default : SF) with d := 31, a := 12, md := 7, wid := 3 })) (by decide +kernel),
   meets4 (atScalarFloat (⟨31, 12, 13⟩) ({ (default : SF) with d := 31, a := 12, md := 3, wid := 2, sgn := true })) (by decide +kernel)⟩

def atGlobalAccess (lit : Bool) (sync : Bool) (sc : BitVec 3) : Bool × Bool × Hdr × SF × State × Nat × W64 :=
  let s := base
  let f : SF := { (default : SF) with d := 31, a := 2, imm := if lit then 0 else 0xFFF8, lit := if lit then 0xFFFFFFF8 else 0, wid := 3, scp := if sync then sc else 0 }
  (sync, lit, hdr, f, s, 0x100000, leaf 0x100000 0 0 0xF0)

/-- What `Obligations.GlobalAccess` assumes, clause by clause, can be met. -/
theorem witness_GlobalAccess :
    (∃ (sync lit : Bool) (h : Hdr) (f : SF) (s : State) (pa : Nat) (pte : W64),
      s.runs (Claims.globalForm false sync lit h f) 0 = true ∧
      Claims.granted s .load sync false (s.sreg f.a + Claims.dispOf lit f) (bytesOf f.wid) pa pte) ∧
    (∃ (sync lit : Bool) (h : Hdr) (f : SF) (s : State) (pa : Nat) (pte : W64),
      s.runs (Claims.globalForm true sync lit h f) 0 = true ∧
      Claims.granted s .store sync false (s.sreg f.a + Claims.dispOf lit f) (bytesOf f.wid) pa pte) :=
  ⟨meets7 (atGlobalAccess false true 5) ⟨by decide +kernel, by unfold Claims.granted; decide +kernel⟩,
   meets7 (atGlobalAccess false true 5) ⟨by decide +kernel, by unfold Claims.granted; decide +kernel⟩⟩

def atGlobalAccessTraps (store : Bool) (a : BitVec 5) (x : Nat) : Bool × Bool × Bool × Hdr × SF × State :=
  let s := { base with tasks := base.tasks.map (fun t => { t with raceCfg := 2 }), patina := [(0x4000000000, 0x10103001)] }
  let s := if x = 1 then { s with dies := [(0, { fenced := true })] } else s
  let f : SF := { (default : SF) with d := 31, a := a, wid := 3 }
  (store, false, false, hdr, f, s)

/-- What `Obligations.GlobalAccess` assumes, clause by clause, can be met (its part on GlobalAccessTraps). -/
theorem witness_GlobalAccessTraps :
    (∃ (store sync lit : Bool) (h : Hdr) (f : SF) (s : State),
      s.runs (Claims.globalForm store sync lit h f) 0 = true ∧ (s.sreg f.a + Claims.dispOf lit f).toNat % bytesOf f.wid ≠ 0) ∧
    (∃ (store sync lit : Bool) (h : Hdr) (f : SF) (s : State),
      s.runs (Claims.globalForm store sync lit h f) 0 = true ∧ (s.sreg f.a + Claims.dispOf lit f).toNat % bytesOf f.wid = 0 ∧
      ∃ k ∈ [(0 : Byte), 1, 2], s.look s.cur.core s.rc.root (s.sreg f.a + Claims.dispOf lit f).toNat = .fault k) ∧
    (∃ (store sync lit : Bool) (h : Hdr) (f : SF) (s : State),
      s.runs (Claims.globalForm store sync lit h f) 0 = true ∧ (s.sreg f.a + Claims.dispOf lit f).toNat % bytesOf f.wid = 0 ∧
      s.look s.cur.core s.rc.root (s.sreg f.a + Claims.dispOf lit f).toNat = .miss) ∧
    (∃ (store sync lit : Bool) (h : Hdr) (f : SF) (s : State),
      s.runs (Claims.globalForm store sync lit h f) 0 = true ∧ (s.sreg f.a + Claims.dispOf lit f).toNat % bytesOf f.wid = 0 ∧
      s.look s.cur.core s.rc.root (s.sreg f.a + Claims.dispOf lit f).toNat = .hit 0x110000 (leaf 0x110000 0 0 0x20) ∧
      (s.denied s.rc.part s.cx.mode (Claims.accOf store) false (leaf 0x110000 0 0 0x20) 0x110000).isSome = true) ∧
    (∃ (store sync lit : Bool) (h : Hdr) (f : SF) (s : State),
      s.runs (Claims.globalForm store sync lit h f) 0 = true ∧ (s.sreg f.a + Claims.dispOf lit f).toNat % bytesOf f.wid = 0 ∧
      s.look s.cur.core s.rc.root (s.sreg f.a + Claims.dispOf lit f).toNat = .hit 0x100000 (leaf 0x100000 0 0 0xF0) ∧
      s.denied s.rc.part s.cx.mode (Claims.accOf store) false (leaf 0x100000 0 0 0xF0) 0x100000 = none ∧
      s.hwError (Claims.accOf store) 0x100000 = true) ∧
    (∃ (store sync lit : Bool) (h : Hdr) (f : SF) (s : State),
      s.runs (Claims.globalForm store sync lit h f) 0 = true ∧ (s.sreg f.a + Claims.dispOf lit f).toNat % bytesOf f.wid = 0 ∧
      s.look s.cur.core s.rc.root (s.sreg f.a + Claims.dispOf lit f).toNat = .hit 0x100000000000 (leaf 0x100000000000 1 0 0x2F0) ∧
      s.denied s.rc.part s.cx.mode (Claims.accOf store) false (leaf 0x100000000000 1 0 0x2F0) 0x100000000000 = none ∧
      s.hwError (Claims.accOf store) 0x100000000000 = false ∧
      s.raceTrap s.rc s.cur.core sync (pteRc (leaf 0x100000000000 1 0 0x2F0)) (span 0x100000000000 (bytesOf f.wid)) = some 0x100000000000) :=
  ⟨meets6 (atGlobalAccessTraps false 4 0) (by decide +kernel),
   meets6 (atGlobalAccessTraps false 6 0) (by decide +kernel),
   meets6 (atGlobalAccessTraps false 12 0) (by decide +kernel),
   meets6 (atGlobalAccessTraps false 5 0) (by decide +kernel),
   meets6 (atGlobalAccessTraps false 1 1) (by decide +kernel),
   meets6 (atGlobalAccessTraps false 9 0) (by decide +kernel)⟩

/-- A load of a line of the own scratchpad that its home has not performed yet. -/
def loading (path : Path) (a : Nat) : State :=
  { base with reqs := [{ (default : Req) with serial := 7, slot := .a, ctx := .primary, path := path, kind := .load, pieces := [{ addr := [a] }] }]
              cur := { base.cur with base := 40 } }

def atOwnScratchpadReads (x : Bool) (lit : Bool) (d : BitVec 5) (w : BitVec 3) (off : BitVec 16) : Bool × Hdr × SF × State :=
  let sg := w == 3
  let f : SF := { (default : SF) with d := d, a := 0, imm := if lit then 0 else off, lit := if lit then off.setWidth 32 else 0, wid := w, sgn := sg }
  let s := if x then loading .ls ((Claims.ownBytes base (off.toNat + 8) 1).headD 0) else base
  (lit, hdr, f, s)

/-- What `Obligations.ScratchpadAndStreams` assumes, clause by clause, can be met (its part on OwnScratchpadReads). -/
theorem witness_OwnScratchpadReads :
    (∃ (lit : Bool) (h : Hdr) (f : SF) (s : State),
      s.runs (Claims.ldsForm lit h f) 1 = true ∧ f.c = 0 ∧
      Claims.undisturbed s (Claims.ownBytes s (s.sreg f.a + Claims.dispOf lit f).toNat (bytesOf f.wid)) = true) ∧
    (∃ (lit : Bool) (h : Hdr) (f : SF) (s : State),
      s.runs (Claims.stldForm lit h f) 1 = true ∧
      Claims.undisturbed s (Claims.ownBytes s (s.sreg f.a + Claims.dispOf lit f).toNat 64) = true) ∧
    (∃ (lit : Bool) (h : Hdr) (f : SF) (s : State),
      s.runs (Claims.bpldForm lit h f) 1 = true ∧
      Claims.undisturbed s (Claims.ownBytes s (s.sreg f.a + Claims.dispOf lit f).toNat 56) = true) ∧
    (∃ (lit : Bool) (h : Hdr) (f : SF) (s : State),
      s.runs (Claims.ldsForm lit h f) 1 = true ∧ f.c = 0 ∧
      s.clean.ownRead .ls (Claims.ownBytes s (s.sreg f.a + Claims.dispOf lit f).toNat (bytesOf f.wid)) = none) ∧
    (∃ (lit : Bool) (h : Hdr) (f : SF) (s : State),
      s.runs (Claims.stldForm lit h f) 1 = true ∧
      s.clean.ownRead .ls (Claims.ownBytes s (s.sreg f.a + Claims.dispOf lit f).toNat 64) = none) ∧
    (∃ (lit : Bool) (h : Hdr) (f : SF) (s : State),
      s.runs (Claims.bpldForm lit h f) 1 = true ∧
      s.clean.ownRead .ls (Claims.ownBytes s (s.sreg f.a + Claims.dispOf lit f).toNat 56) = none) :=
  ⟨meets4 (atOwnScratchpadReads false true 15 3 0x1FF8) (by decide +kernel),
   meets4 (atOwnScratchpadReads false true 15 0 0x1FF8) (by decide +kernel),
   meets4 (atOwnScratchpadReads false true 7 0 0x1FF8) (by decide +kernel),
   meets4 (atOwnScratchpadReads true true 15 3 0x1FC0) (by decide +kernel),
   meets4 (atOwnScratchpadReads true true 15 0 0x1FF8) (by decide +kernel),
   meets4 (atOwnScratchpadReads true true 7 0 0x1FF8) (by decide +kernel)⟩

def atScratchpadRequests (c : BitVec 5) (off : BitVec 16) (d : BitVec 5) (w : BitVec 3) : Bool × Hdr × SF × State × List Nat :=
  let s := base
  let s := s.modCx (fun x => (x.putS false 12 1).putS false 2 8)
  let f : SF := { (default : SF) with d := d, a := 2, c := c, imm := off, wid := w }
  let l := (s.spTarget c (s.sreg 2 + off.signExtend 64) (bytesOf w)).getD []
  (false, hdr, f, s, l)

/-- What `Obligations.ScratchpadAndStreams` assumes, clause by clause, can be met (its part on ScratchpadRequests). -/
theorem witness_ScratchpadRequests :
    (∃ (lit : Bool) (h : Hdr) (f : SF) (s : State) (l : List Nat),
      s.runs (Claims.stsForm lit h f) 0 = true ∧ s.spTarget f.c (s.sreg f.a + Claims.dispOf lit f) (bytesOf f.wid) = some l) ∧
    (∃ (lit : Bool) (h : Hdr) (f : SF) (s : State) (_ : List Nat),
      s.runs (Claims.stsForm lit h f) 0 = true ∧ s.spTarget f.c (s.sreg f.a + Claims.dispOf lit f) (bytesOf f.wid) = none) ∧
    (∃ (lit : Bool) (h : Hdr) (f : SF) (s : State) (l : List Nat),
      s.runs (Claims.ldsForm lit h f) 0 = true ∧ f.c ≠ 0 ∧
      s.spTarget f.c (s.sreg f.a + Claims.dispOf lit f) (bytesOf f.wid) = some l) ∧
    (∃ (lit : Bool) (h : Hdr) (f : SF) (s : State) (_ : List Nat),
      s.runs (Claims.ldsForm lit h f) 0 = true ∧ f.c ≠ 0 ∧
      s.spTarget f.c (s.sreg f.a + Claims.dispOf lit f) (bytesOf f.wid) = none) ∧
    (∃ (lit : Bool) (h : Hdr) (f : SF) (s : State) (_ : List Nat),
      s.runs (Claims.ststForm lit h f) 0 = true) :=
  ⟨meets5 (atScratchpadRequests 0 0xFFF8 31 3) (by decide +kernel),
   meets5 (atScratchpadRequests 2 0xFFF8 31 3) (by decide +kernel),
   meets5 (atScratchpadRequests 12 0xFFF8 31 3) (by decide +kernel),
   meets5 (atScratchpadRequests 2 0xFFF8 31 3) (by decide +kernel),
   meets5 (atScratchpadRequests 0 0xFFF8 15 0) (by decide +kernel)⟩

def atStreamSetUp : Hdr × SF × State × Stream :=
  let f : SF := { (default : SF) with d := 15, a := 12, md := 13 }
  (hdr, f, base, default)

/-- What `Obligations.ScratchpadAndStreams` assumes, clause by clause, can be met (its part on StreamSetUp). -/
theorem witness_StreamSetUp :
    (∃ (h : Hdr) (f : SF) (s : State) (_ : Stream),
      s.runs (.stdef h f) 1 = true) :=
  meets4 (atStreamSetUp) (by decide +kernel)

def atStreamImageRoundTrip : Stream × BitVec 512 :=
  ({ (default : Stream) with format := 11, blklog := 8, scaleMode := 2, stride2 := 0xFFFFFFFF }, BitVec.allOnes 512)

/-- What `Obligations.ScratchpadAndStreams` assumes, clause by clause, can be met (its part on StreamImageRoundTrip). -/
theorem witness_StreamImageRoundTrip :
    (∃ (t : Stream) (_ : BitVec 512),
      t.format.toNat < 12 ∧ 5 ≤ t.blklog.toNat ∧ t.blklog.toNat ≤ 8 ∧ t.scaleMode.toNat < 3) :=
  meets2 (atStreamImageRoundTrip) (by decide +kernel)

def atAtomicsPosted (sg : Bool) (md : BitVec 4) (w : BitVec 3) (c : BitVec 5) (a : BitVec 5) : Bool × Hdr × SF × State × Nat × W64 × List Nat :=
  let s := base
  let f : SF := { (default : SF) with d := 31, a := a, b := 12, c := c, wid := w, sgn := sg, scp := 5, md := md }
  let l := (s.spTarget c (s.sreg a) (Claims.amoBytes f)).getD []
  (false, hdr, f, s, (s.sreg a).toNat - 0x10000 + 0x100000, leaf 0x100000 0 0 0xF0, l)

/-- What `Obligations.AtomicsPosted` assumes, clause by clause, can be met. -/
theorem witness_AtomicsPosted :
    (∃ (lit : Bool) (h : Hdr) (f : SF) (s : State) (pa : Nat) (pte : W64) (_ : List Nat),
      s.runs (Claims.amoForm lit h f) 0 = true ∧ f.sgn = false ∧
      Claims.granted s .atomic true false (s.sreg f.a + Claims.dispOf lit f) (Claims.amoBytes f) pa pte) ∧
    (∃ (lit : Bool) (h : Hdr) (f : SF) (s : State) (_ : Nat) (_ : W64) (l : List Nat),
      s.runs (Claims.amoForm lit h f) 0 = true ∧ f.sgn = true ∧
      s.spTarget f.c (s.sreg f.a + Claims.dispOf lit f) (Claims.amoBytes f) = some l) ∧
    (∃ (lit : Bool) (h : Hdr) (f : SF) (s : State) (pa : Nat) (pte : W64) (_ : List Nat),
      s.runs (Claims.acasForm lit h f) 0 = true ∧ f.sgn = false ∧
      Claims.granted s .atomic true false (s.sreg f.a + Claims.dispOf lit f) (bytesOf f.wid) pa pte) ∧
    (∃ (lit : Bool) (h : Hdr) (f : SF) (s : State) (_ : Nat) (_ : W64) (_ : List Nat),
      s.runs (Claims.acasForm lit h f) 0 = true ∧ f.sgn = true) :=
  ⟨meets7 (atAtomicsPosted false 9 3 0 2) ⟨by decide +kernel, by decide +kernel, by unfold Claims.granted; decide +kernel⟩,
   meets7 (atAtomicsPosted true 9 3 0 2) (by decide +kernel),
   meets7 (atAtomicsPosted false 0 3 0 2) ⟨by decide +kernel, by decide +kernel, by unfold Claims.granted; decide +kernel⟩,
   meets7 (atAtomicsPosted true 0 3 0 2) (by decide +kernel)⟩

def atAtomicOnAbsentCore (c : BitVec 5) (a : BitVec 5) : Bool × Hdr × SF × State :=
  let f : SF := { (default : SF) with d := 31, a := a, b := 12, c := c, wid := 3, sgn := true, scp := 5, md := 8 }
  (false, hdr, f, base)

/-- What `Obligations.AtomicsPosted` assumes, clause by clause, can be met (its part on AtomicOnAbsentCore). -/
theorem witness_AtomicOnAbsentCore :
    (∃ (lit : Bool) (h : Hdr) (f : SF) (s : State),
      s.runs (Claims.amoForm lit h f) 0 = true ∧ f.sgn = true ∧
      s.spTarget f.c (s.sreg f.a + Claims.dispOf lit f) (Claims.amoBytes f) = none) :=
  meets4 (atAtomicOnAbsentCore 8 1) (by decide +kernel)

def atClaimPosted (a : BitVec 5) (im : BitVec 16) : Hdr × SF × State × Nat × W64 :=
  let f : SF := { (default : SF) with d := 30, a := a, imm := im }
  (hdr, f, base, 0x100000000000, leaf 0x100000000000 1 0 0x2F0)

/-- What `Obligations.AtomicsPosted` assumes, clause by clause, can be met (its part on ClaimPosted). -/
theorem witness_ClaimPosted :
    (∃ (h : Hdr) (f : SF) (s : State) (pa : Nat) (pte : W64),
      s.runs (.aclaim h f) 0 = true ∧ Claims.granted s .atomic true true (s.sreg f.a + f.imm.signExtend 64) 8 pa pte) ∧
    (∃ (h : Hdr) (f : SF) (s : State) (_ : Nat) (_ : W64),
      s.runs (.aclaim h f) 0 = true ∧ (s.sreg f.a + f.imm.signExtend 64).toNat % 8 ≠ 0) :=
  ⟨meets5 (atClaimPosted 9 0) ⟨by decide +kernel, by unfold Claims.granted; decide +kernel⟩,
   meets5 (atClaimPosted 4 0xFFF8) (by decide +kernel)⟩

def atCrossFileMoves (r : S32) (f : SF) : Hdr × S32 × SF × State :=
  (hdr, r, f, base)

/-- What `Obligations.MovesAndControlRegisters` assumes, clause by clause, can be met (its part on CrossFileMoves). -/
theorem witness_CrossFileMoves :
    (∃ (h : Hdr) (_ : S32) (f : SF) (s : State),
      s.runs (.movsv h f) 8 = true) ∧
    (∃ (h : Hdr) (_ : S32) (f : SF) (s : State),
      s.runs (.movvs h f) 1 = true) ∧
    (∃ (h : Hdr) (r : S32) (_ : SF) (s : State),
      s.runs (.movsm h r) 1 = true) ∧
    (∃ (h : Hdr) (r : S32) (_ : SF) (s : State),
      s.runs (.movms h r) 1 = true ∧ r.a.toNat < 8) ∧
    (∃ (h : Hdr) (r : S32) (_ : SF) (s : State),
      s.runs (.movms h r) 0 = true ∧ 16 ≤ r.a.toNat) ∧
    (∃ (h : Hdr) (r : S32) (_ : SF) (s : State),
      s.runs (.movfs h r) 1 = true) ∧
    (∃ (h : Hdr) (r : S32) (_ : SF) (s : State),
      s.runs (.movps h r) 1 = true) ∧
    (∃ (h : Hdr) (r : S32) (_ : SF) (s : State),
      s.runs (.movsp h r) 1 = true) :=
  ⟨meets4 (atCrossFileMoves (⟨31, 7, 0⟩) ({ (default : SF) with d := 31, a := 12, imm := 4351 })) (by decide +kernel),
   meets4 (atCrossFileMoves (⟨31, 7, 0⟩) ({ (default : SF) with d := 31, a := 3, imm := 3847, sgn := true })) (by decide +kernel),
   meets4 (atCrossFileMoves (⟨7, 31, 0⟩) ({ (default : SF) with d := 31, a := 12, imm := 4351 })) (by decide +kernel),
   meets4 (atCrossFileMoves (⟨31, 7, 0⟩) ({ (default : SF) with d := 31, a := 12, imm := 4351 })) (by decide +kernel),
   meets4 (atCrossFileMoves (⟨7, 31, 0⟩) ({ (default : SF) with d := 31, a := 12, imm := 4351 })) (by decide +kernel),
   meets4 (atCrossFileMoves (⟨31, 7, 0⟩) ({ (default : SF) with d := 31, a := 12, imm := 4351 })) (by decide +kernel),
   meets4 (atCrossFileMoves (⟨31, 7, 0⟩) ({ (default : SF) with d := 31, a := 12, imm := 4351 })) (by decide +kernel),
   meets4 (atCrossFileMoves (⟨7, 31, 0⟩) ({ (default : SF) with d := 31, a := 12, imm := 4351 })) (by decide +kernel)⟩

def atVectorArithmetic (lit : Option W32) (ty : BitVec 4) (b : BitVec 5) : Hdr × VF × State × Option W32 :=
  let f : VF := { (default : VF) with gmask := 0xFF, vd := 31, va := 1, vb := if lit.isSome then 0 else b, ty := ty, rnd := 3, sat := true, vm := 1, bsrc := false }
  (hdr, f, base, lit)

/-- What `Obligations.VectorArithmetic` assumes, clause by clause, can be met. -/
theorem witness_VectorArithmetic :
    (∃ (h : Hdr) (f : VF) (s : State) (lit : Option W32),
      ∀ row ∈ Claims.vArithRows, s.runs (row.forms.of h f lit) 8 = true) ∧
    (∃ (h : Hdr) (f : VF) (s : State) (_ : Option W32),
      s.runs (.vabs h f) 8 = true) ∧
    (∃ (h : Hdr) (f : VF) (s : State) (_ : Option W32),
      s.runs (.vneg h f) 8 = true) :=
  ⟨meets4 (atVectorArithmetic none 0 3) (by decide +kernel),
   meets4 (atVectorArithmetic none 0 0) (by decide +kernel),
   meets4 (atVectorArithmetic none 0 0) (by decide +kernel)⟩

def atVectorLogic (lit : Option W32) (ty : BitVec 4) (b : BitVec 5) : Hdr × VF × State × Option W32 :=
  let f : VF := { (default : VF) with gmask := 0xFF, vd := 31, va := 1, vb := if lit.isSome then 0 else b, ty := ty, vm := 1 }
  (hdr, f, base, lit)

/-- What `Obligations.VectorMasksAndLogic` assumes, clause by clause, can be met (its part on VectorLogic). -/
theorem witness_VectorLogic :
    (∃ (h : Hdr) (f : VF) (s : State) (lit : Option W32),
      ∀ row ∈ Claims.vLogicRows, s.runs (row.forms.of h f lit) 8 = true) ∧
    (∃ (h : Hdr) (f : VF) (s : State) (lit : Option W32),
      ∀ row ∈ [Claims.VForms.mk .vshl .vshlL], s.runs (row.of h f lit) 8 = true) ∧
    (∃ (h : Hdr) (f : VF) (s : State) (_ : Option W32),
      ∀ row ∈ [(Count.popc, Instr.vpopc), (.clz, .vclz)], s.runs (row.2 h f) 8 = true) :=
  ⟨meets4 (atVectorLogic none 11 3) (by decide +kernel),
   meets4 (atVectorLogic none 11 3) (by decide +kernel),
   meets4 (atVectorLogic none 11 0) (by decide +kernel)⟩

def atVectorMasks (lit : Option W32) (ty : BitVec 4) (m : BitVec 6) (d : BitVec 5) (a : BitVec 5) (b : BitVec 5) (c : BitVec 5) : Hdr × VF × State × Option W32 × W32 :=
  let f : VF := { (default : VF) with gmask := 0xFF, vd := d, va := a, vb := if lit.isSome then 0 else b, vc := c, ty := ty, rnd := 3, vm := if m = 15 then 0 else 1, mod6 := m }
  (hdr, f, base, lit, 0x80000000)

/-- What `Obligations.VectorMasksAndLogic` assumes, clause by clause, can be met (its part on VectorMasks). -/
theorem witness_VectorMasks :
    (∃ (h : Hdr) (f : VF) (s : State) (lit : Option W32) (_ : W32),
      ∀ row ∈ [Claims.VForms.mk .vcmp .vcmpL], s.runs (row.of h f lit) 8 = true) ∧
    (∃ (h : Hdr) (f : VF) (s : State) (lit : Option W32) (_ : W32),
      ∀ row ∈ [Claims.VForms.mk .vsel .vselL], s.runs (row.of h f lit) 8 = true) ∧
    (∃ (h : Hdr) (f : VF) (s : State) (_ : Option W32) (_ : W32),
      s.runs (.vmlog h f) 8 = true) ∧
    (∃ (h : Hdr) (f : VF) (s : State) (_ : Option W32) (_ : W32),
      s.runs (.vmov h f) 8 = true) ∧
    (∃ (h : Hdr) (f : VF) (s : State) (_ : Option W32) (x : W32),
      s.runs (.vli h f x) 8 = true) :=
  ⟨meets5 (atVectorMasks none 10 0 7 3 3 0) (by decide +kernel),
   meets5 (atVectorMasks none 10 0 31 3 3 0) (by decide +kernel),
   meets5 (atVectorMasks none 0 15 7 3 3 0) (by decide +kernel),
   meets5 (atVectorMasks none 10 0 31 3 0 0) (by decide +kernel),
   meets5 (atVectorMasks none 10 0 31 0 0 0) (by decide +kernel)⟩

def atVectorConversions (lit : Option W32) (ty : BitVec 4) (m : BitVec 6) (d : BitVec 5) (a : BitVec 5) (b : BitVec 5) (c : BitVec 5) : Hdr × VF × State × Option W32 :=
  let f : VF := { (default : VF) with gmask := 0xFF, vd := d, va := a, vb := if lit.isSome then 0 else b, vc := c, ty := ty, rnd := 3, vm := if m = 15 then 0 else 1, mod6 := m }
  (hdr, f, base, lit)

/-- What `Obligations.VectorConversions` assumes, clause by clause, can be met. -/
theorem witness_VectorConversions :
    (∃ (h : Hdr) (f : VF) (s : State) (_ : Option W32),
      s.runs (.vcvt h f) 8 = true) ∧
    (∃ (h : Hdr) (f : VF) (s : State) (_ : Option W32),
      ∀ row ∈ Claims.vSpecRows, s.runs (row.2 h f) 8 = true) ∧
    (∃ (h : Hdr) (f : VF) (s : State) (lit : Option W32),
      ∀ row ∈ [Claims.VForms.mk .vdot4 .vdot4L], s.runs (row.of h f lit) 8 = true) ∧
    (∃ (h : Hdr) (f : VF) (s : State) (_ : Option W32),
      s.runs (.vqcvt h f) 8 = true) ∧
    (∃ (h : Hdr) (f : VF) (s : State) (lit : Option W32),
      ∀ row ∈ [Claims.VForms.mk .vdq .vdqL], s.runs (row.of h f lit) 8 = true) ∧
    (∃ (h : Hdr) (f : VF) (s : State) (_ : Option W32),
      s.runs (.vsbr h f) 8 = true) ∧
    (∃ (h : Hdr) (f : VF) (s : State) (_ : Option W32),
      s.runs (.vunp3 h f) 8 = true ∧ s.rc.ternTrap = false) ∧
    (∃ (h : Hdr) (f : VF) (s : State) (_ : Option W32),
      s.runs (.vpack3 h f) 8 = true) :=
  ⟨meets4 (atVectorConversions none 10 0 31 3 0 0) (by decide +kernel),
   meets4 (atVectorConversions none 0 0 31 3 0 0) (by decide +kernel),
   meets4 (atVectorConversions none 10 0 31 3 3 0) (by decide +kernel),
   meets4 (atVectorConversions none 3 0 31 3 0 0) (by decide +kernel),
   meets4 (atVectorConversions none 10 0 31 3 3 0) (by decide +kernel),
   meets4 (atVectorConversions none 0 0 31 0 0 0) (by decide +kernel),
   meets4 (atVectorConversions none 11 0 31 3 0 0) (by decide +kernel),
   meets4 (atVectorConversions none 11 0 31 3 0 0) (by decide +kernel)⟩

def atVectorAcrossLanes (ty : BitVec 4) (m : BitVec 6) (d : BitVec 5) (a : BitVec 5) (b : BitVec 5) (c : BitVec 5) : Hdr × VF × State :=
  let lit : Option W32 := none
  let f : VF := { (default : VF) with gmask := 0xFF, vd := d, va := a, vb := if lit.isSome then 0 else b, vc := c, ty := ty, rnd := 3, vm := if m = 15 then 0 else 1, mod6 := m }
  (hdr, f, base)

/-- What `Obligations.VectorAcrossLanes` assumes, clause by clause, can be met. -/
theorem witness_VectorAcrossLanes :
    (∃ (h : Hdr) (f : VF) (s : State),
      s.runs (.vshuf h f) 8 = true) ∧
    (∃ (h : Hdr) (f : VF) (s : State),
      s.runs (.vbcst h f) 8 = true) ∧
    (∃ (h : Hdr) (f : VF) (s : State),
      s.runs (.vxg h f) 8 = true) ∧
    (∃ (h : Hdr) (f : VF) (s : State),
      s.runs (.vbperm h f) 8 = true) ∧
    (∃ (h : Hdr) (f : VF) (s : State),
      s.runs (.vthr h f) 8 = true) ∧
    (∃ (h : Hdr) (f : VF) (s : State),
      s.runs (.vradd h f) 8 = true) ∧
    (∃ (h : Hdr) (f : VF) (s : State),
      s.runs (.vrmax h f) 8 = true) ∧
    (∃ (h : Hdr) (f : VF) (s : State),
      s.runs (.vrmin h f) 8 = true) ∧
    (∃ (h : Hdr) (f : VF) (s : State),
      s.runs (.vscan h f) 8 = true) ∧
    (∃ (h : Hdr) (f : VF) (s : State),
      s.runs (.vamax h f) 8 = true) :=
  ⟨meets3 (atVectorAcrossLanes 0 0 31 3 3 0) (by decide +kernel),
   meets3 (atVectorAcrossLanes 0 0 31 3 0 0) (by decide +kernel),
   meets3 (atVectorAcrossLanes 0 0 31 3 0 0) (by decide +kernel),
   meets3 (atVectorAcrossLanes 0 0 31 3 3 0) (by decide +kernel),
   meets3 (atVectorAcrossLanes 0 0 31 0 0 0) (by decide +kernel),
   meets3 (atVectorAcrossLanes 10 0 31 3 0 0) (by decide +kernel),
   meets3 (atVectorAcrossLanes 10 0 31 3 0 0) (by decide +kernel),
   meets3 (atVectorAcrossLanes 10 0 31 3 0 0) (by decide +kernel),
   meets3 (atVectorAcrossLanes 10 0 31 3 0 0) (by decide +kernel),
   meets3 (atVectorAcrossLanes 3 0 0 3 0 0) (by decide +kernel)⟩

def atTernaryTrap (ty : BitVec 4) (m : BitVec 6) (d : BitVec 5) (a : BitVec 5) (b : BitVec 5) (c : BitVec 5) : Hdr × VF × State × Nat :=
  let lit : Option W32 := none
  let f : VF := { (default : VF) with gmask := 0xFF, vd := d, va := a, vb := if lit.isSome then 0 else b, vc := c, ty := ty, rnd := 3, vm := if m = 15 then 0 else 1, mod6 := m }
  let s := (base).modRc (fun r => { r with ternTrap := true, v := r.v.map (fun e => (e.1, if e.1 = 59 then 243 else 0)) })
  (hdr, f, s, 11)

/-- What `Obligations.VectorConversions` assumes, clause by clause, can be met (its part on TernaryTrap). -/
theorem witness_TernaryTrap :
    (∃ (h : Hdr) (f : VF) (s : State) (l : Nat),
      s.runs (.vunp3 h f) 0 = true ∧ s.rc.ternTrap = true ∧
      (s.onLanes f).find? (fun k => decide (243 ≤ (Claims.vLane s f.va (k / 16) (k % 16)).toNat % 256)) = some l) :=
  meets4 (atTernaryTrap 11 0 31 3 0 0) (by decide +kernel)

def placesOf (s : State) (f : VF) (a : Acc) (n : Nat) (l : List (Nat × W64)) : List Piece × Bool :=
  match Claims.places s f a n l with
  | .ok p => p
  | .error _ => ([], false)

def streaming : State := base.modRc (fun r => { r with
  streams := [(1, { base := 0x100, format := 10, count0 := 40, stride0 := 1 }),
    (2, { base := 0x10000, space := 3, format := 0, count0 := 4, stride0 := 4 }),
    (4, { base := 0x80020, space := 1, format := 2, count0 := 20, count1 := 3, stride0 := 2, stride1 := 3 })]
  v := (List.range 32).map (fun i => (i + 16 * (1 + i / 16), BitVec.ofNat 32 (i % 16 * 4))) })

def atVectorStreams (k : Nat) (a : BitVec 5) (b : BitVec 5) (d : BitVec 5) (c : BitVec 5) (x : Bool) : Hdr × VF × State × List Piece × Bool × List Byte :=
  let s := if x then { streaming with reqs := (loading .vs 0x200000001100).reqs, cur := { base.cur with base := 40 } } else streaming
  let f : VF := { (default : VF) with gmask := 1, vd := d, va := a, vb := b, vc := c, vm := 0 }
  let place : Nat × Nat → Nat × W64 := fun p => (p.1, (s.stream f.va).addrOf ((s.stream f.va).cursor.toNat + p.2))
  let q : List Piece × Bool := match k with
    | 0 => placesOf s f .load (Claims.streamBytes s f) ((Claims.streamLanes f).map place)
    | 1 => placesOf s f .store (Claims.streamBytes s f) (((Claims.streamLanes f).filter (fun p => Claims.onL s f p.1)).map place)
    | 2 => placesOf s f .load (Claims.streamBytes s f) ((Claims.enabled s f).map (fun l => (l, Claims.gatherVa s f l)))
    | _ => placesOf s f .store (Claims.streamBytes s f) ((Claims.enabled s f).map (fun l => (l, Claims.gatherVa s f l)))
  let bytes := ((s.clean.ownRead .vs (q.1.flatMap (fun p => p.addr))).map (fun e => e.2)).getD []
  (hdr, f, s, q.1, q.2, bytes)

/-- What `Obligations.VectorMemory` assumes, clause by clause, can be met (its part on VectorStreams). -/
theorem witness_VectorStreams :
    (∃ (h : Hdr) (f : VF) (s : State) (ps : List Piece) (absent : Bool) (bytes : List Byte),
      s.runs (.vsld h f) 8 = true ∧ (s.stream f.va).space = 0 ∧
      Claims.places s f .load (Claims.streamBytes s f) ((Claims.streamLanes f).map (fun p =>
        (p.1, (s.stream f.va).addrOf ((s.stream f.va).cursor.toNat + p.2)))) = .ok (ps, absent) ∧
      s.clean.ownRead .vs (ps.flatMap (fun p => p.addr)) = some (s.clean, bytes)) ∧
    (∃ (h : Hdr) (f : VF) (s : State) (ps : List Piece) (absent : Bool) (_ : List Byte),
      s.runs (.vsld h f) 8 = true ∧ (s.stream f.va).space = 0 ∧
      Claims.places s f .load (Claims.streamBytes s f) ((Claims.streamLanes f).map (fun p =>
        (p.1, (s.stream f.va).addrOf ((s.stream f.va).cursor.toNat + p.2)))) = .ok (ps, absent) ∧
      s.clean.ownRead .vs (ps.flatMap (fun p => p.addr)) = none) ∧
    (∃ (h : Hdr) (f : VF) (s : State) (ps : List Piece) (absent : Bool) (_ : List Byte),
      s.runs (.vsld h f) 0 = true ∧ (s.stream f.va).space ≠ 0 ∧
      Claims.places s f .load (Claims.streamBytes s f) ((Claims.streamLanes f).map (fun p =>
        (p.1, (s.stream f.va).addrOf ((s.stream f.va).cursor.toNat + p.2)))) = .ok (ps, absent)) ∧
    (∃ (h : Hdr) (f : VF) (s : State) (ps : List Piece) (absent : Bool) (_ : List Byte),
      s.runs (.vsst h f) 0 = true ∧
      Claims.places s f .store (Claims.streamBytes s f) (((Claims.streamLanes f).filter (fun p => Claims.onL s f p.1)).map
        (fun p => (p.1, (s.stream f.va).addrOf ((s.stream f.va).cursor.toNat + p.2)))) = .ok (ps, absent)) ∧
    (∃ (h : Hdr) (f : VF) (s : State) (ps : List Piece) (absent : Bool) (_ : List Byte),
      s.runs (.vgld h f) 0 = true ∧
      Claims.places s f .load (Claims.streamBytes s f) ((Claims.enabled s f).map (fun l => (l, Claims.gatherVa s f l))) =
        .ok (ps, absent)) ∧
    (∃ (h : Hdr) (f : VF) (s : State) (ps : List Piece) (absent : Bool) (_ : List Byte),
      s.runs (.vsct h f) 0 = true ∧
      Claims.places s f .store (Claims.streamBytes s f) ((Claims.enabled s f).map (fun l => (l, Claims.gatherVa s f l))) =
        .ok (ps, absent)) :=
  ⟨meets6 (atVectorStreams 0 1 0 31 0 false) ⟨by decide +kernel, by decide +kernel, ok_of (by decide +kernel), by decide +kernel⟩,
   meets6 (atVectorStreams 0 1 0 31 0 true) ⟨by decide +kernel, by decide +kernel, ok_of (by decide +kernel), by decide +kernel⟩,
   meets6 (atVectorStreams 0 2 0 31 0 false) ⟨by decide +kernel, by decide +kernel, ok_of (by decide +kernel)⟩,
   meets6 (atVectorStreams 0 1 0 0 0 false) ⟨by decide +kernel, ok_of (by decide +kernel)⟩,
   meets6 (atVectorStreams 2 1 0 31 0 false) ⟨by decide +kernel, ok_of (by decide +kernel)⟩,
   meets6 (atVectorStreams 2 1 0 0 0 false) ⟨by decide +kernel, ok_of (by decide +kernel)⟩⟩

def atVectorAtomic (a : BitVec 5) (b : BitVec 5) (c : BitVec 5) (m : BitVec 6) (d : BitVec 5) : Hdr × VF × State × List Piece × Bool :=
  let s := streaming
  let f : VF := { (default : VF) with gmask := 1, vd := d, va := a, vb := b, vc := c, vm := 0, mod6 := m }
  let q := placesOf s f .atomic (if m.toNat % 16 = 9 then 4 else Claims.streamBytes s f) ((Claims.enabled s f).map (fun l => (l, Claims.gatherVa s f l)))
  (hdr, f, s, q.1, q.2)

/-- What `Obligations.VectorMemory` assumes, clause by clause, can be met (its part on VectorAtomic). -/
theorem witness_VectorAtomic :
    (∃ (h : Hdr) (f : VF) (s : State) (ps : List Piece) (absent : Bool),
      s.runs (.vsamo h f) 0 = true ∧ Claims.places s f .atomic (if f.mod6.toNat % 16 = 9 then 4 else Claims.streamBytes s f)
        ((Claims.enabled s f).map (fun l => (l, Claims.gatherVa s f l))) = .ok (ps, absent)) :=
  meets5 (atVectorAtomic 2 0 3 25 31) ⟨by decide +kernel, ok_of (by decide +kernel)⟩

def atCountingFlags (x : Nat) (fl : BitVec 5) (sa : BitVec 5) (n : BitVec 16) : Hdr × YF × State :=
  let s := base
  let s := if x = 1 then s.modRc (fun r => { r with waiters := [(.h1, 1, 2, 0)] }) else s
  let f : YF := { (default : YF) with f := fl, sa := sa, n := if sa = 0 then n else 0 }
  (hdr, f, s)

/-- What `Obligations.FlagsBarriersAndFences` assumes, clause by clause, can be met (its part on CountingFlags). -/
theorem witness_CountingFlags :
    (∃ (h : Hdr) (f : YF) (s : State),
      s.runs (.fwait h f) 0 = true ∧ Claims.flagOperand s f = 0) ∧
    (∃ (h : Hdr) (f : YF) (s : State),
      s.runs (.fwait h f) 0 = true ∧ Claims.flagOperand s f ≠ 0 ∧ Claims.firstInLine s f = true ∧
      (Claims.flagOperand s f).toNat ≤ (s.rc.flag f.f).toNat) ∧
    (∃ (h : Hdr) (f : YF) (s : State),
      s.runs (.fwait h f) 0 = true ∧ Claims.flagOperand s f ≠ 0 ∧
      (Claims.firstInLine s f = false ∨ (s.rc.flag f.f).toNat < (Claims.flagOperand s f).toNat)) ∧
    (∃ (h : Hdr) (f : YF) (s : State),
      s.runs (.fpost h f) 0 = true ∧ Claims.flagOperand s f = 0) ∧
    (∃ (h : Hdr) (f : YF) (s : State),
      s.runs (.fpost h f) 0 = true ∧ Claims.flagOperand s f ≠ 0) ∧
    (∃ (h : Hdr) (f : YF) (s : State),
      s.runs (.fset h f) 0 = true) :=
  ⟨meets3 (atCountingFlags 0 31 0 0) (by decide +kernel),
   meets3 (atCountingFlags 0 1 0 5) (by decide +kernel),
   meets3 (atCountingFlags 0 31 0 0xFFFF) (by decide +kernel),
   meets3 (atCountingFlags 0 31 0 0) (by decide +kernel),
   meets3 (atCountingFlags 0 31 0 0xFFFF) (by decide +kernel),
   meets3 (atCountingFlags 0 31 0 0) (by decide +kernel)⟩

def atBarriers (x : Nat) (gid : BitVec 8) (pd : BitVec 3) : Hdr × YF × State :=
  let s := base
  let s := match x with
    | 0 => s
    | 1 => s.modArm 5 (fun a => { a with arrived := [(0, .a, 3)] })
    | _ => s.modArm 3 (fun a => { a with broken := true })
  let f : YF := { (default : YF) with gid := gid, pd := pd }
  (hdr, f, s)

/-- What `Obligations.FlagsBarriersAndFences` assumes, clause by clause, can be met (its part on Barriers). -/
theorem witness_Barriers :
    (∃ (h : Hdr) (f : YF) (s : State),
      (validGroups s.rc.groupSet).contains f.gid = false ∧ s.runs (.bara h f) 0 = true) ∧
    (∃ (h : Hdr) (f : YF) (s : State),
      (validGroups s.rc.groupSet).contains f.gid = false ∧ ∀ i ∈ [Instr.barw h f, .baraw h f], s.runs i 0 = true) ∧
    (∃ (h : Hdr) (f : YF) (s : State),
      (validGroups s.rc.groupSet).contains f.gid = true ∧ ((s.arm f.gid).v && !(s.arm f.gid).broken) = true ∧
      s.runs (.barw h f) 0 = true) ∧
    (∃ (h : Hdr) (f : YF) (s : State),
      (validGroups s.rc.groupSet).contains f.gid = true ∧ ((s.arm f.gid).v && !(s.arm f.gid).broken) = true ∧
      (s.arm f.gid).arrived.any (fun e => e.1 == s.cur.core && e.2.1 == s.cur.slot) = false ∧ s.runs (.bara h f) 0 = true) ∧
    (∃ (h : Hdr) (f : YF) (s : State),
      (validGroups s.rc.groupSet).contains f.gid = true ∧ ((s.arm f.gid).v && !(s.arm f.gid).broken) = true ∧
      (s.arm f.gid).arrived.any (fun e => e.1 == s.cur.core && e.2.1 == s.cur.slot) = false ∧ s.runs (.baraw h f) 0 = true) ∧
    (∃ (h : Hdr) (f : YF) (s : State),
      (validGroups s.rc.groupSet).contains f.gid = true ∧ ((s.arm f.gid).v && !(s.arm f.gid).broken) = true ∧
      (s.arm f.gid).arrived.any (fun e => e.1 == s.cur.core && e.2.1 == s.cur.slot) = true ∧ s.runs (.bara h f) 0 = true ∧
      s.runs (.baraw h { f with pd := 7 }) 0 = true) ∧
    (∃ (h : Hdr) (f : YF) (s : State),
      (validGroups s.rc.groupSet).contains f.gid = true ∧ ((s.arm f.gid).v && !(s.arm f.gid).broken) = false ∧
      s.runs (.bara h f) 0 = true) ∧
    (∃ (h : Hdr) (f : YF) (s : State),
      (validGroups s.rc.groupSet).contains f.gid = true ∧ ((s.arm f.gid).v && !(s.arm f.gid).broken) = false ∧
      ∀ i ∈ [Instr.barw h f, .baraw h f], s.runs i 0 = true) :=
  ⟨meets3 (atBarriers 0 7 0) (by decide +kernel),
   meets3 (atBarriers 0 7 0) (by decide +kernel),
   meets3 (atBarriers 0 5 0) (by decide +kernel),
   meets3 (atBarriers 0 5 0) (by decide +kernel),
   meets3 (atBarriers 0 5 0) (by decide +kernel),
   meets3 (atBarriers 1 5 0) (by decide +kernel),
   meets3 (atBarriers 2 3 0) (by decide +kernel),
   meets3 (atBarriers 2 3 0) (by decide +kernel)⟩

def atFenceIssues : Hdr × YF × State :=
  let f : YF := { (default : YF) with f := 31, scp := 5 }
  (hdr, f, base)

/-- What `Obligations.FlagsBarriersAndFences` assumes, clause by clause, can be met (its part on FenceIssues). -/
theorem witness_FenceIssues :
    (∃ (h : Hdr) (f : YF) (s : State),
      s.runs (.fence h f) 0 = true) :=
  meets3 (atFenceIssues) (by decide +kernel)

def atBranches (bt : BitVec 3) (sa : BitVec 5) (off : W32) : Hdr × BF × W32 × State :=
  let s := base.modCx (fun x => { x with b := [(0, 0x10040), (7, 0x10081)] })
  let f : BF := { (default : BF) with bt := bt, sa := sa }
  (hdr, f, off, s)

/-- What `Obligations.LoopsAndBranches` assumes, clause by clause, can be met (its part on Branches). -/
theorem witness_Branches :
    (∃ (h : Hdr) (f : BF) (_ : W32) (s : State),
      s.runs (.pbrReg h f) 0 = true) ∧
    (∃ (h : Hdr) (f : BF) (off : W32) (s : State),
      s.runs (.pbr h f off) 0 = true) ∧
    (∃ (h : Hdr) (f : BF) (_ : W32) (s : State),
      s.runs (.br h f) 0 = true ∧ (Claims.target s f.bt).toNat % 4 = 0) ∧
    (∃ (h : Hdr) (f : BF) (_ : W32) (s : State),
      s.runs (.call h f) 0 = true ∧ (Claims.target s f.bt).toNat % 4 = 0) ∧
    (∃ (h : Hdr) (f : BF) (_ : W32) (s : State),
      ∀ i ∈ [Instr.br h f, .call h f], s.runs i 0 = true ∧ (Claims.target s f.bt).toNat % 4 ≠ 0) :=
  ⟨meets4 (atBranches 0 0 0xFFFFFFFF) (by decide +kernel),
   meets4 (atBranches 0 0 0xFFFFFFFF) (by decide +kernel),
   meets4 (atBranches 0 0 0xFFFFFFFF) (by decide +kernel),
   meets4 (atBranches 0 0 0xFFFFFFFF) (by decide +kernel),
   meets4 (atBranches 7 0 0xFFFFFFFF) (by decide +kernel)⟩

def atHardwareLoops (x : Nat) (sa : BitVec 5) (off : W32) (yld : Bool) : Hdr × BF × W32 × State × LoopE × List LoopE × VAddr :=
  let s := base
  let l : List LoopE := match x with
    | 0 => []
    | 1 => [⟨0x10000, 0x10044, 3, 1, true⟩]
    | _ => List.replicate 6 ⟨0x10000, 0x10044, 3, 1, true⟩
  let s := { s.modCx (fun y => { y with loops := l }) with mem := [(0x100040, 0x14), (0x100044, 0x14), (0x100048, 0x14)] }
  let f : BF := { (default : BF) with yld := yld, sa := sa }
  let a := match s.afterGroup (if x = 0 then Claims.labelAt s off else 0x10044) with | .ok a => a | _ => 0
  (hdr, f, off, s, ⟨0x10000, 0x10044, 3, 1, true⟩, l.tail, a)

/-- What `Obligations.LoopsAndBranches` assumes, clause by clause, can be met (its part on HardwareLoops). -/
theorem witness_HardwareLoops :
    (∃ (h : Hdr) (f : BF) (off : W32) (s : State) (_ : LoopE) (_ : List LoopE) (_ : VAddr),
      s.runs (.loop h f off) 0 = true ∧ s.cx.loops.length < (if s.cur.ctx = .primary then 6 else 2) ∧
      s.cx.loops.any (fun e => e.stop == Claims.labelAt s off) = false ∧ (s.sreg f.sa).extractLsb' 0 32 ≠ 0) ∧
    (∃ (h : Hdr) (f : BF) (off : W32) (s : State) (_ : LoopE) (_ : List LoopE) (a : VAddr),
      s.runs (.loop h f off) 0 = true ∧ s.cx.loops.length < (if s.cur.ctx = .primary then 6 else 2) ∧
      s.cx.loops.any (fun e => e.stop == Claims.labelAt s off) = false ∧ (s.sreg f.sa).extractLsb' 0 32 = 0 ∧
      s.afterGroup (Claims.labelAt s off) = .ok a) ∧
    (∃ (h : Hdr) (f : BF) (off : W32) (s : State) (_ : LoopE) (_ : List LoopE) (_ : VAddr),
      s.badEncoding (.loop h f off) = false ∧ (s.cx.loops.length ≥ (if s.cur.ctx = .primary then 6 else 2) ∨
        s.cx.loops.any (fun e => e.stop == Claims.labelAt s off) = true)) ∧
    (∃ (h : Hdr) (f : BF) (_ : W32) (s : State) (e : LoopE) (l : List LoopE) (a : VAddr),
      s.runs (.lbrk h f) 0 = true ∧ s.cx.loops = e :: l ∧ s.afterGroup e.stop = .ok a) ∧
    (∃ (h : Hdr) (f : BF) (_ : W32) (s : State) (_ : LoopE) (_ : List LoopE) (_ : VAddr),
      s.badEncoding (.lbrk h f) = false ∧ s.cx.loops = []) :=
  ⟨meets7 (atHardwareLoops 0 12 16 true) (by decide +kernel),
   meets7 (atHardwareLoops 0 7 16 true) ⟨by decide +kernel, by decide +kernel, by decide +kernel, by decide +kernel, fetched_of (by decide +kernel)⟩,
   meets7 (atHardwareLoops 1 12 16 true) (by decide +kernel),
   meets7 (atHardwareLoops 1 0 16 false) ⟨by decide +kernel, by decide +kernel, fetched_of (by decide +kernel)⟩,
   meets7 (atHardwareLoops 0 0 16 false) (by decide +kernel)⟩

def atSwitchAndBoundBranches (x : Nat) (sa : BitVec 5) (bt : BitVec 3) (sb : BitVec 5) : Hdr × BF × State × W32 × W32 :=
  let s := base.modRc (fun r => { r with
    swtab := if x = 1 then 0 else 0x10400
    eng := { r.eng with tiles := [(1, { ranked := true, k := 1, rows := (List.range 64).map (fun i => (i, [(0x3F800000, 5)])) })] } })
  let s := s.modCx (fun y => { (y.putS false 13 0x3F000000).putS false 14 0x7FC00000 with b := [(0, 0x10040), (3, 2)] })
  let s := { s with mem := [(0x100420, 0x40), (0x100440, 0x41), (0x100466, 0x10)] }
  let f : BF := { (default : BF) with bt := bt, sa := sa, sb := sb }
  let w := match s.fetchWords 2 (Claims.switchAt s f) with | .ok [a, b] => (a, b) | _ => (0, 0)
  (hdr, f, s, w.1, w.2)

/-- What `Obligations.LoopsAndBranches` assumes, clause by clause, can be met (its part on SwitchAndBoundBranches). -/
theorem witness_SwitchAndBoundBranches :
    (∃ (h : Hdr) (f : BF) (s : State) (_ _ : W32),
      s.runs (.swpt h f) 0 = true ∧ s.rc.swtab = 0) ∧
    (∃ (h : Hdr) (f : BF) (s : State) (w0 w1 : W32),
      s.runs (.swpt h f) 0 = true ∧ s.rc.swtab ≠ 0 ∧ s.fetchWords 2 (Claims.switchAt s f) = .ok [w0, w1] ∧ w1 ++ w0 = 0#64) ∧
    (∃ (h : Hdr) (f : BF) (s : State) (w0 w1 : W32),
      s.runs (.swpt h f) 0 = true ∧ s.rc.swtab ≠ 0 ∧ s.fetchWords 2 (Claims.switchAt s f) = .ok [w0, w1] ∧ w1 ++ w0 ≠ 0#64 ∧
      (w1 ++ w0).toNat < 2 ^ 48 ∧ (w1 ++ w0).toNat % 4 = 0) ∧
    (∃ (h : Hdr) (f : BF) (s : State) (w0 w1 : W32),
      s.runs (.swpt h f) 0 = true ∧ s.rc.swtab ≠ 0 ∧ s.fetchWords 2 (Claims.switchAt s f) = .ok [w0, w1] ∧
      (2 ^ 48 ≤ (w1 ++ w0).toNat ∨ (w1 ++ w0).toNat % 4 ≠ 0)) ∧
    (∃ (h : Hdr) (f : BF) (s : State) (_ _ : W32),
      s.runs (.brt h f) 0 = true ∧ isNaN32 (Claims.boundOf s f) = true) ∧
    (∃ (h : Hdr) (f : BF) (s : State) (_ _ : W32),
      s.runs (.brt h f) 0 = true ∧ isNaN32 (Claims.boundOf s f) = false ∧
      rankKey (Claims.boundOf s f) ≤ rankKey (Claims.thresholdOf s f) ∧ (Claims.target s f.bt).toNat % 4 = 0) ∧
    (∃ (h : Hdr) (f : BF) (s : State) (_ _ : W32),
      s.runs (.brt h f) 0 = true ∧ isNaN32 (Claims.boundOf s f) = false ∧
      rankKey (Claims.thresholdOf s f) < rankKey (Claims.boundOf s f)) :=
  ⟨meets5 (atSwitchAndBoundBranches 1 0 0 0) (by decide +kernel),
   meets5 (atSwitchAndBoundBranches 0 0 0 0) ⟨by decide +kernel, by decide +kernel, fetched_of (by decide +kernel), by decide +kernel⟩,
   meets5 (atSwitchAndBoundBranches 0 1 0 0) ⟨by decide +kernel, by decide +kernel, fetched_of (by decide +kernel), by decide +kernel⟩,
   meets5 (atSwitchAndBoundBranches 0 2 0 0) ⟨by decide +kernel, by decide +kernel, fetched_of (by decide +kernel), by decide +kernel⟩,
   meets5 (atSwitchAndBoundBranches 0 14 0 0) (by decide +kernel),
   meets5 (atSwitchAndBoundBranches 0 0 0 1) (by decide +kernel),
   meets5 (atSwitchAndBoundBranches 0 0 0 0) (by decide +kernel)⟩

def atExitLeaves (m : Bool) (x : Nat) (cx : CtxId) : Hdr × BF × State :=
  let s := base m
  let s := s.modRc (fun r => { r with h1 := context false, inflight := if x = 0 then [] else r.inflight, pend := if x = 0 then [] else [(.s .h1 false 5, .req 3)] })
  let s := { s with cur := { s.cur with ctx := cx } }
  (hdr, default, s)

/-- What `Obligations.TrapsExitReturnAndIdle` assumes, clause by clause, can be met (its part on ExitLeaves). -/
theorem witness_ExitLeaves :
    (∃ (h : Hdr) (f : BF) (s : State),
      s.runs (.exit h f) 0 = true ∧ s.cur.ctx ≠ .primary) ∧
    (∃ (h : Hdr) (f : BF) (s : State),
      s.runs (.exit h f) 0 = true ∧ s.cur.ctx = .primary ∧ s.cx.mode = true) ∧
    (∃ (h : Hdr) (f : BF) (s : State),
      s.runs (.exit h f) 0 = true ∧ s.cur.ctx = .primary ∧ s.cx.mode = false ∧ s.rc.quiet = false) ∧
    (∃ (h : Hdr) (f : BF) (s : State),
      s.runs (.exit h f) 0 = true ∧ s.cur.ctx = .primary ∧ s.cx.mode = false ∧ s.rc.quiet = true) :=
  ⟨meets3 (atExitLeaves false 0 .h1) (by decide +kernel),
   meets3 (atExitLeaves true 0 .primary) (by decide +kernel),
   meets3 (atExitLeaves false 1 .primary) (by decide +kernel),
   meets3 (atExitLeaves false 0 .primary) (by decide +kernel)⟩

def atControlRegisters (m : Bool) (csr : BitVec 12) (x : Nat) (d : BitVec 5) (a : BitVec 5) (e : BitVec 5) : Hdr × CF × BitVec 12 × State :=
  let s := (base m).modHere (fun k => { k with clk := if x = 0 then none else some { eng := none, div := 3, slot := .a, ctx := .h1, k := false, pd := 2 } })
  let f : CF := ⟨d, a, e⟩
  (hdr, f, csr, s)

/-- What `Obligations.MovesAndControlRegisters` assumes, clause by clause, can be met (its part on ControlRegisters). -/
theorem witness_ControlRegisters :
    (∃ (h : Hdr) (f : CF) (_ : BitVec 12) (s : State),
      ∀ i ∈ [Instr.nop h f, .nop64 h f, .nop96 h f], s.runs i 0 = true) ∧
    (∃ (h : Hdr) (f : CF) (csr : BitVec 12) (s : State),
      s.runs (.rdc h f csr) 1 = true) ∧
    (∃ (h : Hdr) (f : CF) (csr : BitVec 12) (s : State),
      s.runs (.wrc h f csr) 1 = true) ∧
    (∃ (h : Hdr) (f : CF) (_ : BitVec 12) (s : State),
      s.runs (.pwrq h f) 0 = true) ∧
    (∃ (h : Hdr) (f : CF) (_ : BitVec 12) (s : State),
      s.runs (.clkdiv h f) 0 = true ∧ s.here.clk = none) ∧
    (∃ (h : Hdr) (f : CF) (_ : BitVec 12) (s : State),
      s.runs (.clkdiv h f) 0 = true ∧ s.here.clk ≠ none) :=
  ⟨meets4 (atControlRegisters true 0x220 0 0 0 0) (by decide +kernel),
   meets4 (atControlRegisters true 0x220 0 0 0 0) (by decide +kernel),
   meets4 (atControlRegisters true 0x220 0 0 0 0) (by decide +kernel),
   meets4 (atControlRegisters true 0x220 0 0 0 0) (by decide +kernel),
   meets4 (atControlRegisters true 0x220 0 0 0 8) (by decide +kernel),
   meets4 (atControlRegisters true 0x220 1 0 0 8) (by decide +kernel)⟩

def repTargets : List Instr := [.add hdr ⟨30, 10, 2⟩, .fmul hdr ⟨31, 10, 2⟩, .clz hdr ⟨3, 4, 0⟩,
  .ld hdr { (default : SF) with d := 5, a := 6 }, .vadd hdr { (default : VF) with gmask := 255, vd := 31, va := 4, vb := 30 },
  .movps hdr ⟨3, 4, 0⟩, .div hdr { (default : SF) with d := 31, a := 10, b := 4 }, .movps hdr ⟨7, 4, 0⟩]

def atRepeats (cnt : BitVec 16) (x : Nat) (y : Nat) (sb : BitVec 2) : Hdr × Hdr × CF × RepF × S32 × State × CoreId × Instr × Instr × State :=
  let r : RepF := ⟨cnt, 1, 1, sb⟩
  let g : S32 := ⟨30, 10, 2⟩
  let i := repTargets.getD y default
  let s := base
  let s := { s with cur := { s.cur with group := [.rep hdr default r, i], base := 40 } }
  let p : RepSt := { count := 5, sd := 1, sa := 1, sb := sb.toNat, target := i, next := 0x10010, idx := 1 }
  let s := if x = 0 then s else s.modCx (fun z => { z with rep := some p })
  let b := if x = 0 then Claims.repBegun s (Claims.repBegins s default r i) else s
  let p := if x = 0 then Claims.repBegins s default r i else p
  let j := (decodeSV (Claims.repWords p).1).getD default
  let u := match exec j (Claims.repWarned b p) with | .next u => u | _ => s
  (hdr, hdr, default, r, g, s, 0, i, j, u)

/-- What `Obligations.Repeats` assumes, clause by clause, can be met. -/
theorem witness_Repeats :
    (∃ (h _ : Hdr) (f : CF) (x : RepF) (_ : S32) (s : State) (_ : CoreId) (i _ : Instr) (_ : State),
      s.runs (.rep h f x) 0 = true ∧ s.cur.group = [.rep h f x, i] ∧ Claims.repCount s f x ≤ Claims.firstRep s) ∧
    (∃ (h k : Hdr) (f : CF) (x : RepF) (g : S32) (s : State) (_ : CoreId) (_ _ : Instr) (_ : State),
      s.runs (.rep h f x) 0 = true ∧ s.cur.group = [.rep h f x, .add k g] ∧ Claims.firstRep s < Claims.repCount s f x ∧
      s.runs (.add k (Claims.repAdd g x (Claims.firstRep s))) 1 = true) ∧
    (∃ (_ k : Hdr) (_ : CF) (x : RepF) (g : S32) (s : State) (c : CoreId) (_ _ : Instr) (_ : State),
      ∃ p ∈ s.cx.rep.toList, s.cur.core = c ∧ s.cur.slot = (s.core c).act ∧ s.cur.gpc = s.cx.pc ∧ s.cur.base = s.serial ∧ p.target = .add k g ∧ p.sd = x.sd.toNat ∧ p.sa = x.sa.toNat ∧ p.sb = x.sb.toNat ∧ s.runs (.add k (Claims.repAdd g x p.idx)) 1 = true) ∧
    (∃ (h _ : Hdr) (f : CF) (x : RepF) (_ : S32) (s : State) (_ : CoreId) (i j : Instr) (_ : State),
      s.runs (.rep h f x) 0 = true ∧ s.cur.group = [.rep h f x, i] ∧ Claims.firstRep s < Claims.repCount s f x ∧
      decodeSV (Claims.repWords (Claims.repBegins s f x i)).1 = some j ∧
      isNext (exec j (Claims.repWarned (Claims.repBegun s (Claims.repBegins s f x i)) (Claims.repBegins s f x i))) = true) ∧
    (∃ (_ _ : Hdr) (_ : CF) (_ : RepF) (_ : S32) (s : State) (c : CoreId) (_ j : Instr) (_ : State),
      ∃ p ∈ s.cx.rep.toList, s.cur.core = c ∧ s.cur.slot = (s.core c).act ∧ s.cur.gpc = s.cx.pc ∧ s.cur.base = s.serial ∧ decodeSV (Claims.repWords p).1 = some j ∧ isNext (exec j (Claims.repWarned s p)) = true) ∧
    (∃ (_ _ : Hdr) (_ : CF) (_ : RepF) (_ : S32) (s : State) (c : CoreId) (_ _ : Instr) (_ : State),
      ∃ p ∈ s.cx.rep.toList, s.cur.core = c ∧ s.cur.slot = (s.core c).act ∧ s.cur.gpc = s.cx.pc ∧ s.cur.base = s.serial ∧ decodeSV (Claims.repWords p).1 = none) :=
  ⟨meets10 (atRepeats 0 0 0 0) (by decide +kernel),
   meets10 (atRepeats 2 0 0 0) (by decide +kernel),
   meets10 (atRepeats 0 1 0 0) (by decide +kernel),
   meets10 (atRepeats 2 0 0 0) (by decide +kernel),
   meets10 (atRepeats 0 1 0 0) (by decide +kernel),
   meets10 (atRepeats 0 1 2 1) (by decide +kernel)⟩

def atSoftwareTraps (x : Bool) (n : BitVec 5) : Hdr × BF × CF × State :=
  let s := base.modHere (fun k => { k with dbgEbrk := x })
  (hdr, ⟨0, false, n, n⟩, ⟨0, n, n⟩, s)

/-- What `Obligations.TrapsExitReturnAndIdle` assumes, clause by clause, can be met (its part on SoftwareTraps). -/
theorem witness_SoftwareTraps :
    (∃ (h : Hdr) (b : BF) (_ : CF) (s : State),
      s.runs (.trap h b) 0 = true) ∧
    (∃ (h : Hdr) (_ : BF) (f : CF) (s : State),
      s.runs (.sysc h f) 0 = true) ∧
    (∃ (h : Hdr) (_ : BF) (f : CF) (s : State),
      s.runs (.ebreak h f) 0 = true ∧ s.here.dbgEbrk = false) ∧
    (∃ (h : Hdr) (_ : BF) (f : CF) (s : State),
      s.runs (.ebreak h f) 0 = true ∧ s.here.dbgEbrk = true) :=
  ⟨meets4 (atSoftwareTraps false 31) (by decide +kernel),
   meets4 (atSoftwareTraps false 31) (by decide +kernel),
   meets4 (atSoftwareTraps false 0) (by decide +kernel),
   meets4 (atSoftwareTraps true 0) (by decide +kernel)⟩

def atReturnAndIdle (x : Nat) : Hdr × CF × State :=
  let s := (base true).modRc (fun r => { r with flags := if x = 0 then r.flags else [] })
  (hdr, default, s)

/-- What `Obligations.TrapsExitReturnAndIdle` assumes, clause by clause, can be met (its part on ReturnAndIdle). -/
theorem witness_ReturnAndIdle :
    (∃ (h : Hdr) (f : CF) (s : State),
      s.runs (.rfe h f) 0 = true) ∧
    (∃ (h : Hdr) (f : CF) (s : State),
      s.runs (.idle h f) 0 = true ∧ s.awake = true) ∧
    (∃ (h : Hdr) (f : CF) (s : State),
      s.runs (.idle h f) 0 = true ∧ s.awake = false) :=
  ⟨meets3 (atReturnAndIdle 0) (by decide +kernel),
   meets3 (atReturnAndIdle 0) (by decide +kernel),
   meets3 (atReturnAndIdle 1) (by decide +kernel)⟩

def atShootdowns (a : BitVec 5) (d : BitVec 5) (e : BitVec 5) : Hdr × CF × State :=
  (hdr, ⟨d, a, e⟩, base true)

/-- What `Obligations.Shootdowns` assumes, clause by clause, can be met. -/
theorem witness_Shootdowns :
    (∃ (h : Hdr) (f : CF) (s : State),
      s.runs (.tlbiPage h f) 0 = true) ∧
    (∃ (h : Hdr) (f : CF) (s : State),
      s.runs (.tlbiSpace h f) 0 = true) ∧
    (∃ (h : Hdr) (f : CF) (s : State),
      s.runs (.tlbiPart h f) 0 = true) ∧
    (∃ (h : Hdr) (f : CF) (s : State),
      s.runs (.tlbiReplica h f) 0 = true) ∧
    (∃ (h : Hdr) (f : CF) (s : State),
      s.runs (.tlbiRwflush h f) 0 = true) ∧
    (∃ (h : Hdr) (f : CF) (s : State),
      s.runs (.tlbiRcinit h f) 0 = true) :=
  ⟨meets3 (atShootdowns 0 0 0) (by decide +kernel),
   meets3 (atShootdowns 0 0 1) (by decide +kernel),
   meets3 (atShootdowns 0 0 2) (by decide +kernel),
   meets3 (atShootdowns 0 0 3) (by decide +kernel),
   meets3 (atShootdowns 0 0 4) (by decide +kernel),
   meets3 (atShootdowns 0 0 5) (by decide +kernel)⟩

def imageBytes : List Byte :=
  leBytes 4 (3 + 7 * 65536) ++ leBytes 4 1 ++ leBytes 4 0 ++ leBytes 4 0 ++ leBytes 4 12 ++ leBytes 4 14

def calling (x : Nat) : State :=
  let s := (base.modEng (fun e => { e with table := (if x = 0 then [] else [(0, some 7)]) ++ [(1023, some 4095)] })).modCx (fun y => (y.putS false 20 0x40).putS false 21 0x80)
  let s := s.writeList ((List.range imageBytes.length).map (fun i => (0x200000001040 + i, imageBytes.getD i 0)))
  let s := s.writeList ((List.range imageBytes.length).map (fun i => (0x200000001080 + i, if i = 20 then 12 else imageBytes.getD i 0)))
  if x = 0 then s else s.modEng (fun e => { e with queue := [.clr 0 ⟨0, 0⟩, .clr 1 ⟨0, 0⟩, .clr 2 ⟨0, 0⟩, .clr 3 ⟨0, 0⟩], fa0 := some { num := 1, desc := {}, a := 0, b := 0, data := [], pins := [] } })

def im (y : Nat) : Image := [
  { load := 0, offsets := [0], words := [11] }, { load := 4096, offsets := [0], words := [11] },
  { load := 0, offsets := [0, 5], words := [14, 11] }, { load := 0, offsets := [0], words := [17, 11] },
  { load := 0, offsets := [0], words := [11, 12] }, { load := 0, offsets := [1], words := [11, 2] }].getD y ⟨0, [], []⟩

def iw (y : Nat) : W32 := (im y).words.getLast?.getD 0 |> fun w => if y = 3 then 17 else w


def atEngineCommands (x : Nat) (y : Nat) (f : MF) : Hdr × MF × State × BitVec 12 × List Byte × List Byte × Nat × Nat × Nat × Image × W32 :=
  let s := calling x
  let hd := ((s.clean.ownRead .ls (Claims.ownBytes s (s.sreg f.sa).toNat 8)).map (fun e => e.2)).getD []
  let b := ((s.clean.ownRead .ls (Claims.ownBytes s ((s.sreg f.sa).toNat + 8) 16)).map (fun e => e.2)).getD []
  (hdr, f, s, 4095, hd, b, 3, 1, 7, im y, iw y)

/-- What `Obligations.EngineCommands` assumes, clause by clause, can be met. -/
theorem witness_EngineCommands :
    (∃ (h : Hdr) (f : MF) (s : State) (a : BitVec 12) (_ _ : List Byte) (_ _ _ : Nat) (_ : Image) (_ : W32),
      s.runs (.mcall h f) 0 = true ∧ s.rc.eng.table.get none f.idx.toNat = some a ∧ Claims.roomFor s = true) ∧
    (∃ (h : Hdr) (f : MF) (s : State) (_ : BitVec 12) (_ _ : List Byte) (_ _ _ : Nat) (_ : Image) (_ : W32),
      s.runs (.mcall h f) 0 = true ∧ s.rc.eng.table.get none f.idx.toNat = none) ∧
    (∃ (h : Hdr) (f : MF) (s : State) (_ : BitVec 12) (_ _ : List Byte) (_ _ _ : Nat) (_ : Image) (_ : W32),
      s.runs (.mmode h f) 0 = true ∧ Claims.roomFor s = true) ∧
    (∃ (h : Hdr) (f : MF) (s : State) (_ : BitVec 12) (_ _ : List Byte) (_ _ _ : Nat) (_ : Image) (_ : W32),
      s.runs (.mclr h f) 0 = true ∧ Claims.roomFor s = true) ∧
    (∃ (h : Hdr) (f : MF) (s : State) (_ : BitVec 12) (_ _ : List Byte) (_ _ _ : Nat) (_ : Image) (_ : W32),
      s.runs (.mmerge h f) 0 = true ∧ Claims.roomFor s = true) ∧
    (∃ (h : Hdr) (f : MF) (s : State) (_ : BitVec 12) (_ _ : List Byte) (_ _ _ : Nat) (_ : Image) (_ : W32),
      s.runs (.mabort h f) 0 = true ∧ s.rc.eng.idle = true) ∧
    (∃ (h : Hdr) (f : MF) (s : State) (_ : BitVec 12) (_ _ : List Byte) (_ _ _ : Nat) (_ : Image) (_ : W32),
      s.runs (.mabort h f) 0 = true ∧ s.rc.eng.idle = false) ∧
    (∃ (h : Hdr) (f : MF) (s : State) (_ : BitVec 12) (hd body : List Byte) (len e load : Nat) (_ : Image) (_ : W32),
      s.runs (.mpld h f) 0 = true ∧ s.rc.eng.idle = true ∧ s.rc.eng.faulted = false ∧
      s.clean.ownRead .ls (Claims.ownBytes s (s.sreg f.sa).toNat 8) = some (s.clean, hd) ∧
      imageHead ((words32 hd).getD 0 0) ((words32 hd).getD 1 0) = some (len, e, load) ∧
      s.clean.ownRead .ls (Claims.ownBytes s ((s.sreg f.sa).toNat + 8) (4 * (e + len))) = some (s.clean, body) ∧
      (∀ o ∈ (Claims.imageOf load e body).offsets, o < 4096) ∧ (Claims.imageOf load e body).ok f.idx.toNat = true) ∧
    (∃ (h : Hdr) (f : MF) (s : State) (_ : BitVec 12) (hd _ : List Byte) (_ _ _ : Nat) (_ : Image) (_ : W32),
      s.runs (.mpld h f) 0 = true ∧ s.rc.eng.idle = true ∧ s.rc.eng.faulted = false ∧
      s.clean.ownRead .ls (Claims.ownBytes s (s.sreg f.sa).toNat 8) = some (s.clean, hd) ∧
      imageHead ((words32 hd).getD 0 0) ((words32 hd).getD 1 0) = none) ∧
    (∃ (h : Hdr) (f : MF) (s : State) (_ : BitVec 12) (hd body : List Byte) (len e load : Nat) (_ : Image) (_ : W32),
      s.runs (.mpld h f) 0 = true ∧ s.rc.eng.idle = true ∧ s.rc.eng.faulted = false ∧
      s.clean.ownRead .ls (Claims.ownBytes s (s.sreg f.sa).toNat 8) = some (s.clean, hd) ∧
      imageHead ((words32 hd).getD 0 0) ((words32 hd).getD 1 0) = some (len, e, load) ∧
      s.clean.ownRead .ls (Claims.ownBytes s ((s.sreg f.sa).toNat + 8) (4 * (e + len))) = some (s.clean, body) ∧
      ((Claims.imageOf load e body).offsets.any (fun o => 4096 ≤ o) = true ∨ (Claims.imageOf load e body).ok f.idx.toNat = false)) ∧
    (∃ (_ : Hdr) (f : MF) (_ : State) (_ : BitVec 12) (_ _ : List Byte) (_ _ _ : Nat) (m : Image) (_ : W32),
      (4096 < m.load + m.words.length ∨ 1024 < f.idx.toNat + m.offsets.length ∨ m.offsets.any (fun o => m.words.length ≤ o) = true)) ∧
    (∃ (_ : Hdr) (_ : MF) (_ : State) (_ : BitVec 12) (_ _ : List Byte) (_ _ _ : Nat) (m : Image) (w : W32),
      w ∈ m.words ∧ (16 ≤ (w.extractLsb' 0 6).toNat ∨ w.extractLsb' 6 2 ≠ 0)) ∧
    (∃ (_ : Hdr) (_ : MF) (_ : State) (_ : BitVec 12) (_ _ : List Byte) (_ _ _ : Nat) (m : Image) (w : W32),
      m.words.getLast? = some w ∧ w.extractLsb' 0 6 = 12) ∧
    (∃ (_ : Hdr) (_ : MF) (_ : State) (_ : BitVec 12) (_ _ : List Byte) (_ _ _ : Nat) (m : Image) (w : W32),
      m.words.getLast? = some w ∧ m.words.length - 1 ∈ m.offsets ∧ w.extractLsb' 0 6 ≠ 11 ∧ w.extractLsb' 0 6 ≠ 14) ∧
    (∃ (h : Hdr) (f : MF) (s : State) (_ : BitVec 12) (_ _ : List Byte) (_ _ _ : Nat) (_ : Image) (_ : W32),
      s.runs (.mpld h f) 0 = true ∧ (s.rc.eng.idle = false ∨ s.rc.eng.faulted = true)) ∧
    (∃ (h : Hdr) (f : MF) (s : State) (_ : BitVec 12) (_ _ : List Byte) (_ _ _ : Nat) (_ : Image) (_ : W32),
      ∀ i ∈ [Instr.mcall h f, .mmode h f, .mclr h f, .mmerge h f], s.runs i 0 = true ∧ Claims.roomFor s = false ∧ (s.rc.eng.table.get none f.idx.toNat ≠ none ∨ i ≠ .mcall h f)) :=
  ⟨meets11 (atEngineCommands 0 0 (⟨1023, 3, 31, 0, 0, 0, 0⟩)) (by decide +kernel),
   meets11 (atEngineCommands 0 0 (⟨0, 3, 31, 0, 0, 0, 0⟩)) (by decide +kernel),
   meets11 (atEngineCommands 0 0 (⟨0, 3, 0, 32, 1, 0, 0⟩)) (by decide +kernel),
   meets11 (atEngineCommands 0 0 (⟨0, 3, 0, 0, 0, 0, 0⟩)) (by decide +kernel),
   meets11 (atEngineCommands 0 0 (⟨0, 3, 31, 0, 0, 0, 0⟩)) (by decide +kernel),
   meets11 (atEngineCommands 0 0 (⟨0, 0, 0, 0, 0, 0, 0⟩)) (by decide +kernel),
   meets11 (atEngineCommands 1 0 (⟨0, 0, 0, 0, 0, 0, 0⟩)) (by decide +kernel),
   meets11 (atEngineCommands 0 0 (⟨3, 0, 0, 0, 0, 0, 20⟩)) (by decide +kernel),
   meets11 (atEngineCommands 0 0 (⟨0, 0, 0, 0, 0, 0, 0⟩)) (by decide +kernel),
   meets11 (atEngineCommands 0 0 (⟨3, 0, 0, 0, 0, 0, 21⟩)) (by decide +kernel),
   meets11 (atEngineCommands 0 1 (⟨1023, 3, 31, 0, 0, 0, 0⟩)) (by decide +kernel),
   meets11 (atEngineCommands 0 3 (⟨1023, 3, 31, 0, 0, 0, 0⟩)) (by decide +kernel),
   meets11 (atEngineCommands 0 4 (⟨1023, 3, 31, 0, 0, 0, 0⟩)) (by decide +kernel),
   meets11 (atEngineCommands 0 5 (⟨1023, 3, 31, 0, 0, 0, 0⟩)) (by decide +kernel),
   meets11 (atEngineCommands 1 0 (⟨0, 0, 0, 0, 0, 0, 0⟩)) (by decide +kernel),
   meets11 (atEngineCommands 1 0 (⟨0, 3, 0, 0, 0, 0, 0⟩)) (by decide +kernel)⟩

def sysId (d p c : Nat) : W64 := BitVec.ofNat 64 (d * 2 ^ 18 + p * 2 ^ 12 + c)

def copying (x : Nat) : State :=
  let s := { base with peer := 3, domain := 1 }
  let s := s.modFab (fun f => { f with links := [(1, { mode := 1 }), (4, { mode := 1, topo := true }), (5, { mode := 2 })] })
  let s := if x = 0 then s else s.modRc (fun r => { r with
    xfers := (List.range 16).map (fun n => (n, some { serial := n, ins := .pref default default, ctx := .primary, pc := 0 })) })
  s.modCx (fun y => ((((((y.putS false 20 (sysId 1 3 0x40)).putS false 21 (sysId 1 3 5)).putS false 22 (sysId 1 1 5)).putS false 23 0x90000).putS false 24 (sysId 1 2 5)).putS false 25 (sysId 2 0 5)).putS false 26 (sysId 1 4 5))

def atCopiesIssue (x : Nat) (xc : BitVec 5) (xa : BitVec 5) (xb : BitVec 5) (xh : BitVec 5) (acc : BitVec 3) (k : BitVec 6) (xm : BitVec 3) (fl : BitVec 5) : Hdr × XF × State × Nat :=
  let s := copying x
  let f : XF := ⟨fl, xa, xb, xc, xh, acc, k, xm, false, false⟩
  let n := s.rc.freeSlot.getD 0
  (hdr, f, s, n)

/-- What `Obligations.CopiesAndLinesIssue` assumes, clause by clause, can be met (its part on CopiesIssue). -/
theorem witness_CopiesIssue :
    (∃ (h : Hdr) (f : XF) (s : State) (n : Nat),
      s.freeSlot = some n ∧ s.runs (.cpyPlain h f) 0 = true ∧ Claims.elsewhere s (Claims.targetOf s f) = false) ∧
    (∃ (h : Hdr) (f : XF) (s : State) (n : Nat),
      s.freeSlot = some n ∧ s.runs (.cpyConvert h f) 0 = true ∧ Claims.elsewhere s (Claims.targetOf s f) = false) ∧
    (∃ (h : Hdr) (f : XF) (s : State) (n : Nat),
      s.rc.freeSlot = some n ∧ s.runs (.cpyPlain h f) 0 = true ∧ Claims.elsewhere s (Claims.targetOf s f) = true) ∧
    (∃ (h : Hdr) (f : XF) (s : State) (n : Nat),
      s.rc.freeSlot = some n ∧ s.runs (.cpyConvert h f) 0 = true ∧ Claims.elsewhere s (Claims.targetOf s f) = true) ∧
    (∃ (h : Hdr) (f : XF) (s : State) (n : Nat),
      s.freeSlot = some n ∧ s.runs (.cpyRank h f) 0 = true) ∧
    (∃ (h : Hdr) (f : XF) (s : State) (n : Nat),
      s.freeSlot = some n ∧ s.runs (.cpyRankmerge h f) 0 = true ∧ Claims.elsewhere s (Claims.targetOf s f) = false ∧
      ((Claims.targetOf s f).extractLsb' 0 12).toNat / 64 = s.cur.core.toNat / 64) ∧
    (∃ (h : Hdr) (f : XF) (s : State) (n : Nat),
      s.freeSlot = some n ∧ s.runs (.cpyRankmerge h f) 0 = true ∧ (Claims.elsewhere s (Claims.targetOf s f) = true ∨
        ((Claims.targetOf s f).extractLsb' 0 12).toNat / 64 ≠ s.cur.core.toNat / 64)) :=
  ⟨meets4 (atCopiesIssue 0 0 1 2 0 0 0 0 31) (by decide +kernel),
   meets4 (atCopiesIssue 0 0 1 2 0 0 0 1 31) (by decide +kernel),
   meets4 (atCopiesIssue 0 22 1 2 0 0 0 0 31) (by decide +kernel),
   meets4 (atCopiesIssue 0 22 1 2 0 0 0 1 31) (by decide +kernel),
   meets4 (atCopiesIssue 0 0 1 2 0 0 32 2 31) (by decide +kernel),
   meets4 (atCopiesIssue 0 0 1 0 0 0 32 3 31) (by decide +kernel),
   meets4 (atCopiesIssue 0 20 1 0 0 0 32 3 31) (by decide +kernel)⟩

def atTransfersIssue (lit : W32) (x : Nat) (xc : BitVec 5) (xa : BitVec 5) (xb : BitVec 5) (xh : BitVec 5) (acc : BitVec 3) (k : BitVec 6) (xm : BitVec 3) (fl : BitVec 5) : Hdr × XF × W32 × State × Nat :=
  let s := copying x
  let f : XF := ⟨fl, xa, xb, xc, xh, acc, k, xm, false, false⟩
  let n := s.rc.freeSlot.getD 0
  (hdr, f, lit, s, n)

def atTransfersIssue2 (lit : W32) (x : Nat) (xc : BitVec 5) (xa : BitVec 5) (xb : BitVec 5) (xh : BitVec 5) (acc : BitVec 3) (k : BitVec 6) (xm : BitVec 3) (fl : BitVec 5) : Hdr × XF × W32 × State × Nat :=
  let s := (copying x).modFab (fun b => { b with heldDomains := [4], links := b.links ++ [(7, { mode := 1, topo := true })] })
  let s := s.modCx (fun y => y.putS false 27 (sysId 1 7 5))
  let f : XF := ⟨fl, xa, xb, xc, xh, acc, k, xm, false, false⟩
  let n := s.rc.freeSlot.getD 0
  (hdr, f, lit, s, n)

/-- What `Obligations.TransfersIssue` assumes, clause by clause, can be met. -/
theorem witness_TransfersIssue :
    (∃ (h : Hdr) (f : XF) (_ : W32) (s : State) (n : Nat),
      ∃ form ∈ Claims.remoteForms, s.runs (form h f) 0 = true ∧ Claims.handlerOk s (form h f) f = true ∧ Claims.wayOpen s (Claims.targetOf s f) = true ∧ s.rc.freeSlot = some n) ∧
    (∃ (h : Hdr) (f : XF) (_ : W32) (s : State) (_ : Nat),
      ∃ form ∈ Claims.remoteForms, s.runs (form h f) 0 = true ∧ Claims.handlerOk s (form h f) f = true ∧ Claims.wayOpen s (Claims.targetOf s f) = true ∧ s.rc.freeSlot = none) ∧
    (∃ (h : Hdr) (f : XF) (_ : W32) (s : State) (_ : Nat),
      ∃ form ∈ Claims.remoteForms, s.runs (form h f) 0 = true ∧ Claims.handlerOk s (form h f) f = false) ∧
    (∃ (h : Hdr) (f : XF) (_ : W32) (s : State) (n : Nat),
      s.runs (.send h f) 0 = true ∧ Claims.wayOpen s (Claims.packageOf s f) = true ∧ s.freeSlot = some n) ∧
    (∃ (h : Hdr) (f : XF) (lit : W32) (s : State) (n : Nat),
      s.runs (.sendm h f lit) 0 = true ∧ Claims.wayOpen s (Claims.packageOf s f) = true ∧ lit ≠ 0 ∧ s.freeSlot = some n) ∧
    (∃ (h : Hdr) (f : XF) (lit : W32) (s : State) (n : Nat),
      s.runs (.sendm h f lit) 0 = true ∧ Claims.wayOpen s (Claims.packageOf s f) = true ∧ lit = 0 ∧ s.freeSlot = some n) ∧
    (∃ (h : Hdr) (f : XF) (lit : W32) (s : State) (_ : Nat),
      ∀ i ∈ [Instr.send h f, .sendm h f lit], s.runs i 0 = true ∧ Claims.wayOpen s (Claims.packageOf s f) = true ∧ s.freeSlot = none) ∧
    (∃ (h : Hdr) (f : XF) (_ : W32) (s : State) (_ : Nat),
      ∃ form ∈ Claims.remoteForms, s.runs (form h f) 0 = true ∧ Claims.handlerOk s (form h f) f = true ∧ Claims.wayGone s (Claims.targetOf s f) = true) ∧
    (∃ (h : Hdr) (f : XF) (_ : W32) (s : State) (_ : Nat),
      ∃ form ∈ Claims.remoteForms, s.runs (form h f) 0 = true ∧ Claims.handlerOk s (form h f) f = true ∧ Claims.wayQuiet s (Claims.targetOf s f) = true) ∧
    (∃ (h : Hdr) (f : XF) (lit : W32) (s : State) (_ : Nat),
      (∀ i ∈ [Instr.send h f, .sendm h f lit], s.runs i 0 = true) ∧ Claims.wayGone s (Claims.packageOf s f) = true) ∧
    (∃ (h : Hdr) (f : XF) (lit : W32) (s : State) (_ : Nat),
      (∀ i ∈ [Instr.send h f, .sendm h f lit], s.runs i 0 = true) ∧ Claims.wayQuiet s (Claims.packageOf s f) = true) :=
  ⟨meets5 (atTransfersIssue 0xFFFFFFFF 0 0 1 2 0 0 0 0 31) (by decide +kernel),
   meets5 (atTransfersIssue 0xFFFFFFFF 1 0 1 2 0 0 0 0 31) (by decide +kernel),
   meets5 (atTransfersIssue 0xFFFFFFFF 0 0 1 2 4 0 0 0 31) (by decide +kernel),
   meets5 (atTransfersIssue 0xFFFFFFFF 0 0 1 2 0 0 1 0 31) (by decide +kernel),
   meets5 (atTransfersIssue 0xFFFFFFFF 0 0 1 2 0 0 1 0 31) (by decide +kernel),
   meets5 (atTransfersIssue 0 0 0 1 2 0 0 1 0 31) (by decide +kernel),
   meets5 (atTransfersIssue 0xFFFFFFFF 1 0 1 2 0 0 1 0 31) (by decide +kernel),
   meets5 (atTransfersIssue2 0xFFFFFFFF 0 24 1 2 0 0 0 0 31) (by decide +kernel),
   meets5 (atTransfersIssue2 0xFFFFFFFF 0 26 1 2 0 0 0 0 31) (by decide +kernel),
   meets5 (atTransfersIssue 0xFFFFFFFF 0 0 1 2 0 0 0 0 31) (by decide +kernel),
   meets5 (atTransfersIssue2 0xFFFFFFFF 0 0 1 2 0 0 7 0 31) (by decide +kernel)⟩

def atLinesAsked (xa : BitVec 5) : Hdr × XF × State × Nat × W64 :=
  let s := copying 0
  let f : XF := { (default : XF) with xa := xa }
  (hdr, f, s, 0x100010, leaf 0x100000 0 0 0xF0)

/-- What `Obligations.CopiesAndLinesIssue` assumes, clause by clause, can be met (its part on LinesAsked). -/
theorem witness_LinesAsked :
    (∃ (h : Hdr) (f : XF) (s : State) (pa : Nat) (pte : W64),
      s.look s.cur.core s.rc.root (s.sreg f.xa).toNat = .hit pa pte ∧ s.denied s.rc.part s.cx.mode .load false pte pa = none ∧
      s.runs (.pref h f) 0 = true ∧ s.runs (.flush h f) 0 = true) ∧
    (∃ (h : Hdr) (f : XF) (s : State) (pa : Nat) (pte : W64),
      s.look s.cur.core s.rc.root (s.sreg f.xa).toNat = .hit pa pte ∧ s.denied s.rc.part s.cx.mode .load false pte pa = none ∧
      s.runs (.prefSlice h { f with xmode := 1 }) 0 = true) ∧
    (∃ (h : Hdr) (f : XF) (s : State) (_ : Nat) (_ : W64),
      ∃ k ∈ [(0 : Byte), 1], s.look s.cur.core s.rc.root (s.sreg f.xa).toNat = .fault k ∧ s.runs (.pref h f) 0 = true ∧ s.runs (.prefSlice h { f with xmode := 1 }) 0 = true ∧ s.runs (.flush h f) 0 = true) ∧
    (∃ (h : Hdr) (f : XF) (s : State) (_ : Nat) (_ : W64),
      s.look s.cur.core s.rc.root (s.sreg f.xa).toNat = .miss ∧
      ∀ i ∈ [Instr.pref h f, .prefSlice h { f with xmode := 1 }, .flush h f], s.runs i 0 = true) :=
  ⟨meets5 (atLinesAsked 3) (by decide +kernel),
   meets5 (atLinesAsked 3) (by decide +kernel),
   meets5 (atLinesAsked 6) (by decide +kernel),
   meets5 (atLinesAsked 23) (by decide +kernel)⟩

def call0 : Call := { idx := 3, acc := 1, f := 4, mp := [(0, 0x1122334455667788), (5, 77)], pc := 0x30 }

def computing (x : Nat) : State :=
  let s := base.modRc (fun r => { r with streams := [
    (1, { base := 0x100, format := 3, count0 := 5, count1 := 3, stride0 := 1, stride1 := 16 }),
    (2, { base := 0x10000, space := 3, format := 7, count0 := 4, count1 := 2, stride0 := 1, stride1 := 8 }),
    (4, { base := 0x400, format := 0, count0 := 3, count1 := 2, stride0 := 4, stride1 := 16 }),
    (5, { base := 0x400, format := 8, count0 := 3, count1 := 2, stride0 := 4, stride1 := 16 })] })
  s.modEng (fun e => { e with
    call := some call0, pos := 9, m := [(1, 0), (2, 5), (6, 2)], store := [(10, 10), (11, 9), (12, 10), (13, 10)]
    loops := if x = 0 then [] else [(3, 8, 4), (1, 9, 2)]
    tiles := [(1, { sum := [(3, 5), (65, 0x3F800000)] }), (2, { ranked := true, k := 3, rows := [(0, [(5, 6)])], reject := 4 })]
    x := some { fp := true, subs := 1, vals := [(0, Ex.one), (260, Ex.ofInt 7)] }
    fa0 := some { num := 1, desc := { format := 3, count0 := 4 }, a := 0, b := 0, data := [(0, 0x38)], pins := [] }
    fb0 := some { num := 2, desc := { format := 4, count0 := 4 }, a := 0, b := 0, data := [(0, 0x3C)], pins := [] } })

def reachedAll (l : List Reached) : List Piece × Bool :=
  match gatherAll l with
  | .ok x => x
  | .error _ => ([], false)

def atEngineControlSteps (x : Nat) (ma : BitVec 4) (mb : BitVec 4) (imm : BitVec 12) : UF × State × Call :=
  let f : UF := { (default : UF) with ma := ma, mb := mb, imm := imm }
  (f, computing x, call0)

/-- What `Obligations.EngineControlSteps` assumes, clause by clause, can be met. -/
theorem witness_EngineControlSteps :
    (∃ (_ : UF) (s : State) (k : Call),
      Claims.routine s k) ∧
    (∃ (f : UF) (s : State) (k : Call),
      Claims.routine s k ∧ (f.imm.extractLsb' 10 2).toNat = 0) ∧
    (∃ (f : UF) (s : State) (k : Call),
      Claims.routine s k ∧ (f.imm.extractLsb' 10 2).toNat = 1) ∧
    (∃ (f : UF) (s : State) (k : Call),
      Claims.routine s k ∧ (f.imm.extractLsb' 10 2).toNat = 2) ∧
    (∃ (f : UF) (s : State) (k : Call),
      Claims.routine s k ∧ (f.imm.extractLsb' 10 2).toNat = 3 ∧ Claims.tileNo k (f.imm.toNat % 8) < s.rc.tiles) ∧
    (∃ (f : UF) (s : State) (k : Call),
      Claims.routine s k ∧ (f.imm.extractLsb' 10 2).toNat = 3 ∧ s.rc.tiles ≤ Claims.tileNo k (f.imm.toNat % 8)) ∧
    (∃ (f : UF) (s : State) (k : Call),
      Claims.routine s k ∧ Claims.mOf s f.ma = 0) ∧
    (∃ (f : UF) (s : State) (k : Call),
      Claims.routine s k ∧ Claims.mOf s f.ma ≠ 0) ∧
    (∃ (_ : UF) (s : State) (k : Call),
      Claims.routine s k ∧ s.rc.eng.loops = []) ∧
    (∃ (f : UF) (s : State) (k : Call),
      Claims.routine s k ∧ (f.mb = 0 ∨ (f.mb = 1 ∧ Claims.mOf s f.ma = 0) ∨ (f.mb = 2 ∧ Claims.mOf s f.ma ≠ 0))) ∧
    (∃ (f : UF) (s : State) (k : Call),
      Claims.routine s k ∧ ¬(f.mb = 0 ∨ (f.mb = 1 ∧ Claims.mOf s f.ma = 0) ∨ (f.mb = 2 ∧ Claims.mOf s f.ma ≠ 0))) :=
  ⟨meets3 (atEngineControlSteps 1 0 0 1) (by unfold Claims.routine; decide +kernel),
   meets3 (atEngineControlSteps 1 0 0 1) ⟨by unfold Claims.routine; decide +kernel, by decide +kernel⟩,
   meets3 (atEngineControlSteps 1 0 0 0x7FF) ⟨by unfold Claims.routine; decide +kernel, by decide +kernel⟩,
   meets3 (atEngineControlSteps 1 0 0 0xBFC) ⟨by unfold Claims.routine; decide +kernel, by decide +kernel⟩,
   meets3 (atEngineControlSteps 1 0 0 0xC01) ⟨by unfold Claims.routine; decide +kernel, by decide +kernel⟩,
   meets3 (atEngineControlSteps 1 0 0 0xC04) ⟨by unfold Claims.routine; decide +kernel, by decide +kernel⟩,
   meets3 (atEngineControlSteps 1 0 0 1) ⟨by unfold Claims.routine; decide +kernel, by decide +kernel⟩,
   meets3 (atEngineControlSteps 1 2 0 1) ⟨by unfold Claims.routine; decide +kernel, by decide +kernel⟩,
   meets3 (atEngineControlSteps 0 0 0 1) ⟨by unfold Claims.routine; decide +kernel, by decide +kernel⟩,
   meets3 (atEngineControlSteps 1 0 0 1) ⟨by unfold Claims.routine; decide +kernel, by decide +kernel⟩,
   meets3 (atEngineControlSteps 1 0 2 1) ⟨by unfold Claims.routine; decide +kernel, by decide +kernel⟩⟩

def atEngineFetches (isA : Bool) (imm : BitVec 12) : Bool × UF × State × Call × List Piece × Bool :=
  let s := computing 0
  let f : UF := { (default : UF) with imm := imm }
  let q := reachedAll ((Claims.fetchSpots s isA f).map (fun e => e.2))
  (isA, f, s, call0, q.1, q.2)

/-- What `Obligations.EngineFetches` assumes, clause by clause, can be met. -/
theorem witness_EngineFetches :
    (∃ (isA : Bool) (f : UF) (s : State) (k : Call) (ps : List Piece) (absent : Bool),
      Claims.routine s k ∧ (Claims.streamAt s (f.imm.toNat % 16)).count0 ≠ 0 ∧
      (Claims.streamAt s (f.imm.toNat % 16)).format.toNat ∈ Claims.fetchFormats isA ∧
      gatherAll ((Claims.fetchSpots s isA f).map (fun e => e.2)) = .ok (ps, absent) ∧ Claims.mayRead s k ps = true ∧
      s.raceMode s.rc.task ≠ 1) ∧
    (∃ (isA : Bool) (f : UF) (s : State) (k : Call) (_ : List Piece) (_ : Bool),
      Claims.routine s k ∧ ((Claims.streamAt s (f.imm.toNat % 16)).count0 = 0 ∨
        (Claims.streamAt s (f.imm.toNat % 16)).format.toNat ∉ Claims.fetchFormats isA)) :=
  ⟨meets6 (atEngineFetches true 1) ⟨by unfold Claims.routine; decide +kernel, by decide +kernel, by decide +kernel, ok_of (by decide +kernel), by decide +kernel⟩,
   meets6 (atEngineFetches true 0) ⟨by unfold Claims.routine; decide +kernel, by decide +kernel⟩⟩

def atEngineScales (m : BitVec 2) (imm : BitVec 12) : UF × State × Call × Buf × Buf × List Piece × Bool :=
  let s := (computing 0).modEng (fun e => { e with fa0 := e.fa0.map (fun b => { b with desc := { b.desc with
    scaleMode := m, blklog := 5, scaleBase := 0x120, count1 := 2 } }) })
  let f : UF := { (default : UF) with imm := imm }
  let a := s.rc.eng.fa0.getD default
  let b := s.rc.eng.fb0.getD default
  let q := reachedAll ((Claims.scalesOfA s a b ++ Claims.scalesOfB s a b).map (fun e => e.2))
  (f, s, call0, a, b, q.1, q.2)

/-- What `Obligations.EngineScalesAndWalks` assumes, clause by clause, can be met (its part on EngineScales). -/
theorem witness_EngineScales :
    (∃ (f : UF) (s : State) (k : Call) (a b : Buf) (ps : List Piece) (absent : Bool),
      Claims.routine s k ∧ s.rc.eng.fa (f.imm.getLsbD 0) = some a ∧ s.rc.eng.fb (f.imm.getLsbD 1) = some b ∧
      gatherAll ((Claims.scalesOfA s a b ++ Claims.scalesOfB s a b).map (fun e => e.2)) = .ok (ps, absent) ∧
      Claims.mayRead s k ps = true ∧ s.raceMode s.rc.task ≠ 1) ∧
    (∃ (f : UF) (s : State) (k : Call) (a b : Buf) (_ : List Piece) (_ : Bool),
      Claims.routine s k ∧ s.rc.eng.fa (f.imm.getLsbD 0) = some a ∧ s.rc.eng.fb (f.imm.getLsbD 1) = some b ∧
      a.desc.scaleMode = 0 ∧ b.desc.scaleMode = 0 ∧ s.postHeld s.cur.core s.cur.slot k.serial = false) ∧
    (∃ (f : UF) (s : State) (k : Call) (_ _ : Buf) (_ : List Piece) (_ : Bool),
      Claims.routine s k ∧ (s.rc.eng.fa (f.imm.getLsbD 0) = none ∨ s.rc.eng.fb (f.imm.getLsbD 1) = none)) :=
  ⟨meets7 (atEngineScales 2 0) ⟨by unfold Claims.routine; decide +kernel, by decide +kernel, by decide +kernel, ok_of (by decide +kernel), by decide +kernel⟩,
   meets7 (atEngineScales 0 0) ⟨by unfold Claims.routine; decide +kernel, by decide +kernel⟩,
   meets7 (atEngineScales 2 3) ⟨by unfold Claims.routine; decide +kernel, by decide +kernel⟩⟩

def atEngineComputes (imm : BitVec 12) (ft : BitVec 4) (em : Bool) : UF × State × Call × Buf × Buf × XSums × Bool :=
  let s := (computing 0).modEng (fun e => { e with fb0 := if em then none else e.fb0.map (fun b => { b with desc := { b.desc with format := ft } }), x := if em then none else e.x })
  let f : UF := { (default : UF) with ma := 2, imm := imm }
  (f, s, call0, (s.rc.eng.fa0.getD default), (s.rc.eng.fb0.getD default), (s.rc.eng.x.getD default), true)

/-- What `Obligations.EngineComputes` assumes, clause by clause, can be met. -/
theorem witness_EngineComputes :
    (∃ (f : UF) (s : State) (k : Call) (a b : Buf) (_ : XSums) (fp : Bool),
      Claims.routine s k ∧ s.rc.eng.fa (f.imm.getLsbD 0) = some a ∧ s.rc.eng.fb (f.imm.getLsbD 1) = some b ∧
      operandKind a.desc.format.toNat b.desc.format.toNat = some fp) ∧
    (∃ (f : UF) (s : State) (k : Call) (a b : Buf) (_ : XSums) (_ : Bool),
      Claims.routine s k ∧ s.rc.eng.fa (f.imm.getLsbD 0) = some a ∧ s.rc.eng.fb (f.imm.getLsbD 1) = some b ∧
      operandKind a.desc.format.toNat b.desc.format.toNat = none) ∧
    (∃ (f : UF) (s : State) (k : Call) (_ _ : Buf) (_ : XSums) (_ : Bool),
      Claims.routine s k ∧ (s.rc.eng.fa (f.imm.getLsbD 0) = none ∨ s.rc.eng.fb (f.imm.getLsbD 1) = none)) ∧
    (∃ (f : UF) (s : State) (k : Call) (_ _ : Buf) (x : XSums) (_ : Bool),
      Claims.routine s k ∧ Claims.tileNo k (f.imm.toNat % 8) < s.rc.tiles ∧
      (Claims.tileOf s (Claims.tileNo k (f.imm.toNat % 8))).ranked = false ∧ s.rc.eng.x = some x) ∧
    (∃ (f : UF) (s : State) (k : Call) (_ _ : Buf) (_ : XSums) (_ : Bool),
      Claims.routine s k ∧ Claims.tileNo k (f.imm.toNat % 8) < s.rc.tiles ∧
      (Claims.tileOf s (Claims.tileNo k (f.imm.toNat % 8))).ranked = false ∧ s.rc.eng.x = none) ∧
    (∃ (f : UF) (s : State) (k : Call) (_ _ : Buf) (_ : XSums) (_ : Bool),
      Claims.routine s k ∧ Claims.tileNo k (f.imm.toNat % 8) < s.rc.tiles ∧
      (Claims.tileOf s (Claims.tileNo k (f.imm.toNat % 8))).ranked = true) ∧
    (∃ (f : UF) (s : State) (k : Call) (_ _ : Buf) (_ : XSums) (_ : Bool),
      Claims.routine s k ∧ Claims.tileNo k (f.imm.toNat % 8) < s.rc.tiles ∧ Claims.tileNo k (f.imm.toNat / 8 % 8) < s.rc.tiles ∧
      (Claims.tileOf s (Claims.tileNo k (f.imm.toNat % 8))).ranked = false ∧
      (Claims.tileOf s (Claims.tileNo k (f.imm.toNat / 8 % 8))).ranked = true) ∧
    (∃ (f : UF) (s : State) (k : Call) (_ _ : Buf) (_ : XSums) (_ : Bool),
      Claims.routine s k ∧ Claims.tileNo k (f.imm.toNat % 8) < s.rc.tiles ∧ Claims.tileNo k (f.imm.toNat / 8 % 8) < s.rc.tiles ∧
      ((Claims.tileOf s (Claims.tileNo k (f.imm.toNat % 8))).ranked = true ∨
        (Claims.tileOf s (Claims.tileNo k (f.imm.toNat / 8 % 8))).ranked = false)) ∧
    (∃ (f : UF) (s : State) (k : Call) (_ _ : Buf) (_ : XSums) (_ : Bool),
      Claims.routine s k ∧ ∀ i ∈ [Instr.tprom f, .trank f], s.rc.tiles ≤ Claims.tileNo k (f.imm.toNat % 8)) :=
  ⟨meets7 (atEngineComputes 0 4 false) ⟨by unfold Claims.routine; decide +kernel, by decide +kernel⟩,
   meets7 (atEngineComputes 0 0 false) ⟨by unfold Claims.routine; decide +kernel, by decide +kernel⟩,
   meets7 (atEngineComputes 0 4 true) ⟨by unfold Claims.routine; decide +kernel, by decide +kernel⟩,
   meets7 (atEngineComputes 0 4 false) ⟨by unfold Claims.routine; decide +kernel, by decide +kernel⟩,
   meets7 (atEngineComputes 0 4 true) ⟨by unfold Claims.routine; decide +kernel, by decide +kernel⟩,
   meets7 (atEngineComputes 1 4 false) ⟨by unfold Claims.routine; decide +kernel, by decide +kernel⟩,
   meets7 (atEngineComputes 8 4 false) ⟨by unfold Claims.routine; decide +kernel, by decide +kernel⟩,
   meets7 (atEngineComputes 0 4 false) ⟨by unfold Claims.routine; decide +kernel, by decide +kernel⟩,
   meets7 (atEngineComputes 4 4 false) ⟨by unfold Claims.routine; decide +kernel, by decide +kernel⟩⟩

def atEngineDrains (imm : BitVec 12) : UF × State × Call × List Piece × Bool :=
  let s := computing 0
  let f : UF := { (default : UF) with mb := 1, imm := imm }
  let n := Claims.tileNo call0 (f.imm.toNat % 8)
  let st := Claims.streamAt s (f.imm.extractLsb' 3 4).toNat
  let q := reachedAll ((Claims.drained s f n).map (fun e =>
    s.reachIn s.cur.core s.cur.slot st .store (st.at3 0 e.1 e.2.1) (elemBytes st.format.toNat)))
  (f, s, call0, q.1, q.2)

/-- What `Obligations.EngineDrains` assumes, clause by clause, can be met. -/
theorem witness_EngineDrains :
    (∃ (f : UF) (s : State) (k : Call) (ps : List Piece) (absent : Bool),
      Claims.routine s k ∧ Claims.tileNo k (f.imm.toNat % 8) < s.rc.tiles ∧
      (Claims.streamAt s (f.imm.extractLsb' 3 4).toNat).count0 ≠ 0 ∧
      (Claims.tileOf s (Claims.tileNo k (f.imm.toNat % 8))).ranked = true ∧
      (Claims.streamAt s (f.imm.extractLsb' 3 4).toNat).format.toNat ∈ [0, 5, 8] ∧ f.imm.getLsbD 8 = false ∧
      gatherAll ((Claims.drained s f (Claims.tileNo k (f.imm.toNat % 8))).map (fun e =>
        s.reachIn s.cur.core s.cur.slot (Claims.streamAt s (f.imm.extractLsb' 3 4).toNat) .store
          ((Claims.streamAt s (f.imm.extractLsb' 3 4).toNat).at3 0 e.1 e.2.1)
          (elemBytes (Claims.streamAt s (f.imm.extractLsb' 3 4).toNat).format.toNat))) = .ok (ps, absent) ∧
      Claims.mayRead s k ps = true ∧ ps.any s.restriping = false ∧ s.raceMode s.rc.task ≠ 1) ∧
    (∃ (f : UF) (s : State) (k : Call) (ps : List Piece) (absent : Bool),
      Claims.routine s k ∧ Claims.tileNo k (f.imm.toNat % 8) < s.rc.tiles ∧
      (Claims.streamAt s (f.imm.extractLsb' 3 4).toNat).count0 ≠ 0 ∧
      (Claims.tileOf s (Claims.tileNo k (f.imm.toNat % 8))).ranked = false ∧
      (Claims.streamAt s (f.imm.extractLsb' 3 4).toNat).format.toNat < 11 ∧ f.imm.getLsbD 8 = true ∧
      gatherAll ((Claims.drained s f (Claims.tileNo k (f.imm.toNat % 8))).map (fun e =>
        s.reachIn s.cur.core s.cur.slot (Claims.streamAt s (f.imm.extractLsb' 3 4).toNat) .store
          ((Claims.streamAt s (f.imm.extractLsb' 3 4).toNat).at3 0 e.1 e.2.1)
          (elemBytes (Claims.streamAt s (f.imm.extractLsb' 3 4).toNat).format.toNat))) = .ok (ps, absent) ∧
      Claims.mayRead s k ps = true ∧ ps.any s.restriping = false ∧ s.raceMode s.rc.task ≠ 1) ∧
    (∃ (f : UF) (s : State) (k : Call) (ps : List Piece) (absent : Bool),
      Claims.routine s k ∧ Claims.tileNo k (f.imm.toNat % 8) < s.rc.tiles ∧
      (Claims.streamAt s (f.imm.extractLsb' 3 4).toNat).count0 ≠ 0 ∧
      (Claims.tileOf s (Claims.tileNo k (f.imm.toNat % 8))).ranked = false ∧
      (Claims.streamAt s (f.imm.extractLsb' 3 4).toNat).format.toNat < 5 ∧ f.imm.getLsbD 8 = false ∧
      gatherAll ((Claims.drained s f (Claims.tileNo k (f.imm.toNat % 8))).map (fun e =>
        s.reachIn s.cur.core s.cur.slot (Claims.streamAt s (f.imm.extractLsb' 3 4).toNat) .store
          ((Claims.streamAt s (f.imm.extractLsb' 3 4).toNat).at3 0 e.1 e.2.1)
          (elemBytes (Claims.streamAt s (f.imm.extractLsb' 3 4).toNat).format.toNat))) = .ok (ps, absent) ∧
      Claims.mayRead s k ps = true ∧ ps.any s.restriping = false ∧ s.raceMode s.rc.task ≠ 1) :=
  ⟨meets5 (atEngineDrains 33) ⟨by unfold Claims.routine; decide +kernel, by decide +kernel, by decide +kernel, by decide +kernel, by decide +kernel, by decide +kernel, ok_of (by decide +kernel), by decide +kernel⟩,
   meets5 (atEngineDrains 296) ⟨by unfold Claims.routine; decide +kernel, by decide +kernel, by decide +kernel, by decide +kernel, by decide +kernel, by decide +kernel, ok_of (by decide +kernel), by decide +kernel⟩,
   meets5 (atEngineDrains 32) ⟨by unfold Claims.routine; decide +kernel, by decide +kernel, by decide +kernel, by decide +kernel, by decide +kernel, by decide +kernel, ok_of (by decide +kernel), by decide +kernel⟩⟩

def atEngineWalks (imm : BitVec 12) : UF × State × Call × W64 :=
  let s := computing 0
  let f : UF := { (default : UF) with ma := 4, mb := 5, mc := 7, imm := imm }
  let e := BitVec.ofNat 64 (Claims.bytesAt s (Claims.ownBytes s ((Claims.streamAt s (imm.toNat % 16)).base.toNat +
    8 * (Claims.mOf s (imm.extractLsb' 4 4)).toNat) 8))
  (f, s, call0, e)

/-- What `Obligations.EngineScalesAndWalks` assumes, clause by clause, can be met (its part on EngineWalks). -/
theorem witness_EngineWalks :
    (∃ (f : UF) (s : State) (k : Call) (_ : W64),
      Claims.routine s k ∧ (Claims.streamAt s (f.imm.toNat % 16)).space ≠ 0) ∧
    (∃ (f : UF) (s : State) (k : Call) (e : W64),
      Claims.routine s k ∧ (Claims.streamAt s (f.imm.toNat % 16)).space = 0 ∧
      s.postHeld s.cur.core s.cur.slot k.serial = false ∧
      e = BitVec.ofNat 64 (Claims.bytesAt s (Claims.ownBytes s ((Claims.streamAt s (f.imm.toNat % 16)).base.toNat +
        8 * (Claims.mOf s (f.imm.extractLsb' 4 4)).toNat) 8))) :=
  ⟨meets4 (atEngineWalks 0x22) ⟨by unfold Claims.routine; decide +kernel, by decide +kernel⟩,
   meets4 (atEngineWalks 0x21) ⟨by unfold Claims.routine; decide +kernel, by decide +kernel⟩⟩

def request (k : ReqKind) (p : List Piece) (d : Dest) : Req :=
  { (default : Req) with serial := 7, slot := .a, ctx := .primary, path := .ls, kind := k, pieces := p, dest := d }

def flying (due : Nat) (sh : Bool) : Fly := { due := due, ctx := .primary, w := .s false 5 77, flags := 3, shadow := sh }

def atResultsLand (fn : Bool) (sh : Bool) (k : ReqKind) (dn : Bool) (d : Dest) : State × CoreId × Fly × List Fly × Nat × Req × Piece × Nat :=
  let s := base.modRes 0 .a (fun r => { r with
    inflight := [flying 100 sh, flying 200 sh, flying 90 (!sh)]
    pend := [(.s .primary false 3, .req 7), (.s .primary false 4, .req 8)] })
  let p : Piece := { addr := span 0x100000 8, data := 0xFFFFFFF5, done := dn, old := 0x8899AABBCCDDEEFF, rc := true, cached := true }
  let q := request k [p] d
  let s := { s with reqs := [q], dies := if fn then [(0, { fenced := true })] else s.dies }
  (s, 0, flying 100 sh, [flying 200 sh, flying 90 (!sh)], 7, q, p, 9)

/-- What `Obligations.ResultsLand` assumes, clause by clause, can be met. -/
theorem witness_ResultsLand :
    (∃ (s : State) (c : CoreId) (f : Fly) (rest : List Fly) (_ : Nat) (_ : Req) (_ : Piece) (_ : Nat),
      Claims.oneDue s c f rest false = true) ∧
    (∃ (s : State) (c : CoreId) (f : Fly) (rest : List Fly) (_ : Nat) (_ : Req) (_ : Piece) (_ : Nat),
      Claims.oneDue s c f rest true = true) ∧
    (∃ (s : State) (_ : CoreId) (_ : Fly) (_ : List Fly) (n : Nat) (q : Req) (p : Piece) (_ : Nat),
      s.req? n = some q ∧ q.kind = .load ∧ q.pieces.head? = some p ∧
      (∀ x ∈ q.pieces, x.done = false → s.mayPerform { q with pieces := [] } 0 x = true ∧ s.refusal q x = none) ∧
      s.raceMode (s.res q.core q.slot).task ≠ 1) ∧
    (∃ (s : State) (_ : CoreId) (_ : Fly) (_ : List Fly) (n : Nat) (q : Req) (p : Piece) (_ : Nat),
      s.req? n = some q ∧ q.kind = .load ∧ q.pieces = [p] ∧ p.done = false ∧ s.mayPerform { q with pieces := [] } 0 p = true ∧
      (s.refusal q p).isSome = true ∧ q.free = false) ∧
    (∃ (s : State) (_ : CoreId) (_ : Fly) (_ : List Fly) (n : Nat) (q : Req) (p : Piece) (op : Nat),
      s.req? n = some q ∧ q.kind = .amo op ∧ q.pieces.head? = some p ∧ q.finished = true) ∧
    (∃ (s : State) (_ : CoreId) (_ : Fly) (_ : List Fly) (n : Nat) (q : Req) (p : Piece) (op : Nat),
      s.req? n = some q ∧ q.kind = .amo op ∧ q.pieces[q.nextPart]? = some p ∧ s.mayPerform q q.nextPart p = true ∧
      s.refusal q p = none ∧ p.addr.Nodup ∧ (p.addr.length = 4 ∨ p.addr.length = 8) ∧ s.raceMode (s.res q.core q.slot).task ≠ 1) :=
  ⟨meets8 (atResultsLand false false .load true .none) (by decide +kernel),
   meets8 (atResultsLand false true .load true .none) (by decide +kernel),
   meets8 (atResultsLand false false .load true .none) (by decide +kernel),
   meets8 (atResultsLand true false .load false .none) (by decide +kernel),
   meets8 (atResultsLand false false (.amo 9) true .none) (by decide +kernel),
   meets8 (atResultsLand false false (.amo 9) false .none) (by decide +kernel)⟩

def atHomesMove (at_ : HomeAt) (o : CoreId) (z : Nat) : State × Nat × CoreId × Nat × Nat × Req :=
  let q := { request .load [{ addr := [0x100000], cached := true }] .none with core := 1 }
  let s := { base with reqs := [q], homes := [(5, { at_ := .slice }), (0x2000, { at_ := at_, queue := [6, 7] })] }
  (s, 0x2000, o, z, 7, q)

/-- What `Obligations.HomesMoveAndStoresPerform` assumes, clause by clause, can be met (its part on HomesMove). -/
theorem witness_HomesMove :
    (∃ (s : State) (line : Nat) (o : CoreId) (z m : Nat) (q : Req),
      (Claims.homeOf s line).pins = [] ∧ (Claims.homeOf s line).at_ = .l1 o z ∧ s.leaseOver (Claims.homeOf s line) = true ∧
      s.headOf (Claims.homeOf s line) = some m ∧ s.req? m = some q ∧ q.core ≠ o ∧ q.takesHome = true ∧ s.l1Lines q.core < 512) ∧
    (∃ (s : State) (line : Nat) (o : CoreId) (z _ : Nat) (_ : Req),
      (Claims.homeOf s line).pins = [] ∧ (Claims.homeOf s line).at_ = .l1 o z ∧ s.leaseOver (Claims.homeOf s line) = true) ∧
    (∃ (s : State) (line : Nat) (_ : CoreId) (_ _ : Nat) (_ : Req),
      (Claims.homeOf s line).pins = [] ∧ (Claims.homeOf s line).at_ = .slice) :=
  ⟨meets6 (atHomesMove (.l1 0 10) 0 10) (by decide +kernel),
   meets6 (atHomesMove (.l1 0 10) 0 10) (by decide +kernel),
   meets6 (atHomesMove .slice 1 10) (by decide +kernel)⟩

def atPreemptionSteps (m : Bool) (h : Bool) (ob : Place) (pl : Place) (pr : Option Preempt) (crc : Bool) (r : Slot) (a : Nat) : State × CoreId × Slot × Preempt × Nat :=
  let s := (base m).modCore 0 (fun k => { k with
    halted := h, preempt := pr, atYield := h != m
    a := { k.a with place := pl, saveBase := 0x100000100000, saveSeq := 4, pend := [] }
    b := { k.a with place := ob, prio := 5, saveBase := 0x100000200000 } })
  let s := (s.writeNat 0x100000200080 8 0x12340).writeNat 0x100000100080 8 0x5678
  let s := if crc then s.writeNat 0x100000200008 4 (s.engineCrc 0x100000200000).toNat else s
  (s, 0, r, pr.getD default, a)

/-- What `Obligations.PreemptionSteps` assumes, clause by clause, can be met. -/
theorem witness_PreemptionSteps :
    (∃ (s : State) (c : CoreId) (_ : Slot) (_ : Preempt) (_ : Nat),
      (s.core c).preempt = none ∧ (Claims.active s c).occ = true ∧ (Claims.active s c).place = .here ∧
      (Claims.other s c).occ = true ∧ (Claims.other s c).place = .saved ∧ (Claims.active s c).prio < (Claims.other s c).prio ∧
      Claims.working s c = true ∧ (s.core c).halted = false) ∧
    (∃ (s : State) (c : CoreId) (_ : Slot) (_ : Preempt) (_ : Nat),
      (s.core c).preempt = none ∧ (Claims.active s c).occ = true ∧ (Claims.active s c).place = .here ∧
      (Claims.other s c).occ = true ∧ (Claims.other s c).place = .saved ∧ (Claims.active s c).prio < (Claims.other s c).prio ∧
      Claims.working s c = true ∧ (s.core c).halted = true) ∧
    (∃ (s : State) (c : CoreId) (_ : Slot) (p : Preempt) (_ : Nat),
      Claims.landable s c p = true ∧ ((s.core c).atYield = true ∨ (Claims.active s c).primary.mode = true)) ∧
    (∃ (s : State) (c : CoreId) (_ : Slot) (p : Preempt) (_ : Nat),
      Claims.landable s c p = true ∧ p.since + p.bound ≤ (s.core c).cycle) ∧
    (∃ (s : State) (c : CoreId) (r : Slot) (_ : Preempt) (a : Nat),
      (s.res c r).place = .saving ∧ (s.res c (otherSlot r)).place ≠ .saving ∧ (s.res c r).settled = true ∧
      (a < (s.res c r).saveBase.toNat ∨ (s.res c r).saveBase.toNat + 0x100000 ≤ a)) ∧
    (∃ (s : State) (c : CoreId) (r : Slot) (_ : Preempt) (_ : Nat),
      (s.core c).evicted = [] ∧
      (∀ q ∈ [Slot.a, .b], (s.res c q).occ = true → (s.res c q).place ≠ .here ∧ (s.res c q).place ≠ .saving) ∧
      Claims.working s c = true ∧ (s.core c).nextSaved = some r ∧ (s.res c r).heldPosts = [] ∧ (s.res c r).heldArrivals = []) :=
  ⟨meets5 (atPreemptionSteps false false .saved .here none true .a 0x100000100080) (by decide +kernel),
   meets5 (atPreemptionSteps false true .saved .here none true .a 0x100000100080) (by decide +kernel),
   meets5 (atPreemptionSteps false true .saved .here (some { since := 50, bound := 10 }) true .a 0x100000100080) (by decide +kernel),
   meets5 (atPreemptionSteps false false .saved .here (some { since := 50, bound := 10 }) true .a 0x100000100080) (by decide +kernel),
   meets5 (atPreemptionSteps false false .saved .saving none true .a 0x100000) (by decide +kernel),
   meets5 (atPreemptionSteps false false .saved .saved none true .b 0x100000100080) (by decide +kernel)⟩

def atContextEvents (dn : Bool) (m : Bool) (h : Bool) (pl : Place) (dor : Run) : State × CoreId × Slot × AFault × List AFault × BitVec 9 × Denied × List Denied :=
  let f : AFault := { code := 0x20, target := 0x3FFF, ctx := 1, xfer := some 3 }
  let s := (base m).modCore 0 (fun k => { k with halted := h, a := { k.a with
    place := pl, saveBase := 0x100000100000, faults := [f, {}], denied := if dn then [{ ctx := .primary, cause := 7, sub := 2, tval := 0x1234 }, { ctx := .h1, cause := 8, sub := 2, tval := 0x1234 }] else []
    heldPosts := [(3, 5, 0x44), (4, 0xFFFF, 0x48)], h1 := { k.a.h1 with run := dor }
    machine := if h then some (cCoolant, 33) else none } })
  (s, 0, .a, f, [{}], 33, { ctx := .primary, cause := 7, sub := 2, tval := 0x1234 }, [{ ctx := .h1, cause := 8, sub := 2, tval := 0x1234 }])

/-- What `Obligations.ContextAndDebugEvents` assumes, clause by clause, can be met (its part on ContextEvents). -/
theorem witness_ContextEvents :
    (∃ (s : State) (c : CoreId) (r : Slot) (_ : AFault) (_ : List AFault) (_ : BitVec 9) (_ : Denied) (_ : List Denied),
      (s.res c r).place ≠ .saving) ∧
    (∃ (s : State) (c : CoreId) (r : Slot) (_ : AFault) (_ : List AFault) (_ : BitVec 9) (d : Denied) (more : List Denied),
      (s.core c).act = r ∧ (s.res c r).denied = d :: more ∧ Claims.deliverable s c d.ctx = true) ∧
    (∃ (s : State) (c : CoreId) (r : Slot) (f : AFault) (rest : List AFault) (_ : BitVec 9) (_ : Denied) (_ : List Denied),
      (s.core c).act = r ∧ (s.res c r).denied = [] ∧ (s.res c r).faults = f :: rest ∧
      Claims.deliverable s c ((s.res c r).receiver f) = true) ∧
    (∃ (s : State) (c : CoreId) (_ : Slot) (_ : AFault) (_ : List AFault) (zone : BitVec 9) (_ : Denied) (_ : List Denied),
      (Claims.active s c).machine = some (cCoolant, zone) ∧ (Claims.active s c).occ = true ∧ (Claims.active s c).place = .here ∧
      (Claims.active s c).primary.run = .live ∧ Claims.working s c = true) :=
  ⟨meets8 (atContextEvents false false false .here .live) (by decide +kernel),
   meets8 (atContextEvents true false false .here .live) (by decide +kernel),
   meets8 (atContextEvents false false false .here .live) (by decide +kernel),
   meets8 (atContextEvents false false true .here .live) (by decide +kernel)⟩

def atDebugControl (ph : BitVec 4) (h : Bool) (hr : Bool) (pl : Place) (on : Bool) : State × CoreId × Bool :=
  let s := { base with boot := { phase := ph } }
  let s := s.modCore 0 (fun k => { k with halted := h, dbgHalt := hr, dbgVsel := 0x0300000000000B, a := { k.a with place := pl } })
  (s, 0, on)

/-- What `Obligations.ContextAndDebugEvents` assumes, clause by clause, can be met (its part on DebugControl). -/
theorem witness_DebugControl :
    (∃ (s : State) (_ : CoreId) (_ : Bool),
      s.boot.phase = 5) ∧
    (∃ (s : State) (_ : CoreId) (_ : Bool),
      s.boot.phase ≠ 5) ∧
    (∃ (s : State) (c : CoreId) (_ : Bool),
      (s.core c).dbgHalt = true ∧ (s.core c).halted = false ∧ (Claims.active s c).place ≠ .saving ∧
      ((Claims.active s c).machine = none ∨ (Claims.active s c).primary.run ≠ .live)) ∧
    (∃ (s : State) (c : CoreId) (_ : Bool),
      s.boot.phase = 5 ∧ (s.core c).halted = true) :=
  ⟨meets3 (atDebugControl 5 false false .here false) (by decide +kernel),
   meets3 (atDebugControl 4 false false .here false) (by decide +kernel),
   meets3 (atDebugControl 5 false true .here false) (by decide +kernel),
   meets3 (atDebugControl 5 true false .here false) (by decide +kernel)⟩

def atHardwareErrors (x : CtxId) (h : Bool) (fe : Bool) (cl : Bool) (st : XferSt) (pa : BitVec 46) : State × CoreId × CtxId × BitVec 4 × BitVec 46 × DieId × Fin 256 × Slot × BitVec 4 × Call × Xfer × Nat :=
  let y : Xfer := { (default : Xfer) with serial := 3, ins := .pref default default, st := st, landed := 5 }
  let s := base.modCore 0 (fun k => { k with halted := h, fenced := fe, a := { k.a with
    xfers := [(2, some y)], eng := { k.a.eng with call := if cl then some call0 else none, pos := 9, queue := [.clr 0 ⟨0, 0⟩] } } })
  let s := { s with fab := { s.fab with ports := [(2, { state := 2 }), (3, { state := 2 })], peers := 7 } }
  (s, 0, x, 3, pa, 1, 7, .a, 2, call0, y, (s.sramLine pa.toNat).getD 0)

/-- What `Obligations.HardwareErrors` assumes, clause by clause, can be met. -/
theorem witness_HardwareErrors :
    (∃ (s : State) (c : CoreId) (x : CtxId) (_ : BitVec 4) (_ : BitVec 46) (_ : DieId) (_ : Fin 256) (_ : Slot) (_ : BitVec 4) (_ : Call) (_ : Xfer) (_ : Nat),
      ((Claims.active s c).occ = false ∨ (Claims.active s c).place ≠ .here ∨ ((Claims.active s c).ctx x).run ≠ .live ∨
        (s.core c).halted = true ∨ Claims.working s c = false)) ∧
    (∃ (s : State) (c : CoreId) (x : CtxId) (_ : BitVec 4) (_ : BitVec 46) (_ : DieId) (_ : Fin 256) (_ : Slot) (_ : BitVec 4) (_ : Call) (_ : Xfer) (_ : Nat),
      (Claims.active s c).occ = true ∧ (Claims.active s c).place = .here ∧ ((Claims.active s c).ctx x).run = .live ∧
      (s.core c).halted = false ∧ Claims.working s c = true) ∧
    (∃ (s : State) (c : CoreId) (_ : CtxId) (_ : BitVec 4) (_ : BitVec 46) (_ : DieId) (_ : Fin 256) (r : Slot) (_ : BitVec 4) (m : Call) (_ : Xfer) (_ : Nat),
      (s.res c r).eng.call = some m ∧ (s.res c r).eng.stopped = false ∧ (s.res c r).eng.faulted = false) ∧
    (∃ (s : State) (c : CoreId) (_ : CtxId) (_ : BitVec 4) (_ : BitVec 46) (_ : DieId) (_ : Fin 256) (r : Slot) (_ : BitVec 4) (_ : Call) (_ : Xfer) (_ : Nat),
      ((s.res c r).eng.call = none ∨ (s.res c r).eng.stopped = true ∨ (s.res c r).eng.faulted = true)) ∧
    (∃ (s : State) (c : CoreId) (_ : CtxId) (_ : BitVec 4) (_ : BitVec 46) (_ : DieId) (_ : Fin 256) (r : Slot) (n : BitVec 4) (_ : Call) (y : Xfer) (_ : Nat),
      Claims.xferAt s c r n = some y ∧ y.st = .live) ∧
    (∃ (s : State) (c : CoreId) (_ : CtxId) (_ : BitVec 4) (_ : BitVec 46) (_ : DieId) (_ : Fin 256) (r : Slot) (n : BitVec 4) (_ : Call) (y : Xfer) (_ : Nat),
      (Claims.xferAt s c r n = none ∨ Claims.xferAt s c r n = some y ∧ y.st ≠ .live)) ∧
    (∃ (s : State) (_ : CoreId) (_ : CtxId) (_ : BitVec 4) (pa : BitVec 46) (_ : DieId) (_ : Fin 256) (_ : Slot) (_ : BitVec 4) (_ : Call) (_ : Xfer) (_ : Nat),
      s.sramLine pa.toNat = none) ∧
    (∃ (s : State) (_ : CoreId) (_ : CtxId) (_ : BitVec 4) (pa : BitVec 46) (_ : DieId) (_ : Fin 256) (_ : Slot) (_ : BitVec 4) (_ : Call) (_ : Xfer) (line : Nat),
      s.sramLine pa.toNat = some line ∧ (s.die (s.homeDie pa.toNat)).stk.state ≠ 2) :=
  ⟨meets12 (atHardwareErrors .primary false true true .live 0x100000000080) (by decide +kernel),
   meets12 (atHardwareErrors .primary false false true .live 0x100000000080) (by decide +kernel),
   meets12 (atHardwareErrors .primary false false true .live 0x100000000080) (by decide +kernel),
   meets12 (atHardwareErrors .primary false false false .live 0x100000000080) (by decide +kernel),
   meets12 (atHardwareErrors .primary false false true .live 0x100000000080) (by decide +kernel),
   meets12 (atHardwareErrors .primary false false true .sent 0x100000000080) (by decide +kernel),
   meets12 (atHardwareErrors .primary false false true .live 0x200000001008) (by decide +kernel),
   meets12 (atHardwareErrors .primary false false true .live 0x100000000080) (by decide +kernel)⟩

def atEngineCommandsRun (h : Bool) (src : BitVec 3) (k : Nat) : State × CoreId × Slot × List Cmd × BitVec 10 × BitVec 3 × BitVec 3 × BitVec 5 × Tab W64 × Source × Nat × Bool :=
  let cmd : Cmd := match k with
    | 0 => .call 5 1 3 [(1, 7)] ⟨0x40, 5⟩ 99
    | 1 => .mode 1 true 9 ⟨0x40, 5⟩
    | 2 => .clr 1 ⟨0x40, 5⟩
    | _ => .merge 1 src 3 ⟨0x40, 5⟩
  let s := base.modRes 0 .a (fun r => { r with eng := { r.eng with
    stopped := h, queue := [cmd, .clr 3 ⟨0, 0⟩], table := [(5, some 77)], rs := [(1, 4)]
    tiles := [(1, { ranked := true, k := 4, rows := [(0, [(5, 6)])] }), (2, { ranked := true, k := 3, rows := [(0, [(9, 6)])] })] } })
  (s, 0, .a, [.clr 3 ⟨0, 0⟩], 5, 1, src, 3, [(1, 7)], ⟨0x40, 5⟩, (if k = 0 then 99 else 9), true)

/-- What `Obligations.EngineCommands` assumes, clause by clause, can be met (its part on EngineCommandsRun). -/
theorem witness_EngineCommandsRun :
    (∃ (s : State) (c : CoreId) (r : Slot) (rest : List Cmd) (idx : BitVec 10) (acc _ : BitVec 3) (f : BitVec 5) (mp : Tab W64) (q : Source) (n : Nat) (_ : Bool),
      Claims.commandable s c r = true ∧ (s.res c r).eng.queue = .call idx acc f mp q n :: rest) ∧
    (∃ (s : State) (c : CoreId) (r : Slot) (rest : List Cmd) (_ : BitVec 10) (acc _ : BitVec 3) (_ : BitVec 5) (_ : Tab W64) (q : Source) (n : Nat) (ranked : Bool),
      Claims.commandable s c r = true ∧ (s.res c r).eng.queue = .mode acc ranked n q :: rest) ∧
    (∃ (s : State) (c : CoreId) (r : Slot) (rest : List Cmd) (_ : BitVec 10) (acc _ : BitVec 3) (_ : BitVec 5) (_ : Tab W64) (q : Source) (_ : Nat) (_ : Bool),
      Claims.commandable s c r = true ∧ (s.res c r).eng.queue = .clr acc q :: rest) ∧
    (∃ (s : State) (c : CoreId) (r : Slot) (rest : List Cmd) (_ : BitVec 10) (acc src : BitVec 3) (f : BitVec 5) (_ : Tab W64) (q : Source) (_ : Nat) (_ : Bool),
      Claims.commandable s c r = true ∧ (s.res c r).eng.queue = .merge acc src f q :: rest ∧
      ((s.res c r).eng.tile acc.toNat).ranked = true ∧ ((s.res c r).eng.tile src.toNat).ranked = true) ∧
    (∃ (s : State) (c : CoreId) (r : Slot) (rest : List Cmd) (_ : BitVec 10) (acc src : BitVec 3) (f : BitVec 5) (_ : Tab W64) (q : Source) (_ : Nat) (_ : Bool),
      Claims.commandable s c r = true ∧ (s.res c r).eng.queue = .merge acc src f q :: rest ∧
      (((s.res c r).eng.tile acc.toNat).ranked = false ∨ ((s.res c r).eng.tile src.toNat).ranked = false)) :=
  ⟨meets12 (atEngineCommandsRun false 2 0) (by decide +kernel),
   meets12 (atEngineCommandsRun false 2 1) (by decide +kernel),
   meets12 (atEngineCommandsRun false 2 2) (by decide +kernel),
   meets12 (atEngineCommandsRun false 2 3) (by decide +kernel),
   meets12 (atEngineCommandsRun false 3 3) (by decide +kernel)⟩

def movesOf (s : State) (c : CoreId) (r : Slot) (x : Xfer) : List Piece × List Piece × List (List Byte) :=
  match s.planOf c r x with
  | .error _ => ([], [], [])
  | .ok p =>
    let a := (reachedAll (p.reads.map (fun e => e.2.2))).1
    (a, (reachedAll (p.writes.map (fun e => e.2.2))).1, (p.put (a.map (fun q => s.readList q.addr))).map (fun e => e.1))

def transferOf (k : Nat) : Instr :=
  match k with
  | 0 => .cpyPlain default { (default : XF) with f := 4, xa := 1, xb := 2 }
  | 1 => .cpyRankmerge default { (default : XF) with f := 4, xa := 3, xb := 2, k := 2, acc := 1 }
  | 2 => .put default { (default : XF) with f := 4, xa := 1, fnone := true }
  | _ => .cpyRank default { (default : XF) with f := 4, xa := 1, xb := 3, k := 2, acc := 2 }

def transferring (k : Nat) (x : Xfer) : State :=
  let s := base.modRes 0 .a (fun r => { r with
    xfers := [(2, some x)]
    eng := { r.eng with tiles := [(1, { ranked := true, k := 4, rows := [(0, [(5, 6)])] }), (2, { sum := [(0, 5), (1, 9)] })] } })
  if k = 1 then s.modRes 1 .a (fun r => { r with
    eng := { r.eng with tiles := [(1, { ranked := true, k := 4, rows := [(0, [(5, 6)])] })] } }) else s

def atTransfersAdvance (st : XferSt) (tg : BitVec 22) (k : Nat) (n : BitVec 24) (fr : Bool) (y : XferFault) : State × CoreId × Slot × Slot × BitVec 4 × Xfer × List Piece × List Piece × List (List Byte) × XF × Hdr × XferFault :=
  let x : Xfer := { (default : Xfer) with
    serial := 3, ins := transferOf k, st := st, target := tg, landed := if fr then 9 else 5, xb := 0x140, far := if fr then some (y.cause, y.sub) else none
    sa := { base := if k = 1 then 0x200 else 0x100, format := if k = 1 then 0 else 6, count0 := n, stride0 := 2 }
    sb := { base := 0x300, format := if k = 3 then 0 else 6, count0 := 8, stride0 := 4 } }
  let s := transferring k x
  let q := movesOf s 0 .a x
  (s, 0, .a, .a, 2, x, q.1, q.2.1, q.2.2, xfOf x.ins, default, y)

/-- What `Obligations.TransfersAdvance` assumes, clause by clause, can be met. -/
theorem witness_TransfersAdvance :
    (∃ (s : State) (c : CoreId) (r _ : Slot) (n : BitVec 4) (x : Xfer) (rs ws : List Piece) (data : List (List Byte)) (_ : XF) (_ : Hdr) (_ : XferFault),
      Claims.xferAt s c r n = some x ∧ s.rowsWaiting = 0 ∧ x.st = .live ∧ s.isRemote x.target = false ∧
      Claims.landsWhole x.ins = true ∧ Claims.moves s c r x rs ws data = true ∧ s.raceMode (s.res c r).task ≠ 1 ∧
      (xfOf x.ins).frem = false ∧ (xfOf x.ins).xh = 0 ∧ (s.res c r).place = .here) ∧
    (∃ (s : State) (c : CoreId) (r _ : Slot) (n : BitVec 4) (x : Xfer) (_ _ : List Piece) (_ : List (List Byte)) (_ : XF) (_ : Hdr) (_ : XferFault),
      Claims.xferAt s c r n = some x ∧ s.rowsWaiting = 0 ∧ x.st = .sent ∧ s.isRemote x.target = false ∧
      Claims.sendsRows x.ins = false) ∧
    (∃ (s : State) (c : CoreId) (r _ : Slot) (n : BitVec 4) (x : Xfer) (_ _ : List Piece) (_ : List (List Byte)) (_ : XF) (_ : Hdr) (_ : XferFault),
      Claims.xferAt s c r n = some x ∧ s.rowsWaiting = 0 ∧ x.st = .sent ∧ s.isRemote x.target = true ∧
      s.acked c r n.toNat = true ∧ remoteWrite x.ins = true) ∧
    (∃ (s : State) (c : CoreId) (r _ : Slot) (n : BitVec 4) (x : Xfer) (_ _ : List Piece) (_ : List (List Byte)) (_ : XF) (_ : Hdr) (_ : XferFault),
      Claims.xferAt s c r n = some x ∧ s.rowsWaiting = 0 ∧ x.st = .withheld ∧ s.isWithheld c r n.toNat = false) ∧
    (∃ (s : State) (c : CoreId) (r d : Slot) (n : BitVec 4) (x : Xfer) (rs _ : List Piece) (_ : List (List Byte)) (f : XF) (h : Hdr) (_ : XferFault),
      Claims.xferAt s c r n = some x ∧ s.rowsWaiting = 0 ∧ x.st = .live ∧ x.ins = .cpyRankmerge h f ∧
      Claims.merges s c r x f d rs = true ∧ s.raceMode (s.res c r).task ≠ 1 ∧ f.frem = false ∧ (s.res c r).place = .here) ∧
    (∃ (s : State) (c : CoreId) (r _ : Slot) (n : BitVec 4) (x : Xfer) (_ _ : List Piece) (_ : List (List Byte)) (_ : XF) (_ : Hdr) (y : XferFault),
      Claims.xferAt s c r n = some x ∧ s.rowsWaiting = 0 ∧ x.st = .sent ∧ s.isRemote x.target = false ∧
      (s.xferFaults c r n.toNat x).contains (y.cause, y.sub, y.va, y.stream) = true) ∧
    (∃ (s : State) (c : CoreId) (r _ : Slot) (n : BitVec 4) (x : Xfer) (_ _ : List Piece) (_ : List (List Byte)) (_ : XF) (_ : Hdr) (y : XferFault),
      Claims.xferAt s c r n = some x ∧ s.rowsWaiting = 0 ∧ x.st = .live ∧ s.isRemote x.target = false ∧
      Claims.planless s c r x = true ∧ (s.xferFaults c r n.toNat x).contains (y.cause, y.sub, y.va, y.stream) = true) ∧
    (∃ (s : State) (c : CoreId) (r _ : Slot) (n : BitVec 4) (x : Xfer) (_ _ : List Piece) (_ : List (List Byte)) (_ : XF) (_ : Hdr) (y : XferFault),
      Claims.xferAt s c r n = some x ∧ s.rowsWaiting = 0 ∧ x.st = .live ∧ s.isRemote x.target = true ∧
      x.far = some (y.cause, y.sub) ∧ s.fab.out = [] ∧ x.landed = y.landed) :=
  ⟨meets12 (atTransfersAdvance .live 0 0 4 false ({ cause := xFORMAT, sub := 0, va := 0, stream := 2, landed := 9 })) (by decide +kernel),
   meets12 (atTransfersAdvance .sent 0 0 4 false ({ cause := xFORMAT, sub := 0, va := 0, stream := 2, landed := 9 })) (by decide +kernel),
   meets12 (atTransfersAdvance .sent 0x5000 2 4 false ({ cause := xFORMAT, sub := 0, va := 0, stream := 2, landed := 9 })) (by decide +kernel),
   meets12 (atTransfersAdvance .withheld 0 0 4 false ({ cause := xFORMAT, sub := 0, va := 0, stream := 2, landed := 9 })) (by decide +kernel),
   meets12 (atTransfersAdvance .live 0 1 4 false ({ cause := xFORMAT, sub := 0, va := 0, stream := 2, landed := 9 })) (by decide +kernel),
   meets12 (atTransfersAdvance .sent 0 0 0 false ({ cause := xFORMAT, sub := 0, va := 0, stream := 1, landed := 9 })) (by decide +kernel),
   meets12 (atTransfersAdvance .live 0 0 0 false ({ cause := xFORMAT, sub := 0, va := 0, stream := 1, landed := 9 })) (by decide +kernel),
   meets12 (atTransfersAdvance .live 0x5000 0 4 true ({ cause := xFORMAT, sub := 0, va := 0, stream := 2, landed := 9 })) (by decide +kernel)⟩

/-- An expert of partition 1 has a window, blocks with landed rows, and writes of CTRL passed to its OFU, of v the oldest. -/
def expecting (s : State) (v : W32) : State :=
  let ex : BitVec 256 := (1#256 <<< 128) ||| (0x18000#256 <<< 64) ||| 0x20000
  let s := s.modPart 1 (fun p => { p with
    windows := [(3, (2#256 <<< 128) ||| (100#256 <<< 64))], experts := [(3 * 32 + 1, ex)], winRoot := 0, pool := [77] })
  let s := (s.writeNat 0 8 0x1001).writeNat 0x1000 8 0xF3
  { s with lands := [(landKey 1 3 1,
      { block := 5, sealed := 4, released := 2, writes := [v, 6], pages := [(2, 0x777, 9), (3, 0x888, 9), (4, 0x999, 9)], rows := some 4 })] }

def atArrivalsAdvance (st : XferSt) (tg : BitVec 22) (h1 : Run) (place : Place) (o : CoreId) (v : W32) (at_ : Nat) : State × CoreId × CoreId × Slot × BitVec 4 × Xfer × Arrival × List Arrival × Withheld × List Withheld × XF × Hdr × PartId × Byte × BitVec 5 × Landing × W32 × W32 × List W32 × (List (Nat × Byte)) × State × List Nat :=
  let f : XF := { (default : XF) with f := 4, xa := 1 }
  let x : Xfer := { (default : Xfer) with serial := 3, ins := .xflag default f, st := st, target := tg, xa := 0x30007 }
  let a : Arrival := { handler := 0x440, addr := 0x99, len := 8, src := 3 }
  let w : Withheld := { arr := a, core := some 1, slot := .a, xfer := 3 }
  let s := base.modRes 0 .a (fun r => { r with
    xfers := [(2, some x)], arrivals := [a, a], withheld := [w, w], place := place
    h1 := { r.h1 with run := h1 }, h2 := { r.h2 with run := .dormant } })
  let s := expecting s v
  let bytes := (span at_ 4).zip (leBytes 4 6)
  let l := s.lands.get {} (landKey 1 3 1)
  let t := s.writeHome bytes
  (s, o, 0, .a, 2, x, a, [a], w, [w], f, default, 1, 3, 1, l, v, Claims.newCount l v, [6], bytes, t, t.ctrlBytes (landKey 1 3 1))

/-- What `Obligations.ArrivalsAdvance` assumes, clause by clause, can be met. -/
theorem witness_ArrivalsAdvance :
    (∃ (s : State) (c o : CoreId) (r : Slot) (n : BitVec 4) (x : Xfer) (_ : Arrival) (_ : List Arrival) (_ : Withheld) (_ : List Withheld) (f : XF) (h : Hdr) (_ : PartId) (_ : Byte) (_ : BitVec 5) (_ : Landing) (_ _ : W32) (_ : List W32) (_ : List (Nat × Byte)) (_ : State) (_ : List Nat),
      s.allXfers = [(o, r, n.toNat, x)] ∧ x.ins = .xflag h f ∧ x.st = .live ∧ s.isRemote x.target = false ∧ tCore x.target = c ∧
      (s.seat (s.res o r).task c).isSome = true ∧ s.postHeld o r x.serial = false) ∧
    (∃ (s : State) (c _ : CoreId) (r : Slot) (_ : BitVec 4) (_ : Xfer) (_ : Arrival) (_ : List Arrival) (w : Withheld) (held : List Withheld) (_ : XF) (_ : Hdr) (_ : PartId) (_ : Byte) (_ : BitVec 5) (_ : Landing) (_ _ : W32) (_ : List W32) (_ : List (Nat × Byte)) (_ : State) (_ : List Nat),
      (s.res c r).withheld = w :: held ∧ (s.res c r).arrivals.length < 16 ∧ (s.res c r).place = .here) ∧
    (∃ (s : State) (c _ : CoreId) (r : Slot) (_ : BitVec 4) (_ : Xfer) (_ : Arrival) (_ : List Arrival) (w : Withheld) (held : List Withheld) (_ : XF) (_ : Hdr) (_ : PartId) (_ : Byte) (_ : BitVec 5) (_ : Landing) (_ _ : W32) (_ : List W32) (_ : List (Nat × Byte)) (_ : State) (_ : List Nat),
      (s.res c r).withheld = w :: held ∧ (s.res c r).arrivals.length < 16 ∧ (s.res c r).place = .saved) ∧
    (∃ (s : State) (c _ : CoreId) (r : Slot) (_ : BitVec 4) (_ : Xfer) (a : Arrival) (rest : List Arrival) (_ : Withheld) (_ : List Withheld) (_ : XF) (_ : Hdr) (_ : PartId) (_ : Byte) (_ : BitVec 5) (_ : Landing) (_ _ : W32) (_ : List W32) (_ : List (Nat × Byte)) (_ : State) (_ : List Nat),
      Claims.handlersOpen s c r = true ∧ (s.res c r).arrivals = a :: rest ∧ (s.res c r).h1.run = .dormant) ∧
    (∃ (s : State) (c _ : CoreId) (r : Slot) (_ : BitVec 4) (_ : Xfer) (a : Arrival) (rest : List Arrival) (_ : Withheld) (_ : List Withheld) (_ : XF) (_ : Hdr) (_ : PartId) (_ : Byte) (_ : BitVec 5) (_ : Landing) (_ _ : W32) (_ : List W32) (_ : List (Nat × Byte)) (_ : State) (_ : List Nat),
      Claims.handlersOpen s c r = true ∧ (s.res c r).arrivals = a :: rest ∧ (s.res c r).h1.run ≠ .dormant ∧
      (s.res c r).h2.run = .dormant) ∧
    (∃ (s : State) (_ _ : CoreId) (_ : Slot) (_ : BitVec 4) (_ : Xfer) (_ : Arrival) (_ : List Arrival) (_ : Withheld) (_ : List Withheld) (_ : XF) (_ : Hdr) (p : PartId) (win : Byte) (e : BitVec 5) (l : Landing) (v u : W32) (later : List W32) (_ : List (Nat × Byte)) (_ : State) (_ : List Nat),
      Claims.quietExpert s p win.toNat e.toNat = true ∧ l = s.lands.get {} (landKey p win.toNat e.toNat) ∧
      l.writes = v :: later ∧ (v - l.released).toNat < 2 ^ 31 ∧ u = Claims.newCount l v) ∧
    (∃ (s : State) (_ _ : CoreId) (_ : Slot) (_ : BitVec 4) (_ : Xfer) (_ : Arrival) (_ : List Arrival) (_ : Withheld) (_ : List Withheld) (_ : XF) (_ : Hdr) (p : PartId) (win : Byte) (e : BitVec 5) (l : Landing) (v _ : W32) (later : List W32) (_ : List (Nat × Byte)) (_ : State) (_ : List Nat),
      Claims.quietExpert s p win.toNat e.toNat = true ∧ l = s.lands.get {} (landKey p win.toNat e.toNat) ∧
      l.writes = v :: later ∧ 2 ^ 31 ≤ (v - l.released).toNat) ∧
    (∃ (s : State) (_ _ : CoreId) (_ : Slot) (_ : BitVec 4) (_ : Xfer) (_ : Arrival) (_ : List Arrival) (_ : Withheld) (_ : List Withheld) (_ : XF) (_ : Hdr) (p : PartId) (win : Byte) (e : BitVec 5) (l : Landing) (_ _ : W32) (_ : List W32) (bytes : List (Nat × Byte)) (t : State) (at_ : List Nat),
      (landKey p win.toNat e.toNat, l) ∈ s.lands ∧ t = s.writeHome bytes ∧ at_ = t.ctrlBytes (landKey p win.toNat e.toNat) ∧
      Claims.covers bytes at_ = true) ∧
    (∃ (s : State) (_ _ : CoreId) (_ : Slot) (_ : BitVec 4) (_ : Xfer) (_ : Arrival) (_ : List Arrival) (_ : Withheld) (_ : List Withheld) (_ : XF) (_ : Hdr) (p : PartId) (win : Byte) (e : BitVec 5) (l : Landing) (_ _ : W32) (_ : List W32) (bytes : List (Nat × Byte)) (t : State) (at_ : List Nat),
      (landKey p win.toNat e.toNat, l) ∈ s.lands ∧ t = s.writeHome bytes ∧ at_ = t.ctrlBytes (landKey p win.toNat e.toNat) ∧
      Claims.covers bytes at_ = false) :=
  ⟨meets22 (atArrivalsAdvance .live 0 .dormant .here 0 2 0x18000) (by decide +kernel),
   meets22 (atArrivalsAdvance .live 0 .dormant .here 0 2 0x18000) (by decide +kernel),
   meets22 (atArrivalsAdvance .live 0 .dormant .saved 0 2 0x18000) (by decide +kernel),
   meets22 (atArrivalsAdvance .live 0 .dormant .here 0 2 0x18000) (by decide +kernel),
   meets22 (atArrivalsAdvance .live 0 .live .here 0 2 0x18000) (by decide +kernel),
   meets22 (atArrivalsAdvance .live 0 .dormant .here 0 2 0x18000) (by decide +kernel),
   meets22 (atArrivalsAdvance .live 0 .dormant .here 0 1 0x18000) (by decide +kernel),
   meets22 (atArrivalsAdvance .live 0 .dormant .here 0 2 0x18000) (by decide +kernel),
   meets22 (atArrivalsAdvance .live 0 .dormant .here 0 2 0x18004) (by decide +kernel)⟩

def atBarrierSteps (v : Bool) (br : Bool) (rep : List DieId) (sent : Bool) (dies : BitVec 16) (came : List PeerId) (d : DieId) : State × GroupId × DieId × CoreId × W32 × Byte × Slot × CtxId × Bool × Nat :=
  let a : Arm := { v := v, broken := br, reported := rep, sent := sent, dies := dies, expect := [(0, 2), (1, 2)]
                   count := [(0, 2), (1, 2)], arrived := [(0, .a, 3), (1, .a, 4)], peers := 5, gen := 9, interval := 255
                   came := came, early := [7], releases := [(9, 0, 4), (9, 1, 4)] }
  let s := { base with arms := [(3, a)] }
  let s := s.modRes 0 .a (fun r => { r with pend := [(.p .primary false 3, .bar 3 9), (.p .h1 false 2, .bar 3 8)] })
  (s, 3, d, 0, 9, 4, .a, .primary, false, 3)

def atBarrierSteps2 (w : Bool) (v : Byte) (gs : W64) (k : Bool) : State × GroupId × DieId × CoreId × W32 × Byte × Slot × CtxId × Bool × Nat :=
  let s := { base with arms := [(3, { v := true, gen := 9, dies := 1, releases := [(9, 0, v)] })] }
  let s := s.modRes 0 .a (fun r => { r with groupSet := gs, acquired := [(0, 3)], pend := if w then [] else [(.p .h1 k 3, .bar 3 9)], watch := if w then [(3, 9)] else [] })
  let s := s.markRoutes 3 [0]
  (s, 3, 0, 0, 9, v, .a, .h1, k, 3)

/-- What `Obligations.BarrierSteps` assumes, clause by clause, can be met. -/
theorem witness_BarrierSteps :
    (∃ (s : State) (g : GroupId) (d : DieId) (_ : CoreId) (_ : W32) (_ : Byte) (_ : Slot) (_ : CtxId) (_ : Bool) (n : Nat),
      Claims.dieReady s g d = true ∧
      (s.arm g).dieList.all (fun n => ((s.arm g).reported ++ [d]).contains (BitVec.ofNat 4 n)) = false) ∧
    (∃ (s : State) (g : GroupId) (d : DieId) (_ : CoreId) (_ : W32) (_ : Byte) (_ : Slot) (_ : CtxId) (_ : Bool) (n : Nat),
      Claims.dieReady s g d = true ∧
      (s.arm g).dieList.all (fun n => ((s.arm g).reported ++ [d]).contains (BitVec.ofNat 4 n)) = true) ∧
    (∃ (s : State) (g : GroupId) (_ : DieId) (_ : CoreId) (_ : W32) (_ : Byte) (_ : Slot) (_ : CtxId) (_ : Bool) (n : Nat),
      (s.arm g).v = true ∧ (s.arm g).broken = false ∧ (s.arm g).sent = true ∧
      (Claims.otherPeers s g).all (fun n => (s.arm g).came.contains (BitVec.ofNat 6 n)) = true) ∧
    (∃ (s : State) (g : GroupId) (_ : DieId) (c : CoreId) (gen : W32) (v : Byte) (_ : Slot) (_ : CtxId) (_ : Bool) (_ : Nat),
      (s.arm g).releases.find? (fun e => e.2.1 == c) = some (gen, c, v) ∧ s.routed g c = true) ∧
    (∃ (s : State) (g : GroupId) (_ : DieId) (c : CoreId) (gen : W32) (v : Byte) (r : Slot) (x : CtxId) (k : Bool) (n : Nat),
      (s.arm g).releases.find? (fun e => e.2.1 == c) = some (gen, c, v) ∧ s.routed g c = true ∧ (r = .a ∨ r = .b) ∧ n ≠ 0 ∧
      (s.res c r).pend = [(.p x k n, .bar g gen)]) ∧
    (∃ (s : State) (g : GroupId) (_ : DieId) (c : CoreId) (gen : W32) (v : Byte) (r : Slot) (_ : CtxId) (_ : Bool) (_ : Nat),
      (s.arm g).releases.find? (fun e => e.2.1 == c) = some (gen, c, v) ∧ s.routed g c = true ∧ (r = .a ∨ r = .b) ∧
      (s.res c r).pend = [] ∧ (s.res c r).watch = [(g, gen)]) ∧
    (∃ (s : State) (g : GroupId) (_ : DieId) (c : CoreId) (gen : W32) (_ : Byte) (r : Slot) (x : CtxId) (k : Bool) (n : Nat),
      s.cores.any (fun e => e.1 == c.toNat) = true ∧ (r = .a ∨ r = .b) ∧ n ≠ 0 ∧ (s.res c r).pend = [(.p x k n, .bar g gen)]) ∧
    (∃ (s : State) (g : GroupId) (_ : DieId) (c : CoreId) (gen : W32) (v : Byte) (_ : Slot) (_ : CtxId) (_ : Bool) (_ : Nat),
      (s.arm g).releases.find? (fun e => e.2.1 == c) = some (gen, c, v) ∧ s.routed g c = false) :=
  ⟨meets10 (atBarrierSteps true false [] false 3 [] 1) (by decide +kernel),
   meets10 (atBarrierSteps true false [0] false 3 [] 1) (by decide +kernel),
   meets10 (atBarrierSteps true false [] true 1 [2] 0) (by decide +kernel),
   meets10 (atBarrierSteps2 false 4 0x100000003 false) ⟨by
     unfold atBarrierSteps2 State.arm
     simp only [State.arms_markRoutes]
     decide +kernel, State.routed_markRoutes _ 3 [0] 0 (by decide)⟩,
   meets10 (atBarrierSteps2 false 4 0x100000003 false) ⟨by
     unfold atBarrierSteps2 State.arm
     simp only [State.arms_markRoutes]
     decide +kernel, State.routed_markRoutes _ 3 [0] 0 (by decide), by decide +kernel, by decide +kernel, by
     unfold atBarrierSteps2 State.res State.core
     simp only [State.cores_markRoutes]
     decide +kernel⟩,
   meets10 (atBarrierSteps2 true 4 0x100000003 false) ⟨by
     unfold atBarrierSteps2 State.arm
     simp only [State.arms_markRoutes]
     decide +kernel, State.routed_markRoutes _ 3 [0] 0 (by decide), by decide +kernel, by
     unfold atBarrierSteps2 State.res State.core
     simp only [State.cores_markRoutes]
     decide +kernel, by
     unfold atBarrierSteps2 State.res State.core
     simp only [State.cores_markRoutes]
     decide +kernel⟩,
   meets10 (atBarrierSteps2 false 4 0x100000003 false) ⟨by
     unfold atBarrierSteps2
     simp only [State.cores_markRoutes]
     decide +kernel, by decide +kernel, by decide +kernel, by
     unfold atBarrierSteps2 State.res State.core
     simp only [State.cores_markRoutes]
     decide +kernel⟩,
   meets10 (atBarrierSteps true false [] false 1 [] 0) ⟨by decide +kernel, State.routed_unmarked _ _ _ (by decide +kernel)⟩⟩

def atTranslationEvents (rm : Option Nat) (fe : Bool) (o : Bool) (root : BitVec 34) (kind : BitVec 3) (peers : List PeerId) (since : W32) (y : Bool) : State × DieId × Nat × Nat × Walk × CoreId × W64 × Nat × Byte × Shoot × PeerId × BitVec 3 × VAddr × BitVec 34 :=
  let s := (base.writeNat 0 8 0x1001).writeNat 0x1000 8 0xF3
  let w : Walk := { root := root, page := 2, part := 1, cores := [0] }
  let x : Shoot := { num := 4, core := 0, slot := .a, ctx := .primary, kind := kind, root := root, va := 0x20000, part := 1
                     serial := 9, peers := peers, since := since, removed := rm }
  let s := { s with
    fab := { s.fab with ofus := [(0, { rot := 64 })] }, shoots := [x, { x with num := 5 }], replicas := [1024, 5], patina := [(2048, 5)]
    dies := [(0, { walks := [w, { w with page := 9 }], rwt := [(0, 2, 5, 6), (0, 3, 5, 6)]
                   ctlb := [(0, [{ root := root, page := 2, log := 16, pte := 0, part := 1 }])] })] }
  let s := s.modFab (fun b => { b with out := if o then [{ frame := { (default : Frame) with dst := 2, kind := 1, cmd := { (default : Carried) with glob := true } }, part := 1 }] else [] })
  let s := s.modRes 0 .a (fun r => { r with tlbis := [(.primary, 4)], fences := if fe then [{ serial := 3, paths := 1, scope := 0 }] else [] })
  let k := s.walk root (if y then x.va.toNat else w.page * 2 ^ 16)
  let pte := match k with | .leaf p _ => p | _ => 0
  let log := match k with | .leaf _ n => n | _ => 0
  let sub := match k with | .bad n => n | _ => 0
  (s, 0, 0, 4, w, 0, pte, log, sub, x, 2, 0, 0, 0)

def atTranslationEvents2 (a : Nat) : State × DieId × Nat × Nat × Walk × CoreId × W64 × Nat × Byte × Shoot × PeerId × BitVec 3 × VAddr × BitVec 34 :=
  let s := (base.writeNat 0 8 0x1001).writeNat 0x1000 8 0xF3
  let w : Walk := { root := 0, page := 2, part := 1, cores := [0] }
  let s := { s with dies := [(0, { walks := [w] })], homes := [(a / 128, { pins := [(1, .a)] })] }
  (s, 0, 0, 4, w, 0, 0, 0, 0, default, 2, 0, 0, 0)

/-- What `Obligations.TranslationEvents` assumes, clause by clause, can be met. -/
theorem witness_TranslationEvents :
    (∃ (s : State) (d : DieId) (k _ : Nat) (w : Walk) (c : CoreId) (pte : W64) (log : Nat) (_ : Byte) (_ : Shoot) (_ : PeerId) (_ : BitVec 3) (_ : VAddr) (_ : BitVec 34),
      k < 256 ∧ (s.die d).walks[k]? = some w ∧ w.cores = [c] ∧ s.walk w.root (w.page * 2 ^ 16) = .leaf pte log ∧
      s.tablesFree w.root (w.page * 2 ^ 16) = true) ∧
    (∃ (s : State) (d : DieId) (k _ : Nat) (w : Walk) (c : CoreId) (_ : W64) (_ : Nat) (sub : Byte) (_ : Shoot) (_ : PeerId) (_ : BitVec 3) (_ : VAddr) (_ : BitVec 34),
      k < 256 ∧ (s.die d).walks[k]? = some w ∧ w.cores = [c] ∧ s.walk w.root (w.page * 2 ^ 16) = .bad sub ∧
      s.tablesFree w.root (w.page * 2 ^ 16) = true) ∧
    (∃ (s : State) (d : DieId) (k _ : Nat) (w : Walk) (_ : CoreId) (_ : W64) (_ : Nat) (_ : Byte) (_ : Shoot) (_ : PeerId) (_ : BitVec 3) (_ : VAddr) (_ : BitVec 34),
      (s.die d).walks[k]? = some w ∧ s.tablesFree w.root (w.page * 2 ^ 16) = false) ∧
    (∃ (s : State) (_ : DieId) (_ n : Nat) (_ : Walk) (_ : CoreId) (_ : W64) (_ : Nat) (_ : Byte) (x : Shoot) (_ : PeerId) (_ : BitVec 3) (_ : VAddr) (_ : BitVec 34),
      s.shoots.find? (fun y => y.num == n) = some x ∧ x.removed = none ∧ s.tlbiFenced x = false ∧
      (∀ o ∈ s.fab.out, Claims.carriesOld s x o = true → s.frameStuck x.part o = false)) ∧
    (∃ (s : State) (_ : DieId) (_ n : Nat) (_ : Walk) (_ : CoreId) (_ : W64) (_ : Nat) (_ : Byte) (x : Shoot) (_ : PeerId) (_ : BitVec 3) (_ : VAddr) (_ : BitVec 34),
      s.shoots.find? (fun y => y.num == n) = some x ∧ x.removed = none ∧ s.tlbiFenced x = true) ∧
    (∃ (s : State) (_ : DieId) (_ n : Nat) (_ : Walk) (_ : CoreId) (_ : W64) (_ : Nat) (_ : Byte) (x : Shoot) (_ : PeerId) (_ : BitVec 3) (_ : VAddr) (_ : BitVec 34),
      Claims.tlbiReady s n x = true ∧ x.kind ≠ 3 ∧ x.kind ≠ 5) ∧
    (∃ (s : State) (_ : DieId) (_ n : Nat) (_ : Walk) (_ : CoreId) (pte : W64) (log : Nat) (_ : Byte) (x : Shoot) (_ : PeerId) (_ : BitVec 3) (_ : VAddr) (_ : BitVec 34),
      Claims.tlbiReady s n x = true ∧ x.kind = 3 ∧ s.walk x.root x.va.toNat = .leaf pte log) ∧
    (∃ (s : State) (_ : DieId) (_ n : Nat) (_ : Walk) (_ : CoreId) (pte : W64) (log : Nat) (_ : Byte) (x : Shoot) (_ : PeerId) (_ : BitVec 3) (_ : VAddr) (_ : BitVec 34),
      Claims.tlbiReady s n x = true ∧ x.kind = 5 ∧ s.walk x.root x.va.toNat = .leaf pte log) ∧
    (∃ (s : State) (_ : DieId) (_ n : Nat) (_ : Walk) (_ : CoreId) (_ : W64) (_ : Nat) (sub : Byte) (x : Shoot) (_ : PeerId) (_ : BitVec 3) (_ : VAddr) (_ : BitVec 34),
      Claims.tlbiReady s n x = true ∧ s.walk x.root x.va.toNat = .bad sub) ∧
    (∃ (s : State) (_ : DieId) (_ _ : Nat) (_ : Walk) (_ : CoreId) (_ : W64) (_ : Nat) (_ : Byte) (_ : Shoot) (_ : PeerId) (_ : BitVec 3) (_ : VAddr) (_ : BitVec 34),
      s.fab.out = []) ∧
    (∃ (s : State) (_ : DieId) (_ _ : Nat) (_ : Walk) (_ : CoreId) (_ : W64) (_ : Nat) (_ : Byte) (_ : Shoot) (t : PeerId) (_ : BitVec 3) (_ : VAddr) (_ : BitVec 34),
      (∀ o ∈ s.fab.out, Claims.carries s t o = true) ∧ s.fab.out ≠ []) ∧
    (∃ (s : State) (_ : DieId) (_ n : Nat) (_ : Walk) (_ : CoreId) (_ : W64) (_ : Nat) (_ : Byte) (x : Shoot) (t : PeerId) (_ : BitVec 3) (_ : VAddr) (_ : BitVec 34),
      s.shoots.find? (fun y => y.num == n) = some x ∧ x.peers.contains t = true ∧ 8 ≤ (s.fab.rot - x.since).toNat) :=
  ⟨meets14 (atTranslationEvents none false false 0 0 [] 0 false) (by decide +kernel),
   meets14 (atTranslationEvents none false false 3 0 [] 0 false) (by decide +kernel),
   meets14 (atTranslationEvents2 0) (by decide +kernel),
   meets14 (atTranslationEvents none false false 0 0 [] 0 false) (by decide +kernel),
   meets14 (atTranslationEvents none true false 0 0 [] 0 false) (by decide +kernel),
   meets14 (atTranslationEvents (some 30) false false 0 0 [] 0 false) (by decide +kernel),
   meets14 (atTranslationEvents (some 30) false false 0 3 [] 0 false) (by decide +kernel),
   meets14 (atTranslationEvents (some 30) false false 0 5 [] 0 false) (by decide +kernel),
   meets14 (atTranslationEvents (some 30) false false 3 0 [] 0 false) (by decide +kernel),
   meets14 (atTranslationEvents none false false 0 0 [] 0 false) (by decide +kernel),
   meets14 (atTranslationEvents none false true 0 0 [] 0 false) (by decide +kernel),
   meets14 (atTranslationEvents none false false 0 0 [2] 0 false) (by decide +kernel)⟩

def atStackedMapSteps (ph : BitVec 4) (st : BitVec 2) (own : Bool) (en : Bool) (m : BitVec 34) (wt : Option (Tab Bool)) (f : Bool) (sp : Bool) (ps : BitVec 16) : State × DieId × BitVec 14 × Bool × BitVec 16 × Bool × Bool × PartId × Nat × Nat :=
  let s := { base with boot := { phase := ph }, parts := if own then base.parts else []
                       dies := [(0, { stk := { state := st, seq := 7, dead := [(4, true)], pdead := [(5, true)], target := [(6, true)]
                                               testEn := en, testBus := 9, mirror := m, bad := [6, 7], waiting := wt, heat := [8] } })] }
  (s, 0, (if ps = 7 then 6 else 4), sp, ps, f, sp, 1, (if sp then 4 else 2048), 0x5000)

def atStackedMapSteps2 (a : Nat) : State × DieId × BitVec 14 × Bool × BitVec 16 × Bool × Bool × PartId × Nat × Nat :=
  let s := { base with dies := [(0, { stk := { state := 2 } })], homes := [(a / 128, { pins := [(1, .a)] })] }
  (s, 0, 4, false, 7, false, false, 1, 4, 0x5000)

/-- What `Obligations.StackedMapSteps` assumes, clause by clause, can be met. -/
theorem witness_StackedMapSteps :
    (∃ (s : State) (d : DieId) (bank : BitVec 14) (live : Bool) (_ : BitVec 16) (_ _ : Bool) (_ : PartId) (_ _ : Nat),
      Claims.proposes s d bank live = true ∧ (s.die d).stk.state ≠ 2 ∧ s.dieOwner d = none) ∧
    (∃ (s : State) (d : DieId) (bank : BitVec 14) (live : Bool) (_ : BitVec 16) (_ _ : Bool) (p : PartId) (_ _ : Nat),
      Claims.proposes s d bank live = true ∧ (s.die d).stk.state ≠ 2 ∧ s.dieOwner d = some p) ∧
    (∃ (s : State) (d : DieId) (bank : BitVec 14) (live : Bool) (_ : BitVec 16) (_ _ : Bool) (_ : PartId) (_ _ : Nat),
      Claims.proposes s d bank live = true ∧ (s.die d).stk.state = 2) ∧
    (∃ (s : State) (d : DieId) (bank : BitVec 14) (live : Bool) (_ : BitVec 16) (_ _ : Bool) (_ : PartId) (_ _ : Nat),
      Claims.proposes s d bank live = false) ∧
    (∃ (s : State) (d : DieId) (_ : BitVec 14) (_ : Bool) (_ : BitVec 16) (_ _ : Bool) (_ : PartId) (_ _ : Nat),
      s.boot.phase = 5 ∧ (s.die d).stk.state ≠ 2 ∧ s.dieOwner d = none) ∧
    (∃ (s : State) (d : DieId) (_ : BitVec 14) (_ : Bool) (_ : BitVec 16) (_ _ : Bool) (p : PartId) (_ _ : Nat),
      s.boot.phase = 5 ∧ (s.die d).stk.state ≠ 2 ∧ s.dieOwner d = some p) ∧
    (∃ (s : State) (d : DieId) (_ : BitVec 14) (_ : Bool) (pseq : BitVec 16) (_ _ : Bool) (_ : PartId) (_ _ : Nat),
      s.boot.phase = 5 ∧ (s.die d).stk.state = 1 ∧ (s.die d).stk.seq = pseq) ∧
    (∃ (s : State) (d : DieId) (_ : BitVec 14) (_ : Bool) (pseq : BitVec 16) (_ _ : Bool) (_ : PartId) (_ _ : Nat),
      s.boot.phase = 5 ∧ ((s.die d).stk.state ≠ 1 ∨ (s.die d).stk.seq ≠ pseq)) ∧
    (∃ (s : State) (_ : DieId) (_ : BitVec 14) (_ : Bool) (_ : BitVec 16) (_ _ : Bool) (_ : PartId) (_ _ : Nat),
      s.boot.phase ≠ 5) ∧
    (∃ (s : State) (d : DieId) (_ : BitVec 14) (_ : Bool) (_ : BitVec 16) (_ _ : Bool) (_ : PartId) (_ _ : Nat),
      (s.die d).stk.state = 2 ∧ (s.die d).stk.waiting = none ∧ s.pinnedOn d = false) ∧
    (∃ (s : State) (d : DieId) (_ : BitVec 14) (_ : Bool) (_ : BitVec 16) (_ _ : Bool) (_ : PartId) (_ _ : Nat),
      (s.die d).stk.state = 2 ∧ s.pinnedOn d = true) ∧
    (∃ (s : State) (d : DieId) (_ : BitVec 14) (_ : Bool) (_ : BitVec 16) (_ _ : Bool) (_ : PartId) (_ _ : Nat),
      s.boot.phase = 5 ∧ (s.die d).stk.state = 2) ∧
    (∃ (s : State) (d : DieId) (_ : BitVec 14) (_ : Bool) (_ : BitVec 16) (_ _ : Bool) (_ : PartId) (n _ : Nat),
      Claims.mirrorThere s d = true ∧ n < 4096) ∧
    (∃ (s : State) (d : DieId) (_ : BitVec 14) (_ : Bool) (_ : BitVec 16) (_ _ : Bool) (_ : PartId) (_ _ : Nat),
      Claims.mirrorThere s d = false) ∧
    (∃ (s : State) (d : DieId) (_ : BitVec 14) (_ : Bool) (_ : BitVec 16) (_ _ : Bool) (_ : PartId) (_ a : Nat),
      (a < Claims.mirrorAt s d ∨ Claims.mirrorAt s d + 4096 ≤ a)) ∧
    (∃ (s : State) (_ : DieId) (_ : BitVec 14) (_ : Bool) (_ : BitVec 16) (_ _ : Bool) (p : PartId) (_ a : Nat),
      (a < Claims.eventAt s p ∨ Claims.eventAt s p + 32 ≤ a)) ∧
    (∃ (s : State) (d : DieId) (_ : BitVec 14) (_ : Bool) (_ : BitVec 16) (faulty spare : Bool) (_ : PartId) (_ _ : Nat),
      (s.die d).stk.testEn = true ∧ (s.die d).stk.state ≠ 2 ∧ (faulty = false ∨ spare = true)) ∧
    (∃ (s : State) (d : DieId) (_ : BitVec 14) (_ : Bool) (_ : BitVec 16) (_ _ : Bool) (_ : PartId) (_ _ : Nat),
      (s.die d).stk.testEn = true ∧ (s.die d).stk.state ≠ 2) :=
  ⟨meets10 (atStackedMapSteps 5 0 false false 0 none true false 7) (by decide +kernel),
   meets10 (atStackedMapSteps 5 0 true false 0 none true false 7) (by decide +kernel),
   meets10 (atStackedMapSteps 5 2 false false 0 none true false 7) (by decide +kernel),
   meets10 (atStackedMapSteps 5 0 false false 0 none true true 7) (by decide +kernel),
   meets10 (atStackedMapSteps 5 0 false false 0 none true true 7) (by decide +kernel),
   meets10 (atStackedMapSteps 5 0 true false 0 none true true 7) (by decide +kernel),
   meets10 (atStackedMapSteps 5 1 false false 0 none true true 7) (by decide +kernel),
   meets10 (atStackedMapSteps 5 0 false false 0 none true true 7) (by decide +kernel),
   meets10 (atStackedMapSteps 3 0 false false 0 none true true 7) (by decide +kernel),
   meets10 (atStackedMapSteps 5 2 false false 0 none true true 7) (by decide +kernel),
   meets10 (atStackedMapSteps2 0x0) (by decide +kernel),
   meets10 (atStackedMapSteps 5 2 false false 0 none true true 7) (by decide +kernel),
   meets10 (atStackedMapSteps 5 0 false false 0x100000010 none true true 7) (by decide +kernel),
   meets10 (atStackedMapSteps 5 0 false false 0 none true true 7) (by decide +kernel),
   meets10 (atStackedMapSteps 5 0 false false 0 none true true 7) (by decide +kernel),
   meets10 (atStackedMapSteps 5 0 false false 0 none true true 7) (by decide +kernel),
   meets10 (atStackedMapSteps 5 0 false true 0 none true true 7) (by decide +kernel),
   meets10 (atStackedMapSteps 5 0 false true 0 none true true 7) (by decide +kernel)⟩

def atQueueCommands (op : Nat) (ph : BitVec 4) (st : BitVec 2) (held : Bool) (hi : Nat) (part : PartId) : State × PartId × W64 × QueueId × Task :=
  let s := { base with
    boot := { phase := ph }, arms := [(3, { v := true, broken := true, owner := 9, count := [(0, 4)] })]
    queues := [(3, { state := st, part := part, rptr := 2, wptr := 2, sizelog := 4, err := 3, base := 0x40000, root := 7
                     open_ := if held then [(1, none)] else [] })] }
  let s := s.modPart 1 (fun p => { p with held := held, args := [(0, 0x40000), (1, 0x00ABF12000000000)] })
  let w : W64 := BitVec.ofNat 64 ((if op = 0 then 3 else op + 3 * 256) + hi * 2 ^ 32)
  (s, 1, w, w.extractLsb' 8 10, (s.task? 9).getD default)

def atQueueCommands2 (wr : Bool) (n : Nat) (hf : Nat) : State × PartId × W64 × QueueId × Task :=
  let s := { base with
    boot := { phase := 5 }, arms := [(3, { v := true, owner := 9, peers := 3, dies := 1, gen := 4, interval := 6, expect := [(0, 2), (1, 3)] })]
    queues := [(3, { state := 1, part := 1, rptr := 2, wptr := 2, sizelog := 4 })], hostQueue := if wr then [{ (default : HostAccess) with write := true }] else [] }
  let w : W64 := BitVec.ofNat 64 ((if hf = 1 then 3 else 6 + 3 * 256) + n * 2 ^ 32)
  (s, 1, w, w.extractLsb' 8 10, (s.task? 9).getD default)

/-- What `Obligations.QueueCommandsAndPackets` assumes, clause by clause, can be met (its part on QueueCommands). -/
theorem witness_QueueCommands :
    (∃ (s : State) (p : PartId) (w : W64) (q : QueueId) (_ : Task),
      q = w.extractLsb' 8 10 ∧ Claims.ringsNow s p = true ∧ Claims.queueIn s p (w.setWidth 10) 1 = true ∧
      (w.extractLsb' 32 32 - (s.queue (w.setWidth 10)).rptr : W32).toNat ≤ 2 ^ (s.queue (w.setWidth 10)).sizelog.toNat ∧
      w.extractLsb' 32 32 ≠ (s.queue (w.setWidth 10)).rptr) ∧
    (∃ (s : State) (p : PartId) (w : W64) (q : QueueId) (_ : Task),
      q = w.extractLsb' 8 10 ∧ Claims.ringsNow s p = true ∧ Claims.queueIn s p (w.setWidth 10) 1 = true ∧
      w.extractLsb' 32 32 = (s.queue (w.setWidth 10)).rptr) ∧
    (∃ (s : State) (p : PartId) (w : W64) (q : QueueId) (_ : Task),
      q = w.extractLsb' 8 10 ∧ Claims.ringsNow s p = true ∧ Claims.queueIn s p (w.setWidth 10) 1 = false) ∧
    (∃ (s : State) (p : PartId) (w : W64) (q : QueueId) (_ : Task),
      q = w.extractLsb' 8 10 ∧ Claims.ringsNow s p = true ∧ Claims.queueIn s p (w.setWidth 10) 1 = true ∧
      2 ^ (s.queue (w.setWidth 10)).sizelog.toNat < (w.extractLsb' 32 32 - (s.queue (w.setWidth 10)).rptr : W32).toNat) ∧
    (∃ (s : State) (p : PartId) (w : W64) (q : QueueId) (_ : Task),
      q = w.extractLsb' 8 10 ∧ s.ready = true ∧ Claims.ringsNow s p = false) ∧
    (∃ (s : State) (_ : PartId) (w : W64) (q : QueueId) (_ : Task),
      q = w.extractLsb' 8 10 ∧ s.ready = false) ∧
    (∃ (s : State) (p : PartId) (w : W64) (q : QueueId) (_ : Task),
      q = w.extractLsb' 8 10 ∧ Claims.command s w 1 = true ∧ (s.queue q).state = 0 ∧ (Claims.argWords s p).extractLsb' 48 53 = 0) ∧
    (∃ (s : State) (p : PartId) (w : W64) (q : QueueId) (_ : Task),
      q = w.extractLsb' 8 10 ∧ Claims.command s w 2 = true ∧ Claims.queueIn s p q 1 = true) ∧
    (∃ (s : State) (p : PartId) (w : W64) (q : QueueId) (t : Task),
      q = w.extractLsb' 8 10 ∧ Claims.command s w 3 = true ∧ s.task? (w.extractLsb' 32 32) = some t ∧ t.part = p) ∧
    (∃ (s : State) (p : PartId) (w : W64) (q : QueueId) (_ : Task),
      q = w.extractLsb' 8 10 ∧ Claims.command s w 4 = true ∧ Claims.queueIn s p q 2 = true) ∧
    (∃ (s : State) (p : PartId) (w : W64) (q : QueueId) (t : Task),
      q = w.extractLsb' 8 10 ∧ Claims.command s w 5 = true ∧ w.extractLsb' 16 2 = 0 ∧ (s.arm (w.extractLsb' 8 8)).v = true ∧
      s.task? (s.arm (w.extractLsb' 8 8)).owner = some t ∧ t.part = p) ∧
    (∃ (s : State) (p : PartId) (w : W64) (q : QueueId) (_ : Task),
      q = w.extractLsb' 8 10 ∧ Claims.command s w 6 = true ∧ w.extractLsb' 32 32 = 0 ∧ Claims.queueIn s p q 1 = true) ∧
    (∃ (s : State) (p : PartId) (w : W64) (q : QueueId) (t : Task),
      q = w.extractLsb' 8 10 ∧ Claims.command s w 6 = true ∧ w.extractLsb' 32 32 = t.id ∧ t.id ≠ 0 ∧ w.extractLsb' 16 2 = 0 ∧
      (s.arm (w.extractLsb' 8 8)).v = true ∧ (s.arm (w.extractLsb' 8 8)).owner = t.id ∧ s.task? t.id = some t ∧ t.part = p ∧
      (s.arm (w.extractLsb' 8 8)).expect.all (fun e => e.1 < 2) = true) ∧
    (∃ (s : State) (_ : PartId) (w : W64) (q : QueueId) (_ : Task),
      q = w.extractLsb' 8 10 ∧ Claims.command s w 1 = true ∧ (s.queue q).state ≠ 0) :=
  ⟨meets5 (atQueueCommands 0 5 1 false 9 1) (by decide +kernel),
   meets5 (atQueueCommands 0 5 1 false 2 1) (by decide +kernel),
   meets5 (atQueueCommands 0 5 0 false 9 1) (by decide +kernel),
   meets5 (atQueueCommands 0 5 1 false 200 1) (by decide +kernel),
   meets5 (atQueueCommands 0 5 0 true 9 1) (by decide +kernel),
   meets5 (atQueueCommands 0 3 0 true 9 1) (by decide +kernel),
   meets5 (atQueueCommands 1 5 0 true 9 1) (by decide +kernel),
   meets5 (atQueueCommands 2 5 1 true 9 1) (by decide +kernel),
   meets5 (atQueueCommands 0 5 0 true 9 1) (by decide +kernel),
   meets5 (atQueueCommands 4 5 2 true 9 1) (by decide +kernel),
   meets5 (atQueueCommands 5 5 0 true 9 1) (by decide +kernel),
   meets5 (atQueueCommands 6 5 1 true 0 1) (by decide +kernel),
   meets5 (atQueueCommands 6 5 0 true 9 1) (by decide +kernel),
   meets5 (atQueueCommands 1 5 1 true 9 1) (by decide +kernel)⟩

def withPacket (s : State) (pa : Nat) (p : Packet) : State :=
  (List.range 8).foldl (fun s i => s.writeNat (pa + 8 * i) 8 (p.getD i 0).toNat) s

/-- Queue 5 holds one packet at address b, and no core or die has state of its own. -/
def queued (b : Nat) (p : Packet) (head : Option Packet) : State :=
  let s := withPacket ((base.writeNat 0 8 0x1001).writeNat 0x1000 8 0xF3) b p
  { s with
    parts := [(1, { cfg := 0x8800000000000001 })], cores := [], dies := [], arms := [], tasks := []
    queues := [(5, { state := 1, part := 1, rptr := 2, wptr := 3, sizelog := 1, base := BitVec.ofNat 48 b, root := 0, head := head })] }

def atQueuePackets (pin : Bool) (ty : Nat) (op : Nat) (v : Nat) (hd : Bool) : State × QueueId × Packet × Piece × W64 :=
  let p : Packet := if ty = 0 then List.replicate 8 0 else
    [BitVec.ofNat 64 ty, BitVec.ofNat 64 (0x5000 + op * 2 ^ 48), BitVec.ofNat 64 v, if ty = 3 then 0xFF else 0, 0, 0, 0, 0]
  let s := (queued 0x8000 p (if hd then some p else none)).writeNat 0x5000 8 0x105
  let s := if pin then { s with homes := [(0x5000 / 128, { pins := [(1, .a)] })] } else s
  let q := match Claims.signalPlace s 5 p (if ty = 3 then .load else if op = 0 then .store else .atomic) with | .ok q => q | _ => default
  (s, 5, p, q, BitVec.ofNat 64 (s.readList q.addr))

/-- What `Obligations.QueueCommandsAndPackets` assumes, clause by clause, can be met (its part on QueuePackets). -/
theorem witness_QueuePackets :
    (∃ (s : State) (q : QueueId) (pkt : Packet) (_ : Piece) (_ : W64),
      (s.queue q).state = 1 ∧ Claims.takes s q pkt 0 = true) ∧
    (∃ (s : State) (q : QueueId) (pkt : Packet) (p : Piece) (_ : W64),
      (s.queue q).state = 1 ∧ Claims.takes s q pkt 2 = true ∧ pktOp pkt = 0 ∧ Claims.signalPlace s q pkt .store = .ok p ∧
      s.dispFree p = true) ∧
    (∃ (s : State) (q : QueueId) (pkt : Packet) (p : Piece) (_ : W64),
      (s.queue q).state = 1 ∧ Claims.takes s q pkt 2 = true ∧ pktOp pkt = 1 ∧ Claims.signalPlace s q pkt .atomic = .ok p ∧
      s.dispFree p = true) ∧
    (∃ (s : State) (q : QueueId) (pkt : Packet) (p : Piece) (x : W64),
      (s.queue q).state = 1 ∧ Claims.takes s q pkt 3 = true ∧ Claims.signalPlace s q pkt .load = .ok p ∧
      x = BitVec.ofNat 64 (s.readList p.addr) ∧ waitMet pkt x = true ∧
      s.dispReadable (s.queue q).root (s.queue q).part (pktAddr pkt).toNat 8 = true) ∧
    (∃ (s : State) (q : QueueId) (pkt : Packet) (p : Piece) (x : W64),
      (s.queue q).state = 1 ∧ Claims.takes s q pkt 3 = true ∧ Claims.signalPlace s q pkt .load = .ok p ∧
      x = BitVec.ofNat 64 (s.readList p.addr) ∧ waitMet pkt x = false ∧
      s.dispReadable (s.queue q).root (s.queue q).part (pktAddr pkt).toNat 8 = true) ∧
    (∃ (s : State) (q : QueueId) (pkt : Packet) (p : Piece) (_ : W64),
      (s.queue q).state = 1 ∧ Claims.takes s q pkt 3 = true ∧ Claims.signalPlace s q pkt .load = .ok p ∧
      s.dispReadable (s.queue q).root (s.queue q).part (pktAddr pkt).toNat 8 = false) ∧
    (∃ (s : State) (q : QueueId) (pkt : Packet) (p : Piece) (x : W64),
      (s.queue q).state = 1 ∧ (s.queue q).head = some pkt ∧ pktType pkt = 3 ∧ Claims.signalPlace s q pkt .load = .ok p ∧
      x = BitVec.ofNat 64 (s.readList p.addr) ∧ waitMet pkt x = true ∧
      s.dispReadable (s.queue q).root (s.queue q).part (pktAddr pkt).toNat 8 = true) ∧
    (∃ (s : State) (q : QueueId) (pkt : Packet) (p : Piece) (x : W64),
      (s.queue q).state = 1 ∧ (s.queue q).head = some pkt ∧ pktType pkt = 3 ∧ Claims.signalPlace s q pkt .load = .ok p ∧
      x = BitVec.ofNat 64 (s.readList p.addr) ∧
      (waitMet pkt x = false ∨ s.dispReadable (s.queue q).root (s.queue q).part (pktAddr pkt).toNat 8 = false)) :=
  ⟨meets5 (atQueuePackets false 0 0 5 false) (by decide +kernel),
   meets5 (atQueuePackets false 2 0 5 false) (by decide +kernel),
   meets5 (atQueuePackets false 2 1 5 false) (by decide +kernel),
   meets5 (atQueuePackets false 3 0 5 false) (by decide +kernel),
   meets5 (atQueuePackets false 3 0 7 false) (by decide +kernel),
   meets5 (atQueuePackets true 3 0 5 false) (by decide +kernel),
   meets5 (atQueuePackets false 3 0 5 true) (by decide +kernel),
   meets5 (atQueuePackets false 3 0 7 true) (by decide +kernel)⟩

def launch : Packet := [1, 0x2000, 0x0001000000006000, 0x5000, 0x7000, 0, 0, 0]

def atLaunchSteps (hd : Bool) (gd : Bool) (busy : Bool) (pri : Nat) : State × QueueId × Packet × Wanted × (List (CoreId × Nat × Slot)) × Piece :=
  let s := queued 0x8000 launch (if hd then some launch else none)
  let s := if busy then { s with cores := (List.range 256).map (fun n => (n, { fenced := true, absent := true })) } else s
  let s := if gd then { s with budget := 100 } else s
  let hi : Packet := [BitVec.ofNat 64 (1 + 256 * pri), 0x2000, 0x0001000000006000, 0x5000, 0x7000, 0, 0, 0]
  let s := if pri < 8 then { s with queues := s.queues ++ [(6, { state := 1, maxprio := 7, part := 1, head := some hi })] } else s
  let t := if hd then s else s.markServed 5
  let w := if busy then ⟨[], [], []⟩ else (t.wanted (t.queue 5) launch).getD ⟨[], [], []⟩
  let p := match s.reachSpaceAs true (s.queue 5).root (s.queue 5).part .store ((lSignal launch).setWidth 64) 8 with | .ok p => p | _ => default
  (s, 5, launch, w, (t.pickCores launch 0 w).getD [], p)

/-- What `Obligations.LaunchesAndTaskEnds` assumes, clause by clause, can be met (its part on LaunchSteps). -/
theorem witness_LaunchSteps :
    (∃ (s : State) (q : QueueId) (pkt : Packet) (w : Wanted) (l : List (CoreId × Nat × Slot)) (_ : Piece),
      Claims.noSpareDue s pkt = true ∧ Claims.takes s q pkt 1 = true ∧ Claims.admissible (s.markServed q) q pkt w l = true) ∧
    (∃ (s : State) (q : QueueId) (pkt : Packet) (w : Wanted) (_ : List (CoreId × Nat × Slot)) (_ : Piece),
      Claims.noSpareDue s pkt = true ∧ Claims.takes s q pkt 1 = true ∧ Claims.mustWait (s.markServed q) q pkt w = true) ∧
    (∃ (s : State) (q : QueueId) (pkt : Packet) (_ : Wanted) (_ : List (CoreId × Nat × Slot)) (_ : Piece),
      Claims.noSpareDue s pkt = true ∧ Claims.takes s q pkt 1 = true ∧ Claims.listsFree s q pkt = true ∧
      (s.markServed q).wanted (s.queue q) pkt = none ∧
      (s.markServed q).recordReady (s.queue q).root (s.queue q).part (lSignal pkt) = true) ∧
    (∃ (s : State) (q : QueueId) (pkt : Packet) (_ : Wanted) (_ : List (CoreId × Nat × Slot)) (p : Piece),
      Claims.noSpareDue s pkt = true ∧ Claims.takes s q pkt 1 = true ∧ Claims.listsFree s q pkt = true ∧
      (s.markServed q).wanted (s.queue q) pkt = none ∧
      s.reachSpaceAs true (s.queue q).root (s.queue q).part .store ((lSignal pkt).setWidth 64) 8 = .ok p ∧ s.dispFree p = true) ∧
    (∃ (s : State) (q : QueueId) (pkt : Packet) (w : Wanted) (l : List (CoreId × Nat × Slot)) (_ : Piece),
      Claims.noSpareDue s pkt = true ∧ (s.queue q).head = some pkt ∧ pktType pkt = 1 ∧ s.ready = true ∧
      s.serves (s.queue q).homedie = some q.toNat ∧ Claims.admissible (s.markServed q) q pkt w l = true) ∧
    (∃ (s : State) (q : QueueId) (pkt : Packet) (_ : Wanted) (_ : List (CoreId × Nat × Slot)) (_ : Piece),
      Claims.noSpareDue s pkt = true ∧ s.serves (s.queue q).homedie ≠ some q.toNat) ∧
    (∃ (s : State) (q : QueueId) (pkt : Packet) (w : Wanted) (l : List (CoreId × Nat × Slot)) (_ : Piece),
      Claims.noSpareDue s pkt = true ∧ Claims.admissible s q pkt w l = true) :=
  ⟨meets6 (atLaunchSteps false false false 8) (by decide +kernel),
   meets6 (atLaunchSteps false true false 8) (by decide +kernel),
   meets6 (atLaunchSteps false false true 8) (by decide +kernel),
   meets6 (atLaunchSteps false false true 8) (by decide +kernel),
   meets6 (atLaunchSteps true false false 8) (by decide +kernel),
   meets6 (atLaunchSteps true false false 3) (by decide +kernel),
   meets6 (atLaunchSteps true false false 8) (by decide +kernel)⟩

def atTaskEnds (ex : List CoreId) (sig : VAddr) (st : BitVec 2) (e : Option Ending) (tp : Bool) : State × W32 × Task × Piece × Ending :=
  let t : Task := { id := 9, queue := 5, packet := 1, part := 1, root := 0, pdid := 2, prio := 2, cls := 0, signal := sig
                    cores := [(0, .a), (1, .a)], exited := ex, ending := e, groups := [3], zones := [0, 5] }
  let s := { queued 0x8000 launch none with
    tasks := [t, { t with id := 4 }], arms := [(3, { v := true, owner := 9 })]
    cores := [(0, { a := { task := 9, occ := tp, machine := if tp then some (cCoolant, 33) else none, primary := { run := .live } }
                  , kept := [(9, 0, 8)] })]
    lands := [(7, { task := 9, pages := [(1, 2, 9)] })] }
  let s := s.modQueue 5 (fun k => { k with open_ := [(1, some 9)], state := st })
  let q := match (s.release t).reachSpaceAs true t.root t.part .store (t.signal.setWidth 64) 8 with | .ok q => q | _ => default
  (s, 9, t, q, e.getD ⟨0, 0, 0⟩)

/-- What `Obligations.LaunchesAndTaskEnds` assumes, clause by clause, can be met (its part on TaskEnds). -/
theorem witness_TaskEnds :
    (∃ (s : State) (id : W32) (t : Task) (_ : Piece) (_ : Ending),
      s.task? id = some t ∧ t.ending = none ∧ t.cores.all (fun e => t.exited.contains e.1) = false) ∧
    (∃ (s : State) (id : W32) (t : Task) (p : Piece) (_ : Ending),
      s.task? id = some t ∧ t.ending = none ∧ t.cores.all (fun e => t.exited.contains e.1) = true ∧ Claims.recordAt s t p = true) ∧
    (∃ (s : State) (id : W32) (t : Task) (p : Piece) (e : Ending),
      s.task? id = some t ∧ t.ending = some e ∧ e.status ≠ 1 ∧ (e.status ≠ 5 ∨ s.trapPending t = false) ∧
      Claims.recordAt (s.stopTask t) t p = true) ∧
    (∃ (s : State) (id : W32) (t : Task) (_ : Piece) (e : Ending),
      s.task? id = some t ∧ t.ending = some e ∧ e.status = 5 ∧ s.trapPending t = true) :=
  ⟨meets5 (atTaskEnds [0] 0x5000 1 none false) (by decide +kernel),
   meets5 (atTaskEnds ([0, 1]) 0x5000 1 none false) (by decide +kernel),
   meets5 (atTaskEnds ([0, 1]) 0x5000 1 (some ⟨3, 0, 0⟩) false) (by decide +kernel),
   meets5 (atTaskEnds ([0, 1]) 0x5000 1 (some ⟨5, 4, 0⟩) true) (by decide +kernel)⟩

def topoPacket (act tmo : Nat) : Packet := [4, BitVec.ofNat 64 (act * 2 ^ 56 + tmo * 2 ^ 40 + 5), 7, 0x8000, 0, 0, 0, 9]

def topology (act tmo step : Nat) : Topo :=
  { queue := 5, packet := 3, part := 1, root := 5, action := BitVec.ofNat 8 act, timeout := BitVec.ofNat 16 tmo, ports := 5, peers := 7
    frieze := 0, windows := 0, npages := 0, pool := 0, circuits := 0, rn := 9, step := step }

def topoFabric (x : Option Topo) (rot : W32) : Fabric :=
  { ports := [(0, { state := 2, frieze := [(3, 0x20101)] }), (1, { state := 2 }), (2, { state := 2 })]
    links := [(1, { mode := 1 }), (2, { mode := 2 })], peers := 7, ofus := [(0, { rot := rot, lock := true })], topo := x }

def atTopoSteps (act : Nat) (tmo : Nat) (step : Option Nat) (rot : W32) (fl : W32) : State × QueueId × Packet × Topo × DieId × W32 :=
  let x := topology act tmo (step.getD 0)
  let p := topoPacket act tmo
  let s := { queued 0x8000 p none with fab := { topoFabric (step.map (fun _ => x)) rot with retrains := if rot = 8 then [{ port := 0, peer := 1, rn := 7, own := fl = 0 }] else [] } }
  (s, 5, p, x, 0, fl)

def atTopoSteps2 (w : List PeerId) : State × QueueId × Packet × Topo × DieId × W32 :=
  let x := topology 3 9 5
  let p := topoPacket 3 9
  let r : Repair := { owner := 0, rid := 1, rn := 5, action := 4, port := 0, line := 0xFF, target := 0, relay := 0, waiting := w, members := [1] }
  let s := { queued 0x8000 p none with fab := { topoFabric (some x) 9 with repairs := [r] } }
  (s, 5, p, x, 0, 1)

/-- What `Obligations.TopoSteps` assumes, clause by clause, can be met. -/
theorem witness_TopoSteps :
    (∃ (s : State) (q : QueueId) (pkt : Packet) (_ : Topo) (_ : DieId) (_ : W32),
      s.fab.topo = none ∧ Claims.takes s q pkt 4 = true ∧ topoAction pkt = 1) ∧
    (∃ (s : State) (q : QueueId) (pkt : Packet) (_ : Topo) (_ : DieId) (_ : W32),
      s.fab.topo = none ∧ Claims.takes s q pkt 4 = true ∧ topoAction pkt = 2) ∧
    (∃ (s : State) (q : QueueId) (pkt : Packet) (_ : Topo) (_ : DieId) (_ : W32),
      s.fab.topo = none ∧ Claims.takes s q pkt 4 = true ∧ topoAction pkt = 3) ∧
    (∃ (s : State) (_ : QueueId) (_ : Packet) (x : Topo) (_ : DieId) (_ : W32),
      Claims.inStep s x 1 = true) ∧
    (∃ (s : State) (_ : QueueId) (_ : Packet) (x : Topo) (_ : DieId) (_ : W32),
      s.boot.phase = 5 ∧ Claims.inStep s x 3 = true) ∧
    (∃ (s : State) (_ : QueueId) (_ : Packet) (x : Topo) (_ : DieId) (_ : W32),
      Claims.inStep s x 3 = true ∧ x.timeout ≠ 0) ∧
    (∃ (s : State) (_ : QueueId) (_ : Packet) (x : Topo) (_ : DieId) (_ : W32),
      Claims.inStep s x 3 = true ∧ x.timeout = 0) ∧
    (∃ (s : State) (_ : QueueId) (_ : Packet) (x : Topo) (_ : DieId) (_ : W32),
      Claims.inStep s x 4 = true ∧ x.action = 1) ∧
    (∃ (s : State) (_ : QueueId) (_ : Packet) (x : Topo) (_ : DieId) (_ : W32),
      Claims.inStep s x 4 = true ∧ x.action ≠ 1 ∧ Claims.stillTrains s x = false) ∧
    (∃ (s : State) (_ : QueueId) (_ : Packet) (x : Topo) (_ : DieId) (_ : W32),
      Claims.inStep s x 4 = true ∧ x.action ≠ 1 ∧ Claims.stillTrains s x = true) ∧
    (∃ (s : State) (_ : QueueId) (_ : Packet) (x : Topo) (_ : DieId) (_ : W32),
      Claims.inStep s x 5 = true ∧ x.action ≠ 1 ∧ s.loadRepairs = [] ∧ Claims.loadNow s x = true) ∧
    (∃ (s : State) (_ : QueueId) (_ : Packet) (x : Topo) (_ : DieId) (_ : W32),
      Claims.inStep s x 5 = true ∧ x.action = 1 ∧ s.loadRepairs = [] ∧ Claims.loadNow s x = true) ∧
    (∃ (s : State) (_ : QueueId) (_ : Packet) (x : Topo) (_ : DieId) (_ : W32),
      Claims.inStep s x 5 = true ∧ s.loadRepairs = [] ∧ Claims.loadNow s x = false ∧
      ((s.fab.rot - x.rn : W32).toNat = 0 ∨ 2 ^ 31 ≤ (s.fab.rot - x.rn : W32).toNat)) ∧
    (∃ (s : State) (_ : QueueId) (_ : Packet) (x : Topo) (_ : DieId) (_ : W32),
      Claims.inStep s x 5 = true ∧ s.loadRepairs = [] ∧ 0 < (s.fab.rot - x.rn : W32).toNat ∧
      (s.fab.rot - x.rn : W32).toNat < 2 ^ 31) ∧
    (∃ (s : State) (_ : QueueId) (_ : Packet) (x : Topo) (_ : DieId) (_ : W32),
      Claims.inStep s x 5 = true ∧ s.loadRepairs.all (fun r => r.waiting.isEmpty) = false) :=
  ⟨meets6 (atTopoSteps 1 0 none 8 0) (by decide +kernel),
   meets6 (atTopoSteps 2 0 none 8 0) (by decide +kernel),
   meets6 (atTopoSteps 3 0 none 8 0) (by decide +kernel),
   meets6 (atTopoSteps 1 0 (some 1) 8 0) (by decide +kernel),
   meets6 (atTopoSteps 1 0 (some 3) 8 0) (by decide +kernel),
   meets6 (atTopoSteps 1 9 (some 3) 8 0) (by decide +kernel),
   meets6 (atTopoSteps 1 0 (some 3) 8 0) (by decide +kernel),
   meets6 (atTopoSteps 1 0 (some 4) 8 0) (by decide +kernel),
   meets6 (atTopoSteps 2 0 (some 4) 8 1) (by decide +kernel),
   meets6 (atTopoSteps 2 0 (some 4) 8 0) (by decide +kernel),
   meets6 (atTopoSteps 2 0 (some 5) 9 0) (by decide +kernel),
   meets6 (atTopoSteps 1 0 (some 5) 9 0) (by decide +kernel),
   meets6 (atTopoSteps 1 0 (some 5) 8 0) (by decide +kernel),
   meets6 (atTopoSteps 1 0 (some 5) 10 0) (by decide +kernel),
   meets6 (atTopoSteps2 [1]) (by decide +kernel)⟩

def friezeTab : Tab W32 := [(3, frieze 1 5 false), (19, frieze 2 63 false), (20, frieze 65 2 true)]

def lanePort (st lst : BitVec 4) (rt : Option W32) : Port :=
  { state := st, frieze := friezeTab, lines := [(1, { state := lst, retune := rt }), (2, { state := 0 })] }

def lanes (st lst : BitVec 4) (rt : Option W32) (rot : W32) (slot : BitVec 6) (lock : Bool) (unl : Option Nat) : Fabric :=
  { ports := [(0, lanePort st lst rt), (1, { state := 2, frieze := friezeTab })]
    links := [(1, { mode := 1 }), (2, { mode := 2, relay := 1 }), (3, { mode := 1, hold := some 0 })]
    peers := 15, ofus := [(0, { rot := rot, slot := slot, lock := lock, unlocked := unl })]
    pairs := [(1, { sent := 5, msgs := [(4, { rn := 1, action := 0, port := 0, line := 1, owner := 0, rpeer := 0, rid := 2 })] }), (2, {})]
    retrains := [{ port := 0, peer := 2, rn := 4, defers := 5 }] }

def outgoing (dst : PeerId) : Frame := { (default : Frame) with dst := dst, kind := 1, payload := [1, 2] }

def linked (f : Fabric) (ph : BitVec 4 := 5) : State :=
  { base with fab := f, boot := { phase := ph }, mem := [], cores := [], dies := [], tasks := [] }

def atSlotsAndLock (ph : BitVec 4) (slot : BitVec 6) (lock : Bool) (unl : Option Nat) (rot : W32) (t : PeerId) (o : Bool) : State × W32 × BitVec 6 × PeerId × DieId × Nat × Ofu :=
  let f : Fabric := { lanes 2 0 none rot slot lock unl with
    out := if o then [{ frame := outgoing 1, part := 1, seq := some 3, sentAt := some 2, via := some (0, 1) }, { frame := outgoing 2, part := 1 }] else []
    topo := if rot = 7 then some default else none, peers := if rot = 7 then 0 else 7 }
  (linked f ph, rot, slot, t, 0, 0, Fabric.ofu f 0)

/-- What `Obligations.SlotsLinesAndPorts` assumes, clause by clause, can be met (its part on SlotsAndLock). -/
theorem witness_SlotsAndLock :
    (∃ (s : State) (_ : W32) (_ : BitVec 6) (_ : PeerId) (_ : DieId) (_ : Nat) (_ : Ofu),
      s.ready = false) ∧
    (∃ (s : State) (_ : W32) (_ : BitVec 6) (_ : PeerId) (_ : DieId) (_ : Nat) (_ : Ofu),
      s.ready = true ∧ Claims.begins s = []) ∧
    (∃ (s : State) (_ : W32) (_ : BitVec 6) (_ : PeerId) (_ : DieId) (_ : Nat) (_ : Ofu),
      s.ready = true ∧ Claims.begins s ≠ []) ∧
    (∃ (s : State) (_ : W32) (_ : BitVec 6) (_ : PeerId) (_ : DieId) (_ : Nat) (_ : Ofu),
      s.ready = true ∧ Claims.begins s = [] ∧ (Claims.pulsed s).fab.lost = true) ∧
    (∃ (s : State) (_ : W32) (_ : BitVec 6) (t : PeerId) (_ : DieId) (_ : Nat) (_ : Ofu),
      (Claims.ticked s).fab.lost = true ∧ s.fab.lost = false ∧ t ∈ s.peerList.map (BitVec.ofNat 6)) ∧
    (∃ (s : State) (_ : W32) (_ : BitVec 6) (_ : PeerId) (_ : DieId) (n : Nat) (o : Ofu),
      (n, o) ∈ s.fab.ofus ∧ 8 < o.unlocked.getD 0) ∧
    (∃ (s : State) (_ : W32) (_ : BitVec 6) (_ : PeerId) (_ : DieId) (_ : Nat) (_ : Ofu),
      s.ready = true) :=
  ⟨meets7 (atSlotsAndLock 1 0 true none 4 1 false) (by decide +kernel),
   meets7 (atSlotsAndLock 5 0 true none 4 1 false) (by decide +kernel),
   meets7 (atSlotsAndLock 5 63 true none 4 1 false) (by decide +kernel),
   meets7 (atSlotsAndLock 5 0 false (some 8) 4 1 false) (by decide +kernel),
   meets7 (atSlotsAndLock 5 0 false (some 8) 4 1 false) (by decide +kernel),
   meets7 (atSlotsAndLock 5 0 true (some 9) 4 1 false) (by decide +kernel),
   meets7 (atSlotsAndLock 5 0 true none 4 1 false) (by decide +kernel)⟩

def atLinesAndPorts (st : BitVec 4) (lst : BitVec 4) (rt : Option W32) (rot : W32) (mhz : BitVec 16) (line : Byte) (hi : Bool) : State × PortId × Byte × BitVec 16 × W32 :=
  ({ linked (lanes st lst rt rot 3 true none) with boot := { phase := if hi then 3 else 5 } }, 0, line, mhz, 4)

/-- What `Obligations.SlotsLinesAndPorts` assumes, clause by clause, can be met (its part on LinesAndPorts). -/
theorem witness_LinesAndPorts :
    (∃ (s : State) (_ : PortId) (_ : Byte) (_ : BitVec 16) (_ : W32),
      s.ready = false) ∧
    (∃ (s : State) (_ : PortId) (_ : Byte) (mhz : BitVec 16) (_ : W32),
      s.ready = true ∧ mhz.toInt.natAbs ≤ 8000) ∧
    (∃ (s : State) (port : PortId) (line : Byte) (mhz : BitVec 16) (_ : W32),
      s.ready = true ∧ 8000 < mhz.toInt.natAbs ∧ line.toNat < 72 ∧ Claims.lit (Claims.lineAt s port line) = true) ∧
    (∃ (s : State) (port : PortId) (line : Byte) (_ : BitVec 16) (_ : W32),
      s.ready = true ∧ (s.fab.port port.toNat).lines.all (fun l => l.2.retune.isNone) = true ∧
      Claims.lit (Claims.lineAt s port line) = true ∧ line.toNat < 72) ∧
    (∃ (s : State) (port : PortId) (line : Byte) (mhz : BitVec 16) (rn : W32),
      s.ready = true ∧ (Claims.lineAt s port line).retune = some rn ∧ (Claims.lineAt s port line).state = 1 ∧
      3 ≤ (s.rotOf port.toNat - rn : W32).toNat ∧ mhz.toInt.natAbs ≤ 8000) ∧
    (∃ (s : State) (port : PortId) (_ : Byte) (_ : BitVec 16) (_ : W32),
      s.ready = true ∧ (s.fab.port port.toNat).state = 0) ∧
    (∃ (s : State) (port : PortId) (_ : Byte) (_ : BitVec 16) (_ : W32),
      s.ready = true ∧ (s.fab.port port.toNat).state ≠ 0) :=
  ⟨meets5 (atLinesAndPorts 0 0 none 5 8001 1 true) (by decide +kernel),
   meets5 (atLinesAndPorts 0 0 none 5 8000 1 false) (by decide +kernel),
   meets5 (atLinesAndPorts 0 0 none 5 8001 1 false) (by decide +kernel),
   meets5 (atLinesAndPorts 0 0 none 5 8001 1 false) (by decide +kernel),
   meets5 (atLinesAndPorts 0 1 (some 4) 7 8000 1 false) (by decide +kernel),
   meets5 (atLinesAndPorts 0 0 none 5 8001 1 false) (by decide +kernel),
   meets5 (atLinesAndPorts 2 0 none 5 8001 1 false) (by decide +kernel)⟩

def atRepairsAndRemovals (act : BitVec 4) (own : PeerId) (tg : PeerId) (rot : W32) (slot : BitVec 6) (wt : List PeerId) (rn : W32) (t : PeerId) : State × Repair × Announced × PortId × PeerId × GroupId :=
  let r : Repair := { owner := own, rid := 3, rn := rn, action := act, port := 0, line := 1, target := tg, relay := 2, waiting := wt
                      members := [1, 2] }
  let b := lanes 2 1 none rot slot true none
  let a : Announced := { port := 0, peer := if slot = 1 then 1 else 2, rn := 4, defers := 5, accepted := true, begun := tg = 3 }
  let b : Fabric := { b with
    retrains := [a], ports := b.ports.map (fun e => (e.1, { e.2 with retraining := if tg = 3 then [a.peer] else [] }))
    links := (if tg = 1 then (2, { mode := 1 }) :: b.links else b.links).map (fun e => if e.1 = 3 then (3, { e.2 with silent := rot = 6 }) else e) }
  let b := if slot = 1 ∧ act = 1 then { b with portdowns := [a] } else { b with repairs := [r] }
  (linked (if act = 4 then { b with repairs := [] } else b), r, a, 0, t, 3)

def atRepairsAndRemovals2 (st : BitVec 4) (reps : Bool) : State × Repair × Announced × PortId × PeerId × GroupId :=
  let r : Repair := { owner := 0, rid := 3, rn := 5, action := 3, port := 0, line := 1, target := 3, relay := 2 }
  let b := { lanes 2 1 none 9 3 true none with
    ports := if st = 0 then [] else [(0, lanePort st 1 none)], repairs := if reps then [] else [r]
    out := [{ frame := outgoing 3, part := 1 }] }
  let s := { linked b with arms := [(3, { v := true, peers := 8 })] }
  (s, default, default, 0, 3, 3)

/-- What `Obligations.RepairsAndRemovals` assumes, clause by clause, can be met. -/
theorem witness_RepairsAndRemovals :
    (∃ (s : State) (_ : Repair) (_ : Announced) (_ : PortId) (_ : PeerId) (_ : GroupId),
      s.ready = true) ∧
    (∃ (s : State) (r : Repair) (_ : Announced) (_ : PortId) (_ : PeerId) (_ : GroupId),
      s.ready = true ∧ s.fab.repairs = [r] ∧ Claims.dueNow s r = true) ∧
    (∃ (s : State) (r : Repair) (_ : Announced) (_ : PortId) (_ : PeerId) (_ : GroupId),
      s.ready = true ∧ s.fab.repairs = [r] ∧ Claims.late s r = true ∧ Claims.hopeless s r = true) ∧
    (∃ (s : State) (r : Repair) (_ : Announced) (_ : PortId) (_ : PeerId) (_ : GroupId),
      s.ready = true ∧ s.fab.repairs = [r] ∧ Claims.late s r = true ∧ Claims.hopeless s r = false) ∧
    (∃ (s : State) (_ : Repair) (a : Announced) (_ : PortId) (_ : PeerId) (_ : GroupId),
      s.ready = true ∧ s.fab.portdowns = [a] ∧ Claims.hasCome s a.port a.rn = true) ∧
    (∃ (s : State) (_ : Repair) (a : Announced) (port : PortId) (t : PeerId) (_ : GroupId),
      s.ready = true ∧ s.fab.retrains = [a] ∧ Claims.retrains s a = true ∧ a.port = port ∧ a.peer = t) ∧
    (∃ (s : State) (_ : Repair) (a : Announced) (port : PortId) (t : PeerId) (_ : GroupId),
      s.ready = true ∧ s.fab.retrains = [a] ∧ a.begun = true ∧ a.port = port ∧ a.peer = t ∧
      2 ≤ (s.rotOf port.toNat - a.rn : W32).toNat ∧ ((s.fab.port port.toNat).line (s.offsetTo t.toNat)).state ≠ 4) ∧
    (∃ (s : State) (_ : Repair) (_ : Announced) (port : PortId) (t : PeerId) (_ : GroupId),
      s.ready = true ∧ s.fab.retrains.all (fun x => !Claims.retrains s x && !(x.port == port && x.peer == t)) = true) ∧
    (∃ (s : State) (_ : Repair) (_ : Announced) (_ : PortId) (t : PeerId) (_ : GroupId),
      s.ready = true ∧ s.fab.present t.toNat = true ∧ t ≠ s.peer ∧ (s.fab.link t.toNat).mode ≠ 0 ∧
      (s.fab.link t.toNat).hold = none ∧ 8 ≤ (s.fab.rot - (s.fab.pair t.toNat).heard : W32).toNat) ∧
    (∃ (s : State) (_ : Repair) (_ : Announced) (_ : PortId) (t : PeerId) (_ : GroupId),
      s.ready = true ∧ (s.fab.rot - (s.fab.pair t.toNat).heard : W32).toNat < 8) ∧
    (∃ (s : State) (_ : Repair) (_ : Announced) (_ : PortId) (t : PeerId) (_ : GroupId),
      s.ready = true ∧ t ≠ s.peer ∧ (s.fab.link t.toNat).hold = some 0 ∧ s.hasDirect t.toNat = false ∧ s.ownRelay t.toNat = none) ∧
    (∃ (s : State) (_ : Repair) (_ : Announced) (_ : PortId) (t : PeerId) (g : GroupId),
      s.ready = true ∧ (s.arm g).v = true ∧ (s.arm g).broken = false ∧ (s.arm g).peers.getLsbD t.toNat = true) ∧
    (∃ (s : State) (_ : Repair) (_ : Announced) (_ : PortId) (t : PeerId) (_ : GroupId),
      s.ready = true ∧ s.hasDirect t.toNat = false ∧ (s.fab.link t.toNat).hold.isSome = true ∧
      ((s.fab.link t.toNat).hold ≠ some 0 ∨ (s.ownRelay t.toNat).isSome = true)) :=
  ⟨meets6 (atRepairsAndRemovals 1 0 0 3 0 [] 4 0) (by decide +kernel),
   meets6 (atRepairsAndRemovals 1 0 0 4 0 [] 4 0) (by decide +kernel),
   meets6 (atRepairsAndRemovals 3 0 3 6 0 ([1, 2]) 4 0) (by decide +kernel),
   meets6 (atRepairsAndRemovals 1 0 0 3 0 ([1, 2]) 4 0) (by decide +kernel),
   meets6 (atRepairsAndRemovals 1 0 0 4 1 [] 4 0) (by decide +kernel),
   meets6 (atRepairsAndRemovals 1 0 0 4 0 [] 4 2) (by decide +kernel),
   meets6 (atRepairsAndRemovals 1 0 3 3 0 [] 4 2) (by decide +kernel),
   meets6 (atRepairsAndRemovals 1 0 0 3 0 [] 4 0) (by decide +kernel),
   meets6 (atRepairsAndRemovals 1 0 0 20 0 [] 4 1) (by decide +kernel),
   meets6 (atRepairsAndRemovals 1 0 0 3 0 [] 4 0) (by decide +kernel),
   meets6 (atRepairsAndRemovals2 0 true) (by decide +kernel),
   meets6 (atRepairsAndRemovals2 0 true) (by decide +kernel),
   meets6 (atRepairsAndRemovals2 0 false) (by decide +kernel)⟩

def repairMsg (p : PortId) (rid : BitVec 16) : RepairMsg := { rn := 9, action := 1, port := p, line := 3, owner := 2, rpeer := 4, rid := rid }

def atRepairMessages (own : PeerId) (rid : BitVec 16) (df : Nat) (p : PortId) (k : Nat) (t : PeerId) (rot : W32) (act : BitVec 4) (up : Bool) : State × PeerId × RepairMsg :=
  let r : Repair := { owner := own, rid := 7, rn := 4, action := 1, port := 0, line := 1, target := 1, relay := 2, waiting := [1, 2]
                      members := [1, 2] }
  let ms : List (Byte × RepairMsg) := match k with
    | 0 => []
    | 1 => [(8, repairMsg 0 7), (1, repairMsg 1 8), (2, repairMsg 1 7), (6, repairMsg 0 7), (3, repairMsg 0 8)]
    | _ => [(2, repairMsg 1 7), (6, repairMsg 0 7), (7, repairMsg 0 8)]
  let b : Fabric := { ofus := [(0, { rot := rot, lock := true })], repairs := [r, { r with owner := 4 }], pairs := [(1, { msgs := ms, sent := 4 }), (2, { msgs := ms })], stale := 0xFF
                      portdowns := if df = 0 then [] else [{ port := 0, peer := 2, rn := 4, defers := df }]
                      topo := if df = 3 then none else some { (default : Topo) with step := 5 }
                      retrains := [{ port := 0, peer := 1, rn := if own = 2 then 9 else 4, defers := df, accepted := p = 1, deferred := rid = 8, begun := df = 5 },
                        { port := 0, peer := 1, rn := if own = 2 then 9 else 4, defers := df, accepted := p = 1, own := true }] }
  let s : State := { State.reset with boot := { phase := if up then 5 else 3 }, fab := b, dies := [(0, { rwt := [(0, 1, 4, 4), (0, 2, 4, 4), (1, 1, 4, 5)] })] }
  (s, t, { repairMsg p rid with action := act })

/-- What `Obligations.RepairMessages` assumes, clause by clause, can be met. -/
theorem witness_RepairMessages :
    (∃ (s : State) (_ : PeerId) (_ : RepairMsg),
      s.ready = false) ∧
    (∃ (s : State) (_ : PeerId) (m : RepairMsg),
      s.ready = true ∧ Claims.idle s m = true) ∧
    (∃ (s : State) (_ : PeerId) (m : RepairMsg),
      s.ready = true ∧ Claims.idle s m = false) ∧
    (∃ (s : State) (_ : PeerId) (_ : RepairMsg),
      s.ready = true) ∧
    (∃ (s : State) (t : PeerId) (m : RepairMsg),
      s.ready = true ∧ s.fab.retrains.any (fun a => Claims.putsOff a t m) = true) ∧
    (∃ (s : State) (t : PeerId) (m : RepairMsg),
      s.ready = true ∧ s.fab.retrains.any (fun a => Claims.putsOff a t m) = false) ∧
    (∃ (s : State) (t : PeerId) (m : RepairMsg),
      s.ready = true ∧ s.fab.portdowns.any (fun a => Claims.sameRetrain a t m) = false) ∧
    (∃ (s : State) (t : PeerId) (m : RepairMsg),
      s.ready = true ∧ s.fab.portdowns.any (fun a => Claims.sameRetrain a t m) = true) ∧
    (∃ (s : State) (t : PeerId) (m : RepairMsg),
      s.ready = true ∧ Claims.repeated s t m = true) ∧
    (∃ (s : State) (t : PeerId) (m : RepairMsg),
      s.ready = true ∧ Claims.repeated s t m = false ∧ (Claims.busyPort s m = false ∨ 4 ≤ Claims.defersOf s t m)) ∧
    (∃ (s : State) (t : PeerId) (m : RepairMsg),
      s.ready = true ∧ Claims.repeated s t m = false ∧ Claims.busyPort s m = true ∧ Claims.defersOf s t m < 4) ∧
    (∃ (s : State) (t : PeerId) (m : RepairMsg),
      s.ready = true ∧ Claims.answeredRejoin s t m = true) ∧
    (∃ (s : State) (t : PeerId) (m : RepairMsg),
      s.ready = true ∧ Claims.answeredRejoin s t m = false ∧ s.fab.out = [] ∧ (m.action ≠ 4 ∨ (s.fab.pair t.toNat).fresh = true)) ∧
    (∃ (s : State) (t : PeerId) (m : RepairMsg),
      s.ready = true ∧ Claims.answeredRejoin s t m = false ∧ s.fab.out = [] ∧ m.action = 4 ∧ (s.fab.pair t.toNat).fresh = false) ∧
    (∃ (s : State) (t : PeerId) (m : RepairMsg),
      s.ready = true ∧ Claims.isRejoining s t m = false) ∧
    (∃ (s : State) (t : PeerId) (m : RepairMsg),
      s.ready = true ∧ Claims.isRejoining s t m = true) :=
  ⟨meets3 (atRepairMessages 0 7 0 0 0 1 0 1 false) (by decide +kernel),
   meets3 (atRepairMessages 0 7 0 0 0 1 20 1 true) (by decide +kernel),
   meets3 (atRepairMessages 0 7 0 0 0 1 0 1 true) (by decide +kernel),
   meets3 (atRepairMessages 0 7 0 0 0 1 0 1 true) (by decide +kernel),
   meets3 (atRepairMessages 2 7 0 0 0 1 0 1 true) (by decide +kernel),
   meets3 (atRepairMessages 0 7 0 0 0 1 0 1 true) (by decide +kernel),
   meets3 (atRepairMessages 0 7 0 0 0 1 0 1 true) (by decide +kernel),
   meets3 (atRepairMessages 0 7 3 0 0 2 0 1 true) (by decide +kernel),
   meets3 (atRepairMessages 2 7 5 0 0 1 0 1 true) (by decide +kernel),
   meets3 (atRepairMessages 0 7 0 1 0 1 0 1 true) (by decide +kernel),
   meets3 (atRepairMessages 0 7 0 0 0 1 0 1 true) (by decide +kernel),
   meets3 (atRepairMessages 0 7 0 0 1 1 0 1 true) (by decide +kernel),
   meets3 (atRepairMessages 0 7 0 0 0 1 0 1 true) (by decide +kernel),
   meets3 (atRepairMessages 0 7 0 0 0 1 0 4 true) (by decide +kernel),
   meets3 (atRepairMessages 0 7 0 0 0 1 0 1 true) (by decide +kernel),
   meets3 (atRepairMessages 0 8 0 0 2 1 0 1 true) (by decide +kernel)⟩

def carried (first total : Nat) (flag : Option (BitVec 5)) : Carried :=
  { source := 0, task := 0, core := 0, glob := false, va := 0x1000, size := 4, first := first, total := total, flag := flag
    amount := 3, handler := none, mask := 1, groups := 0, acquired := [], trap := false }

def incoming (kind : Byte) (seq : W32) (c : Carried) (rep : BitVec 128) (ok : Bool) (slot : BitVec 6) : Frame :=
  { repair := rep, barr := if kind = 0 then [0] else [0x0301], freed := 3, ack := 4, seq := seq, addr := 0x1000, kind := kind
    relayed := false, retx := false, rot := 6, slot := slot, lane := 2, port := 0, atPort := 0, atLane := 2, hcrcOk := true, ddom := 0, dst := 0, src := 1, sdom := 0
    xid := 4, payload := [1, 2, 3, 4, 5, 6, 7, 8], cmd := c, fecOk := ok }

def receiving (ph : BitVec 4) (blk : Bool) : State :=
  { base with
    fab := { ports := [(0, { state := 2, frieze := [(50, frieze 1 63 false)] })], peers := 15, ofus := [(0, { rot := 6, slot := 3, lock := true })]
             pairs := [(1, { expect := 9, blocked := blk, acked := 2, failed := [4] })] }
    boot := { phase := ph }, cores := base.cores.map (fun e => (e.1, { e.2 with a := { e.2.a with task := 0 } }))
    tasks := base.tasks.map (fun t => { t with id := 0, cores := [(0, .a), (1, .a)] }) }

/-- A GET of core 0 whose answer goes to a line that the matrix engine of core 1 has pinned. -/
def answering (s : State) : State :=
  { s.modRes 0 .a (fun r => { r with xfers := [(2, some { (default : Xfer) with
      serial := 3, ins := .get default default, st := .sent, target := 0x1000
      sb := { base := 0x10000, space := 3, format := 0, count0 := 4, stride0 := 4 } })] }) with
    homes := [(0x2000, { pins := [(1, .a)] })] }

/-- The form of a frame's KIND, and that form for each KIND. -/
noncomputable def frameForms (f : Frame) : List (Byte × Instr) :=
  [(0, .frameHeader f), (1, .frameGlobalWrite f), (2, .frameScratchpadWrite f), (3, .frameReadRequest f),
   (4, .frameReadResponse f), (5, .frameSend f), (6, .frameSendm f), (7, .frameXflag f), (8, .frameTranslationRequest f),
   (9, .frameTranslationResponse f)]
noncomputable def frameInstr (f : Frame) : Instr := ((frameForms f).getD f.kind.toNat default).2
/-- A frame of rows for no expert of this package, and a state in which a row of an earlier frame of its source still waits. -/
noncomputable def rowFrame : Frame := incoming 6 9 { carried 0 8 none with mask := 0, va := 0x3000000000000 } 0 true 3
noncomputable def rowState : State :=
  { (receiving 5 false).modPart 1 (fun p => { p with windows := [(3, (2#256 <<< 128) ||| (100#256 <<< 64))] }) with
    tasks := (receiving 5 false).tasks.map (fun t => { t with id := Config.jobTask 1 0 })
    lands := [(landKey 1 3 1, { waiting := [{ (default : LandRow) with pair := some 1 }] })] }

theorem rows_wait : ∃ t, Claims.effect rowState rowFrame = some (t, false) := by
  have hj : ∀ s : State, s.tasks = rowState.tasks → s.jobOf rowFrame = some (rowState.tasks.headD default) := by
    intro s hs
    simp [State.jobOf, State.task?, hs, rowState, rowFrame, incoming, carried, receiving, base]
  have ha : ∀ s : State, s.tasks = rowState.tasks → s.parts = rowState.parts → s.lands = rowState.lands →
      ∃ t, s.applyKind 1 rowFrame = some (t, false) := by
    intro s hs hp hl
    have hw : (decide (rowFrame.cmd.first ≠ 0) || !expertTakes ((rowState.part (rowState.tasks.headD default).part).windows.get 0
        (winNo rowFrame.cmd.va)) rowFrame.cmd.total) = false := by decide +kernel
    have hm : maskExperts rowFrame.cmd.mask = [] := by decide +kernel
    have hr : rowState.lands.any (fun e => e.2.waiting.any (fun w => w.pair == some 1)) = true := by decide +kernel
    refine ⟨s, ?_⟩
    show some (s.applySendm 1 rowFrame) = _
    simp only [State.part] at hw
    simp [State.applySendm, hj s hs, State.landSendm, State.window, State.part, hp, hm, hl, hr]
    simpa using hw
  exact ha _ rfl rfl rfl

noncomputable def atFramesArrive (kind : Byte) (x : Nat) (fst : Nat) (seq : W32) (blk : Bool) : State × Frame × State × Instr :=
  let c := carried fst (if x = 6 then 4 else 8 + fst) (if x = 1 then some 3 else none)
  let c := if kind = 1 then { c with glob := true, va := 0x10000 } else c
  let f := incoming kind seq c (if x = 2 then BitVec.ofNat 128 (2 ^ 120 * 3) else 0) (x != 3) (if x = 4 then 5 else 3)
  let s := receiving (if x = 5 then 1 else 5) blk
  let f := { f with dst := if x = 8 then 5 else 0, port := if x = 9 then 1 else 0, atPort := if x = 9 && seq == 8 then 5 else 0, addr := if x = 7 then 0 else f.addr }
  let s := if x = 6 then { s with tasks := [] } else if x = 7 then answering s else if x = 10 then { s with fab := { s.fab with stale := 2 } } else s
  let t := match Claims.effect s f with | some (t, _) => t | none => s
  (s, f, t, frameInstr f)

/-- What `Obligations.FramesArriveAndAct` assumes, clause by clause, can be met (its part on FramesArrive). -/
theorem witness_FramesArrive :
    (∃ (s : State) (f : Frame) (t : State) (i : Instr),
      (f.kind, i) ∈ frameForms f ∧ Claims.comesIn s f = true ∧ f.kind ≠ 0 ∧ Claims.nextInLine s f = true ∧
      Claims.effect s f = some (t, true) ∧ (t.fab.pair (s.pairKey f.sdom f.src)).early = []) ∧
    (∃ (s : State) (f : Frame) (t : State) (i : Instr),
      (f.kind, i) ∈ frameForms f ∧ Claims.comesIn s f = true ∧ f.kind ≠ 0 ∧ Claims.nextInLine s f = true ∧
      Claims.effect s f = some (t, false)) ∧
    (∃ (s : State) (f : Frame) (_ : State) (i : Instr),
      (f.kind, i) ∈ frameForms f ∧ Claims.comesIn s f = true ∧ f.kind ≠ 0 ∧ Claims.nextInLine s f = true ∧
      Claims.effect s f = none) ∧
    (∃ (s : State) (f : Frame) (_ : State) (i : Instr),
      (f.kind, i) ∈ frameForms f ∧ Claims.comesIn s f = true ∧ f.kind ≠ 0 ∧ (Claims.counts s f).expect = f.seq ∧
      (Claims.counts s f).blocked = false ∧ (Claims.headed s f).refuses f = true) ∧
    (∃ (s : State) (f : Frame) (_ : State) (i : Instr),
      (f.kind, i) ∈ frameForms f ∧ Claims.comesIn s f = true ∧ f.kind = 0 ∧ f.barr.any (fun b => b.getLsbD 0) = false) ∧
    (∃ (s : State) (f : Frame) (_ : State) (i : Instr),
      (f.kind, i) ∈ frameForms f ∧ Claims.comesIn s f = true ∧ f.kind ≠ 0 ∧ (Claims.counts s f).blocked = false ∧
      atOrPast f.seq (Claims.counts s f).expect = false) ∧
    (∃ (s : State) (f : Frame) (_ : State) (i : Instr),
      (f.kind, i) ∈ frameForms f ∧ Claims.comesIn s f = true ∧ f.kind ≠ 0 ∧ (Claims.counts s f).blocked = false ∧
      (Claims.counts s f).early = [] ∧ atOrPast f.seq (Claims.counts s f).expect = true ∧ f.seq ≠ (Claims.counts s f).expect ∧
      (Claims.headed s f).heldEarly f < (Claims.headed s f).fab.depth.toNat) ∧
    (∃ (s : State) (f : Frame) (_ : State) (i : Instr),
      (f.kind, i) ∈ frameForms f ∧ s.ready = true ∧ Claims.taking s f = true ∧ f.fecOk = true ∧ f.hcrcOk = true ∧
      s.rxAgrees f = true ∧ (f.ddom ≠ s.domain ∨ f.dst ≠ s.peer) ∧
      (s.fab.relay.filter (fun g => g.sdom == f.sdom && g.src == f.src)).length < 64 ∧ f.relayed = false) ∧
    (∃ (s : State) (f : Frame) (_ : State) (i : Instr),
      (f.kind, i) ∈ frameForms f ∧ s.ready = true ∧ Claims.taking s f = true ∧ (f.fecOk = false ∨ f.hcrcOk = false)) ∧
    (∃ (s : State) (f : Frame) (_ : State) (i : Instr),
      (f.kind, i) ∈ frameForms f ∧ s.ready = true ∧ Claims.taking s f = true ∧ f.fecOk = true ∧ f.hcrcOk = true ∧
      s.rxAgrees f = false) ∧
    (∃ (s : State) (f : Frame) (_ : State) (i : Instr),
      (f.kind, i) ∈ frameForms f ∧ s.ready = true ∧ Claims.taking s f = false) ∧
    (∃ (s : State) (f : Frame) (_ : State) (i : Instr),
      (f.kind, i) ∈ frameForms f ∧ s.ready = false) :=
  ⟨meets4 (atFramesArrive 9 0 0 9 false) (by decide +kernel),
   let ⟨t, h⟩ := rows_wait
   ⟨rowState, rowFrame, t, frameInstr rowFrame, by decide +kernel, by decide +kernel, by decide +kernel, by decide +kernel, h⟩,
   meets4 (atFramesArrive 4 7 0 9 false) (by decide +kernel),
   meets4 (atFramesArrive 1 10 0 9 false) (by decide +kernel),
   meets4 (atFramesArrive 0 0 0 9 false) (by decide +kernel),
   meets4 (atFramesArrive 1 0 0 8 false) (by decide +kernel),
   meets4 (atFramesArrive 1 0 0 10 false) (by decide +kernel),
   meets4 (atFramesArrive 0 8 0 9 false) (by decide +kernel),
   meets4 (atFramesArrive 0 3 0 9 false) (by decide +kernel),
   meets4 (atFramesArrive 0 4 0 9 false) (by decide +kernel),
   meets4 (atFramesArrive 0 9 0 8 false) (by decide +kernel),
   meets4 (atFramesArrive 0 5 0 9 false) (by decide +kernel)⟩

def atUnknownKinds (kind : Byte) (x : Nat) : State × Frame :=
  let f := { incoming kind 9 (carried 0 8 none) 0 true 3 with kind := kind + 5 }
  (receiving (if x = 5 then 1 else 5) false, f)

/-- What `Obligations.FramesArriveAndAct` assumes, clause by clause, can be met (its part on UnknownKinds). -/
theorem witness_UnknownKinds :
    (∃ (s : State) (f : Frame),
      10 ≤ f.kind.toNat ∧ s.ready = true ∧ Claims.taking s f = true ∧ f.fecOk = true ∧ f.hcrcOk = true) ∧
    (∃ (s : State) (f : Frame),
      10 ≤ f.kind.toNat ∧ s.ready = false) :=
  ⟨meets2 (atUnknownKinds 5 0) (by decide +kernel),
   meets2 (atUnknownKinds 5 5) (by decide +kernel)⟩

def atFrameEffects (fe : Bool) (pin : Bool) (pg : Bool) (kind : Byte) (ad : VAddr) : State × Nat × Frame × Task × BitVec 5 × (Nat × Nat) × List Piece × VAddr × CoreId × Slot × Nat × Nat × Xfer × Nat :=
  let id := Config.jobTask 1 0
  let c : Carried := { carried 0 8 (if kind = 7 then some 3 else none) with size := 8 }
  let s := { base with tasks := base.tasks.map (fun t => { t with id := id }), cores := [(0, { a := {}, kept := [(id, 0x1000, 0x2000)] })] }
  let s := if pg then { (s.writeNat 0 8 0x1001).writeNat 0x1000 8 0xF3 with tasks := s.tasks.map (fun t => { t with root := 0 }), homes := if pin then [(0x1000 / 128, { pins := [(1, .a)] })] else [] } else s
  let s := if fe then { s with dies := [(0, { fenced := true })] } else s
  let t : Task := s.tasks.headD default
  (s, 1, { incoming kind 9 c 0 true 3 with addr := ad }, t, 3, (0x1000, 0x2000), [], 0, 0, .a, 0, 0, default, 0)

def atFrameEffects2 (kind : Byte) (x : Nat) (fst : Nat) : State × Nat × Frame × Task × BitVec 5 × (Nat × Nat) × List Piece × VAddr × CoreId × Slot × Nat × Nat × Xfer × Nat :=
  let c := carried fst (if x = 6 then 4 else 8 + fst) (if x = 1 then some 3 else none)
  let c := if kind = 3 then { c with size := 8, total := 8 } else c
  let c := if kind = 1 || x = 5 then { c with glob := true, va := 0x10000 } else c
  let f := incoming kind 9 c 0 (x != 3) (if x = 4 then 5 else 3)
  let f := { f with payload := if x = 2 then [0, 2, 3, 4, 5, 6, 7, 8] else f.payload }
  let s := receiving (if x = 5 then 1 else 5) false
  let s := if x = 6 then { s with tasks := [] } else s
  let t := s.tasks.headD default
  (s, 1, f, t, 3, (s.allocOf c.core t.id).getD (0, 0), [], 0, 0, .a, 0, 0, default, 0)

/-- A space whose first gigabyte is mapped where it is, with a window, an expert of another, and a GET of core 0 that waits for its answer. -/
def landingState : State :=
  let s := (({ base with mem := [] }.writeNat 0 8 0x1001).writeNat 0x1000 8 0xF3).modRes 0 .a (fun r => { r with
    xfers := [(2, some { (default : Xfer) with
      serial := 3, ins := .get default default, st := .sent, target := 0x1000
      sb := { base := 0x10000, space := 3, format := 0, count0 := 4, stride0 := 4 } })] })
  { s with
    tasks := s.tasks.map (fun t => { t with id := Config.jobTask 1 0, root := 0 })
    parts := [(1, { cfg := 0x8000000000000001, pool := [9], windows := [(0, 0x100000000000010000000000000006000), (1, 0x200000000000001000000000000000000)]
                    experts := [(35, 0x300000000000000050000000000040000)] })]
    lands := [(landKey 1 1 3, { rows := some 2, block := 3 })] }

def landed (kind : Byte) (h : Option VAddr) : Frame :=
  let c : Carried := { carried 0 8 none with va := if kind = 6 then 0x0001000000000077 else if kind = 5 then 0x10 else 0x5000, handler := h, mask := 8 }
  { incoming kind 9 (if kind = 6 then { c with total := 5 } else c) 0 true 3 with addr := 0x1000 }

/-- The places that are reached. -/
def reachedAt (l : List Reached) : List Piece := l.filterMap (fun r => match r with | .ok p => some p | _ => none)

/-- The one task of a package is a frame's, and it is on its cores. -/
theorem ofTask_only {s : State} {f : Frame} {t : Task} (h : s.tasks = [t])
    (hi : t.id = Config.jobTask (f.sdom ++ f.src) f.cmd.task) : Claims.ofTask s f t = true := by
  simp [Claims.ofTask, State.jobOf, State.task?, h, hi]
theorem seat_only {s : State} {t : Task} {c : CoreId} {o : Option (Option Slot)} (h : s.tasks = [t])
    (hs : (match t.cores.find? (fun e => e.1 == c) with
      | none => none
      | some e => if t.exited.contains c then some none else some (some e.2)) = o) : s.seat t.id c = o := by
  have k : s.task? t.id = some t := by simp [State.task?, h]
  rw [State.seat, k]
  exact hs

def atFrameEffects3 (kind : Byte) (h : Option VAddr) : State × Nat × Frame × Task × BitVec 5 × (Nat × Nat) × List Piece × VAddr × CoreId × Slot × Nat × Nat × Xfer × Nat :=
  let s := landingState
  let f := landed kind h
  let t := s.tasks.headD default
  let x := (((s.res 0 .a).xfers.get none 2).getD default)
  let m := f.cmd
  let ps := reachedAt (match kind.toNat with
    | 4 => (List.range 2).map (fun i => (s.elemAt 0 .a x.sb 0 .store i).2.2)
    | 6 => s.spaceBytes 1 (0x40000 + 65536 + 256 * 2) 256
    | _ => (frameOffsets f).map (fun o => s.reachSpace 0 1 .store ((if kind = 1 then m.va else 0x6010) + BitVec.ofNat 64 o) m.size))
  (s, 1, f, t, 3, (0x1000, 0x2000), ps, 0x700, 0, .a, 2, 3, x, landKey 1 1 3)

/-- What `Obligations.FramesArriveAndAct` assumes, clause by clause, can be met (its part on FrameEffects). -/
theorem witness_FrameEffects :
    (∃ (s : State) (_ : Nat) (f : Frame) (t : Task) (_ : BitVec 5) (_ : Nat × Nat) (ps : List Piece) (_ : VAddr) (_ : CoreId) (_ : Slot) (_ _ : Nat) (_ : Xfer) (_ : Nat),
      f.kind = 1 ∧ Claims.ofTask s f t = true ∧ f.cmd.handler = none ∧ f.cmd.first = 0 ∧
      (f.cmd.flag = none ∨ (s.seat t.id f.cmd.core).isSome = true) ∧ Claims.putPlaces s f t ps = true) ∧
    (∃ (s : State) (_ : Nat) (f : Frame) (t : Task) (_ : BitVec 5) (_ : Nat × Nat) (ps : List Piece) (_ : VAddr) (_ : CoreId) (_ : Slot) (_ _ : Nat) (_ : Xfer) (_ : Nat),
      f.kind = 5 ∧ Claims.ofTask s f t = true ∧ f.cmd.first = 0 ∧
      (f.cmd.flag = none ∨ (s.seat t.id (Claims.windowCore s f t)).isSome = true) ∧ Claims.sendPlaces s f t ps = true) ∧
    (∃ (s : State) (_ : Nat) (f : Frame) (t : Task) (_ : BitVec 5) (_ : Nat × Nat) (ps : List Piece) (h : VAddr) (_ : CoreId) (r : Slot) (_ _ : Nat) (_ : Xfer) (_ : Nat),
      f.kind = 1 ∧ Claims.ofTask s f t = true ∧ f.cmd.handler = some h ∧ f.cmd.flag = none ∧ f.cmd.first = 0 ∧
      f.cmd.total ≤ f.payload.length ∧ s.seat t.id f.cmd.core = some (some r) ∧ (s.res f.cmd.core r).place = .here ∧
      (s.res f.cmd.core r).heldArrivals = [] ∧ (s.res f.cmd.core r).withheld = [] ∧ (s.res f.cmd.core r).arrivals.length < 16 ∧
      Claims.putPlaces s f t ps = true) ∧
    (∃ (s : State) (_ : Nat) (f : Frame) (_ : Task) (_ : BitVec 5) (_ : Nat × Nat) (ps : List Piece) (_ : VAddr) (c : CoreId) (r : Slot) (n _ : Nat) (x : Xfer) (_ : Nat),
      f.kind = 4 ∧ Claims.awaited s f c r n x = true ∧ Claims.answerPlaces s f c r x ps = true) ∧
    (∃ (s : State) (_ : Nat) (f : Frame) (t : Task) (_ : BitVec 5) (_ : Nat × Nat) (ps : List Piece) (_ : VAddr) (_ : CoreId) (_ : Slot) (n e : Nat) (_ : Xfer) (l : Nat),
      f.kind = 6 ∧ Claims.ofTask s f t = true ∧ f.cmd.first = 0 ∧ Claims.rowPlaces s f t e n ps = true ∧
      l = landKey t.part (winNo f.cmd.va) e) ∧
    (∃ (s : State) (_ : Nat) (f : Frame) (t : Task) (_ : BitVec 5) (a : Nat × Nat) (_ : List Piece) (_ : VAddr) (_ : CoreId) (_ : Slot) (_ _ : Nat) (_ : Xfer) (_ : Nat),
      f.kind = 2 ∧ Claims.ofTask s f t = true ∧ f.cmd.flag = none ∧ f.cmd.handler = none ∧ f.cmd.first = 0 ∧
      s.allocOf f.cmd.core t.id = some a ∧ (s.die (dieOf f.cmd.core)).fenced = true ∧ f.cmd.size ≤ f.payload.length ∧
      0 < f.cmd.size) ∧
    (∃ (s : State) (_ : Nat) (f : Frame) (t : Task) (_ : BitVec 5) (a : Nat × Nat) (_ : List Piece) (_ : VAddr) (_ : CoreId) (_ : Slot) (_ _ : Nat) (_ : Xfer) (_ : Nat),
      f.kind = 2 ∧ Claims.ofTask s f t = true ∧ f.cmd.flag = none ∧ f.cmd.handler = none ∧ f.cmd.first = 0 ∧
      s.allocOf f.cmd.core t.id = some a ∧ (s.die (dieOf f.cmd.core)).fenced = false ∧
      (Claims.spPlaces f a).all (s.lineFree 0 .fb) = true ∧ (Claims.spPlaces f a).any s.restriping = false) ∧
    (∃ (s : State) (_ : Nat) (f : Frame) (t : Task) (g : BitVec 5) (_ : Nat × Nat) (_ : List Piece) (_ : VAddr) (_ : CoreId) (_ : Slot) (_ _ : Nat) (_ : Xfer) (_ : Nat),
      f.kind = 7 ∧ Claims.ofTask s f t = true ∧ f.cmd.flag = some g) ∧
    (∃ (s : State) (_ : Nat) (f : Frame) (t : Task) (_ : BitVec 5) (a : Nat × Nat) (_ : List Piece) (_ : VAddr) (_ : CoreId) (_ : Slot) (_ _ : Nat) (_ : Xfer) (_ : Nat),
      f.kind = 3 ∧ Claims.ofTask s f t = true ∧ f.cmd.glob = false ∧ f.cmd.flag = none ∧ f.cmd.total = f.cmd.size ∧
      0 < f.cmd.size ∧ s.allocOf f.cmd.core t.id = some a ∧ f.cmd.total ≤ 1792 ∧ (s.die (dieOf f.cmd.core)).fenced = false ∧
      s.farTooEarly f.cmd (spPiece (spAddrs f.cmd.core a.1 a.2 (f.cmd.va.setWidth 48).toNat f.cmd.size)) = false) ∧
    (∃ (s : State) (_ : Nat) (f : Frame) (t : Task) (_ : BitVec 5) (_ : Nat × Nat) (_ : List Piece) (_ : VAddr) (_ : CoreId) (_ : Slot) (_ _ : Nat) (_ : Xfer) (_ : Nat),
      f.kind = 8 ∧ f.addr ≠ 5 ∧ f.addr ≠ 6 ∧ Claims.ofTask s f t = true ∧ pteV (Claims.askedEntry s f t) = true ∧
      s.tablesFree t.root (f.cmd.va + BitVec.ofNat 64 f.cmd.first).toNat = true) ∧
    (∃ (s : State) (_ : Nat) (f : Frame) (t : Task) (_ : BitVec 5) (_ : Nat × Nat) (_ : List Piece) (_ : VAddr) (_ : CoreId) (_ : Slot) (_ _ : Nat) (_ : Xfer) (_ : Nat),
      f.kind = 8 ∧ f.addr ≠ 5 ∧ f.addr ≠ 6 ∧ Claims.ofTask s f t = true ∧ pteV (Claims.askedEntry s f t) = false ∧
      s.tablesFree t.root (f.cmd.va + BitVec.ofNat 64 f.cmd.first).toNat = true) ∧
    (∃ (s : State) (_ : Nat) (f : Frame) (t : Task) (_ : BitVec 5) (_ : Nat × Nat) (_ : List Piece) (_ : VAddr) (_ : CoreId) (_ : Slot) (_ _ : Nat) (_ : Xfer) (_ : Nat),
      f.kind = 8 ∧ f.addr ≠ 5 ∧ f.addr ≠ 6 ∧ Claims.ofTask s f t = true ∧
      s.tablesFree t.root (f.cmd.va + BitVec.ofNat 64 f.cmd.first).toNat = false) ∧
    (∃ (s : State) (_ : Nat) (f : Frame) (_ : Task) (_ : BitVec 5) (_ : Nat × Nat) (_ : List Piece) (_ : VAddr) (_ : CoreId) (_ : Slot) (_ _ : Nat) (_ : Xfer) (_ : Nat),
      f.kind = 8 ∧ s.jobOf f = none) ∧
    (∃ (s : State) (_ : Nat) (f : Frame) (t : Task) (_ : BitVec 5) (_ : Nat × Nat) (_ : List Piece) (_ : VAddr) (_ : CoreId) (_ : Slot) (_ _ : Nat) (_ : Xfer) (_ : Nat),
      f.kind = 8 ∧ f.addr = 5 ∧ Claims.ofTask s f t = true ∧
      winTakes (s.window t.part (winNo f.cmd.va)) (winOff f.cmd.va) f.cmd.total = false) ∧
    (∃ (s : State) (_ : Nat) (f : Frame) (t : Task) (_ : BitVec 5) (_ : Nat × Nat) (_ : List Piece) (_ : VAddr) (_ : CoreId) (_ : Slot) (_ _ : Nat) (_ : Xfer) (_ : Nat),
      f.kind = 8 ∧ f.addr = 6 ∧ Claims.ofTask s f t = true ∧ expertTakes (s.window t.part (winNo f.cmd.va)) f.cmd.total = false) ∧
    (∃ (_ : State) (_ : Nat) (f : Frame) (_ : Task) (_ : BitVec 5) (_ : Nat × Nat) (_ : List Piece) (_ : VAddr) (_ : CoreId) (_ : Slot) (_ _ : Nat) (_ : Xfer) (_ : Nat),
      f.kind = 9 ∧ f.cmd.cause = 0 ∧ f.addr ≠ 6 ∧ pteV (BitVec.ofNat 64 (ofLe f.payload)) = false) ∧
    (∃ (_ : State) (_ : Nat) (f : Frame) (_ : Task) (_ : BitVec 5) (_ : Nat × Nat) (_ : List Piece) (_ : VAddr) (_ : CoreId) (_ : Slot) (_ _ : Nat) (_ : Xfer) (_ : Nat),
      f.kind = 9 ∧ f.cmd.cause = 0 ∧ pteV (BitVec.ofNat 64 (ofLe f.payload)) = true) ∧
    (∃ (s : State) (_ : Nat) (f : Frame) (_ : Task) (_ : BitVec 5) (_ : Nat × Nat) (_ : List Piece) (_ : VAddr) (_ : CoreId) (_ : Slot) (_ _ : Nat) (_ : Xfer) (_ : Nat),
      f.kind.toNat ∈ [1, 2, 5] ∧ s.jobOf f = none ∧ f.cmd.first = 0) ∧
    (∃ (s : State) (_ : Nat) (f : Frame) (_ : Task) (_ : BitVec 5) (_ : Nat × Nat) (_ : List Piece) (_ : VAddr) (_ : CoreId) (_ : Slot) (_ _ : Nat) (_ : Xfer) (_ : Nat),
      f.kind.toNat ∈ [3, 6, 7] ∧ s.jobOf f = none) :=
  ⟨meets14 (atFrameEffects3 1 none) ⟨by decide +kernel, ofTask_only rfl rfl, by decide +kernel⟩,
   meets14 (atFrameEffects3 5 none) ⟨by decide +kernel, ofTask_only rfl rfl, by decide +kernel⟩,
   meets14 (atFrameEffects3 1 (some 0x700)) ⟨by decide +kernel, ofTask_only rfl rfl, by decide +kernel, by decide +kernel, by decide +kernel, by decide +kernel, seat_only rfl (by decide +kernel), by decide +kernel⟩,
   meets14 (atFrameEffects3 4 none) (by decide +kernel),
   meets14 (atFrameEffects3 6 none) ⟨by decide +kernel, ofTask_only rfl rfl, by decide +kernel⟩,
   meets14 (atFrameEffects true false false 2 0x1000) ⟨by decide +kernel, ofTask_only rfl rfl, by decide +kernel, by decide +kernel, by decide +kernel, by simp [State.allocOf, State.core, Tab.get, atFrameEffects, incoming, carried, base], by decide +kernel⟩,
   meets14 (atFrameEffects false false false 2 0x1000) ⟨by decide +kernel, ofTask_only rfl rfl, by decide +kernel, by decide +kernel, by decide +kernel, by simp [State.allocOf, State.core, Tab.get, atFrameEffects, incoming, carried, base], by decide +kernel⟩,
   meets14 (atFrameEffects false false false 7 0x1000) ⟨by decide +kernel, ofTask_only rfl rfl, by decide +kernel⟩,
   meets14 (atFrameEffects false false false 3 0x1000) ⟨by decide +kernel, ofTask_only rfl rfl, by decide +kernel, by decide +kernel, by decide +kernel, by decide +kernel, by simp [State.allocOf, State.core, Tab.get, atFrameEffects, incoming, carried, base], by decide +kernel⟩,
   meets14 (atFrameEffects false false true 8 0x1000) ⟨by decide +kernel, by decide +kernel, by decide +kernel, ofTask_only rfl rfl, by decide +kernel⟩,
   meets14 (atFrameEffects false false false 8 0x1000) ⟨by decide +kernel, by decide +kernel, by decide +kernel, ofTask_only rfl rfl, by decide +kernel⟩,
   meets14 (atFrameEffects false true true 8 0x1000) ⟨by decide +kernel, by decide +kernel, by decide +kernel, ofTask_only rfl rfl, by decide +kernel⟩,
   meets14 (atFrameEffects2 8 6 0) (by decide +kernel),
   meets14 (atFrameEffects false false false 8 5) ⟨by decide +kernel, by decide +kernel, ofTask_only rfl rfl, by decide +kernel⟩,
   meets14 (atFrameEffects false false false 8 6) ⟨by decide +kernel, by decide +kernel, ofTask_only rfl rfl, by decide +kernel⟩,
   meets14 (atFrameEffects2 9 2 0) (by decide +kernel),
   meets14 (atFrameEffects2 9 0 0) (by decide +kernel),
   meets14 (atFrameEffects2 1 6 0) (by decide +kernel),
   meets14 (atFrameEffects2 3 6 0) (by decide +kernel)⟩

def powered (own : List ClkReq) (ck : Option ClkReq) (lv : BitVec 2) (st : BitVec 3) (rail rset : Nat) (vmax : BitVec 10) : State :=
  { base with
    cores := [(0, { core0 false with own := own, clk := ck, level := lv, rail := rail, railSet := rset, swal := 3 })]
    dies := [(0, { zones := [(0, { state := st, minflow := 30 }), (5, { minflow := 9 })], vmax := vmax })] }

def atClockEvents (own : Bool) (gr : Bool) (dv : Nat) (eng : Option (BitVec 2)) (lv : BitVec 2) (rail : Nat) (w : BitVec 3) : State × CoreId × ClkReq × BitVec 3 :=
  let q : ClkReq := { (default : ClkReq) with div := dv, eng := eng, granted := gr, slot := .a, k := false, pd := 3, ctx := .primary }
  let s := { powered (if own then [q] else []) (if own && gr then none else some q) lv 0 rail 780 950 with dies := [] }
  (s, 0, q, w)

def atClockEvents2 (own : Bool) (gr : Bool) (dv : Nat) (eng : Option (BitVec 2)) (lv : BitVec 2) (st : BitVec 3) (rail : Nat) (vm : BitVec 10) (w : BitVec 3) : State × CoreId × ClkReq × BitVec 3 :=
  let q : ClkReq := { (default : ClkReq) with div := dv, eng := eng, granted := gr, slot := .a, k := false, pd := 3, ctx := .primary }
  let s := powered (if own then [q] else []) (if own && gr then none else some q) lv st rail 780 vm
  let s := s.modCore 0 (fun k => { k with fourDue := w = 1 })
  let s := if rail = 700 then s.modCore 0 (fun k => { k with a := { k.a with pend := [(.p q.ctx q.k q.pd, .clk)], inflight := [] } }) else s
  (s, 0, q, w)

def atClockEvents3 (dv : Nat) (rail : Nat) : State × CoreId × ClkReq × BitVec 3 :=
  let q : ClkReq := { (default : ClkReq) with div := dv, eng := some 1, granted := true, slot := .a, k := false, pd := 3, ctx := .primary }
  let s := powered [q] none 2 0 rail 700 950
  let s := s.modCore 0 (fun k => { k with divs := { ctl := 5, mat := 6, vec := 5, cpy := 5 } })
  (s, 0, q, 1)

/-- What `Obligations.ClockAndPowerEvents` assumes, clause by clause, can be met (its part on ClockEvents). -/
theorem witness_ClockEvents :
    (∃ (s : State) (c : CoreId) (q : ClkReq) (_ : BitVec 3),
      Claims.asking s c q = true ∧ (s.zone (zoneOf c)).state ≠ zEvac ∧ (s.core c).divs.one q.eng = q.div) ∧
    (∃ (s : State) (c : CoreId) (q : ClkReq) (why : BitVec 3),
      Claims.asking s c q = true ∧ s.clkAnswer c q = .denied why) ∧
    (∃ (s : State) (c : CoreId) (_ : ClkReq) (_ : BitVec 3),
      (s.zone (zoneOf c)).state = zEvac) ∧
    (∃ (s : State) (c : CoreId) (q : ClkReq) (_ : BitVec 3),
      Claims.asking s c q = true ∧ s.clkAnswer c q = .granted) ∧
    (∃ (s : State) (c : CoreId) (q : ClkReq) (_ : BitVec 3),
      (s.core c).clk = some q ∧ q.granted = true ∧ (s.core c).own = [] ∧ (s.core c).fourDue = false ∧
      Claims.railThere s c q = true ∧ Claims.noneSlowed s c q = true) ∧
    (∃ (s : State) (c : CoreId) (_ : ClkReq) (_ : BitVec 3),
      (s.core c).own = [] ∧ (s.core c).fourDue = true) ∧
    (∃ (s : State) (c : CoreId) (q : ClkReq) (_ : BitVec 3),
      (s.core c).own.head? = some q ∧ Claims.railThere s c q = true ∧ Claims.noneSlowed s c q = true) ∧
    (∃ (s : State) (c : CoreId) (q : ClkReq) (_ : BitVec 3),
      (s.core c).own.head? = some q ∧ Claims.railThere s c q = false) ∧
    (∃ (s : State) (c : CoreId) (_ : ClkReq) (_ : BitVec 3),
      (s.core c).rail < (s.core c).railSet) ∧
    (∃ (s : State) (c : CoreId) (_ : ClkReq) (_ : BitVec 3),
      (s.core c).railSet < (s.core c).rail) ∧
    (∃ (s : State) (c : CoreId) (_ : ClkReq) (_ : BitVec 3),
      (s.core c).rail = (s.core c).railSet) :=
  ⟨meets4 (atClockEvents false false 6 none 0 680 1) (by decide +kernel),
   meets4 (atClockEvents false false 3 none 0 680 1) (by decide +kernel),
   ⟨base.modZone (zoneOf 0) (fun z => { z with state := zEvac }), 0, default, 0,
    by simp [State.zone, State.modZone, State.die, State.modDie, Tab.mod]⟩,
   meets4 (atClockEvents false false 3 none 2 680 1) (by decide +kernel),
   meets4 (atClockEvents false true 3 none 0 900 1) (by decide +kernel),
   meets4 (atClockEvents2 false true 3 none 0 0 680 950 1) (by decide +kernel),
   meets4 (atClockEvents true true 3 none 0 900 1) (by decide +kernel),
   meets4 (atClockEvents true true 3 none 0 680 1) (by decide +kernel),
   meets4 (atClockEvents true true 3 none 0 680 1) (by decide +kernel),
   meets4 (atClockEvents true true 3 none 0 900 1) (by decide +kernel),
   meets4 (atClockEvents true true 3 none 0 780 1) (by decide +kernel)⟩

def atPowerEvents (n : BitVec 6) : State × CoreId × DieId × BitVec 6 × Nat :=
  let s := { powered [] none 0 0 700 700 950 with dies := [] }
  (s, 0, 0, n, 3)

def atPowerEvents2 (hold : Nat) (set : BitVec 10) (cor : Nat) (n : BitVec 6) (lv : BitVec 2) (st : BitVec 3) : State × CoreId × DieId × BitVec 6 × Nat :=
  let s := (powered [] none lv st 700 700 950).modDie 0 (fun k => { k with sramHold := hold, sramSet := set })
  (s, 0, 0, n, cor)

/-- What `Obligations.ClockAndPowerEvents` assumes, clause by clause, can be met (its part on PowerEvents). -/
theorem witness_PowerEvents :
    (∃ (_ : State) (c : CoreId) (d : DieId) (_ : BitVec 6) (_ : Nat),
      dieOf c = d) ∧
    (∃ (s : State) (c : CoreId) (_ : DieId) (n : BitVec 6) (_ : Nat),
      (s.zone (zoneOf c)).state ≠ zEvac ∧ n.toNat ≤ 56) ∧
    (∃ (s : State) (_ : CoreId) (d : DieId) (_ : BitVec 6) (_ : Nat),
      0 < (s.die d).sramHold) ∧
    (∃ (s : State) (_ : CoreId) (d : DieId) (_ : BitVec 6) (corrected : Nat),
      (s.die d).sramHold = 0 ∧ corrected < (s.die d).sramSetpt.toNat ∧ (s.die d).sramFloor.toNat + 5 ≤ (s.die d).sramSet.toNat) ∧
    (∃ (s : State) (_ : CoreId) (d : DieId) (_ : BitVec 6) (corrected : Nat),
      (s.die d).sramHold = 0 ∧ 2 * (s.die d).sramSetpt.toNat < corrected ∧ (s.die d).sramSet.toNat + 5 ≤ (s.die d).sramMax.toNat) :=
  ⟨meets5 (atPowerEvents 56) (by decide +kernel),
   meets5 (atPowerEvents 56) (by decide +kernel),
   meets5 (atPowerEvents2 3 800 3 3 0 0) (by decide +kernel),
   meets5 (atPowerEvents 56) (by decide +kernel),
   meets5 (atPowerEvents2 0 800 33 3 0 0) (by decide +kernel)⟩

def atCoolantEvents (z : BitVec 4) (ev : Nat) (bo : Bool) (pu : Nat) (st : BitVec 3) (tr : Nat) (sv : W64) (sup : BitVec 16) : State × DieId × BitVec 4 × Nat × Nat × Byte × W64 × Bool × W64 × BitVec 16 × CoreId × PartId :=
  let s := (powered [] none 1 0 700 700 950).modZone 0 (fun k => { k with
    state := st, evac := ev, tries := tr, boost := bo, pulse := pu, sens := sv, valve := 100, maxflow := 160, minflow := 30 })
  let s := { s with supply := 5, tasks := if tr = 1 then [] else s.tasks }
  (s, (if ev = 0 then 1 else 0), z, Claims.zn (if ev = 0 then 1 else 0) z, (if st = 0 then 1 else 16), 100, sv, (ev != 0), BitVec.ofNat 64 (tr % 2), sup, 0, 1)

/-- A core's zone is one of its die's. -/
theorem zn_zoneOf (c : CoreId) : zoneOf c = Claims.zn (dieOf c) (BitVec.ofNat 4 (zoneOf c % 16)) := by
  have h : (columnOf c).toNat < 256 := (columnOf c).isLt
  simp only [Claims.zn, zoneOf, BitVec.toNat_ofNat]
  omega
theorem zone_put (s : State) (z : Nat) (k : Zone) : (s.modZone z (fun _ => k)).zone z = k := by
  simp [State.zone, State.modZone, State.die, State.modDie, Tab.mod]

def atCoolantEvents2 (sup : BitVec 16) (lo : Nat) (pr : BitVec 3) (n : Nat) (tk : Bool) : State × DieId × BitVec 4 × Nat × Nat × Byte × W64 × Bool × W64 × BitVec 16 × CoreId × PartId :=
  let t0 := (base.tasks.headD default)
  let s := { base with
    cores := [], mem := [], tasks := if tk then [{ t0 with zones := [0, 9], cls := 2, prio := pr }, { t0 with id := 8, zones := [5], cls := 1, prio := 1 }] else []
    dies := [(0, { zones := [(0, { state := 1, cls := BitVec.ofNat 2 (2 - lo), prio := pr, lowered := lo, minflow := BitVec.ofNat 11 (flowOf (2 - lo)) }),
                             (5, { state := 1, cls := 1, prio := 1, minflow := 48, lowered := if lo = 2 then 1 else 0 }), (9, { state := if lo = 1 then 1 else 2, cls := if lo = 2 then 0 else 2, prio := pr, minflow := if lo = 2 then 32 else 80 })] })] }
  (s, 0, 0, 0, n, 3, 0, false, 0, sup, 0, 1)

def atCoolantEvents3 (sv : W64) (tr : BitVec 4) (st : BitVec 3) (cp : Bool) (c : CoreId) : State × DieId × BitVec 4 × Nat × Nat × Byte × W64 × Bool × W64 × BitVec 16 × CoreId × PartId :=
  let s := powered [] none 1 0 700 700 950
  let s := { (s.modZone 0 (fun k => { k with state := st, tripped := tr, valve := 100 })).modCore 0 (fun k => { k with capped := cp }) with mem := [] }
  (s, 0, 0, 0, 0, 3, sv, false, 0, 9, c, 1)

/-- What `Obligations.CoolantEvents` assumes, clause by clause, can be met. -/
theorem witness_CoolantEvents :
    (∃ (s : State) (d : DieId) (z : BitVec 4) (zn _ : Nat) (v : Byte) (_ : W64) (_ : Bool) (_ : W64) (_ : BitVec 16) (_ : CoreId) (_ : PartId),
      zn = Claims.zn d z ∧ Claims.steady s zn = true ∧
      (((s.zone zn).flow < (s.zone zn).minflow.toNat ∧ (s.zone zn).valve.toNat ≤ v.toNat) ∨
        (Nat.max (s.zone zn).maxflow.toNat 1 < (s.zone zn).flow ∧ v.toNat ≤ (s.zone zn).valve.toNat))) ∧
    (∃ (s : State) (d : DieId) (z : BitVec 4) (zn _ : Nat) (_ : Byte) (_ : W64) (_ : Bool) (_ : W64) (_ : BitVec 16) (_ : CoreId) (_ : PartId),
      zn = Claims.zn d z ∧ Claims.steady s zn = false) ∧
    (∃ (_ : State) (d : DieId) (z : BitVec 4) (zn _ : Nat) (_ : Byte) (_ : W64) (_ : Bool) (_ : W64) (_ : BitVec 16) (_ : CoreId) (_ : PartId),
      zn = Claims.zn d z) ∧
    (∃ (_ : State) (d : DieId) (z : BitVec 4) (zn _ : Nat) (_ : Byte) (_ : W64) (_ : Bool) (_ : W64) (_ : BitVec 16) (_ : CoreId) (_ : PartId),
      zn = Claims.zn d z ∧ d ≠ 0) ∧
    (∃ (s : State) (d : DieId) (z : BitVec 4) (zn _ : Nat) (_ : Byte) (sens : W64) (_ : Bool) (_ : W64) (_ : BitVec 16) (_ : CoreId) (_ : PartId),
      zn = Claims.zn d z ∧ ((Claims.sampled s d z sens).zone zn).crossings = 0) ∧
    (∃ (s : State) (d : DieId) (z : BitVec 4) (zn _ : Nat) (_ : Byte) (_ : W64) (_ : Bool) (_ : W64) (_ : BitVec 16) (_ : CoreId) (_ : PartId),
      zn = Claims.zn d z ∧ Claims.atStage s zn 1 = true) ∧
    (∃ (s : State) (d : DieId) (z : BitVec 4) (zn n : Nat) (_ : Byte) (_ : W64) (_ : Bool) (_ : W64) (_ : BitVec 16) (_ : CoreId) (_ : PartId),
      zn = Claims.zn d z ∧ n ∈ neighbours zn ∧ (s.zone n).state ≠ zEvac ∧
      (neighbours n).all (fun m => m == zn || !s.purging m) = true) ∧
    (∃ (s : State) (d : DieId) (z : BitVec 4) (zn _ : Nat) (_ : Byte) (_ : W64) (_ : Bool) (_ : W64) (_ : BitVec 16) (_ : CoreId) (_ : PartId),
      zn = Claims.zn d z ∧ (Claims.atStage s zn 2 = true ∨ Claims.atStage s zn 3 = true) ∧ (s.zone zn).boost = false) ∧
    (∃ (s : State) (d : DieId) (z : BitVec 4) (zn _ : Nat) (_ : Byte) (_ : W64) (_ : Bool) (_ : W64) (_ : BitVec 16) (_ : CoreId) (_ : PartId),
      zn = Claims.zn d z ∧ (Claims.atStage s zn 2 = true ∨ Claims.atStage s zn 3 = true) ∧ (s.zone zn).boost = true ∧
      (s.zone zn).pulse < 8) ∧
    (∃ (s : State) (d : DieId) (z : BitVec 4) (zn _ : Nat) (_ : Byte) (_ : W64) (_ : Bool) (_ : W64) (_ : BitVec 16) (_ : CoreId) (_ : PartId),
      zn = Claims.zn d z ∧ (Claims.atStage s zn 2 = true ∨ Claims.atStage s zn 3 = true) ∧ (s.zone zn).boost = true ∧
      8 ≤ (s.zone zn).pulse) ∧
    (∃ (s : State) (d : DieId) (z : BitVec 4) (zn _ : Nat) (_ : Byte) (_ : W64) (_ : Bool) (_ : W64) (_ : BitVec 16) (_ : CoreId) (_ : PartId),
      zn = Claims.zn d z ∧ Claims.atStage s zn 4 = true) ∧
    (∃ (s : State) (d : DieId) (z : BitVec 4) (zn _ : Nat) (_ : Byte) (_ : W64) (_ : Bool) (_ : W64) (_ : BitVec 16) (_ : CoreId) (_ : PartId),
      zn = Claims.zn d z ∧ Claims.atStage s zn 5 = true ∧ (s.zone zn).sens.getLsbD 63 = true ∧ (s.zone zn).tries < 2) ∧
    (∃ (s : State) (d : DieId) (z : BitVec 4) (zn _ : Nat) (_ : Byte) (_ : W64) (_ : Bool) (_ : W64) (_ : BitVec 16) (_ : CoreId) (_ : PartId),
      zn = Claims.zn d z ∧ Claims.atStage s zn 5 = true ∧ (s.zone zn).sens.getLsbD 63 = true ∧ (s.zone zn).tries = 2) ∧
    (∃ (s : State) (d : DieId) (z : BitVec 4) (zn _ : Nat) (_ : Byte) (_ : W64) (_ : Bool) (_ : W64) (_ : BitVec 16) (_ : CoreId) (_ : PartId),
      zn = Claims.zn d z ∧ Claims.atStage s zn 5 = true ∧ (s.zone zn).sens.getLsbD 63 = false) ∧
    (∃ (s : State) (d : DieId) (z : BitVec 4) (zn _ : Nat) (_ : Byte) (_ : W64) (_ : Bool) (_ : W64) (_ : BitVec 16) (_ : CoreId) (_ : PartId),
      zn = Claims.zn d z ∧ (s.zone zn).state ≠ zEvac) ∧
    (∃ (s : State) (d : DieId) (z : BitVec 4) (zn _ : Nat) (_ : Byte) (_ : W64) (_ : Bool) (w : W64) (_ : BitVec 16) (_ : CoreId) (_ : PartId),
      zn = Claims.zn d z ∧ s.boot.phase = 5 ∧ w.extractLsb' 4 60 = 0 ∧ (s.zone (Claims.zn d (w.setWidth 4))).state = zFenced) ∧
    (∃ (s : State) (d : DieId) (z : BitVec 4) (zn _ : Nat) (_ : Byte) (_ : W64) (_ : Bool) (w : W64) (_ : BitVec 16) (_ : CoreId) (_ : PartId),
      zn = Claims.zn d z ∧ s.boot.phase = 5 ∧ (s.zone (Claims.zn d (w.setWidth 4))).state ≠ zFenced) ∧
    (∃ (s : State) (d : DieId) (z : BitVec 4) (zn _ : Nat) (_ : Byte) (_ : W64) (_ : Bool) (_ : W64) (_ : BitVec 16) (_ : CoreId) (p : PartId),
      zn = Claims.zn d z ∧ s.dieOwner d = some p) ∧
    (∃ (s : State) (d : DieId) (z : BitVec 4) (zn : Nat) (sens : W64) (c : CoreId),
      zn = Claims.zn d z ∧ Claims.fires (s.zone zn) sens 3 = true ∧ (s.zone zn).state ≠ zEvac ∧
      (s.zone zn).state ≠ zFenced ∧ zoneOf c = zn) ∧
    (∃ (d : DieId) (z : BitVec 4) (zn : Nat) (c : CoreId), zn = Claims.zn d z ∧ zoneOf c = zn) ∧
    (∃ (s : State) (d : DieId) (z : BitVec 4) (zn _ : Nat) (_ : Byte) (sens : W64) (_ : Bool) (_ : W64) (_ : BitVec 16) (_ : CoreId) (_ : PartId),
      zn = Claims.zn d z ∧ Claims.fires (s.zone zn) sens 2 = true) ∧
    (∃ (s : State) (d : DieId) (z : BitVec 4) (zn _ : Nat) (_ : Byte) (_ : W64) (_ : Bool) (_ : W64) (supply : BitVec 16) (_ : CoreId) (_ : PartId),
      zn = Claims.zn d z ∧ (s.heldFlow ≤ supply.toNat ∨ (List.range 256).all (fun z => !Claims.lowerable s z) = true)) ∧
    (∃ (s : State) (d : DieId) (z : BitVec 4) (zn n : Nat) (_ : Byte) (_ : W64) (_ : Bool) (_ : W64) (supply : BitVec 16) (_ : CoreId) (_ : PartId),
      zn = Claims.zn d z ∧ supply.toNat < s.heldFlow ∧ Claims.lowersNext s n = true) ∧
    (∃ (s : State) (d : DieId) (z : BitVec 4) (zn n : Nat) (_ : Byte) (_ : W64) (_ : Bool) (_ : W64) (supply : BitVec 16) (_ : CoreId) (_ : PartId),
      zn = Claims.zn d z ∧ supply.toNat < s.heldFlow ∧ Claims.lowersNext s n = true ∧
      (Claims.loweredGrant s n).heldFlow ≤ supply.toNat) ∧
    (∃ (s : State) (d : DieId) (z : BitVec 4) (zn n : Nat) (_ : Byte) (_ : W64) (_ : Bool) (_ : W64) (_ : BitVec 16) (_ : CoreId) (_ : PartId),
      zn = Claims.zn d z ∧ Claims.lowerable s n = true ∧ Claims.holdsClass s n = true ∧ (s.zone n).cls ≠ 3) ∧
    (∃ (s : State) (d : DieId) (z : BitVec 4) (zn n : Nat) (_ : Byte) (_ : W64) (_ : Bool) (_ : W64) (_ : BitVec 16) (_ : CoreId) (p : PartId),
      zn = Claims.zn d z ∧ s.dieOwner (BitVec.ofNat 4 (n / 16)) = some p) ∧
    (∃ (s : State) (d : DieId) (z : BitVec 4) (zn _ : Nat) (_ : Byte) (_ : W64) (_ : Bool) (_ : W64) (_ : BitVec 16) (_ : CoreId) (_ : PartId),
      zn = Claims.zn d z ∧ (List.range 256).all (fun z => (s.zone z).lowered == 0) = true) ∧
    (∃ (s : State) (d : DieId) (z : BitVec 4) (zn n : Nat) (_ : Byte) (_ : W64) (_ : Bool) (_ : W64) (supply : BitVec 16) (_ : CoreId) (_ : PartId),
      zn = Claims.zn d z ∧ Claims.raisesNext s n = true ∧ supply.toNat < (Claims.raisedGrant s n).heldFlow) ∧
    (∃ (s : State) (d : DieId) (z : BitVec 4) (zn n : Nat) (_ : Byte) (_ : W64) (_ : Bool) (_ : W64) (supply : BitVec 16) (_ : CoreId) (_ : PartId),
      zn = Claims.zn d z ∧ Claims.raisesNext s n = true ∧ (Claims.raisedGrant s n).heldFlow ≤ supply.toNat ∧
      (List.range 256).all (fun z => (s.zone z).lowered ≤ 2) = true) ∧
    (∃ (s : State) (d : DieId) (z : BitVec 4) (zn _ : Nat) (_ : Byte) (_ : W64) (_ : Bool) (_ : W64) (_ : BitVec 16) (_ : CoreId) (_ : PartId),
      zn = Claims.zn d z ∧ (List.range 256).all (fun z => (s.zone z).lowered ≤ 2) = true) :=
  ⟨meets12 (atCoolantEvents 0 1 false 0 0 0 0 11000) (by decide +kernel),
   meets12 (atCoolantEvents 0 1 false 0 2 0 0 11000) (by decide +kernel),
   meets12 (atCoolantEvents 0 0 false 0 0 0 0 11000) (by decide +kernel),
   meets12 (atCoolantEvents 0 0 false 0 0 0 0 11000) (by decide +kernel),
   meets12 (atCoolantEvents 0 0 false 0 0 0 (400 * 2 ^ 52) 11000) (by decide +kernel),
   meets12 (atCoolantEvents 0 1 false 0 2 0 0 11000) (by decide +kernel),
   meets12 (atCoolantEvents 0 1 false 0 0 0 0 11000) (by decide +kernel),
   meets12 (atCoolantEvents 0 2 false 0 2 0 0 11000) (by decide +kernel),
   meets12 (atCoolantEvents 0 2 true 0 2 0 0 11000) (by decide +kernel),
   meets12 (atCoolantEvents 0 2 true 8 2 0 0 11000) (by decide +kernel),
   meets12 (atCoolantEvents 0 4 false 0 2 0 0 11000) (by decide +kernel),
   meets12 (atCoolantEvents 0 5 false 0 2 0 0x8000000000000000 11000) (by decide +kernel),
   meets12 (atCoolantEvents 0 5 false 0 2 2 0x8000000000000000 11000) (by decide +kernel),
   meets12 (atCoolantEvents 0 5 false 0 2 0 0 11000) (by decide +kernel),
   meets12 (atCoolantEvents 0 0 false 0 0 0 0 11000) (by decide +kernel),
   meets12 (atCoolantEvents 0 1 false 0 3 0 0 11000) (by decide +kernel),
   meets12 (atCoolantEvents 0 0 false 0 0 0 0 11000) (by decide +kernel),
   meets12 (atCoolantEvents 0 1 false 0 0 0 0 11000) (by decide +kernel),
   ⟨base.modZone (zoneOf 0) (fun _ => default), dieOf 0, _, zoneOf 0, 0x8000000000000000, 0, zn_zoneOf 0, by rw [zone_put]; decide +kernel,
    by rw [zone_put]; decide +kernel, by rw [zone_put]; decide +kernel, rfl⟩,
   ⟨dieOf 0, _, zoneOf 0, 0, zn_zoneOf 0, rfl⟩,
   meets12 (atCoolantEvents3 (2047 * 2 ^ 52 + 5 * 2 ^ 13 + 301 * 2 ^ 40) 0 0 true 0) (by decide +kernel),
   meets12 (atCoolantEvents 0 0 false 0 0 0 0 11000) (by decide +kernel),
   meets12 (atCoolantEvents2 0 0 1 9 true) (by decide +kernel),
   meets12 (atCoolantEvents2 480 2 1 5 false) (by decide +kernel),
   meets12 (atCoolantEvents2 0 0 1 0 true) (by decide +kernel),
   meets12 (atCoolantEvents 0 0 false 0 0 0 0 11000) (by decide +kernel),
   meets12 (atCoolantEvents 0 0 false 0 0 0 0 11000) (by decide +kernel),
   meets12 (atCoolantEvents2 0 1 1 0 true) (by decide +kernel),
   meets12 (atCoolantEvents2 480 2 1 0 false) (by decide +kernel),
   meets12 (atCoolantEvents 0 0 false 0 0 0 0 11000) (by decide +kernel)⟩

def attested : State := { base with dies := [(0, { zones := [], attBusy := true, attCtl := 0x11 }), (1, { attBusy := false })], cores := [], tasks := [] }

def access (wr : Bool) (p : Option PartId) (a : Nat) (link : BitVec 2) : HostAccess :=
  { link := link, sideband := false, part := p, write := wr, addr := BitVec.ofNat 48 a, data := 0x1122334455667788 }

/-- A device that verifies an image whose key has its hash in slot 0 of the fuses, of SVN 0. -/
def imaged : State := { attested with mem := [] }.writeNat bootWindow 4 0x5746584B
noncomputable def fused (floor : W32) : State :=
  { imaged with boot := { phase := 2, floor := floor, keys := [(0, Config.sha3 (imaged.bootBytes 48 1312))] } }
theorem fused_slot (n : W32) : (fused n).keySlot = some 0 := by
  have h : (fused n).bootBytes 48 1312 = imaged.bootBytes 48 1312 := rfl
  have k : (fused n).boot.keys.get 0 0 = Config.sha3 (imaged.bootBytes 48 1312) := rfl
  have r : (fused n).boot.revoked = 0 := rfl
  rw [State.keySlot, h, show List.range 4 = [0, 1, 2, 3] from rfl, List.find?_cons_of_pos]
  simpa [r] using k

def atBringUpAndAttestation (ph : BitVec 4) (good : Bool) (key : Bool) (d : DieId) (w : W64) : State × DieId × W64 × Nat × W32 × Nat × Nat × BitVec 256 :=
  let s := { attested with boot := { phase := ph, revoked := if key then 0 else 15 }, launched := 4, mem := [] }
  let s := if good then s.writeNat bootWindow 4 0x5746584B else s
  let s := { s with hbmOwn := if key then (List.range 768).map (fun i => (i, 1)) else [], parts := [(1, { cfg := 0x800000000000000F })] }
  (s, d, w, 0, 1, 3, 4, 5)

def atBringUpAndAttestation2 (v : Nat) (w : W64) : State × DieId × W64 × Nat × W32 × Nat × Nat × BitVec 256 :=
  let s := { attested with boot := { phase := 5 }, hbmOwn := (List.range 768).map (fun i => (i, BitVec.ofNat 8 v)), dies := [] }
  (s, 0, w, 0, 1, 3, 4, 5)

/-- What `Obligations.BringUpAndAttestation` assumes, clause by clause, can be met. -/
theorem witness_BringUpAndAttestation :
    (∃ (s : State) (_ : DieId) (_ : W64) (_ : Nat) (_ : W32) (_ _ : Nat) (_ : BitVec 256),
      (s.boot.phase.toNat < 2 ∨ 5 < s.boot.phase.toNat)) ∧
    (∃ (s : State) (_ : DieId) (_ : W64) (_ : Nat) (_ : W32) (_ _ : Nat) (_ : BitVec 256),
      2 ≤ s.boot.phase.toNat ∧ s.boot.phase.toNat ≤ 5) ∧
    (∃ (s : State) (_ : DieId) (_ : W64) (_ : Nat) (_ : W32) (_ _ : Nat) (_ : BitVec 256),
      s.boot.phase = 2 ∧ s.headerGood = false) ∧
    (∃ (s : State) (_ : DieId) (_ : W64) (_ : Nat) (_ : W32) (_ _ : Nat) (_ : BitVec 256),
      s.boot.phase = 2 ∧ s.headerGood = true ∧ s.keySlot = none) ∧
    (∃ (s : State) (_ : DieId) (_ : W64) (slot : Nat) (_ : W32) (_ _ : Nat) (_ : BitVec 256),
      s.boot.phase = 2 ∧ s.headerGood = true ∧ s.keySlot = some slot ∧
      s.bootNat 8 4 < s.boot.floor.toNat) ∧
    (∃ (s : State) (_ : DieId) (_ : W64) (slot : Nat) (_ : W32) (_ _ : Nat) (_ : BitVec 256),
      s.boot.phase = 2 ∧ s.headerGood = true ∧ s.keySlot = some slot ∧
      s.boot.floor.toNat ≤ s.bootNat 8 4) ∧
    (∃ (s : State) (_ : DieId) (_ : W64) (_ : Nat) (_ : W32) (_ _ : Nat) (_ : BitVec 256),
      s.boot.phase = 3) ∧
    (∃ (s : State) (_ : DieId) (_ : W64) (_ : Nat) (_ : W32) (_ _ : Nat) (_ : BitVec 256),
      s.boot.phase = 4) ∧
    (∃ (s : State) (_ : DieId) (_ : W64) (_ : Nat) (n : W32) (_ _ : Nat) (_ : BitVec 256),
      s.boot.phase = 5 ∧ s.boot.floor.toNat < n.toNat) ∧
    (∃ (s : State) (_ : DieId) (_ : W64) (_ : Nat) (_ : W32) (_ i : Nat) (_ : BitVec 256),
      s.boot.phase = 5 ∧ 3 ≤ i ∧ i ≤ 7) ∧
    (∃ (s : State) (d : DieId) (w : W64) (_ : Nat) (_ : W32) (_ _ : Nat) (_ : BitVec 256),
      s.boot.phase = 5 ∧ (s.die d).attBusy = false ∧ w.getLsbD 4 = true ∧ s.ownsBuffer w = true) ∧
    (∃ (s : State) (d : DieId) (w : W64) (_ : Nat) (_ : W32) (_ _ : Nat) (_ : BitVec 256),
      s.boot.phase = 5 ∧ (s.die d).attBusy = false ∧ w.getLsbD 4 = true ∧ s.ownsBuffer w = false) ∧
    (∃ (s : State) (d : DieId) (_ : W64) (_ : Nat) (_ : W32) (_ _ : Nat) (_ : BitVec 256),
      s.boot.phase = 5 ∧ (s.die d).attBusy = true) ∧
    (∃ (s : State) (d : DieId) (_ : W64) (_ : Nat) (_ : W32) (_ _ : Nat) (_ : BitVec 256),
      (s.die d).attBusy = true) :=
  ⟨meets8 (atBringUpAndAttestation 0 true true 0 0x10) (by decide +kernel),
   meets8 (atBringUpAndAttestation 5 true true 0 0x10) (by decide +kernel),
   meets8 (atBringUpAndAttestation 2 false true 0 0x10) (by decide +kernel),
   meets8 (atBringUpAndAttestation 2 true false 0 0x10) (by decide +kernel),
   ⟨fused 1, 0, 0, 0, 0, 0, 0, 0, by decide +kernel, by decide +kernel, fused_slot 1, by decide +kernel⟩,
   ⟨fused 0, 0, 0, 0, 0, 0, 0, 0, by decide +kernel, by decide +kernel, fused_slot 0, by decide +kernel⟩,
   meets8 (atBringUpAndAttestation 3 true true 0 0x10) (by decide +kernel),
   meets8 (atBringUpAndAttestation 4 true true 0 0x10) (by decide +kernel),
   meets8 (atBringUpAndAttestation 5 true true 0 0x10) (by decide +kernel),
   meets8 (atBringUpAndAttestation 5 true true 0 0x10) (by decide +kernel),
   meets8 (atBringUpAndAttestation2 0x81 0x11) (by decide +kernel),
   meets8 (atBringUpAndAttestation 5 true true 1 0x10) (by decide +kernel),
   meets8 (atBringUpAndAttestation 5 true true 0 0x10) (by decide +kernel),
   meets8 (atBringUpAndAttestation 5 true true 0 0x10) (by decide +kernel)⟩

def atHostAndManagement (ph : BitVec 4) (wr : Bool) (p : Option PartId) (link : BitVec 2) (a : Nat) (o : BitVec 12) (off : BitVec 20) (w : W64) : State × HostAccess × Option PartId × DieId × BitVec 12 × BitVec 20 × W64 × BitVec 2 × PartId × BitVec 16 × CoreId :=
  let s := { attested with boot := { phase := ph }, parts := [(1, { cfg := 0x8010000000000001, held := wr, bells := [5, 6] }), (2, { cfg := 0xE01010000000F000 })]
                           hostQueue := if o = 9 then [{ (default : HostAccess) with write := true }] else []
                           dies := [(0, { linkFenced := link = 0 && !wr && p.isNone })] }
  (s, access wr p a link, p, (if link = 0 then 0 else 1), o, off, w, link, (if o = 8 then 2 else 1), w.setWidth 16, 0x100)

/-- What `Obligations.HostAndManagement` assumes, clause by clause, can be met. -/
theorem witness_HostAndManagement :
    (∃ (s : State) (x : HostAccess) (_ : Option PartId) (_ : DieId) (_ : BitVec 12) (_ : BitVec 20) (_ : W64) (_ : BitVec 2) (_ : PartId) (_ : BitVec 16) (_ : CoreId),
      Claims.toMemory s x = true ∧ x.write = false ∧ Claims.atOnce s x = true) ∧
    (∃ (s : State) (x : HostAccess) (_ : Option PartId) (_ : DieId) (_ : BitVec 12) (_ : BitVec 20) (_ : W64) (_ : BitVec 2) (_ : PartId) (_ : BitVec 16) (_ : CoreId),
      Claims.toMemory s x = true ∧ x.write = true ∧ Claims.atOnce s x = true) ∧
    (∃ (s : State) (x : HostAccess) (_ : Option PartId) (_ : DieId) (_ : BitVec 12) (_ : BitVec 20) (_ : W64) (_ : BitVec 2) (_ : PartId) (_ : BitVec 16) (_ : CoreId),
      Claims.toMemory s x = true ∧ Claims.atOnce s x = false) ∧
    (∃ (s : State) (x : HostAccess) (_ : Option PartId) (_ : DieId) (_ : BitVec 12) (_ : BitVec 20) (_ : W64) (_ : BitVec 2) (_ : PartId) (_ : BitVec 16) (_ : CoreId),
      Claims.toSpace s x = true ∧ x.write = false ∧ isVdata (x.addr.setWidth 20).toNat = false) ∧
    (∃ (s : State) (x : HostAccess) (_ : Option PartId) (_ : DieId) (_ : BitVec 12) (_ : BitVec 20) (_ : W64) (_ : BitVec 2) (_ : PartId) (_ : BitVec 16) (_ : CoreId),
      s.ready = true ∧ s.linkCarries x = false) ∧
    (∃ (s : State) (x : HostAccess) (_ : Option PartId) (_ : DieId) (_ : BitVec 12) (_ : BitVec 20) (_ : W64) (_ : BitVec 2) (_ : PartId) (_ : BitVec 16) (_ : CoreId),
      s.ready = false ∧ bootAccess x = false) ∧
    (∃ (s : State) (_ : HostAccess) (_ : Option PartId) (_ : DieId) (_ : BitVec 12) (_ : BitVec 20) (_ : W64) (_ : BitVec 2) (_ : PartId) (_ : BitVec 16) (_ : CoreId),
      s.boot.phase = 5) ∧
    (∃ (s : State) (_ : HostAccess) (_ : Option PartId) (_ : DieId) (o : BitVec 12) (_ : BitVec 20) (_ : W64) (_ : BitVec 2) (_ : PartId) (_ : BitVec 16) (_ : CoreId),
      Claims.configures s = true ∧ o.toNat % 8 = 0 ∧ 0x100 ≤ o.toNat ∧ o.toNat < 0x400) ∧
    (∃ (s : State) (_ : HostAccess) (_ : Option PartId) (_ : DieId) (o : BitVec 12) (_ : BitVec 20) (w : W64) (_ : BitVec 2) (_ : PartId) (_ : BitVec 16) (_ : CoreId),
      Claims.configures s = true ∧ o.toNat % 8 = 0 ∧ o.toNat < 0x80 ∧ s.cfgRefused (o.toNat / 8) (Claims.entryOf w) = true) ∧
    (∃ (s : State) (_ : HostAccess) (_ : Option PartId) (_ : DieId) (o : BitVec 12) (_ : BitVec 20) (w : W64) (_ : BitVec 2) (_ : PartId) (_ : BitVec 16) (_ : CoreId),
      Claims.configures s = true ∧ o.toNat % 8 = 0 ∧ o.toNat < 0x80 ∧ s.cfgRefused (o.toNat / 8) (Claims.entryOf w) = false) ∧
    (∃ (s : State) (_ : HostAccess) (p : Option PartId) (d : DieId) (_ : BitVec 12) (off : BitVec 20) (_ : W64) (_ : BitVec 2) (_ : PartId) (_ : BitVec 16) (_ : CoreId),
      s.boot.phase = 5 ∧ s.reachesDie p d = true ∧ off = 0x6028) ∧
    (∃ (s : State) (_ : HostAccess) (p : Option PartId) (d : DieId) (_ : BitVec 12) (off : BitVec 20) (_ : W64) (_ : BitVec 2) (_ : PartId) (_ : BitVec 16) (_ : CoreId),
      s.boot.phase = 5 ∧ s.reachesDie p d = true ∧ off.toNat % 8 ≠ 0) ∧
    (∃ (s : State) (_ : HostAccess) (p : Option PartId) (d : DieId) (_ : BitVec 12) (_ : BitVec 20) (_ : W64) (_ : BitVec 2) (_ : PartId) (_ : BitVec 16) (_ : CoreId),
      s.boot.phase = 5 ∧ s.reachesDie p d = false) ∧
    (∃ (s : State) (_ : HostAccess) (_ : Option PartId) (_ : DieId) (_ : BitVec 12) (_ : BitVec 20) (_ : W64) (_ : BitVec 2) (q : PartId) (_ : BitVec 16) (_ : CoreId),
      (s.part q).held = false ∧ s.ready = true) ∧
    (∃ (s : State) (_ : HostAccess) (_ : Option PartId) (_ : DieId) (_ : BitVec 12) (_ : BitVec 20) (_ : W64) (_ : BitVec 2) (q : PartId) (_ : BitVec 16) (_ : CoreId),
      (s.part q).held = true) ∧
    (∃ (s : State) (_ : HostAccess) (_ : Option PartId) (_ : DieId) (_ : BitVec 12) (_ : BitVec 20) (_ : W64) (_ : BitVec 2) (_ : PartId) (_ : BitVec 16) (_ : CoreId),
      s.boot.phase ≠ 5) ∧
    (∃ (s : State) (_ : HostAccess) (_ : Option PartId) (_ : DieId) (_ : BitVec 12) (_ : BitVec 20) (_ : W64) (_ : BitVec 2) (_ : PartId) (_ : BitVec 16) (_ : CoreId),
      Claims.configures s = false) :=
  ⟨meets11 (atHostAndManagement 5 false none 0 0x100000 0 0x6028 0x8000000000000001) (by decide +kernel),
   meets11 (atHostAndManagement 5 true none 0 0x100000 0 0x6028 0x8000000000000001) (by decide +kernel),
   meets11 (atHostAndManagement 5 true none 0 0x100000 9 0x6028 0x8000000000000001) (by decide +kernel),
   meets11 (atHostAndManagement 5 false none 0 (2 ^ 46 + 0x6028) 0 0x6028 0x8000000000000001) (by decide +kernel),
   meets11 (atHostAndManagement 5 true (some 1) 3 0x100000 0 0x6028 0x8000000000000001) (by decide +kernel),
   meets11 (atHostAndManagement 4 true none 0 0x100000 0 0x6028 0x8000000000000001) (by decide +kernel),
   meets11 (atHostAndManagement 5 true none 0 0x100000 0 0x6028 0x8000000000000001) (by decide +kernel),
   meets11 (atHostAndManagement 5 true none 0 0x100000 0x100 0x6028 0x8000000000000001) (by decide +kernel),
   meets11 (atHostAndManagement 5 true none 0 0x100000 0 0x6028 0x8000000000000001) (by decide +kernel),
   meets11 (atHostAndManagement 5 true none 0 0x100000 0 0x6028 0) (by decide +kernel),
   meets11 (atHostAndManagement 5 true none 0 0x100000 0 0x6028 0x8000000000000001) (by decide +kernel),
   meets11 (atHostAndManagement 5 true none 0 0x100000 0 0x6029 0x8000000000000001) (by decide +kernel),
   meets11 (atHostAndManagement 5 true (some 1) 3 0x100000 0 0x6028 0x8000000000000001) (by decide +kernel),
   meets11 (atHostAndManagement 5 true none 0 0x100000 8 0x6028 0x8000000000000001) (by decide +kernel),
   meets11 (atHostAndManagement 5 true none 0 0x100000 0 0x6028 0x8000000000000001) (by decide +kernel),
   meets11 (atHostAndManagement 4 true none 0 0x100000 0 0x6028 0x8000000000000001) (by decide +kernel),
   meets11 (atHostAndManagement 1 true none 0 0x100000 0 0x6028 0x8000000000000001) (by decide +kernel)⟩

def storing (n : Nat) (addr : List Nat) (dn rel : Bool) : Req :=
  { serial := n, cyc := 3, core := 0, slot := .a, ctx := .primary, path := .ls, kind := .store, pc := 4, rel := if rel then some 2 else none
    pieces := (if dn then [{ addr := [7], done := true }] else []) ++
      [{ addr := addr, data := 0x1122334455667788, rc := rel, cached := true }] ++ (if rel then [{ addr := [99] }] else []) }

def atStoresPerformed (ad : List Nat) (dn : Bool) (rel : Bool) (pr : Bool) (fe : Bool) : State × Nat × Req × Piece × (Byte × Byte × W64) :=
  let q := storing 50 ad dn rel
  let s := { base with dies := [(0, { fenced := fe, stk := { stage := 100 } })], reqs := (if pr then [storing 49 ad false false] else []) ++ [q] }
  (s, 50, q, (q.pieces.find? (fun x => !x.done)).getD default, (0x0E, 0, 9))

/-- What `Obligations.HomesMoveAndStoresPerform` assumes, clause by clause, can be met (its part on StoresPerformed). -/
theorem witness_StoresPerformed :
    (∃ (s : State) (n : Nat) (q : Req) (p : Piece) (_ : Byte × Byte × W64),
      s.req? n = some q ∧ q.kind = .store ∧ q.pieces[q.nextPart]? = some p ∧ s.raceMode (s.res q.core q.slot).task ≠ 1 ∧
      s.mayPerform q q.nextPart p = true ∧ s.refusal q p = none ∧ p.addr.Nodup) ∧
    (∃ (s : State) (n : Nat) (q : Req) (p : Piece) (_ : Byte × Byte × W64),
      s.req? n = some q ∧ q.kind = .store ∧ q.pieces[q.nextPart]? = some p ∧ s.raceMode (s.res q.core q.slot).task ≠ 1 ∧
      s.mayPerform q q.nextPart p = true ∧ s.refusal q p = none ∧ (q.pieces.filter (fun x => !x.done)).length = 1) ∧
    (∃ (s : State) (n : Nat) (q : Req) (p : Piece) (k : Byte × Byte × W64),
      s.req? n = some q ∧ q.kind = .store ∧ q.pieces[q.nextPart]? = some p ∧ s.raceMode (s.res q.core q.slot).task ≠ 1 ∧
      s.mayPerform q q.nextPart p = true ∧ s.refusal q p = some k ∧ q.free = false) ∧
    (∃ (s : State) (n : Nat) (q : Req) (p : Piece) (_ : Byte × Byte × W64),
      s.req? n = some q ∧ q.kind = .store ∧ q.pieces[q.nextPart]? = some p ∧ s.raceMode (s.res q.core q.slot).task ≠ 1 ∧
      p.addr ≠ []) ∧
    (∃ (s : State) (n : Nat) (q : Req) (p : Piece) (_ : Byte × Byte × W64),
      s.req? n = some q ∧ q.kind = .store ∧ q.pieces[q.nextPart]? = some p ∧ s.raceMode (s.res q.core q.slot).task ≠ 1 ∧
      s.mayPerform q q.nextPart p = false) :=
  ⟨meets5 (atStoresPerformed ([9, 10, 11, 12, 13, 14, 15, 16]) true false false false) (by decide +kernel),
   meets5 (atStoresPerformed ([9, 10, 11, 12, 13, 14, 15, 16]) true false false false) (by decide +kernel),
   meets5 (atStoresPerformed ([9, 10, 11, 12, 13, 14, 15, 16]) true false false true) (by decide +kernel),
   meets5 (atStoresPerformed ([9, 10, 11, 12, 13, 14, 15, 16]) true false false false) (by decide +kernel),
   meets5 (atStoresPerformed ([9, 10, 11, 12, 13, 14, 15, 16]) true false true false) (by decide +kernel)⟩

def atTrapEntry (m : Bool) : State × Trap :=
  (base m, { cause := 0xFF, sub := 3, code := 0xFFFF, tval := 0x1234, lane := some 5 })

/-- What `Obligations.TrapEntry` assumes, clause by clause, can be met. -/
theorem witness_TrapEntry :
    (∃ (s : State) (_ : Trap),
      s.cx.mode = false) ∧
    (∃ (s : State) (_ : Trap),
      s.cx.mode = true) :=
  ⟨meets2 (atTrapEntry false) (by decide +kernel),
   meets2 (atTrapEntry true) (by decide +kernel)⟩

def atTrapsHoldsAndGuards (i : Instr) (x : Nat) : State × W32 × Instr × Hdr × CF × BitVec 12 × Trap :=
  let s := if x = 0 then base else base.modRc (fun r => { r with pend := [(.s .primary false 5, .req 3)] })
  let k := (s.decodeTrap i i.firstWord).getD default
  (s, 0, i, hdr, default, 0x100, k)

/-- What `Obligations.TrapsHoldsAndGuards` assumes, clause by clause, can be met. -/
theorem witness_TrapsHoldsAndGuards :
    (∃ (s : State) (_ : W32) (i : Instr) (_ : Hdr) (_ : CF) (_ : BitVec 12) (_ : Trap),
      i.head.isSome = true ∧ s.cx.rep = none ∧ i.wf = false) ∧
    (∃ (s : State) (_ : W32) (i : Instr) (h : Hdr) (f : CF) (_ : BitVec 12) (_ : Trap),
      i ∈ Claims.kernelOnly h f ∧ s.cx.mode = false ∧ s.badEncoding i = false) ∧
    (∃ (s : State) (_ : W32) (i : Instr) (h : Hdr) (f : CF) (n : BitVec 12) (_ : Trap),
      i ∈ [Instr.rdc h f n, .wrc h f n] ∧ s.cx.mode = false ∧ s.badEncoding i = false ∧ 0x100 ≤ n.toNat) ∧
    (∃ (s : State) (_ : W32) (i : Instr) (_ : Hdr) (_ : CF) (_ : BitVec 12) (k : Trap),
      i.head.isSome = true ∧ s.cx.rep = none ∧ s.decodeTrap i i.firstWord = some k) ∧
    (∃ (s : State) (_ : W32) (i : Instr) (_ : Hdr) (_ : CF) (_ : BitVec 12) (_ : Trap),
      i.head.isSome = true ∧ s.cx.rep = none ∧ s.decodeTrap i i.firstWord = none ∧ s.stalls i = true) ∧
    (∃ (s : State) (_ : W32) (i : Instr) (_ : Hdr) (_ : CF) (_ : BitVec 12) (_ : Trap),
      i.head.isSome = true ∧ s.cx.rep = none ∧ s.decodeTrap i i.firstWord = none ∧ s.stalls i = false ∧
      (s.preg i.pred = false ∨ i.noLanes = true)) :=
  ⟨meets7 (atTrapsHoldsAndGuards (.addI hdr { (default : SF) with b := 1 }) 0) (by decide +kernel),
   meets7 (atTrapsHoldsAndGuards (.rfe hdr default) 0) (by decide +kernel),
   meets7 (atTrapsHoldsAndGuards (.rdc hdr default 0x100) 0) (by decide +kernel),
   meets7 (atTrapsHoldsAndGuards (.addI hdr { (default : SF) with b := 1 }) 0) (by decide +kernel),
   meets7 (atTrapsHoldsAndGuards (.add hdr ⟨1, 5, 0⟩) 1) (by decide +kernel),
   meets7 (atTrapsHoldsAndGuards (.add (hdr 2) default) 0) (by decide +kernel)⟩

def atRegisterWrites (w : W64) (d : DieId) (up : BitVec 4) (p : Option PartId) (off : BitVec 20) : State × Option PartId × DieId × W64 × BitVec 4 × BitVec 2 × BitVec 8 × CoreId × BitVec 20 :=
  let s := { attested with boot := { phase := 5 }, parts := [(1, { cfg := 0x8010000000000003, dlog := 7 }), (2, { cfg := 0xE01010000000F000 })] }
  let s := { s with fab := { s.fab with ports := [(2, { state := up })] } }
  (s, p, d, w, w.setWidth 4, w.setWidth 2, 7, 0, off)

/-- What `Obligations.HostAndManagement` assumes, clause by clause, can be met (its part on RegisterWrites). -/
theorem witness_RegisterWrites :
    (∃ (s : State) (p : Option PartId) (d : DieId) (_ : W64) (_ : BitVec 4) (_ : BitVec 2) (_ : BitVec 8) (_ : CoreId) (_ : BitVec 20),
      Claims.reaches s p d = true) ∧
    (∃ (s : State) (p : Option PartId) (d : DieId) (w : W64) (_ : BitVec 4) (_ : BitVec 2) (_ : BitVec 8) (_ : CoreId) (_ : BitVec 20),
      Claims.reaches s p d = true ∧ (s.die d).stk.stage.toNat ≤ (w.extractLsb' 0 32).toNat) ∧
    (∃ (s : State) (p : Option PartId) (d : DieId) (_ : W64) (_ : BitVec 4) (_ : BitVec 2) (_ : BitVec 8) (_ : CoreId) (off : BitVec 20),
      Claims.reaches s p d = true ∧
      (off.toNat % 8 ≠ 0 ∨ off.toNat < 0x2000 ∨ (0x2058 ≤ off.toNat ∧ off.toNat < 0x3000) ∨ (0x3010 ≤ off.toNat ∧ off.toNat < 0x4000) ∨
        (0x7208 ≤ off.toNat ∧ off.toNat < 0x10000) ∨ 0x20040 ≤ off.toNat)) :=
  ⟨meets9 (atRegisterWrites 0 0 0 none 0x3001) (by decide +kernel),
   meets9 (atRegisterWrites 0 0 0 none 0x3001) (by decide +kernel),
   meets9 (atRegisterWrites 0 0 0 none 0x3001) (by decide +kernel)⟩

def atLaneValues (t : Nat) (x : W32) (y : Int) (sat : Bool) (r : Rnd) : Nat × Bool × Bool × W32 × Int × Fmt × Rnd × Mag × Ex × Ex × Ex × Flags8 :=
  (t, sat, true, x, y, .f16, r, ⟨5, 2, 0⟩, .num true ⟨5, 2, 0⟩, .num false ⟨3, 1, -4⟩, .num true ⟨9, 1, 1⟩, 3)

def atLaneValues2 (f : Fmt) (r : Rnd) (sat : Bool) (neg : Bool) (m : Mag) : Nat × Bool × Bool × W32 × Int × Fmt × Rnd × Mag × Ex × Ex × Ex × Flags8 :=
  (0, sat, neg, 0, 0, f, r, m, .inf neg, .num neg ⟨0, 1, 0⟩, .nan, 0)

def atLaneValues3 (a : Ex) (b : Ex) (c : Ex) (r : Rnd) : Nat × Bool × Bool × W32 × Int × Fmt × Rnd × Mag × Ex × Ex × Ex × Flags8 :=
  (0, true, true, 0, 0, .f16, r, ⟨5, 2, 0⟩, a, b, c, 0)

/-- What `Obligations.LaneValues` assumes, clause by clause, can be met. -/
theorem witness_LaneValues :
    (∃ (t : Nat) (_ _ : Bool) (_ : W32) (_ : Int) (_ : Fmt) (_ : Rnd) (_ : Mag) (_ _ _ : Ex) (_ : Flags8),
      t < 11) ∧
    (∃ (t : Nat) (_ _ : Bool) (_ : W32) (_ : Int) (_ : Fmt) (_ : Rnd) (_ : Mag) (_ _ _ : Ex) (_ : Flags8),
      5 ≤ t ∧ t < 8) ∧
    (∃ (t : Nat) (_ _ : Bool) (_ : W32) (_ : Int) (_ : Fmt) (_ : Rnd) (_ : Mag) (_ _ _ : Ex) (_ : Flags8),
      8 ≤ t ∧ t < 11) ∧
    (∃ (t : Nat) (_ _ : Bool) (_ : W32) (_ : Int) (_ : Fmt) (_ : Rnd) (_ : Mag) (_ _ _ : Ex) (_ : Flags8),
      5 ≤ t ∧ t < 11) ∧
    (∃ (t : Nat) (_ _ : Bool) (_ : W32) (_ : Int) (_ : Fmt) (_ : Rnd) (_ : Mag) (_ _ _ : Ex) (_ : Flags8),
      t < 5) ∧
    (∃ (_ : Nat) (_ _ : Bool) (_ : W32) (_ : Int) (_ : Fmt) (_ : Rnd) (_ : Mag) (a b _ : Ex) (_ : Flags8),
      Claims.finite a = true ∧ Claims.finite b = true) ∧
    (∃ (_ : Nat) (_ _ : Bool) (_ : W32) (_ : Int) (_ : Fmt) (_ : Rnd) (m : Mag) (_ _ _ : Ex) (_ : Flags8),
      m.d ≠ 0) ∧
    (∃ (_ : Nat) (_ _ : Bool) (_ : W32) (_ : Int) (_ : Fmt) (_ : Rnd) (m : Mag) (_ _ _ : Ex) (_ : Flags8),
      m.d ≠ 0 ∧ m.n ≠ 0) ∧
    (∃ (_ : Nat) (_ neg : Bool) (_ : W32) (_ : Int) (f : Fmt) (r : Rnd) (m : Mag) (_ _ _ : Ex) (_ : Flags8),
      m.d ≠ 0 ∧ Claims.ratOf (f.quantise r neg m) ≤ Claims.ratOf f.maxFinite) ∧
    (∃ (_ : Nat) (_ neg : Bool) (_ : W32) (_ : Int) (f : Fmt) (r : Rnd) (m : Mag) (_ _ _ : Ex) (_ : Flags8),
      m.d ≠ 0 ∧ Claims.ratOf f.maxFinite < Claims.ratOf (f.quantise r neg m)) :=
  ⟨meets12 (atLaneValues 0 0x80FF7F81 (-32769) true .rne) (by decide +kernel),
   meets12 (atLaneValues 5 0x80FF7F81 (-32769) true .rne) (by decide +kernel),
   meets12 (atLaneValues 8 0x80FF7F81 (-32769) true .rne) (by decide +kernel),
   meets12 (atLaneValues 5 0x80FF7F81 (-32769) true .rne) (by decide +kernel),
   meets12 (atLaneValues 0 0x80FF7F81 (-32769) true .rne) (by decide +kernel),
   meets12 (atLaneValues 0 0x80FF7F81 (-32769) true .rne) (by decide +kernel),
   meets12 (atLaneValues 0 0x80FF7F81 (-32769) true .rne) (by decide +kernel),
   meets12 (atLaneValues 0 0x80FF7F81 (-32769) true .rne) (by decide +kernel),
   meets12 (atLaneValues 0 0x80FF7F81 (-32769) true .rne) (by decide +kernel),
   meets12 (atLaneValues2 .f32 .rne true true (⟨1, 1, 200⟩)) (by decide +kernel)⟩

/-- The magnitude of a finite exact value. -/
def magOf : Ex → Mag
  | .num _ m => m
  | _ => .zero

def atConversionValues (u : Nat) (t : Nat) (r : Rnd) (sat : Bool) (x : W32) : Nat × Nat × Rnd × Bool × Bool × W32 × W32 × W32 × Mag × Nat × Fmt × Nat × Ex :=
  let e := exElem u x
  (u, t, r, sat, e.neg, x, 0x3F800000, 0x3F800001, magOf e, 3, .f16, 0x3E00, .inf true)

def atConversionValues2 (f : Fmt) (r : Rnd) (bits : Nat) (i : Nat) : Nat × Nat × Rnd × Bool × Bool × W32 × W32 × W32 × Mag × Nat × Fmt × Nat × Ex :=
  let e := f.value bits
  (0, 5, r, true, e.neg, 0x45, 0x58, 3, magOf e, i, f, bits, e)

def atConversionValues3 (t : Nat) (x : W32) (y : W32) (a : Ex) (sat : Bool) : Nat × Nat × Rnd × Bool × Bool × W32 × W32 × W32 × Mag × Nat × Fmt × Nat × Ex :=
  (0, t, .rne, sat, true, x, y, 0x80000005, .zero, 2, .e4m3, 5, a)

/-- What `Obligations.ConversionValues` assumes, clause by clause, can be met. -/
theorem witness_ConversionValues :
    (∃ (u t : Nat) (_ : Rnd) (_ _ : Bool) (_ _ _ : W32) (_ : Mag) (_ : Nat) (_ : Fmt) (_ : Nat) (_ : Ex),
      u < 5 ∧ t < 5 ∧ u ≠ t) ∧
    (∃ (_ t : Nat) (_ : Rnd) (_ _ : Bool) (x _ _ : W32) (_ : Mag) (_ : Nat) (_ : Fmt) (_ : Nat) (_ : Ex),
      t < 5 ∧ (exElem t x).isNaN = true) ∧
    (∃ (_ t : Nat) (_ : Rnd) (_ _ : Bool) (x _ _ : W32) (_ : Mag) (_ : Nat) (_ : Fmt) (_ : Nat) (_ : Ex),
      t < 5 ∧ (exElem t x).isNaN = false) ∧
    (∃ (u t : Nat) (_ : Rnd) (_ _ : Bool) (_ _ _ : W32) (_ : Mag) (_ : Nat) (_ : Fmt) (_ : Nat) (_ : Ex),
      u < 5 ∧ 5 ≤ t ∧ t < 11) ∧
    (∃ (u t : Nat) (_ : Rnd) (_ _ : Bool) (_ _ _ : W32) (_ : Mag) (_ : Nat) (_ : Fmt) (_ : Nat) (_ : Ex),
      5 ≤ u ∧ u < 11 ∧ t < 5) ∧
    (∃ (u t : Nat) (_ : Rnd) (_ _ : Bool) (_ _ _ : W32) (_ : Mag) (_ : Nat) (_ : Fmt) (_ : Nat) (_ : Ex),
      5 ≤ u ∧ u < 11 ∧ 5 ≤ t ∧ t < 11) ∧
    (∃ (_ t : Nat) (_ : Rnd) (_ _ : Bool) (_ _ _ : W32) (_ : Mag) (_ : Nat) (_ : Fmt) (_ : Nat) (_ : Ex),
      (t = 7 ∨ t = 10)) ∧
    (∃ (_ _ : Nat) (_ : Rnd) (_ _ : Bool) (_ _ _ : W32) (_ : Mag) (_ : Nat) (_ : Fmt) (_ : Nat) (a : Ex),
      a.isNaN = true) ∧
    (∃ (_ _ : Nat) (_ : Rnd) (_ _ : Bool) (_ _ _ : W32) (_ : Mag) (_ : Nat) (_ : Fmt) (_ : Nat) (a : Ex),
      a.isZero = true) ∧
    (∃ (_ _ : Nat) (_ : Rnd) (_ _ : Bool) (_ _ _ : W32) (_ : Mag) (_ : Nat) (_ : Fmt) (_ : Nat) (a : Ex),
      a.isNaN = false ∧ a.isZero = false) ∧
    (∃ (_ t : Nat) (_ : Rnd) (_ _ : Bool) (_ y _ : W32) (_ : Mag) (_ : Nat) (_ : Fmt) (_ : Nat) (_ : Ex),
      3 ≤ t ∧ t < 11 ∧ (f32Val y).isNaN = true) ∧
    (∃ (_ t : Nat) (_ : Rnd) (_ _ : Bool) (_ y _ : W32) (_ : Mag) (_ : Nat) (_ : Fmt) (_ : Nat) (_ : Ex),
      3 ≤ t ∧ t < 11 ∧ (f32Val y).isNaN = false) ∧
    (∃ (_ _ : Nat) (_ : Rnd) (_ _ : Bool) (_ _ _ : W32) (_ : Mag) (i : Nat) (_ : Fmt) (_ : Nat) (_ : Ex),
      i < 5) ∧
    (∃ (_ _ : Nat) (_ : Rnd) (_ _ : Bool) (_ _ _ : W32) (_ : Mag) (_ : Nat) (f : Fmt) (bits : Nat) (_ : Ex),
      f.value bits = .nan) ∧
    (∃ (_ _ : Nat) (_ : Rnd) (_ neg : Bool) (_ _ _ : W32) (m : Mag) (_ : Nat) (f : Fmt) (bits : Nat) (_ : Ex),
      f.value bits = .num neg m ∧ m.n = 0) ∧
    (∃ (_ _ : Nat) (_ : Rnd) (_ neg : Bool) (_ _ _ : W32) (_ : Mag) (_ : Nat) (f : Fmt) (bits : Nat) (_ : Ex),
      f.value bits = .inf neg) ∧
    (∃ (_ _ : Nat) (_ : Rnd) (_ neg : Bool) (_ _ _ : W32) (m : Mag) (_ : Nat) (f : Fmt) (bits : Nat) (_ : Ex),
      f.value bits = .num neg m ∧ m.n ≠ 0) :=
  ⟨meets13 (atConversionValues 0 1 .rne true 0x43EB0000) (by decide +kernel),
   meets13 (atConversionValues 0 0 .rne true 0x7FC00001) (by decide +kernel),
   meets13 (atConversionValues 0 0 .rne true 0x43EB0000) (by decide +kernel),
   meets13 (atConversionValues 0 5 .rne true 0x43EB0000) (by decide +kernel),
   meets13 (atConversionValues 5 0 .rne true 0x43EB0000) (by decide +kernel),
   meets13 (atConversionValues 5 5 .rne true 0x43EB0000) (by decide +kernel),
   meets13 (atConversionValues 0 7 .rne true 0x43EB0000) (by decide +kernel),
   meets13 (atConversionValues2 .bf16 .rne 0x7FC0 0) (by decide +kernel),
   meets13 (atConversionValues2 .f32 .rne 0 0) (by decide +kernel),
   meets13 (atConversionValues 0 0 .rne true 0x43EB0000) (by decide +kernel),
   meets13 (atConversionValues3 3 0x43EB0000 0x7FC00001 .nan true) (by decide +kernel),
   meets13 (atConversionValues 0 3 .rne true 0x43EB0000) (by decide +kernel),
   meets13 (atConversionValues 0 0 .rne true 0x43EB0000) (by decide +kernel),
   meets13 (atConversionValues2 .bf16 .rne 0x7FC0 0) (by decide +kernel),
   meets13 (atConversionValues2 .f32 .rne 0 0) (by decide +kernel),
   meets13 (atConversionValues2 .f32 .rne 0xFF800000 0) (by decide +kernel),
   meets13 (atConversionValues2 .f32 .rne 0x80 0) (by decide +kernel)⟩

/-- A state whose memory holds an atomic's location, and the atomic's request. -/
def atoming (k : ReqKind) (ps : List Piece) (d : Dest) (x : Nat) : State :=
  let q : Req := { (default : Req) with serial := 7, slot := .a, ctx := .primary, path := .ls, kind := k, pieces := ps, dest := d }
  { (base.writeNat 0x100000 8 x) with reqs := [q] }

def atAtomicValues (k : ReqKind) (len : Nat) (x : Nat) (dn : Bool) (d : Dest) (w : Nat) : Nat × BitVec w × BitVec w × W32 × W32 × State × Nat × Nat × Nat × Nat × Nat × Req × Piece × BitVec 16 × BitVec 16 × Bool :=
  let ps : List Piece := [{ addr := span 0x100000 len, data := 0xFFFFFFF5, data2 := 0x123456789ABCDEF0, done := dn, old := BitVec.ofNat 64 x, lane := 5 }]
  let ps := if dn then ps ++ (match d with | .v _ _ => [{ addr := span 0x100020 2, done := true, old := 0x8001, lane := 127 }] | _ => []) else ps
  let s := atoming k ps d x
  let e : Nat × Nat := match d with | .v n f => (n, f) | .pair _ n => (n, 0) | _ => (0, 0)
  let c : BitVec 16 × BitVec 16 := match k with | .aclaim a b => (a, b) | _ => (0, 0)
  let o : Nat := match k with | .amo o => o | _ => 0
  (w, BitVec.ofNat w x, BitVec.ofNat w (x / 3 + 128), BitVec.ofNat 32 x, 0x3F800000, s, 7, 0, e.1, e.2, o, s.reqs.headD default, ps.headD default, c.1, c.2, (d == .pair true 0))

/-- What `Obligations.AtomicValues` assumes, clause by clause, can be met. -/
theorem witness_AtomicValues :
    (∃ (w : Nat) (_ _ : BitVec w) (_ _ : W32) (_ : State) (_ _ _ _ _ : Nat) (_ : Req) (_ : Piece) (_ _ : BitVec 16) (_ : Bool),
      0 < w) ∧
    (∃ (w : Nat) (_ _ : BitVec w) (_ _ : W32) (s : State) (n k _ _ _ : Nat) (q : Req) (p : Piece) (_ _ : BitVec 16) (_ : Bool),
      Claims.atHome s n q k p = true ∧ q.kind = .acas ∧ p.addr.Nodup ∧ (p.addr.length = 4 ∨ p.addr.length = 8) ∧
      s.readList p.addr = p.data.toNat % 2 ^ (8 * p.addr.length)) ∧
    (∃ (w : Nat) (_ _ : BitVec w) (_ _ : W32) (s : State) (n k _ _ _ : Nat) (q : Req) (p : Piece) (_ _ : BitVec 16) (_ : Bool),
      Claims.atHome s n q k p = true ∧ q.kind = .acas ∧ s.readList p.addr ≠ p.data.toNat % 2 ^ (8 * p.addr.length)) ∧
    (∃ (w : Nat) (_ _ : BitVec w) (_ _ : W32) (s : State) (n k _ _ _ : Nat) (q : Req) (p : Piece) (cmin div : BitVec 16) (_ : Bool),
      Claims.atHome s n q k p = true ∧ q.kind = .aclaim cmin div ∧ p.addr.Nodup ∧ p.addr.length = 8) ∧
    (∃ (w : Nat) (_ _ : BitVec w) (_ _ : W32) (s : State) (n _ d _ _ : Nat) (q : Req) (p : Piece) (cmin div : BitVec 16) (m : Bool),
      s.req? n = some q ∧ q.kind = .aclaim cmin div ∧ q.pieces = [p] ∧ p.done = true ∧ q.dest = .pair m d) ∧
    (∃ (w : Nat) (_ _ : BitVec w) (_ _ : W32) (s : State) (n _ d fmt _ : Nat) (q : Req) (_ : Piece) (_ _ : BitVec 16) (_ : Bool),
      s.req? n = some q ∧ q.kind = .load ∧ q.dest = .v d fmt ∧ Claims.readAll q = true) ∧
    (∃ (w : Nat) (_ _ : BitVec w) (_ _ : W32) (s : State) (n _ d fmt op : Nat) (q : Req) (_ : Piece) (_ _ : BitVec 16) (_ : Bool),
      s.req? n = some q ∧ q.kind = .amo op ∧ q.dest = .v d fmt ∧ Claims.readAll q = true) :=
  ⟨⟨8, meets15 (atAtomicValues .acas 4 0x8899AABBCCDDEEFF false .none 8).2 (by decide +kernel)⟩,
   ⟨8, meets15 (atAtomicValues .acas 4 0xFFFFFFF5 false .none 8).2 (by decide +kernel)⟩,
   ⟨8, meets15 (atAtomicValues .acas 4 0x8899AABBCCDDEEFF false .none 8).2 (by decide +kernel)⟩,
   ⟨8, meets15 (atAtomicValues (.aclaim 3 4) 8 0x8899AABBCCDDEEFF false .none 8).2 (by decide +kernel)⟩,
   ⟨8, meets15 (atAtomicValues (.aclaim 3 4) 4 0x8899AABBCCDDEEFF true (.pair false 4) 8).2 (by decide +kernel)⟩,
   ⟨8, meets15 (atAtomicValues .load 4 0x8899AABBCCDDEEFF true (.v 3 6) 8).2 (by decide +kernel)⟩,
   ⟨8, meets15 (atAtomicValues (.amo 4) 4 0x8899AABBCCDDEEFF true (.v 3 6) 8).2 (by decide +kernel)⟩⟩

/-- A tile whose row 2 holds pairs, the others none. -/
def tiling (ranked : Bool) (k : Nat) (full : Bool) : Tile :=
  { ranked := ranked, k := k, sum := [(129, 0xC0600000), (130, 0x7FC00001), (4095, 300)]
    rows := [(2, [(0x40000000, 7), (0, 1), (0, 9)].take (if full then k else 1))], reject := if full then 0xFFFFFFFF else 4 }

def atTileValues (k : Nat) (fl : Bool) (p : W32 × W32) (q : W32 × W32) (i : Nat) (n : Nat) : Tile × Nat × Nat × Nat × (W32 × W32) × (W32 × W32) × (List (W32 × W32)) × (List (Nat × List (W32 × W32))) × (List (Ex × Ex)) × Bool × Bool × Ex × Engine × XSums × W32 × Nat × Nat × Int :=
  let t := tiling true k fl
  (t, i, 2, n, p, q, [q], [(2, [p])], [], false, false, .num false ⟨3, 1, -4⟩, {}, { (default : XSums) with fp := true, subs := 2 }, 0xC0600000, 3, 1, 5)

def atTileValues2 (a : Ex) (b : Ex) (c : Ex) (d : Ex) (neg : Bool) : Tile × Nat × Nat × Nat × (W32 × W32) × (W32 × W32) × (List (W32 × W32)) × (List (Nat × List (W32 × W32))) × (List (Ex × Ex)) × Bool × Bool × Ex × Engine × XSums × W32 × Nat × Nat × Int :=
  (tiling true 3 false, 2, 5, 2, (0x3F800000, 5), (0xBF800000, 6), [(0xBF800000, 6)], [(5, [(0x3F800000, 5)])], [(a, b), (c, d)], neg, false, b, {}, { (default : XSums) with fp := true, subs := 2 }, 0xC0600000, 3, 1, 5)

def atTileValues3 (fp : Bool) (neg : Bool) (zero : Bool) (rv : W32) (f : Nat) (rk : Bool) (j : Nat) : Tile × Nat × Nat × Nat × (W32 × W32) × (W32 × W32) × (List (W32 × W32)) × (List (Nat × List (W32 × W32))) × (List (Ex × Ex)) × Bool × Bool × Ex × Engine × XSums × W32 × Nat × Nat × Int :=
  let x : XSums := { fp := fp, subs := 2, vals := [(8 * 64 + 4, if fp then .num neg ⟨5, 2, 0⟩ else .num neg ⟨0x7FFFFFFF, 1, 0⟩), (8 * 64 + 5, .inf neg)] }
  let e : Engine := { (default : Engine) with rs := [(9, 0x40400000), (8, rv)], cs := [(1, 0x3F000000)] }
  let t := tiling rk 3 false
  (t, 2, j, 2, (0x3F800000, 5), (0xBF800000, 6), [(0xBF800000, 6)], [(j, [(0x3F800000, 5)])], [], neg, zero, .num false ⟨3, 1, -4⟩, e, x, 0xC0600000, f, (f % 12), (if neg then -0x7FFFFFFF else 0x7FFFFFFF))

def atTileValues4 (f : Nat) (g : Nat) (n : Nat) (w : W32) : Tile × Nat × Nat × Nat × (W32 × W32) × (W32 × W32) × (List (W32 × W32)) × (List (Nat × List (W32 × W32))) × (List (Ex × Ex)) × Bool × Bool × Ex × Engine × XSums × W32 × Nat × Nat × Int :=
  (tiling true 3 false, 2, 5, n, (0x3F800000, 5), (0xBF800000, 6), [(0xBF800000, 6)], [(5, [(0x3F800000, 5)])], [], false, false, .num false ⟨3, 1, -4⟩, {}, { (default : XSums) with fp := true, subs := 2 }, w, f, g, 5)

/-- What `Obligations.TileValues` assumes, clause by clause, can be met. -/
theorem witness_TileValues :
    (∃ (_ : Tile) (_ _ _ : Nat) (p _ : W32 × W32) (_ : List (W32 × W32)) (_ : List (Nat × List (W32 × W32))) (_ : List (Ex × Ex)) (_ _ : Bool) (_ : Ex) (_ : Engine) (_ : XSums) (_ : W32) (_ _ : Nat) (_ : Int),
      (f32Val p.1).isNaN = true) ∧
    (∃ (t : Tile) (i _ _ : Nat) (p _ : W32 × W32) (_ : List (W32 × W32)) (_ : List (Nat × List (W32 × W32))) (_ : List (Ex × Ex)) (_ _ : Bool) (_ : Ex) (_ : Engine) (_ : XSums) (_ : W32) (_ _ : Nat) (_ : Int),
      (f32Val p.1).isNaN = false ∧ Claims.normalRow (t.rows.get [] i) = true) ∧
    (∃ (t : Tile) (i _ _ : Nat) (_ _ : W32 × W32) (_ : List (W32 × W32)) (_ : List (Nat × List (W32 × W32))) (_ : List (Ex × Ex)) (_ _ : Bool) (_ : Ex) (_ : Engine) (_ : XSums) (_ : W32) (_ _ : Nat) (_ : Int),
      Claims.normalAt t i = true) ∧
    (∃ (t : Tile) (i j _ : Nat) (_ _ : W32 × W32) (_ : List (W32 × W32)) (_ : List (Nat × List (W32 × W32))) (_ : List (Ex × Ex)) (_ _ : Bool) (_ : Ex) (_ : Engine) (_ : XSums) (_ : W32) (_ _ : Nat) (_ : Int),
      Claims.normalAt t i = true ∧ Claims.normalAt t j = true) ∧
    (∃ (t : Tile) (_ _ _ : Nat) (_ _ : W32 × W32) (_ : List (W32 × W32)) (_ : List (Nat × List (W32 × W32))) (_ : List (Ex × Ex)) (_ _ : Bool) (_ : Ex) (_ : Engine) (_ : XSums) (_ : W32) (_ _ : Nat) (_ : Int),
      (List.range 64).all (fun r => Claims.normalAt t r) = true) ∧
    (∃ (_ : Tile) (_ _ _ : Nat) (p _ : W32 × W32) (_ : List (W32 × W32)) (_ : List (Nat × List (W32 × W32))) (ps : List (Ex × Ex)) (_ _ : Bool) (_ : Ex) (_ : Engine) (_ : XSums) (_ : W32) (_ _ : Nat) (_ : Int),
      (∀ p ∈ ps, Claims.finite p.1 = true ∧ Claims.finite p.2 = true)) ∧
    (∃ (_ : Tile) (_ _ _ : Nat) (p _ : W32 × W32) (_ : List (W32 × W32)) (_ : List (Nat × List (W32 × W32))) (ps : List (Ex × Ex)) (_ _ : Bool) (_ : Ex) (_ : Engine) (_ : XSums) (_ : W32) (_ _ : Nat) (_ : Int),
      (∃ p ∈ ps, p.1.isNaN = true ∨ p.2.isNaN = true)) ∧
    (∃ (_ : Tile) (_ _ _ : Nat) (p _ : W32 × W32) (_ : List (W32 × W32)) (_ : List (Nat × List (W32 × W32))) (ps : List (Ex × Ex)) (_ _ : Bool) (_ : Ex) (_ : Engine) (_ : XSums) (_ : W32) (_ _ : Nat) (_ : Int),
      (∃ p ∈ ps, (p.1.isInf = true ∧ p.2.isZero = true) ∨ (p.1.isZero = true ∧ p.2.isInf = true))) ∧
    (∃ (_ : Tile) (_ _ _ : Nat) (p _ : W32 × W32) (_ : List (W32 × W32)) (_ : List (Nat × List (W32 × W32))) (ps : List (Ex × Ex)) (_ _ : Bool) (_ : Ex) (_ : Engine) (_ : XSums) (_ : W32) (_ _ : Nat) (_ : Int),
      (∃ p ∈ ps, (Ex.mul p.1 p.2).1 = .inf true) ∧ (∃ p ∈ ps, (Ex.mul p.1 p.2).1 = .inf false)) ∧
    (∃ (_ : Tile) (_ _ _ : Nat) (p _ : W32 × W32) (_ : List (W32 × W32)) (_ : List (Nat × List (W32 × W32))) (ps : List (Ex × Ex)) (neg _ : Bool) (_ : Ex) (_ : Engine) (_ : XSums) (_ : W32) (_ _ : Nat) (_ : Int),
      (∃ p ∈ ps, (Ex.mul p.1 p.2).1 = .inf neg) ∧ (∀ p ∈ ps, (Ex.mul p.1 p.2).1 ≠ .inf !neg ∧ (Ex.mul p.1 p.2).1 ≠ .nan)) ∧
    (∃ (_ : Tile) (_ _ _ : Nat) (_ _ : W32 × W32) (_ : List (W32 × W32)) (_ : List (Nat × List (W32 × W32))) (_ : List (Ex × Ex)) (_ _ : Bool) (b : Ex) (_ : Engine) (_ : XSums) (_ : W32) (_ _ : Nat) (_ : Int),
      Claims.finite b = true ∧ Claims.valueOf b ≠ 0) ∧
    (∃ (_ : Tile) (_ _ _ : Nat) (_ _ : W32 × W32) (_ : List (W32 × W32)) (_ : List (Nat × List (W32 × W32))) (_ : List (Ex × Ex)) (_ _ : Bool) (_ : Ex) (_ : Engine) (x : XSums) (_ : W32) (_ _ : Nat) (_ : Int),
      x.fp = true) ∧
    (∃ (_ : Tile) (i j _ : Nat) (_ _ : W32 × W32) (_ : List (W32 × W32)) (_ : List (Nat × List (W32 × W32))) (_ : List (Ex × Ex)) (_ _ : Bool) (_ : Ex) (_ : Engine) (x : XSums) (_ : W32) (_ _ : Nat) (y : Int),
      x.fp = false ∧ Claims.finite (x.vals.get Ex.zero ((64 * i + j) * 4)) = true ∧
      Claims.valueOf (x.vals.get Ex.zero ((64 * i + j) * 4)) = y) ∧
    (∃ (t : Tile) (i j _ : Nat) (_ _ : W32 × W32) (_ : List (W32 × W32)) (_ : List (Nat × List (W32 × W32))) (_ : List (Ex × Ex)) (_ _ : Bool) (_ : Ex) (_ : Engine) (_ : XSums) (_ : W32) (_ _ : Nat) (_ : Int),
      t.ranked = false ∧ i < 64 ∧ j < 64) ∧
    (∃ (t : Tile) (i j _ : Nat) (_ _ : W32 × W32) (_ : List (W32 × W32)) (_ : List (Nat × List (W32 × W32))) (_ : List (Ex × Ex)) (_ _ : Bool) (_ : Ex) (_ : Engine) (_ : XSums) (_ : W32) (_ _ : Nat) (_ : Int),
      t.ranked = true ∧ i < 64 ∧ j < t.k) :=
  ⟨meets18 (atTileValues 0 true ((0x7FC00001, 0)) ((0x3F800000, 0)) 2 2) (by decide +kernel),
   meets18 (atTileValues 0 true ((0x3F800000, 0)) ((0x3F800000, 0)) 2 2) (by decide +kernel),
   meets18 (atTileValues 0 true ((0x3F800000, 0)) ((0x3F800000, 0)) 2 2) (by decide +kernel),
   meets18 (atTileValues 0 true ((0x3F800000, 0)) ((0x3F800000, 0)) 2 2) (by decide +kernel),
   meets18 (atTileValues 0 true ((0x3F800000, 0)) ((0x3F800000, 0)) 2 2) (by decide +kernel),
   meets18 (atTileValues 0 true ((0x3F800000, 0)) ((0x3F800000, 0)) 2 2) (by decide +kernel),
   meets18 (atTileValues2 .nan .nan .nan .nan true) (by decide +kernel),
   meets18 (atTileValues2 .nan .nan (.inf true) (.num true ⟨0, 1, 0⟩) true) (by decide +kernel),
   meets18 (atTileValues2 (.inf true) (.inf true) (.inf true) (.inf false) true) (by decide +kernel),
   meets18 (atTileValues2 (.inf true) (.inf true) (.inf true) (.inf true) false) (by decide +kernel),
   meets18 (atTileValues 0 true ((0x3F800000, 0)) ((0x3F800000, 0)) 2 2) (by decide +kernel),
   meets18 (atTileValues 0 true ((0x3F800000, 0)) ((0x3F800000, 0)) 2 2) (by decide +kernel),
   meets18 (atTileValues3 false true true 0x3F000001 0 true 1) (by decide +kernel),
   meets18 (atTileValues3 true true true 0x3F000001 0 false 0) (by decide +kernel),
   meets18 (atTileValues 3 true ((0x3F800000, 0)) ((0x3F800000, 0)) 2 2) (by decide +kernel)⟩

/-- A halted core with something in each of its views. -/
def viewing (rk : Bool) (k : Nat) : State :=
  let x : Xfer := { (default : Xfer) with ins := .sendm hdr default 77, target := 0x1234, xa := 5, xb := 6, pc := 0x10020, parts := [0, 1], sb := { (default : Stream) with format := 0 } }
  let s := (base (k == 3)).modCore 0 (fun c => { c with halted := true, act := .a })
  let s := s.modRc (fun r => { r with
    pend := [(.s .primary false 5, .req 1), (.p .primary false 3, .clk), (.v 2 7, .req 2), (.s .h1 false 4, .req 3), (.v 7 31, .req 4)]
    xfers := [(3, some x)], faults := [{ code := 0x20, va := 0x123 }, { code := 3 }], arrivals := [{ handler := 0x40, addr := 9, len := 8, src := 7 }]
    primary := { r.primary with shadow := [{ count := 5, w := .s (k == 3) 30 77 }, { count := 6, w := .stField 3 2 8 }, { count := 9, w := .v 3 7 [(0, 5), (3, 9)] }] }
    h1 := { r.h1 with s := [(2, 9)], shadow := [{ count := 2, w := .vm 1 2 0xFFFF 0x8001 }] }, h2 := { r.h2 with ks := [(3, 4)], shadow := [{ count := 1, w := .mp 3 6 }, { count := 1, w := .p true 2 true }, { count := 1, w := .sb 5 2 33 }] }
    eng := { r.eng with stopped := k == 1, call := if k == 2 then some call0 else none, pos := 9, m := [(0, 5), (15, 9)], loops := [(1, 5, 9), (2, 4, 3)]
                        queue := [.call 3 1 4 [(2, 99)] ⟨0x40, 7⟩ 5, .clr 1 ⟨0x44, 8⟩], tiles := [(2, { ranked := rk, k := 3, sum := [(129, 7), (130, 8)], rows := [(2, [(4, 5), (6, 7)])], reject := 3 })] } })
  { s with queues := [(1, { state := 1, part := 1, rptr := 5 }), (2, { state := 1, part := 2, rptr := 5 })], patina := [(3, 0x0A1B003)], parts := [(1, { cfg := 0x8000000000000001, tvec := 0x80000000 })] }

def atDebugViews (rk : Bool) (q : Nat) (n : Nat) (k : Nat) (i : Nat) (t : Nat) (j : Nat) (w : Nat) : State × CoreId × Nat × Nat × Nat × Nat × Nat × Nat × (W32 × W32) × GroupId :=
  let s := viewing rk q
  (s, 0, n, k, i, j, t, w, (4, 5), 3)

def atDebugViews2 (q : Nat) (n : Nat) (k : Nat) (i : Nat) (w : Nat) : State × CoreId × Nat × Nat × Nat × Nat × Nat × Nat × (W32 × W32) × GroupId :=
  let s := viewing true q
  (s, 0, n, k, i, 0, 2, w, (6, 7), 5)

/-- What `Obligations.ContextAndDebugEvents` assumes, clause by clause, can be met (its part on DebugViews). -/
theorem witness_DebugViews :
    (∃ (_ : State) (_ : CoreId) (n k _ _ _ _ : Nat) (_ : W32 × W32) (_ : GroupId),
      n < 8 ∧ k < 4) ∧
    (∃ (_ : State) (_ : CoreId) (_ _ i _ _ w : Nat) (_ : W32 × W32) (_ : GroupId),
      i < 64 ∧ w < 10) ∧
    (∃ (_ : State) (_ : CoreId) (_ k _ _ _ _ : Nat) (_ : W32 × W32) (_ : GroupId),
      k < 3) ∧
    (∃ (_ : State) (_ : CoreId) (n k _ _ _ _ : Nat) (_ : W32 × W32) (_ : GroupId),
      n < 8 ∧ k < 32) ∧
    (∃ (_ : State) (_ : CoreId) (_ _ i j t _ : Nat) (_ : W32 × W32) (_ : GroupId),
      t < 8 ∧ i < 64 ∧ j < 32) ∧
    (∃ (s : State) (c : CoreId) (_ _ i _ _ _ : Nat) (_ : W32 × W32) (_ : GroupId),
      i < 4 ∧ ((Claims.active s c).eng.queue[i]?).isSome = true) ∧
    (∃ (s : State) (c : CoreId) (_ k i _ _ _ : Nat) (_ : W32 × W32) (_ : GroupId),
      i < 4 ∧ (Claims.active s c).eng.queue.length ≤ i ∧ k < 9) ∧
    (∃ (s : State) (c : CoreId) (_ _ i _ _ _ : Nat) (_ : W32 × W32) (_ : GroupId),
      (∀ e ∈ ((Claims.active s c).eng.queue[i]?).toList, i < 4)) ∧
    (∃ (_ : State) (_ : CoreId) (_ _ i _ _ w : Nat) (_ : W32 × W32) (_ : GroupId),
      i < 16 ∧ w < 8) ∧
    (∃ (_ : State) (_ : CoreId) (_ _ i _ _ w : Nat) (_ : W32 × W32) (_ : GroupId),
      i < 17 ∧ w < 4) ∧
    (∃ (_ : State) (_ : CoreId) (_ _ i _ _ _ : Nat) (_ : W32 × W32) (_ : GroupId),
      i < 16) ∧
    (∃ (_ : State) (_ : CoreId) (_ _ i _ _ w : Nat) (_ : W32 × W32) (_ : GroupId),
      i < 1024 ∧ w < 4) ∧
    (∃ (s : State) (c : CoreId) (_ _ i _ _ _ : Nat) (_ : W32 × W32) (g : GroupId),
      i < 4 ∧ groupSlot (Claims.active s c).groupSet i = some g) ∧
    (∃ (s : State) (c : CoreId) (_ _ i _ _ w : Nat) (_ : W32 × W32) (_ : GroupId),
      i < 4 ∧ groupSlot (Claims.active s c).groupSet i = none ∧ w < 16) ∧
    (∃ (_ : State) (_ : CoreId) (n _ _ _ _ _ : Nat) (_ : W32 × W32) (_ : GroupId),
      n < 2 ^ 40) :=
  ⟨meets10 (atDebugViews true 0 0 0 0 2 0 0) (by decide +kernel),
   meets10 (atDebugViews true 0 0 0 0 2 0 0) (by decide +kernel),
   meets10 (atDebugViews true 0 0 0 0 2 0 0) (by decide +kernel),
   meets10 (atDebugViews true 0 0 0 0 2 0 0) (by decide +kernel),
   meets10 (atDebugViews true 0 0 0 0 2 0 0) (by decide +kernel),
   meets10 (atDebugViews true 0 0 0 0 2 0 0) (by decide +kernel),
   meets10 (atDebugViews true 0 0 0 2 2 0 0) (by decide +kernel),
   meets10 (atDebugViews true 0 0 0 0 2 0 0) (by decide +kernel),
   meets10 (atDebugViews true 0 0 0 0 2 0 0) (by decide +kernel),
   meets10 (atDebugViews true 0 0 0 0 2 0 0) (by decide +kernel),
   meets10 (atDebugViews true 0 0 0 0 2 0 0) (by decide +kernel),
   meets10 (atDebugViews true 0 0 0 0 2 0 0) (by decide +kernel),
   meets10 (atDebugViews true 0 0 0 0 2 0 0) (by decide +kernel),
   meets10 (atDebugViews true 0 0 0 2 2 0 0) (by decide +kernel),
   meets10 (atDebugViews true 0 0 0 0 2 0 0) (by decide +kernel)⟩

/-- Reset with a word where step fetches its next instruction; the reads of s3 wait where `wait`. -/
noncomputable def fetching (w : Nat) (wait : Bool := false) : State :=
  let s := State.reset.withFetchWord 32 w
  if wait then s.modRes 0 .a (fun r => { r with pend := [(.s .primary false 3, .req 7)] }) else s

/-- The state that the one instruction at the pc of core 0 issues in, and what it leaves. -/
noncomputable def issued (s : State) (i : Instr) : State :=
  let v := Claims.issuing ((Claims.turned s).wakeUp 0) 0 0 i
  Claims.issuing ((Claims.turned s).wakeUp 0) 0 (v.cur.gpc + 4) i
noncomputable def ran (s : State) (i : Instr) : State :=
  let v := issued s i
  nextOf (exec i ((v.enterGroup v.cur.next [i]).atInstr ((v.enterGroup v.cur.next [i]).rc.warnSt) (Claims.single v i))) s

/-- What StepRunsDecoded asks of the turn of a core. -/
def Runs (s t : State) (c : CoreId) (i : Instr) (ws : List W32) (n : Nat) (next : VAddr) : Prop :=
  let a := (Claims.turned s).wakeUp c
  let v := Claims.issuing a c next i
  s.turns.head? = some (.core c) ∧ Claims.quiet a c = true ∧ a.mayIssue c = true ∧ Claims.primaryAlone a c = true ∧
  v.cx.rep = none ∧ v.cur.gpc.toNat % 4 = 0 ∧ next = v.cur.gpc + BitVec.ofNat 48 (4 * n) ∧
  v.fetchWords n v.cur.gpc = .ok ws ∧ lengthOf (ws.headD 0) = some n ∧ (ws.headD 0).getLsbD 2 = true ∧
  decode ws = .ok i [] ∧ v.groupTrap [Claims.single v i] false = none ∧
  exec i ((v.enterGroup next [i]).atInstr ((v.enterGroup next [i]).rc.warnSt) (Claims.single v i)) = .next t

theorem runs_of (s : State) (i : Instr) (w : W32)
    (h : s.turns.head? = some (.core 0) ∧ Claims.quiet ((Claims.turned s).wakeUp 0) 0 = true ∧ ((Claims.turned s).wakeUp 0).mayIssue 0 = true ∧
      Claims.primaryAlone ((Claims.turned s).wakeUp 0) 0 = true ∧ (issued s i).cx.rep = none ∧ (issued s i).cur.gpc.toNat % 4 = 0 ∧
      (issued s i).cur.next = (issued s i).cur.gpc + 4)
    (hf : fetchedWords ((issued s i).fetchWords 1 (issued s i).cur.gpc) = some [w])
    (hl : lengthOf w = some 1 ∧ w.getLsbD 2 = true) (hd : decode [w] = .ok i [])
    (ht : (issued s i).groupTrap [Claims.single (issued s i) i] false = none)
    (hx : isNext (exec i (((issued s i).enterGroup (issued s i).cur.next [i]).atInstr ((issued s i).enterGroup (issued s i).cur.next [i]).rc.warnSt (Claims.single (issued s i) i))) = true) :
    Runs s (ran s i) 0 i [w] 1 (issued s i).cur.next := by
  obtain ⟨h1, h2, h3, h4, h5, h6, h7⟩ := h
  exact ⟨h1, h2, h3, h4, h5, h6, h7, fetched_of hf, hl.1, hl.2, hd, ht, next_of s hx⟩

/-- What `Obligations.StepRunsDecoded` assumes can be met. -/
theorem witness_StepRunsDecoded :
    (∃ s t c i ws n next, Runs s t c i ws n next ∧ t.mark = .none) ∧
    (∃ s t c i ws n next, Runs s t c i ws n next ∧ ∃ k ∈ [({ cause := 0x0A } : Trap)], t.mark = .trapped k) ∧
    (∃ s t c i ws n next, Runs s t c i ws n next ∧ ∃ k ∈ [Hold.plain], t.mark = .held k) :=
  ⟨⟨fetching 0x12BC0004, ran (fetching 0x12BC0004) (.add hdr ⟨30, 10, 2⟩), 0, .add hdr ⟨30, 10, 2⟩, [0x12BC0004], 1, _,
    runs_of _ _ _ (by decide +kernel) (by decide +kernel) (by decide +kernel) (by decide +kernel) (by decide +kernel) (by decide +kernel),
    by decide +kernel⟩,
   ⟨fetching 0x1834, ran (fetching 0x1834) (.ebreak hdr default), 0, .ebreak hdr default, [0x1834], 1, _,
    runs_of _ _ _ (by decide +kernel) (by decide +kernel) (by decide +kernel) (by decide +kernel) (by decide +kernel) (by decide +kernel),
    by decide +kernel⟩,
   ⟨fetching 0x18C60004 true, ran (fetching 0x18C60004 true) (.add hdr ⟨3, 3, 3⟩), 0, .add hdr ⟨3, 3, 3⟩, [0x18C60004], 1, _,
    runs_of _ _ _ (by decide +kernel) (by decide +kernel) (by decide +kernel) (by decide +kernel) (by decide +kernel) (by decide +kernel),
    by decide +kernel⟩⟩

/-- The other turns of `Obligations.StepRunsDecoded`. -/
theorem witness_StepRunsDecoded_turns :
    (∃ (s : State) (c : CoreId) (r : Slot) (i : Instr), s.turns.head? = some (.engine c r) ∧
      ((Claims.turned s).res c r).eng.call.isSome = true ∧
      decodeMicro (((Claims.turned s).res c r).eng.store.get 0 ((Claims.turned s).res c r).eng.pos.toNat) = .ok i []) ∧
    (∃ (s : State) (n : Nat), s.turns.head? = some (.perform n)) ∧
    (∃ (s : State) (n m : Nat), s.turns.head? = some (.piece n m)) ∧
    (∃ (s : State) (c : CoreId) (r : Slot) (n m : Nat), s.turns.head? = some (.element c r n m)) ∧
    (∃ (s : State) (q : QueueId) (p : Packet), s.turns.head? = some (.dispatch q) ∧
      (Claims.turned s).facing ((Claims.turned s).queue q) = some p) ∧
    (∃ (s : State) (x : FirmAct), s.turns.head? = some (.firmware x)) ∧
    (∃ (s : State) (i : Instr), s.turns.head? = some (.event i) ∧ isEvent i = true) ∧
    (∃ (s : State) (d : DieId) (i : Instr), s.turns.head? = some (.marker d i) ∧ isEvent i = true) :=
  ⟨⟨{ computing 0 with turns := [.engine 0 .a] }, 0, .a, .tnop default, by decide +kernel⟩,
   ⟨{ base with turns := [.perform 7] }, 7, by decide +kernel⟩,
   ⟨{ base with turns := [.piece 7 1] }, 7, 1, by decide +kernel⟩,
   ⟨{ base with turns := [.element 1 .b 7 3] }, 1, .b, 7, 3, by decide +kernel⟩,
   ⟨{ queued 0x8000 launch none with turns := [.dispatch 5] }, 5, launch, by decide +kernel⟩,
   ⟨{ base with turns := [.firmware .next] }, .next, by decide +kernel⟩,
   ⟨{ base with turns := [.event .deviceReset] }, .deviceReset, by decide +kernel⟩,
   ⟨{ base with turns := [.marker 3 .slotBoundary] }, 3, .slotBoundary, by decide +kernel⟩⟩

/-- What `Obligations.RoundTrip` assumes can be met. -/
theorem witness_RoundTrip :
    (∃ (i : Instr), i.wf = true ∧ i.head.isSome = true) ∧
    (∃ (i : Instr) (f : UF) (w : W32), i.wf = true ∧ i ∈ [Instr.tnop f, .tfa f, .tfb f, .tscl f, .tmac f, .tprom f, .trank f, .tdrain f,
      .twalk f, .tloop f, .tend f, .tjmp f, .tyld f, .tflag f, .tret f, .tset f] ∧ encode i = [w]) :=
  ⟨⟨.vfmaL (hdr 7) { (default : VF) with vd := 31, va := 31, vc := 31 } 0xFFFFFFFF, by decide +kernel⟩,
   ⟨.tjmp ⟨15, 2, 0, 0xFFF⟩, ⟨15, 2, 0, 0xFFF⟩, (encode (.tjmp ⟨15, 2, 0, 0xFFF⟩)).headD 0, by decide +kernel⟩⟩

/-- What `Obligations.OneEncoding` assumes can be met. -/
theorem witness_OneEncoding :
    (∃ (ws rest : List W32) (i : Instr), decode ws = .ok i rest) ∧
    (∃ (w : W32) (i : Instr) (rest : List W32), decodeMicro w = .ok i rest) :=
  ⟨⟨[0x12BC0004, 0xFFFFFFFF], [0xFFFFFFFF], .add hdr ⟨30, 10, 2⟩, by decide +kernel⟩, ⟨0, .tnop default, [], by decide +kernel⟩⟩

/-- What `Obligations.StepKeepsMemory` assumes can be met. -/
theorem witness_StepKeepsMemory : ∃ (s t : State), s.Inv ∧ s.mem ≠ [] ∧ step s = .next t :=
  ⟨fetching 0x12BC0004, nextOf (step (fetching 0x12BC0004)) base, by unfold State.Inv; decide +kernel, by decide +kernel,
    next_of _ (by decide +kernel)⟩

/-- What `Obligations.BoundsKept` assumes can be met. -/
theorem witness_BoundsKept :
    (∃ (s t : State), Claims.bounded s = true ∧ step s = .next t) ∧
    (∃ (s t : State) (i : Instr), i.head.isSome = true ∧ s.cx.rep = none ∧ exec i s = .next t ∧ t.mark = .none) :=
  ⟨⟨fetching 0x12BC0004, nextOf (step (fetching 0x12BC0004)) base, by decide +kernel, next_of _ (by decide +kernel)⟩,
   ⟨base, nextOf (exec (.add hdr ⟨30, 10, 2⟩) base) base, .add hdr ⟨30, 10, 2⟩, by decide +kernel, by decide +kernel,
    next_of _ (by decide +kernel), by decide +kernel⟩⟩

end Sys2Proof.Tests
end

/-! # Memory keeps its canonical form

Two kinds of lemma, one for each function of the model, in the model's order. `f_mem`: f leaves memory as it is. `Memory.wf_f`: f may
write memory, and what it writes keeps the canonical form. Both are simp lemmas, so that a function's proof needs those of the functions
it calls and no more.

Some of the state's laws hold by `rfl`, which simp uses without a proof term; where such a step stands inside a premise of a conditional
lemma, the premise's proof is then refused. The option `-implicitDefEqProofs` makes simp keep those steps. -/

namespace Sys2Proof.Machine

/-! ## Choices and repetitions -/

@[simp] theorem State.mem_ite (c : Prop) [Decidable c] (s t : State) :
    (if c then s else t).mem = if c then s.mem else t.mem := apply_ite State.mem c s t

@[simp] theorem Memory.wf_ite (c : Prop) [Decidable c] (m n : List Host.Cell) :
    Memory.wf (if c then m else n) = if c then Memory.wf m else Memory.wf n := apply_ite Memory.wf c m n

/-- What each repetition keeps, all of them keep. -/
theorem foldl_keeps {σ α β : Type} (g : σ → β) (f : σ → α → σ) (hf : ∀ s x, g (f s x) = g s) (l : List α) (s : σ) :
    g (l.foldl f s) = g s := by
  induction l generalizing s with
  | nil => rfl
  | cons x l ih => rw [List.foldl_cons, ih, hf]

@[simp] theorem State.mem_foldl {α : Type} (f : State → α → State) (hf : ∀ s x, (f s x).mem = s.mem) (l : List α) (s : State) :
    (l.foldl f s).mem = s.mem := foldl_keeps State.mem f hf l s

@[simp] theorem Memory.wf_foldl {α : Type} (f : State → α → State)
    (hf : ∀ s x, Memory.wf s.mem = true → Memory.wf (f s x).mem = true) (l : List α) (s : State) (h : Memory.wf s.mem = true) :
    Memory.wf (l.foldl f s).mem = true := by
  induction l generalizing s with
  | nil => exact h
  | cons x l ih => exact ih _ (hf s x h)

/-- A state that is folded together with something else. -/
theorem State.mem_fst_foldl {α β : Type} (f : State × β → α → State × β) (hf : ∀ a x, (f a x).1.mem = a.1.mem) (l : List α)
    (a : State × β) : (l.foldl f a).1.mem = a.1.mem := foldl_keeps (fun a => a.1.mem) f hf l a

theorem Memory.wf_fst_foldl {α β : Type} (f : State × β → α → State × β)
    (hf : ∀ a x, Memory.wf a.1.mem = true → Memory.wf (f a x).1.mem = true) (l : List α) (a : State × β)
    (h : Memory.wf a.1.mem = true) : Memory.wf (l.foldl f a).1.mem = true := by
  induction l generalizing a with
  | nil => exact h
  | cons x l ih => exact ih _ (hf a x h)

/-! ## What each operation of the model does to memory -/

/-! ### Issue of one instruction, traps and results (Machine/Ops) -/

@[simp] theorem State.postS_mem (s : State) (l : Nat) (d : BitVec 5) (x : W64) (g : Flags8) : (s.postS l d x g).mem = s.mem := by
  simp [State.postS]

@[simp] theorem State.postP_mem (s : State) (l : Nat) (d : BitVec 5) (x : Bool) (g : Flags8) : (s.postP l d x g).mem = s.mem := by
  simp [State.postP]

@[simp] theorem State.warn_mem (s : State) (code : Nat) : (s.warn code).mem = s.mem := by simp [State.warn]
@[simp] theorem State.warnIf_mem (s : State) (c : Bool) (code : Nat) : (s.warnIf c code).mem = s.mem := by simp [State.warnIf]

@[simp] theorem State.takeTrapAt_mem (s : State) (c : CoreId) (r : Slot) (x : CtxId) (t : Trap) (async : Bool) (pc npc : VAddr)
    (pos : Nat) :
    (s.takeTrapAt c r x t async pc npc pos).mem = s.mem := by
  simp [State.takeTrapAt]

@[simp] theorem State.takeTrap_mem (s : State) (t : Trap) : (s.takeTrap t).mem = s.mem := by simp [State.takeTrap]

@[simp] theorem State.note_mem (s : State) (h : Hold) : (s.note h).mem = s.mem := by
  unfold State.note
  split <;> simp

@[simp] theorem State.settle_mem (s t : State) : (s.settle t).mem = match t.mark with | .none => t.mem | _ => s.mem := by
  unfold State.settle
  split <;> simp [*]

/-! ### Memory requests, flags and posts (Machine/Memory) -/

@[simp] theorem Memory.wf_writeFree (s : State) (a n : Nat) (h : Memory.wf s.mem = true) : Memory.wf (s.writeFree a n).mem = true :=
  Memory.wf_foldl _ (fun t _ ht => Memory.wf_writeNat t _ _ _ ht) _ s h

@[simp] theorem State.awaitS_mem (s : State) (d : BitVec 5) : (s.awaitS d).mem = s.mem := by simp [State.awaitS]

@[simp] theorem Memory.wf_putPred (s : State) (c : CoreId) (r : Slot) (x : CtxId) (k : Bool) (n : Nat) (v : Bool)
    (h : Memory.wf s.mem = true) :
    Memory.wf (s.putPred c r x k n v).mem = true := by
  simp [State.putPred, h, Memory.wf_setByte]

@[simp] theorem Memory.wf_postAt (s : State) (c : CoreId) (r : Slot) (f : BitVec 5) (n : Nat) (pc : VAddr)
    (h : Memory.wf s.mem = true) :
    Memory.wf (s.postAt c r f n pc).mem = true := by
  simp only [State.postAt]
  (repeat' split) <;> simp [h, Memory.wf_writeNat]

@[simp] theorem Memory.wf_postTask (s : State) (task : W32) (c : CoreId) (f : BitVec 5) (n : Nat) (pc : VAddr)
    (h : Memory.wf s.mem = true) :
    Memory.wf (s.postTask task c f n pc).mem = true := by
  unfold State.postTask
  split <;> simp [h]

@[simp] theorem State.rejected_mem (s : State) : s.rejected.mem = s.mem := rfl

@[simp] theorem State.atConfigure_mem (s : State) (f : State → State) :
    (s.atConfigure f).mem = if s.boot.phase == 4 || s.ready then (f s).mem else s.mem := by
  simp [State.atConfigure]

@[simp] theorem State.atReady_mem (s : State) (f : State → State) : (s.atReady f).mem = if s.ready then (f s).mem else s.mem := by
  simp [State.atReady]

@[simp] theorem State.onceReady_mem (s : State) (f : State → State) : (s.onceReady f).mem = if s.ready then (f s).mem else s.mem := by
  simp [State.onceReady]

@[simp] theorem Memory.wf_dispatchLog (s : State) (p : PartId) (type queue task addr code : Nat) (h : Memory.wf s.mem = true) :
    Memory.wf (s.dispatchLog p type queue task addr code).mem = true := by
  simp [State.dispatchLog, h, Memory.wf_writeNat]

@[simp] theorem Memory.wf_eventLog (s : State) (p : PartId) (what place : Nat) (h : Memory.wf s.mem = true) :
    Memory.wf (s.eventLog p what place).mem = true := by
  simp [State.eventLog, h, Memory.wf_writeNat]

/-! ### Homes: stores, atomics and loads performed (Machine/Perform) -/

@[simp] theorem State.takeHome_mem (s : State) (c : CoreId) (p : Piece) : (s.takeHome c p).mem = s.mem := by
  unfold State.takeHome
  split
  · rw [State.mem_foldl]
    intro t a
    dsimp only
    (repeat' split) <;> rfl
  · rfl

@[simp] theorem State.returnHome_mem (s : State) (p : Piece) : (s.returnHome p).mem = s.mem := by
  unfold State.returnHome
  split
  · rw [State.mem_foldl]
    intro t a
    dsimp only
    split <;> rfl
  · rfl

@[simp] theorem State.walkHomes_mem (s : State) (root : BitVec 34) (va : Nat) : (s.walkHomes root va).mem = s.mem := by
  simp [State.walkHomes]

@[simp] theorem State.moveHome_mem (s : State) (c : CoreId) (path : Path) (p : Piece) : (s.moveHome c path p).mem = s.mem := by
  unfold State.moveHome
  split <;> simp

@[simp] theorem State.releaseInterval_mem (s : State) (g : W64) (scope : BitVec 3) : (s.releaseInterval g scope).mem = s.mem := by
  unfold State.releaseInterval
  split <;> simp

@[simp] theorem State.recordWrite_mem (s : State) (c : CoreId) (g : W64) (scope : Nat) (addrs : List Nat) (of : Option Byte) :
    (s.recordWrite c g scope addrs of).mem = s.mem := by
  simp [State.recordWrite]

@[simp] theorem Memory.wf_dropRecord (s : State) (t : Task) (ring : Nat) (h : Memory.wf s.mem = true) :
    Memory.wf (s.dropRecord t ring).mem = true := by
  simp [State.dropRecord, h]

@[simp] theorem Memory.wf_logRace (s : State) (c : CoreId) (r : Slot) (x : CtxId) (rec : BitVec 256) (pc : VAddr)
    (h : Memory.wf s.mem = true) :
    Memory.wf (s.logRace c r x rec pc).mem = true := by
  simp only [State.logRace]
  (repeat' split) <;> simp [h]

@[simp] theorem Memory.wf_logAccess (s : State) (c : CoreId) (r : Slot) (x : CtxId) (path : Path) (synch write : Bool) (pc : VAddr)
    (had : List Nat) (ps : List Piece) (h : Memory.wf s.mem = true) :
    Memory.wf (s.logAccess c r x path synch write pc had ps).1.mem = true := by
  unfold State.logAccess
  dsimp only
  split
  · refine Memory.wf_fst_foldl _ (fun a e ha => ?_) _ _ h
    split
    · exact ha
    · split
      · exact ha
      · exact Memory.wf_logRace _ _ _ _ _ _ ha
  · exact h

@[simp] theorem State.retag_mem (s : State) (addrs : List Nat) (keep : Bool) (tag : Option RelTag) :
    (s.retag addrs keep tag).mem = s.mem := by
  simp [State.retag]

@[simp] theorem State.stampOlder_mem (s : State) (q : Req) : (s.stampOlder q).mem = s.mem := by
  unfold State.stampOlder
  split <;> simp

@[simp] theorem State.recordStore_mem (s : State) (q : Req) (p : Piece) (keep : Bool) : (s.recordStore q p keep).mem = s.mem := by
  unfold State.recordStore
  split <;> simp

@[simp] theorem Memory.wf_performWrite (s : State) (q : Req) (p : Piece) (keep : Bool) (h : Memory.wf s.mem = true) :
    Memory.wf (s.performWrite q p keep).1.mem = true := by
  unfold State.performWrite
  split <;> simp -implicitDefEqProofs [h]

@[simp] theorem State.setReq_mem (s : State) (n : Nat) (q : Req) : (s.setReq n q).mem = s.mem := by simp [State.setReq]
@[simp] theorem State.dropReq_mem (s : State) (n : Nat) : (s.dropReq n).mem = s.mem := by simp [State.dropReq]

@[simp] theorem State.queueUp_mem (s : State) (q : Req) (k : Nat) (p : Piece) : (s.queueUp q k p).mem = s.mem := by
  simp [State.queueUp]

@[simp] theorem State.unqueue_mem (s : State) (q : Req) (p : Piece) : (s.unqueue q p).mem = s.mem := by simp [State.unqueue]

@[simp] theorem Memory.wf_denyReq (s : State) (q : Req) (t : Byte × Byte × W64) (h : Memory.wf s.mem = true) :
    Memory.wf (s.denyReq q t).mem = true := by
  simp only [State.denyReq]
  (repeat' split) <;> simp [h]

@[simp] theorem Memory.wf_storePart (s : State) (q : Req) (k : Nat) (p : Piece) (h : Memory.wf s.mem = true) :
    Memory.wf (s.storePart q k p).mem = true := by
  simp only [State.storePart]
  (repeat' split) <;> simp [h, Memory.wf_writeList]

@[simp] theorem Memory.wf_performStore (s : State) (n : Nat) (h : Memory.wf s.mem = true) :
    Memory.wf (s.performStore n).mem = true := by
  simp only [State.performStore]
  (repeat' split) <;> simp [h]

@[simp] theorem State.flushLine_mem (s : State) (line : Nat) : (s.flushLine line).mem = s.mem := by simp [State.flushLine]
@[simp] theorem State.standIn_mem (s : State) (n line : Nat) : (s.standIn n line).mem = s.mem := by simp [State.standIn]

@[simp] theorem State.performCache_mem (s : State) (n : Nat) : (s.performCache n).mem = s.mem := by
  simp only [State.performCache]
  (repeat' split) <;> simp

@[simp] theorem State.endAtomic_mem (s : State) (q : Req) : (s.endAtomic q).mem = s.mem := by simp [State.endAtomic]

@[simp] theorem State.acquireTags_mem (s : State) (q : Req) (tags : List RelTag) : (s.acquireTags q tags).mem = s.mem := by
  unfold State.acquireTags
  split <;> simp

@[simp] theorem Memory.wf_atomicPart (s : State) (q : Req) (k : Nat) (p : Piece) (h : Memory.wf s.mem = true) :
    Memory.wf (s.atomicPart q k p).mem = true := by
  simp only [State.atomicPart]
  (repeat' split) <;> simp [h, Memory.wf_writeList]

@[simp] theorem Memory.wf_performAtomic (s : State) (n : Nat) (h : Memory.wf s.mem = true) :
    Memory.wf (s.performAtomic n).mem = true := by
  simp only [State.performAtomic]
  (repeat' split) <;> simp [h]

@[simp] theorem Memory.wf_homeAtomic (s : State) (q : Req) (k : Nat) (p : Piece) (h : Memory.wf s.mem = true) :
    Memory.wf (s.homeAtomic q k p).mem = true := by
  unfold State.homeAtomic
  split <;> simp [h]

@[simp] theorem Memory.wf_readReady (s : State) (path : Path) (l : List Nat) (h : Memory.wf s.mem = true) :
    Memory.wf (s.readReady path l).mem = true := by
  refine Memory.wf_foldl _ (fun t q ht => Memory.wf_foldl _ (fun u k hu => ?_) _ t ht) _ s h
  (repeat' split) <;> simp [hu]

theorem Memory.wf_ownRead {s t : State} {path : Path} {l : List Nat} {b : List Byte} (ht : s.ownRead path l = some (t, b))
    (h : Memory.wf s.mem = true) : Memory.wf t.mem = true := by
  unfold State.ownRead at ht
  dsimp only at ht
  split at ht
  · cases ht
  · cases ht
    exact Memory.wf_readReady s path l h

@[simp] theorem State.noteReplica_mem (s : State) (p : Piece) : (s.noteReplica p).mem = s.mem := by simp [State.noteReplica]

@[simp] theorem Memory.wf_readParts (s : State) (q : Req) (ks : List Nat) (h : Memory.wf s.mem = true) :
    Memory.wf (s.readParts q ks).mem = true := by
  simp [State.readParts, h]

@[simp] theorem Memory.wf_loadPart (s : State) (q : Req) (k : Nat) (p : Piece) (h : Memory.wf s.mem = true) :
    Memory.wf (s.loadPart q k p).mem = true := by
  simp only [State.loadPart]
  (repeat' split) <;> simp [h]

@[simp] theorem State.deliverReq_mem (s : State) (q : Req) : (s.deliverReq q).mem = s.mem := by simp [State.deliverReq]

@[simp] theorem Memory.wf_landLoad (s : State) (q : Req) (h : Memory.wf s.mem = true) : Memory.wf (s.landLoad q).mem = true := by
  simp only [State.landLoad]
  (repeat' split) <;> simp [h]

@[simp] theorem Memory.wf_landReq (s : State) (n : Nat) (h : Memory.wf s.mem = true) : Memory.wf (s.landReq n).mem = true := by
  simp only [State.landReq]
  (repeat' split) <;> simp [h]

@[simp] theorem Memory.wf_perform (s : State) (n : Nat) (h : Memory.wf s.mem = true) : Memory.wf (s.perform n).mem = true := by
  simp only [State.perform]
  (repeat' split) <;> simp [h]

@[simp] theorem Memory.wf_performPiece (s : State) (n k : Nat) (h : Memory.wf s.mem = true) :
    Memory.wf (s.performPiece n k).mem = true := by
  simp only [State.performPiece]
  (repeat' split) <;> simp [h]

@[simp] theorem State.dropFences_mem (s : State) (c : CoreId) : (s.dropFences c).mem = s.mem := by simp [State.dropFences]

/-! ### Branches, loops and the end of a context (Machine/Control) -/

@[simp] theorem State.jump_mem (s : State) (target : VAddr) (bubbles : Nat) : (s.jump target bubbles).mem = s.mem := by
  simp [State.jump]

@[simp] theorem State.branch_mem (s : State) (target : VAddr) (bubbles : Nat) : (s.branch target bubbles).mem = s.mem := by
  simp [State.branch]

@[simp] theorem State.prepare_mem (s : State) (n : Nat) (target : VAddr) : (s.prepare n target).mem = s.mem := by
  simp [State.prepare]

theorem State.skipPast_mem (s : State) (va : VAddr) (f : State → State) (hf : ∀ t, (f t).mem = t.mem) :
    (s.skipPast va f).mem = s.mem := by
  unfold State.skipPast
  split <;> simp [hf]

@[simp] theorem loopAt_mem (f : BF) (off : W32) (s : State) : (loopAt f off s).mem = s.mem := by
  simp [loopAt, State.skipPast_mem]

@[simp] theorem lbrk_mem (s : State) : (lbrk s).mem = s.mem := by
  unfold lbrk
  split
  · rfl
  · exact State.skipPast_mem s _ _ (by simp)

@[simp] theorem swpt_mem (f : BF) (s : State) : (swpt f s).mem = s.mem := by
  simp only [swpt]
  (repeat' split) <;> simp

@[simp] theorem brt_mem (f : BF) (s : State) : (brt f s).mem = s.mem := by simp [brt]
@[simp] theorem State.unpin_mem (s : State) (c : CoreId) (r : Slot) : (s.unpin c r).mem = s.mem := by simp [State.unpin]

@[simp] theorem State.leaveTask_mem (s : State) (c : CoreId) (r : Slot) : (s.leaveTask c r).mem = s.mem := by
  simp [State.leaveTask]

@[simp] theorem exit_mem (s : State) : (exit s).mem = s.mem := by simp [exit]

/-! ### Operands (Machine/Operands) -/

@[simp] theorem aluReg_mem (o : Alu) (f : S32) (s : State) : (aluReg o f s).mem = s.mem := by simp [aluReg]
@[simp] theorem aluImm_mem (o : Alu) (f : SF) (s : State) : (aluImm o f s).mem = s.mem := by simp [aluImm]
@[simp] theorem aluLit_mem (o : Alu) (f : SF) (s : State) : (aluLit o f s).mem = s.mem := by simp [aluLit]
@[simp] theorem countReg_mem (o : Count) (f : S32) (s : State) : (countReg o f s).mem = s.mem := by simp [countReg]
@[simp] theorem countW_mem (o : Count) (f : SF) (s : State) : (countW o f s).mem = s.mem := by simp [countW]
@[simp] theorem leaAt_mem (f : SF) (off : W64) (s : State) : (leaAt f off s).mem = s.mem := by simp [leaAt]
@[simp] theorem cmpAt_mem (f : SF) (imm : W64) (s : State) : (cmpAt f imm s).mem = s.mem := by simp [cmpAt]
@[simp] theorem postF_mem (s : State) (d : BitVec 5) (x : Nat × Flags8) : (postF s d x).mem = s.mem := by simp [postF]
@[simp] theorem fadd2_mem (r : Rnd) (a b d : BitVec 5) (s : State) : (fadd2 r a b d s).mem = s.mem := by simp [fadd2]
@[simp] theorem fsub2_mem (r : Rnd) (a b d : BitVec 5) (s : State) : (fsub2 r a b d s).mem = s.mem := by simp [fsub2]
@[simp] theorem fmul2_mem (r : Rnd) (a b d : BitVec 5) (s : State) : (fmul2 r a b d s).mem = s.mem := by simp [fmul2]
@[simp] theorem fmin2_mem (a b d : BitVec 5) (s : State) : (fmin2 a b d s).mem = s.mem := by simp [fmin2]
@[simp] theorem fmax2_mem (a b d : BitVec 5) (s : State) : (fmax2 a b d s).mem = s.mem := by simp [fmax2]
@[simp] theorem fcvt_mem (f : SF) (s : State) : (fcvt f s).mem = s.mem := by simp [fcvt]

/-! ### Vector instructions (Machine/Vector) -/

@[simp] theorem State.vwarn_mem (s : State) (f : VF) (rounds satOk t5 : Bool) : (s.vwarn f rounds satOk t5).mem = s.mem := by
  simp [State.vwarn]

@[simp] theorem vmap_mem (e : Eng) (lat : Nat) (f : VF) (fn : Nat → Nat → Lane) (s : State) :
    (vmap e lat f fn s).mem = s.mem := by
  simp [vmap]

@[simp] theorem varith_mem (o : VArith) (f : VF) (lit : Option W32) (s : State) : (varith o f lit s).mem = s.mem := by
  simp [varith]

@[simp] theorem vsign_mem (neg : Bool) (f : VF) (s : State) : (vsign neg f s).mem = s.mem := by simp [vsign]
@[simp] theorem vbits_mem (o : VBits) (f : VF) (lit : Option W32) (s : State) : (vbits o f lit s).mem = s.mem := by simp [vbits]
@[simp] theorem vcount_mem (o : Count) (f : VF) (s : State) : (vcount o f s).mem = s.mem := by simp [vcount]
@[simp] theorem vcmp_mem (f : VF) (lit : Option W32) (s : State) : (vcmp f lit s).mem = s.mem := by simp [vcmp]
@[simp] theorem vsel_mem (f : VF) (lit : Option W32) (s : State) : (vsel f lit s).mem = s.mem := by simp [vsel]
@[simp] theorem vmlog_mem (f : VF) (s : State) : (vmlog f s).mem = s.mem := by simp -implicitDefEqProofs [vmlog]
@[simp] theorem vcvt_mem (f : VF) (s : State) : (vcvt f s).mem = s.mem := by simp [vcvt]
@[simp] theorem vspec_mem (k : Spec) (f : VF) (s : State) : (vspec k f s).mem = s.mem := by simp [vspec]
@[simp] theorem vdot4_mem (f : VF) (lit : Option W32) (s : State) : (vdot4 f lit s).mem = s.mem := by simp [vdot4]

@[simp] theorem vreduce_mem (f : VF) (rounds : Bool) (fn : List W32 → Lane) (s : State) :
    (vreduce f rounds fn s).mem = s.mem := by
  simp [vreduce]

@[simp] theorem vscan_mem (f : VF) (s : State) : (vscan f s).mem = s.mem := by simp [vscan]

theorem State.reach_mem (s : State) (l : List (Nat × Spot)) (f : List Piece → Bool → State) (hf : ∀ ps w, (f ps w).mem = s.mem) :
    (s.reach l f).mem = s.mem := by
  unfold State.reach
  split <;> simp [hf]
theorem Memory.wf_reach (s : State) (l : List (Nat × Spot)) (f : List Piece → Bool → State) (hf : ∀ ps w, Memory.wf (f ps w).mem = true)
    (h : Memory.wf s.mem = true) : Memory.wf (s.reach l f).mem = true := by
  unfold State.reach
  split
  · exact hf _ _
  · exact h
  · exact h

@[simp] theorem State.swarn_mem (s : State) (f : VF) (vm absent : Bool) : (s.swarn f vm absent).mem = s.mem := by
  simp [State.swarn]

@[simp] theorem State.advance_mem (s : State) (f : VF) : (s.advance f).mem = s.mem := by simp [State.advance]
@[simp] theorem State.awaitV_mem (s : State) (f : VF) : (s.awaitV f).mem = s.mem := by simp -implicitDefEqProofs [State.awaitV]

@[simp] theorem Memory.wf_vsld (f : VF) (s : State) (h : Memory.wf s.mem = true) : Memory.wf (vsld f s).mem = true := by
  refine Memory.wf_reach s _ _ (fun ps absent => ?_) h
  dsimp only
  split
  · split
    · simp [h]
    · next t l ht => simpa -implicitDefEqProofs using Memory.wf_ownRead ht h
  · simp [h]

@[simp] theorem postStores_mem (n : BitVec 5) (ps : List Piece) (s : State) : (postStores n ps s).mem = s.mem := by
  simp [postStores]

@[simp] theorem vsst_mem (f : VF) (s : State) : (vsst f s).mem = s.mem :=
  State.reach_mem s _ _ (by simp)

@[simp] theorem vgld_mem (f : VF) (s : State) : (vgld f s).mem = s.mem :=
  State.reach_mem s _ _ (by simp)

@[simp] theorem vsct_mem (f : VF) (s : State) : (vsct f s).mem = s.mem :=
  State.reach_mem s _ _ (by simp)

@[simp] theorem vsamo_mem (f : VF) (s : State) : (vsamo f s).mem = s.mem :=
  State.reach_mem s _ _ (by simp)

@[simp] theorem vamax_mem (f : VF) (s : State) : (vamax f s).mem = s.mem := by simp -implicitDefEqProofs [vamax]
@[simp] theorem vqcvt_mem (f : VF) (s : State) : (vqcvt f s).mem = s.mem := by simp [vqcvt]
@[simp] theorem vdq_mem (f : VF) (lit : Option W32) (s : State) : (vdq f lit s).mem = s.mem := by simp [vdq]

@[simp] theorem vunp3_mem (f : VF) (s : State) : (vunp3 f s).mem = s.mem := by
  simp only [vunp3]
  (repeat' split) <;> simp

/-! ### What an engine or a transfer reads and writes (Machine/Reach) -/

@[simp] theorem State.walkedFor_mem (s : State) (c : CoreId) (r : Slot) (p : Piece) : (s.walkedFor c r p).mem = s.mem := by
  simp [State.walkedFor]

@[simp] theorem Memory.wf_agentReads (s : State) (c : CoreId) (r : Slot) (x : CtxId) (path : Path) (pc : VAddr) (had : List Nat)
    (ps : List Piece) (first : Bool) (all : List Piece) (h : Memory.wf s.mem = true) :
    Memory.wf (s.agentReads c r x path pc had ps first all).1.mem = true := by
  simp -implicitDefEqProofs [State.agentReads, h]

@[simp] theorem Memory.wf_agentWrites (s : State) (c : CoreId) (r : Slot) (x : CtxId) (path : Path) (pc : VAddr) (had : List Nat)
    (l : List (Piece × List Byte)) (all : List Piece) (first : Bool) (h : Memory.wf s.mem = true) :
    Memory.wf (s.agentWrites c r x path pc had l all first).1.mem = true := by
  refine Memory.wf_foldl _ (fun t e ht => ?_) l _ (Memory.wf_logAccess s c r x path false true pc had _ h)
  exact Memory.wf_writeHome _ _ (by simpa using ht)

@[simp] theorem Memory.wf_agentWrite (s : State) (c : CoreId) (r : Slot) (x : CtxId) (path : Path) (pc : VAddr)
    (l : List (Piece × List Byte)) (h : Memory.wf s.mem = true) :
    Memory.wf (s.agentWrite c r x path pc l).mem = true := by
  simp [State.agentWrite, h]

@[simp] theorem State.warnAt_mem (s : State) (c : CoreId) (r : Slot) (code : Nat) (pc : VAddr) :
    (s.warnAt c r code pc).mem = s.mem := by
  simp [State.warnAt]

/-! ### The matrix engine (Machine/Engine) -/

@[simp] theorem State.modEng_mem (s : State) (f : Engine → Engine) : (s.modEng f).mem = s.mem := by simp [State.modEng]

@[simp] theorem State.unpinLine_mem (s : State) (c : CoreId) (r : Slot) (line : Nat) : (s.unpinLine c r line).mem = s.mem := by
  simp [State.unpinLine]

@[simp] theorem State.unpinLines_mem (s : State) (keep : List Nat) (lines : List Nat) :
    (s.unpinLines keep lines).mem = s.mem := by
  simp [State.unpinLines]

@[simp] theorem State.dropBuffers_mem (s : State) : s.dropBuffers.mem = s.mem := by simp [State.dropBuffers]

@[simp] theorem enqueue_mem (k : State → Cmd) (s : State) : (enqueue k s).mem = s.mem := by
  simp [enqueue]

@[simp] theorem mcall_mem (h : Hdr) (f : MF) (s : State) : (mcall h f s).mem = s.mem := by
  unfold mcall
  split <;> simp

@[simp] theorem mmode_mem (h : Hdr) (f : MF) (s : State) : (mmode h f s).mem = s.mem := by simp [mmode]
@[simp] theorem mabort_mem (s : State) : (mabort s).mem = s.mem := by simp [mabort]

@[simp] theorem State.loadRoutine_mem (s : State) (idx : Nat) (m : Image) : (s.loadRoutine idx m).mem = s.mem := by
  simp [State.loadRoutine]

@[simp] theorem Memory.wf_mpld (f : MF) (word : W64) (s : State) (h : Memory.wf s.mem = true) : Memory.wf (mpld f word s).mem = true := by
  unfold mpld
  dsimp only
  split
  · simp [h]
  · split
    · simp [h]
    · next t l ht =>
      have ht := Memory.wf_ownRead ht h
      split
      · simp [h]
      · split
        · simp [ht]
        · next u b hu =>
          have hu := Memory.wf_ownRead hu ht
          split <;> simp [h, hu]

@[simp] theorem State.engFault_mem (s : State) (code : Byte) (sub : BitVec 4) (stream : BitVec 4) (va : VAddr) (pc : VAddr) :
    (s.engFault code sub stream va pc).mem = s.mem := by
  simp [State.engFault]

@[simp] theorem Memory.wf_engPost (s : State) (f : BitVec 5) (pc : VAddr) (h : Memory.wf s.mem = true) :
    Memory.wf (s.engPost f pc).mem = true := by
  simp [State.engPost, h]

theorem Memory.wf_command (s : State) (c : CoreId) (r : Slot) (f : Cmd → State → State)
    (hf : ∀ k t, Memory.wf t.mem = true → Memory.wf (f k t).mem = true) (h : Memory.wf s.mem = true) :
    Memory.wf (s.command c r f).mem = true := by
  unfold State.command
  dsimp only
  split
  · exact h
  · split
    · exact h
    · exact hf _ _ (by simpa using h)

@[simp] theorem mcallStart_mem (k : Cmd) (s : State) : (mcallStart k s).mem = s.mem := by
  unfold mcallStart
  split <;> simp

@[simp] theorem mmodeRun_mem (k : Cmd) (s : State) : (mmodeRun k s).mem = s.mem := by
  unfold mmodeRun
  split <;> simp

@[simp] theorem mclrRun_mem (k : Cmd) (s : State) : (mclrRun k s).mem = s.mem := by
  unfold mclrRun
  split <;> simp

@[simp] theorem Memory.wf_mmergeRun (k : Cmd) (s : State) (h : Memory.wf s.mem = true) :
    Memory.wf (mmergeRun k s).mem = true := by
  unfold mmergeRun
  split <;> simp [h]

@[simp] theorem State.back_mem (s : State) : s.back.mem = s.mem := by simp [State.back]
@[simp] theorem State.stepWaits_mem (s : State) : s.stepWaits.mem = s.mem := by simp [State.stepWaits]
@[simp] theorem State.setM_mem (s : State) (n : BitVec 4) (x : W32) : (s.setM n x).mem = s.mem := by simp [State.setM]

@[simp] theorem State.stepFault_mem (s : State) (k : Call) (code : Byte) (sub stream : BitVec 4) (va : VAddr) :
    (s.stepFault k code sub stream va).mem = s.mem := by
  simp [State.stepFault]

@[simp] theorem State.memFault_mem (s : State) (k : Call) (stream sub : BitVec 4) (va : VAddr) :
    (s.memFault k stream sub va).mem = s.mem := by
  simp [State.memFault]

theorem State.withTile_mem (s : State) (k : Call) (off : Nat) (f : Nat → State) (hf : ∀ n, (f n).mem = s.mem) :
    (s.withTile k off f).mem = s.mem := by
  simp [State.withTile, hf]
theorem Memory.wf_withTile (s : State) (k : Call) (off : Nat) (f : Nat → State) (hf : ∀ n, Memory.wf (f n).mem = true)
    (h : Memory.wf s.mem = true) : Memory.wf (s.withTile k off f).mem = true := by
  simp [State.withTile, hf, h]

@[simp] theorem tset_mem (f : UF) (k : Call) (s : State) : (tset f k s).mem = s.mem := by
  unfold tset
  split
  · simp
  · simp
  · simp
  · exact State.withTile_mem s k _ _ (by simp)

@[simp] theorem tloop_mem (f : UF) (s : State) : (tloop f s).mem = s.mem := by simp [tloop]
@[simp] theorem tend_mem (s : State) : (tend s).mem = s.mem := by simp [tend]
@[simp] theorem tjmp_mem (f : UF) (s : State) : (tjmp f s).mem = s.mem := by simp [tjmp]
@[simp] theorem tyld_mem (s : State) : (tyld s).mem = s.mem := by simp [tyld]

@[simp] theorem Memory.wf_tret (k : Call) (s : State) (h : Memory.wf s.mem = true) : Memory.wf (tret k s).mem = true := by
  simp [tret, h]

theorem Memory.wf_mfRead (s : State) (k : Call) (l : List (BitVec 4 × Reached)) (f : List Piece → Bool → State → State)
    (hf : ∀ ps w t, Memory.wf t.mem = true → Memory.wf (f ps w t).mem = true) (h : Memory.wf s.mem = true) :
    Memory.wf (s.mfRead k l f).mem = true := by
  unfold State.mfRead
  split
  · simp [h]
  · split
    · simp [h]
    · exact hf _ _ _ (by simp -implicitDefEqProofs [h])

@[simp] theorem State.warnAbsent_mem (s : State) (absent : Bool) (pc : VAddr) : (s.warnAbsent absent pc).mem = s.mem := by
  simp [State.warnAbsent]

@[simp] theorem State.pinAll_mem (s : State) (lines : List Nat) : (s.pinAll lines).1.mem = s.mem := by
  unfold State.pinAll
  rw [State.mem_fst_foldl]
  intro a line
  dsimp only
  (repeat' split) <;> rfl

@[simp] theorem Memory.wf_fetch (isA : Bool) (f : UF) (k : Call) (s : State) (h : Memory.wf s.mem = true) :
    Memory.wf (fetch isA f k s).mem = true := by
  unfold fetch
  dsimp only
  split
  · simp [h]
  · refine Memory.wf_mfRead s k _ _ (fun ps absent t ht => ?_) h
    split <;> simpa -implicitDefEqProofs using ht

@[simp] theorem Memory.wf_tscl (f : UF) (k : Call) (s : State) (h : Memory.wf s.mem = true) : Memory.wf (tscl f k s).mem = true := by
  unfold tscl
  split
  · exact Memory.wf_mfRead s k _ _ (fun ps absent t ht => by simpa using ht) h
  · simp [h]

@[simp] theorem tmac_mem (f : UF) (k : Call) (s : State) : (tmac f k s).mem = s.mem := by
  simp only [tmac]
  (repeat' split) <;> simp

@[simp] theorem tprom_mem (f : UF) (k : Call) (s : State) : (tprom f k s).mem = s.mem := by
  refine State.withTile_mem s k _ _ (fun n => ?_)
  dsimp only
  (repeat' split) <;> simp

@[simp] theorem trank_mem (f : UF) (k : Call) (s : State) : (trank f k s).mem = s.mem :=
  State.withTile_mem s k _ _ (fun _ => State.withTile_mem s k _ _ (by simp))

@[simp] theorem Memory.wf_tdrain (f : UF) (k : Call) (s : State) (h : Memory.wf s.mem = true) : Memory.wf (tdrain f k s).mem = true := by
  refine Memory.wf_withTile s k _ _ (fun n => ?_) h
  extract_lets t sn st fmt int ok plan w
  split
  · simp [h]
  · split
    · simp [h]
    · split <;> simp [h]

@[simp] theorem twalk_mem (f : UF) (k : Call) (s : State) : (twalk f k s).mem = s.mem := by simp [twalk]

/-! ### Flags, barriers and fences (Machine/Sync) -/

@[simp] theorem fwait_mem (pred : BitVec 3) (f : YF) (s : State) : (fwait pred f s).mem = s.mem := by simp [fwait]
@[simp] theorem fpost_mem (f : YF) (s : State) : (fpost f s).mem = s.mem := by simp [fpost]

@[simp] theorem State.markRoutes_mem (s : State) (g : GroupId) (members : List CoreId) :
    (s.markRoutes g members).mem = s.mem := by
  simp -implicitDefEqProofs [State.markRoutes]

@[simp] theorem State.unmark_mem (s : State) (g : GroupId) : (s.unmark g).mem = s.mem := by simp [State.unmark]
@[simp] theorem State.arrive_mem (s : State) (g : GroupId) : (s.arrive g).mem = s.mem := by simp [State.arrive]

@[simp] theorem State.waitGen_mem (s : State) (g : GroupId) (pd : BitVec 3) : (s.waitGen g pd).mem = s.mem := by
  simp [State.waitGen]

@[simp] theorem State.member_mem (s : State) (g : GroupId) (f : State → State) :
    (s.member g f).mem = if s.isMember g then (f s).mem else s.mem := by
  simp [State.member]

@[simp] theorem Memory.wf_barWrite (s : State) (g : GroupId) (gen : Option W32) (x : Bool) (interval : Byte) (e : CoreId × Slot)
    (h : Memory.wf s.mem = true) : Memory.wf (s.barWrite g gen x interval e).mem = true := by
  unfold State.barWrite
  dsimp only
  split
  · exact h
  · refine Memory.wf_foldl _ (fun t p ht => ?_) _ s h
    split <;> simp [ht]

@[simp] theorem Memory.wf_breakGroup (s : State) (g : GroupId) (h : Memory.wf s.mem = true) : Memory.wf (s.breakGroup g).mem = true :=
  Memory.wf_foldl _ (fun t e ht => Memory.wf_barWrite t g none false 0 e ht) _ _ h

@[simp] theorem State.dieComplete_mem (s : State) (g : GroupId) (d : DieId) : (s.dieComplete g d).mem = s.mem := by
  simp [State.dieComplete]

@[simp] theorem State.generationComplete_mem (s : State) (g : GroupId) : (s.generationComplete g).mem = s.mem := by
  simp [State.generationComplete]

@[simp] theorem Memory.wf_barrierRelease (s : State) (g : GroupId) (c : CoreId) (h : Memory.wf s.mem = true) :
    Memory.wf (s.barrierRelease g c).mem = true := by
  unfold State.barrierRelease
  dsimp only
  split
  · exact h
  · split
    · exact h
    · exact Memory.wf_foldl _ (fun t e ht => Memory.wf_barWrite t g _ true _ _ ht) _ _ h

@[simp] theorem fence_mem (f : YF) (s : State) : (fence f s).mem = s.mem := by simp [fence]

/-! ### Links, ports and relays (Machine/Links) -/

@[simp] theorem State.keepMode_mem (s : State) (t : Nat) : (s.keepMode t).mem = s.mem := by simp [State.keepMode]
@[simp] theorem State.say_mem (s : State) (t : Nat) (k : Byte) (m : RepairMsg) : (s.say t k m).mem = s.mem := by simp [State.say]

@[simp] theorem State.unsay_mem (s : State) (t : Nat) (k : Byte) (rid : BitVec 16) : (s.unsay t k rid).mem = s.mem := by
  simp [State.unsay]

@[simp] theorem State.sayRejoin_mem (s : State) (t : Nat) (counts : Bool) : (s.sayRejoin t counts).mem = s.mem := by
  simp [State.sayRejoin]

@[simp] theorem State.rejoin_mem (s : State) (t : Nat) : (s.rejoin t).mem = s.mem := by simp [State.rejoin]
@[simp] theorem State.relink_mem (s : State) (t : Nat) : (s.relink t).mem = s.mem := by simp [State.relink]
@[simp] theorem State.relinkAll_mem (s : State) : s.relinkAll.mem = s.mem := by simp [State.relinkAll]

@[simp] theorem Memory.wf_dieLog (s : State) (d : DieId) (type port line peer rid : Nat) (h : Memory.wf s.mem = true) :
    Memory.wf (s.dieLog d type port line peer rid).mem = true := by
  simp [State.dieLog, h, Memory.wf_writeNat]

@[simp] theorem Memory.wf_fabLog (s : State) (type port line peer rid : Nat) (h : Memory.wf s.mem = true) :
    Memory.wf (s.fabLog type port line peer rid).mem = true := by
  simp [State.fabLog, h]

@[simp] theorem State.failXfer_mem (s : State) (c : CoreId) (r : Slot) (n : Nat) (x : XferFault) :
    (s.failXfer c r n x).mem = s.mem := by
  unfold State.failXfer
  split <;> simp

@[simp] theorem State.failAll_mem (s : State) (gone : BitVec 4 → PeerId → Bool) : (s.failAll gone).mem = s.mem := by
  simp [State.failAll]

@[simp] theorem State.failTo_mem (s : State) (t : Nat) : (s.failTo t).mem = s.mem := by simp [State.failTo]

@[simp] theorem State.replay_mem (s : State) (picks : BitVec 4 → PeerId → Bool) : (s.replay picks).mem = s.mem := by
  simp -implicitDefEqProofs [State.replay]

@[simp] theorem State.replayTo_mem (s : State) (t : Nat) : (s.replayTo t).mem = s.mem := by simp [State.replayTo]

/-! ### The optical fabric (Machine/Fabric) -/

@[simp] theorem State.askFor_mem (s : State) (o : OutFrame) (off : Nat) : (s.askFor o off).mem = s.mem := by simp [State.askFor]
@[simp] theorem State.untell_mem (s : State) (picks : OutFrame → Bool) : (s.untell picks).mem = s.mem := by simp [State.untell]
@[simp] theorem State.turnMsgs_mem (s : State) (k : Nat) : (s.turnMsgs k).mem = s.mem := by simp [State.turnMsgs]

@[simp] theorem State.sendNew_mem (s : State) (p lane : Nat) (line : Byte) (hop : Hop) :
    (s.sendNew p lane line hop).mem = s.mem := by
  unfold State.sendNew
  split <;> simp

@[simp] theorem State.sendHeader_mem (s : State) (p lane : Nat) (line : Byte) (hop : Hop) :
    (s.sendHeader p lane line hop).mem = s.mem := by
  unfold State.sendHeader
  split <;> simp

@[simp] theorem State.appear_mem (s : State) (p lane : Nat) (line : Byte) (relay : Bool) (hop : Hop) :
    (s.appear p lane line relay hop).mem = s.mem := by
  unfold State.appear
  split <;> simp

@[simp] theorem State.transmit_mem (s : State) : s.transmit.mem = s.mem := by simp [State.transmit]
@[simp] theorem State.lockLoss_mem (s : State) (d : Nat) : (s.lockLoss d).mem = s.mem := by simp [State.lockLoss]

@[simp] theorem State.lockAcquired_mem (s : State) (d : Nat) (rot : W32) (slot : BitVec 6) :
    (s.lockAcquired d rot slot).mem = s.mem := by
  simp [State.lockAcquired]

@[simp] theorem State.retransmit_mem (s : State) (t : Nat) : (s.retransmit t).mem = s.mem := by simp [State.retransmit]

@[simp] theorem State.resendVia_mem (s : State) (via : PortId × Byte → Bool) : (s.resendVia via).mem = s.mem := by
  simp [State.resendVia]

@[simp] theorem State.proposeRepair_mem (s : State) (action : BitVec 4) (port line target : Nat) (relay : Option Nat)
    (drift : Bool) :
    (s.proposeRepair action port line target relay drift).mem = s.mem := by
  simp [State.proposeRepair]

@[simp] theorem State.awaitRelay_mem (s : State) (t : Nat) : (s.awaitRelay t).mem = s.mem := by simp [State.awaitRelay]

@[simp] theorem State.holdPeer_mem (s : State) (t : Nat) (silent : Bool) : (s.holdPeer t silent).mem = s.mem := by
  simp [State.holdPeer]

@[simp] theorem State.relayOrHold_mem (s : State) (port line t : Nat) (drift : Bool) :
    (s.relayOrHold port line t drift).mem = s.mem := by
  unfold State.relayOrHold
  split <;> simp

@[simp] theorem State.relayAny_mem (s : State) (t : Nat) : (s.relayAny t).mem = s.mem := by
  unfold State.relayAny
  split <;> simp

@[simp] theorem State.relayLost_mem (s : State) (r : Nat) : (s.relayLost r).mem = s.mem := by simp [State.relayLost]

@[simp] theorem Memory.wf_declareDrift (s : State) (port line : Nat) (h : Memory.wf s.mem = true) :
    Memory.wf (s.declareDrift port line).mem = true := by
  simp [State.declareDrift, h]

@[simp] theorem Memory.wf_lineDrift (s : State) (port line : Nat) (mhz : BitVec 16) (h : Memory.wf s.mem = true) :
    Memory.wf (s.lineDrift port line mhz).mem = true := by
  simp [State.lineDrift, h]

@[simp] theorem Memory.wf_retuneStart (s : State) (port line : Nat) (h : Memory.wf s.mem = true) :
    Memory.wf (s.retuneStart port line).mem = true := by
  simp [State.retuneStart, h]

@[simp] theorem Memory.wf_retuneEnd (s : State) (port line : Nat) (mhz : BitVec 16) (h : Memory.wf s.mem = true) :
    Memory.wf (s.retuneEnd port line mhz).mem = true := by
  simp only [State.retuneEnd]
  (repeat' split) <;> simp [h]

@[simp] theorem Memory.wf_portFails (s : State) (port : Nat) (h : Memory.wf s.mem = true) :
    Memory.wf (s.portFails port).mem = true := by
  simp [State.portFails, h]

@[simp] theorem Memory.wf_combFailure (s : State) (port : Nat) (h : Memory.wf s.mem = true) :
    Memory.wf (s.combFailure port).mem = true := by
  simp [State.combFailure, h]

@[simp] theorem State.onPropose_mem (s : State) (t : PeerId) (m : RepairMsg) : (s.onPropose t m).mem = s.mem := by
  simp [State.onPropose]

@[simp] theorem State.onAccept_mem (s : State) (t : PeerId) (m : RepairMsg) : (s.onAccept t m).mem = s.mem := by
  simp [State.onAccept]

@[simp] theorem State.onDefer_mem (s : State) (t : PeerId) (m : RepairMsg) : (s.onDefer t m).mem = s.mem := by
  simp [State.onDefer]

@[simp] theorem State.onPortdown_mem (s : State) (t : PeerId) (m : RepairMsg) : (s.onPortdown t m).mem = s.mem := by
  simp [State.onPortdown]

@[simp] theorem State.answerRetrain_mem (s : State) (t : PeerId) (m : RepairMsg) (n : Nat) :
    (s.answerRetrain t m n).mem = s.mem := by
  simp [State.answerRetrain]

@[simp] theorem State.onRetrain_mem (s : State) (t : PeerId) (m : RepairMsg) : (s.onRetrain t m).mem = s.mem := by
  simp only [State.onRetrain]
  (repeat' split) <;> simp

@[simp] theorem State.resetPair_mem (s : State) (t : Nat) : (s.resetPair t).mem = s.mem := by simp [State.resetPair]
@[simp] theorem State.flushPeer_mem (s : State) (t : PeerId) : (s.flushPeer t).mem = s.mem := by simp [State.flushPeer]

@[simp] theorem State.onRejoin_mem (s : State) (t : PeerId) (m : RepairMsg) : (s.onRejoin t m).mem = s.mem := by
  simp [State.onRejoin]

@[simp] theorem State.onFlushed_mem (s : State) (t : PeerId) (m : RepairMsg) : (s.onFlushed t m).mem = s.mem := by
  simp [State.onFlushed]

@[simp] theorem State.relayEntries_mem (s : State) (port t : Nat) : (s.relayEntries port t).mem = s.mem := by
  simp [State.relayEntries]

@[simp] theorem State.applyRepair_mem (s : State) (r : Repair) : (s.applyRepair r).mem = s.mem := by
  simp only [State.applyRepair]
  (repeat' split) <;> simp

@[simp] theorem Memory.wf_repairApply (s : State) (h : Memory.wf s.mem = true) : Memory.wf s.repairApply.mem = true := by
  refine Memory.wf_foldl _ (fun t r ht => by simpa using ht) _ _ ?_
  exact Memory.wf_foldl _ (fun t r ht => by simp [ht]) _ s h

@[simp] theorem State.repairRepropose_mem (s : State) : s.repairRepropose.mem = s.mem := by simp [State.repairRepropose]

@[simp] theorem State.portdownApply_mem (s : State) : s.portdownApply.mem = s.mem := by
  simp -implicitDefEqProofs [State.portdownApply]

@[simp] theorem State.retrainBegin_mem (s : State) : s.retrainBegin.mem = s.mem := by
  simp -implicitDefEqProofs [State.retrainBegin]

@[simp] theorem Memory.wf_retrainEnd (s : State) (port : PortId) (t : PeerId) (h : Memory.wf s.mem = true) :
    Memory.wf (s.retrainEnd port t).mem = true := by
  simp [State.retrainEnd, h]

@[simp] theorem State.silence_mem (s : State) (t : Nat) : (s.silence t).mem = s.mem := by simp [State.silence]

@[simp] theorem Memory.wf_removePeer (s : State) (t : Nat) (h : Memory.wf s.mem = true) : Memory.wf (s.removePeer t).mem = true := by
  refine Memory.wf_foldl _ (fun u d hu => Memory.wf_dieLog u _ _ _ _ _ _ hu) _ _ ?_
  rw [State.relayLost_mem, State.resetPair_mem]
  exact Memory.wf_foldl _ (fun u g hu => Memory.wf_breakGroup u g hu) _ _ (by simpa using h)

@[simp] theorem Memory.wf_peerRemoval (s : State) (t : Nat) (h : Memory.wf s.mem = true) :
    Memory.wf (s.peerRemoval t).mem = true := by
  simp [State.peerRemoval, h]

@[simp] theorem State.seekRelay_mem (s : State) (t : Nat) : (s.seekRelay t).mem = s.mem := by
  simp only [State.seekRelay]
  (repeat' split) <;> simp

@[simp] theorem State.newRotation_mem (s : State) (d : Nat) : (s.newRotation d).mem = s.mem := by simp [State.newRotation]
@[simp] theorem State.peerWork_mem (s : State) : s.peerWork.mem = s.mem := by simp [State.peerWork]

@[simp] theorem Memory.wf_rotationBegins (s : State) (ds : List Nat) (h : Memory.wf s.mem = true) :
    Memory.wf (s.rotationBegins ds).mem = true := by
  simp [State.rotationBegins, h]

@[simp] theorem State.ofuReset_mem (s : State) (d : DieId) : (s.ofuReset d).mem = s.mem := by simp [State.ofuReset]

/-! ### Transfer instructions (Machine/Xfer) -/

theorem State.gate_mem (s : State) (t : BitVec 22) (k : State → State) (hk : (k s).mem = s.mem) : (s.gate t k).mem = s.mem := by
  simp [State.gate, hk]
theorem Memory.wf_gate (s : State) (t : BitVec 22) (k : State → State) (hk : Memory.wf (k s).mem = true) (h : Memory.wf s.mem = true) :
    Memory.wf (s.gate t k).mem = true := by
  simp [State.gate, hk, h]

@[simp] theorem capture_mem (i : Instr) (f : XF) (target : BitVec 22) (s : State) : (capture i f target s).mem = s.mem := by
  unfold capture
  split <;> simp

@[simp] theorem cpy_mem (i : Instr) (f : XF) (s : State) : (cpy i f s).mem = s.mem := by simp [cpy]

@[simp] theorem put_mem (i : Instr) (f : XF) (s : State) : (put i f s).mem = s.mem := by
  simp [put, State.gate_mem]

@[simp] theorem pref_mem (f : XF) (mode : W64) (s : State) : (pref f mode s).mem = s.mem := by
  simp only [pref]
  (repeat' split) <;> simp

@[simp] theorem flush_mem (f : XF) (s : State) : (flush f s).mem = s.mem := by
  simp only [flush]
  (repeat' split) <;> simp

/-! ### Transfers that land (Machine/Land) -/

@[simp] theorem Memory.wf_landWrite (s : State) (writer : CoreId) (groups : W64) (p : Piece) (data : List Byte)
    (h : Memory.wf s.mem = true) :
    Memory.wf (s.landWrite writer groups p data).mem = true := by
  simp [State.landWrite, h, Memory.wf_writeList]

@[simp] theorem Memory.wf_queueRecord (s : State) (c : CoreId) (r : Slot) (a : Arrival) (h : Memory.wf s.mem = true) :
    Memory.wf (s.queueRecord c r a).mem = true := by
  simp [State.queueRecord, h]

@[simp] theorem Memory.wf_queueArrival (s : State) (c : CoreId) (r : Option Slot) (a : Withheld) (h : Memory.wf s.mem = true) :
    Memory.wf (s.queueArrival c r a).1.mem = true := by
  unfold State.queueArrival
  split
  · exact h
  · dsimp only
    (repeat' split) <;> simp [h]

@[simp] theorem Memory.wf_sealBlock (s : State) (p : PartId) (w e : Nat) (h : Memory.wf s.mem = true) :
    Memory.wf (s.sealBlock p w e).mem = true := by
  simp only [State.sealBlock]
  (repeat' split) <;> simp [h]

@[simp] theorem Memory.wf_starve (s : State) (p : PartId) (n : Nat) (h : Memory.wf s.mem = true) :
    Memory.wf (s.starve p n).mem = true := by
  induction n generalizing s with
  | zero => exact h
  | succ n ih =>
    unfold State.starve
    (repeat' split) <;> simp -implicitDefEqProofs [h, ih]

@[simp] theorem Memory.wf_exhausted (p : PartId) (s : State) (h : Memory.wf s.mem = true) :
    Memory.wf (State.exhausted p s).mem = true := by
  simp [State.exhausted, h]

theorem Memory.wf_openBlock {s t : State} {p : PartId} {w e : Nat} {task : W32} (ht : s.openBlock p w e task = some t)
    (h : Memory.wf s.mem = true) : Memory.wf t.mem = true := by
  unfold State.openBlock at ht
  dsimp only at ht
  split at ht
  · cases ht
    exact h
  · cases ht
  · split at ht
    · cases ht
      exact Memory.wf_filter _ _ h
    · cases ht

@[simp] theorem Memory.wf_logRow (s : State) (row : LandRow) (ps : List Piece) (h : Memory.wf s.mem = true) :
    Memory.wf (s.logRow row ps).mem = true := by
  simp only [State.logRow]
  (repeat' split) <;> simp [h]

@[simp] theorem State.countRow_mem (s : State) (row : LandRow) : (s.countRow row).mem = s.mem := by
  unfold State.countRow
  split <;> simp

theorem Memory.wf_placeRow {s t : State} {p : PartId} {w e : Nat} {row : LandRow} (ht : s.placeRow p w e row = .landed t)
    (h : Memory.wf s.mem = true) : Memory.wf t.mem = true := by
  unfold State.placeRow at ht
  split at ht
  · cases ht
  · next u hu =>
    have hu := Memory.wf_openBlock hu h
    dsimp only at ht
    split at ht
    · cases ht
    · next ps absent hps =>
      have hrow := Memory.wf_foldl (fun s (q : Piece × Byte) => s.landWrite (tCore row.src) row.groups q.1 [q.2])
        (fun v q hv => Memory.wf_landWrite v _ _ q.1 _ hv) (ps.zip (rowBytes (winLength (u.window p w)) row.payload row.tag row.src))
        (u.logRow row ps) (Memory.wf_logRow u row ps hu)
      (repeat' split at ht) <;> cases ht
      · exact Memory.wf_exhausted p _ (Memory.wf_sealBlock _ p w e (by simpa using hrow))
      · exact Memory.wf_exhausted p _ (by simpa using hrow)

@[simp] theorem State.failRow_mem (s : State) (row : LandRow) (sub : BitVec 4) (va : VAddr) :
    (s.failRow row sub va).mem = s.mem := by
  unfold State.failRow
  split <;> simp

@[simp] theorem Memory.wf_acceptRow (s : State) (p : PartId) (w e : Nat) (row : LandRow) (h : Memory.wf s.mem = true) :
    Memory.wf (s.acceptRow p w e row).1.mem = true := by
  unfold State.acceptRow
  dsimp only
  split
  · simp -implicitDefEqProofs [h]
  · split
    · next t ht => exact Memory.wf_placeRow ht h
    · simp -implicitDefEqProofs [h]
    · simp [h]

@[simp] theorem Memory.wf_drainRows (s : State) (p : PartId) (n : Nat) (h : Memory.wf s.mem = true) :
    Memory.wf (s.drainRows p n).mem = true := by
  induction n generalizing s with
  | zero => exact h
  | succ n ih =>
    unfold State.drainRows
    dsimp only
    split
    · exact h
    · next t ht =>
      refine ih t ?_
      obtain ⟨b, -, hb⟩ := List.exists_of_findSome?_eq_some ht
      split at hb
      · next u hu =>
        obtain rfl := Option.some.inj hb
        exact Memory.wf_placeRow (t := u) hu h
      · cases hb
        simp [h]
      · cases hb

@[simp] theorem Memory.wf_settleRows (s : State) (p : PartId) (h : Memory.wf s.mem = true) :
    Memory.wf (s.settleRows p).mem = true := by
  simp [State.settleRows, h]

@[simp] theorem Memory.wf_settleAllRows (s : State) (h : Memory.wf s.mem = true) : Memory.wf s.settleAllRows.mem = true :=
  Memory.wf_foldl _ (fun t _ ht => Memory.wf_settleRows t _ ht) _ s h

@[simp] theorem Memory.wf_releaseBlocks (s : State) (p : PartId) (w e : Nat) (h : Memory.wf s.mem = true) :
    Memory.wf (s.releaseBlocks p w e).mem = true := by
  simp only [State.releaseBlocks]
  (repeat' split) <;> simp [h]

@[simp] theorem Memory.wf_landSendm (s : State) (p : PartId) (b : W64) (mask : W32) (row : LandRow) (h : Memory.wf s.mem = true) :
    Memory.wf (s.landSendm p b mask row).mem = true := by
  refine Memory.wf_fst_foldl _ (fun a e ha => ?_) _ _ h
  dsimp only
  split
  · exact ha
  · exact Memory.wf_acceptRow a.1 p _ e _ ha

@[simp] theorem State.freeXfer_mem (s : State) (c : CoreId) (r : Slot) (n : Nat) : (s.freeXfer c r n).mem = s.mem := by
  simp [State.freeXfer]

@[simp] theorem State.setXfer_mem (s : State) (c : CoreId) (r : Slot) (n : Nat) (x : Xfer) : (s.setXfer c r n x).mem = s.mem := by
  simp [State.setXfer]

@[simp] theorem Memory.wf_finishXfer (s : State) (c : CoreId) (r : Slot) (n : Nat) (x : Xfer) (h : Memory.wf s.mem = true) :
    Memory.wf (s.finishXfer c r n x).mem = true := by
  simp [State.finishXfer, h]

@[simp] theorem Memory.wf_landed (s : State) (c : CoreId) (r : Slot) (n : Nat) (x : Xfer) (len : Nat) (h : Memory.wf s.mem = true) :
    Memory.wf (s.landed c r n x len).mem = true := by
  unfold State.landed
  extract_lets f task far t handled a seat
  have ht : Memory.wf t.mem = true := by
    simp only [t]
    split <;> simp [h]
  split
  · have hq := Memory.wf_queueArrival t (tCore x.target) seat { arr := a, core := some c, slot := r, xfer := n } ht
    split <;> simp_all
  · exact Memory.wf_finishXfer t c r n x ht

@[simp] theorem Memory.wf_moveElements (s : State) (c : CoreId) (r : Slot) (x : Xfer) (p : Plan) (rs ws : List Piece) (ks : List Nat)
    (h : Memory.wf s.mem = true) : Memory.wf (s.moveElements c r x p rs ws ks).1.mem = true := by
  simp -implicitDefEqProofs [State.moveElements, h]

@[simp] theorem Memory.wf_landLocal (s : State) (c : CoreId) (r : Slot) (n : Nat) (x : Xfer) (h : Memory.wf s.mem = true) :
    Memory.wf (s.landLocal c r n x).mem = true := by
  simp only [State.landLocal]
  (repeat' split) <;> simp [h]

@[simp] theorem Memory.wf_readElement (s : State) (c : CoreId) (r : Slot) (n k : Nat) (x : Xfer) (h : Memory.wf s.mem = true) :
    Memory.wf (s.readElement c r n k x).mem = true := by
  simp only [State.readElement]
  (repeat' split) <;> simp [h]

@[simp] theorem Memory.wf_landElement (s : State) (c : CoreId) (r : Slot) (n k : Nat) (h : Memory.wf s.mem = true) :
    Memory.wf (s.landElement c r n k).mem = true := by
  simp only [State.landElement]
  (repeat' split) <;> simp [h]

@[simp] theorem Memory.wf_sendmLocal (s : State) (c : CoreId) (r : Slot) (n : Nat) (x : Xfer) (h : Memory.wf s.mem = true) :
    Memory.wf (s.sendmLocal c r n x).mem = true := by
  simp only [State.sendmLocal]
  (repeat' split) <;> simp [h]

@[simp] theorem Memory.wf_rankmergeApply (s : State) (c : CoreId) (r : Slot) (n : Nat) (h : Memory.wf s.mem = true) :
    Memory.wf (s.rankmergeApply c r n).mem = true := by
  simp only [State.rankmergeApply]
  (repeat' split) <;> simp [h]

@[simp] theorem Memory.wf_sendAway (s : State) (c : CoreId) (r : Slot) (n : Nat) (x : Xfer) (h : Memory.wf s.mem = true) :
    Memory.wf (s.sendAway c r n x).mem = true := by
  simp only [State.sendAway]
  (repeat' split) <;> simp [h]

@[simp] theorem Memory.wf_transferComplete (s : State) (c : CoreId) (r : Slot) (n : Nat) (h : Memory.wf s.mem = true) :
    Memory.wf (s.transferComplete c r n).mem = true := by
  simp only [State.transferComplete]
  (repeat' split) <;> simp [h]

@[simp] theorem Memory.wf_remoteFlagPost (s : State) (c : CoreId) (task : W32) (f : BitVec 5) (amt : BitVec 16)
    (h : Memory.wf s.mem = true) :
    Memory.wf (s.remoteFlagPost c task f amt).mem = true := by
  simp only [State.remoteFlagPost]
  (repeat' split) <;> simp [h]

theorem Memory.wf_landSome {s t : State} {c : CoreId} {r : Slot} {x : Xfer} {landed n : Nat} (ht : s.landSome c r x landed = some (t, n))
    (h : Memory.wf s.mem = true) : Memory.wf t.mem = true := by
  unfold State.landSome at ht
  dsimp only at ht
  (repeat' split at ht) <;> cases ht <;> simp [h]

@[simp] theorem Memory.wf_logAway (s : State) (c : CoreId) (r : Slot) (t : Xfer) (va : VAddr) (h : Memory.wf s.mem = true) :
    Memory.wf (s.logAway c r t va).mem = true := by
  simp only [State.logAway]
  (repeat' split) <;> simp [h]

@[simp] theorem Memory.wf_transferFault (s : State) (c : CoreId) (r : Slot) (n : Nat) (x : XferFault) (h : Memory.wf s.mem = true) :
    Memory.wf (s.transferFault c r n x).mem = true := by
  unfold State.transferFault
  split
  · exact h
  · dsimp only
    split
    · split
      · next u k hu =>
        split at hu
        · simpa using Memory.wf_landSome hu h
        · cases hu
          simp [h]
      · exact h
    · (repeat' split) <;> simp [h]

@[simp] theorem State.handlerStart_mem (s : State) (c : CoreId) (r : Slot) : (s.handlerStart c r).mem = s.mem := by
  simp only [State.handlerStart]
  (repeat' split) <;> simp

@[simp] theorem Memory.wf_expertRelease (s : State) (w e : Nat) (h : Memory.wf s.mem = true) : Memory.wf (s.expertRelease w e).mem = true :=
  Memory.wf_foldl _ (fun t _ ht => Memory.wf_releaseBlocks t _ w e ht) _ s h

/-! ### Frames that arrive (Machine/Frames) -/

@[simp] theorem State.onMessage_mem (s : State) (t : PeerId) (b : BitVec 128) : (s.onMessage t b).mem = s.mem := by
  unfold State.onMessage
  split <;> simp

@[simp] theorem State.modPairAt_mem (s : State) (k : Nat) (f : Pair → Pair) : (s.modPairAt k f).mem = s.mem := by
  simp [State.modPairAt]

@[simp] theorem State.settleOwed_mem (s : State) : s.settleOwed.mem = s.mem := by simp [State.settleOwed]
@[simp] theorem State.onCounts_mem (s : State) (k : Nat) (f : Frame) : (s.onCounts k f).mem = s.mem := by simp [State.onCounts]

@[simp] theorem State.onItems_mem (s : State) (t : PeerId) (l : List (BitVec 16)) : (s.onItems t l).mem = s.mem := by
  simp [State.onItems]

@[simp] theorem State.failFrame_mem (s : State) (k : Nat) (f : Frame) : (s.failFrame k f).mem = s.mem := by simp [State.failFrame]

theorem Memory.wf_landFrame {s t : State} {k : Nat} {f : Frame} {places : List Reached} {b : Bool}
    (ht : s.landFrame k f places = some (t, b)) (h : Memory.wf s.mem = true) : Memory.wf t.mem = true := by
  have hf : ∀ l : List (Piece × List Byte),
      Memory.wf (l.foldl (fun s q => s.landWrite (tCore f.cmd.source) f.cmd.groups q.1 q.2) s).mem = true :=
    fun l => Memory.wf_foldl _ (fun u q hu => Memory.wf_landWrite u _ _ q.1 q.2 hu) l s h
  unfold State.landFrame at ht
  dsimp only at ht
  split at ht
  · cases ht
  · cases ht
    split
    · simp [hf]
    · exact hf _

@[simp] theorem Memory.wf_putLanded (s : State) (k : Nat) (t : Task) (f : Frame) (h : Memory.wf s.mem = true) :
    Memory.wf (s.putLanded k t f).1.mem = true := by
  unfold State.putLanded
  dsimp only
  (repeat' split) <;> simp -implicitDefEqProofs [h]

theorem Memory.wf_applyPut {s t : State} {k : Nat} {f : Frame} {b : Bool} (ht : s.applyPut k f = some (t, b))
    (h : Memory.wf s.mem = true) : Memory.wf t.mem = true := by
  unfold State.applyPut at ht
  dsimp only at ht
  split at ht
  · cases ht
    simp [h]
  · split at ht
    · cases ht
      simp [h]
    · split at ht
      · cases ht
        simp [h]
      · split at ht
        · cases ht
        · next u ok hu =>
          have hu := Memory.wf_landFrame hu h
          split at ht
          · obtain rfl := congrArg Prod.fst (Option.some.inj ht)
            exact Memory.wf_putLanded u k _ f hu
          · cases ht
            exact hu

theorem Memory.wf_applySend {s t : State} {k : Nat} {f : Frame} {b : Bool} (ht : s.applySend k f = some (t, b))
    (h : Memory.wf s.mem = true) : Memory.wf t.mem = true := by
  unfold State.applySend at ht
  dsimp only at ht
  split at ht
  · cases ht
    simp [h]
  · split at ht
    · cases ht
      simp [h]
    · split at ht
      · cases ht
      · next u ok hu =>
        have hu := Memory.wf_landFrame hu h
        (repeat' split at ht) <;> cases ht <;> simp [hu]

@[simp] theorem Memory.wf_applySendm (s : State) (k : Nat) (f : Frame) (h : Memory.wf s.mem = true) :
    Memory.wf (s.applySendm k f).1.mem = true := by
  unfold State.applySendm
  dsimp only
  (repeat' split) <;> simp [h]

@[simp] theorem Memory.wf_applyXflag (s : State) (f : Frame) (h : Memory.wf s.mem = true) :
    Memory.wf (s.applyXflag f).mem = true := by
  unfold State.applyXflag
  split <;> simp [h]

theorem Memory.wf_applyRead {s t : State} {f : Frame} (ht : s.applyRead f = some t) (h : Memory.wf s.mem = true) :
    Memory.wf t.mem = true := by
  unfold State.applyRead at ht
  dsimp only at ht
  (repeat' split at ht) <;> cases ht <;> simp -implicitDefEqProofs [h]

theorem Memory.wf_applyAnswer {s t : State} {f : Frame} (ht : s.applyAnswer f = some t) (h : Memory.wf s.mem = true) :
    Memory.wf t.mem = true := by
  unfold State.applyAnswer at ht
  dsimp only at ht
  (repeat' split at ht) <;> cases ht <;> simp -implicitDefEqProofs [h]

@[simp] theorem State.tell_mem (s : State) (f : Frame) (addr : VAddr) (m : Carried) (pte : W64) :
    (s.tell f addr m pte).mem = s.mem := by
  simp [State.tell]

theorem State.applyAsk_mem {s t : State} {f : Frame} (ht : s.applyAsk f = some t) : t.mem = s.mem := by
  unfold State.applyAsk at ht
  dsimp only at ht
  (repeat' split at ht) <;> cases ht <;> simp

@[simp] theorem State.retell_mem (s : State) (f : Frame) : (s.retell f).mem = s.mem := by simp [State.retell]

@[simp] theorem State.applyTold_mem (s : State) (f : Frame) : (s.applyTold f).mem = s.mem := by
  simp only [State.applyTold]
  (repeat' split) <;> simp

theorem Memory.wf_applyKind {s t : State} {k : Nat} {f : Frame} {b : Bool} (ht : s.applyKind k f = some (t, b))
    (h : Memory.wf s.mem = true) : Memory.wf t.mem = true := by
  unfold State.applyKind at ht
  dsimp only at ht
  split at ht
  case h_1 | h_2 =>
    split at ht
    · cases ht
      exact h
    · exact Memory.wf_applyPut ht h
  case h_3 =>
    obtain ⟨u, hu, he⟩ := Option.map_eq_some_iff.mp ht
    cases he
    exact Memory.wf_applyRead hu h
  case h_4 =>
    obtain ⟨u, hu, he⟩ := Option.map_eq_some_iff.mp ht
    cases he
    exact Memory.wf_applyAnswer hu h
  case h_5 =>
    split at ht
    · cases ht
      exact h
    · exact Memory.wf_applySend ht h
  case h_6 =>
    obtain rfl := congrArg Prod.fst (Option.some.inj ht)
    exact Memory.wf_applySendm s k f h
  case h_8 =>
    obtain ⟨u, hu, he⟩ := Option.map_eq_some_iff.mp ht
    cases he
    rw [State.applyAsk_mem hu]
    exact h
  all_goals
    cases ht
    simp [h]

theorem Memory.wf_applyFrame {s t : State} {k : Nat} {f : Frame} (ht : s.applyFrame k f = some t) (h : Memory.wf s.mem = true) :
    Memory.wf t.mem = true := by
  unfold State.applyFrame at ht
  dsimp only at ht
  split at ht
  · cases ht
  · split at ht
    · cases ht
    · next u b hu =>
      cases ht
      simp -implicitDefEqProofs [Memory.wf_applyKind hu, h]

@[simp] theorem Memory.wf_applyEarly (s : State) (k n : Nat) (h : Memory.wf s.mem = true) : Memory.wf (s.applyEarly k n).mem = true := by
  induction n generalizing s with
  | zero => exact h
  | succ n ih =>
    unfold State.applyEarly
    dsimp only
    split
    · exact h
    · split
      · exact h
      · split
        · simp [h]
        · split
          · exact h
          · next u hu => exact ih _ (by simpa using Memory.wf_applyFrame hu h)

@[simp] theorem Memory.wf_unblock (s : State) (k : Nat) (h : Memory.wf s.mem = true) : Memory.wf (s.unblock k).mem = true := by
  simp [State.unblock, h]

@[simp] theorem Memory.wf_unblockAll (s : State) (h : Memory.wf s.mem = true) : Memory.wf s.unblockAll.mem = true :=
  Memory.wf_foldl _ (fun t k ht => Memory.wf_unblock t k ht) _ _ (Memory.wf_settleAllRows s h)

@[simp] theorem Memory.wf_sequence (s : State) (k : Nat) (f : Frame) (h : Memory.wf s.mem = true) : Memory.wf (s.sequence k f).mem = true := by
  have hu := Memory.wf_unblock s k h
  unfold State.sequence
  dsimp only
  split
  · split
    · exact hu
    · split
      · simp [hu]
      · split
        · exact hu
        · next t ht => exact Memory.wf_applyEarly t k _ (Memory.wf_applyFrame ht hu)
  · split <;> simp [hu]

@[simp] theorem State.relayFrame_mem (s : State) (f : Frame) : (s.relayFrame f).mem = s.mem := by simp [State.relayFrame]
@[simp] theorem State.heardFrom_mem (s : State) (f : Frame) : (s.heardFrom f).mem = s.mem := by simp [State.heardFrom]
@[simp] theorem State.countFec_mem (s : State) (f : Frame) : (s.countFec f).mem = s.mem := by simp [State.countFec]

@[simp] theorem State.softError_mem (s : State) : s.softError.mem = s.mem := by
  unfold State.softError
  split <;> simp

@[simp] theorem Memory.wf_receive (s : State) (f : Frame) (h : Memory.wf s.mem = true) : Memory.wf (s.receive f).mem = true := by
  simp [State.receive, h]

@[simp] theorem Memory.wf_receiveKind (s : State) (n : Nat) (f : Frame) (h : Memory.wf s.mem = true) :
    Memory.wf (s.receiveKind n f).mem = true := by
  simp [State.receiveKind, h]

@[simp] theorem Memory.wf_arrivalRoom (s : State) (c : CoreId) (r : Slot) (h : Memory.wf s.mem = true) :
    Memory.wf (s.arrivalRoom c r).mem = true := by
  simp only [State.arrivalRoom]
  (repeat' split) <;> simp [h]

/-! ### CSRs, clocks and TLBIs (Machine/System) -/

@[simp] theorem wrc_mem (f : CF) (csr : Nat) (s : State) : (wrc f csr s).mem = s.mem := by simp [wrc]
@[simp] theorem clkdiv_mem (f : CF) (s : State) : (clkdiv f s).mem = s.mem := by simp [clkdiv]
@[simp] theorem ebreak_mem (s : State) : (ebreak s).mem = s.mem := by simp [ebreak]
@[simp] theorem rfe_mem (s : State) : (rfe s).mem = s.mem := by simp [rfe]
@[simp] theorem State.markStale_mem (s : State) (t : Nat) : (s.markStale t).mem = s.mem := by simp [State.markStale]

@[simp] theorem startTlbi_mem (kind : BitVec 3) (root : BitVec 34) (va : W64) (s : State) :
    (startTlbi kind root va s).mem = s.mem := by
  simp [startTlbi]

/-! ### Zones (Machine/Zones) -/

@[simp] theorem State.rezone_mem (s : State) (z : Nat) : (s.rezone z).mem = s.mem := by
  unfold State.rezone
  split <;> simp

/-! ### Saving, restoring and the debugger (Machine/Save) -/

@[simp] theorem State.landAt_mem (s : State) (c : CoreId) (t : Fly → Bool) : (s.landAt c t).mem = s.mem := by simp [State.landAt]

@[simp] theorem State.handover_mem (s : State) (line : Nat) : (s.handover line).mem = s.mem := by
  simp only [State.handover]
  (repeat' split) <;> simp

@[simp] theorem State.evictL1_mem (s : State) (line : Nat) : (s.evictL1 line).mem = s.mem := by
  simp only [State.evictL1]
  (repeat' split) <;> simp

@[simp] theorem State.evictSlice_mem (s : State) (line : Nat) : (s.evictSlice line).mem = s.mem := by simp [State.evictSlice]

@[simp] theorem Memory.wf_writeRegions (s : State) (c : CoreId) (r : Slot) (h : Memory.wf s.mem = true) :
    Memory.wf (s.writeRegions c r).mem = true := by
  refine Memory.wf_writeFree _ _ _ (Memory.wf_writeFree _ _ _ ?_)
  exact Memory.wf_foldl _ (fun t _ ht => Memory.wf_writeNat t _ _ _ ht) _ _ (Memory.wf_writeFree _ _ _ h)

@[simp] theorem Memory.wf_writeImage (s : State) (c : CoreId) (r : Slot) (h : Memory.wf s.mem = true) :
    Memory.wf (s.writeImage c r).mem = true := by
  refine Memory.wf_foldl _ (fun t _ ht => Memory.wf_writeNat t _ _ _ ht) _ _ ?_
  refine Memory.wf_foldl _ (fun t _ ht => Memory.wf_writeNat t _ _ _ ht) _ _ ?_
  exact Memory.wf_writeNat _ _ _ _ (Memory.wf_writeNat _ _ _ _ h)

@[simp] theorem State.preemptionRequest_mem (s : State) (c : CoreId) : (s.preemptionRequest c).mem = s.mem := by
  simp [State.preemptionRequest]

@[simp] theorem State.preemptionLanding_mem (s : State) (c : CoreId) : (s.preemptionLanding c).mem = s.mem := by
  simp [State.preemptionLanding]

@[simp] theorem State.forcedPreemption_mem (s : State) (c : CoreId) : (s.forcedPreemption c).mem = s.mem := by
  simp [State.forcedPreemption]

@[simp] theorem Memory.wf_contextSave (s : State) (c : CoreId) (h : Memory.wf s.mem = true) :
    Memory.wf (s.contextSave c).mem = true := by
  unfold State.contextSave
  split
  · exact h
  · split
    · exact h
    · rw [State.modCore_mem, State.modRes_mem, State.unpin_mem]
      exact Memory.wf_writeImage _ c _ (Memory.wf_writeRegions _ c _ h)

@[simp] theorem State.resetDivs_mem (s : State) (c : CoreId) : (s.resetDivs c).mem = s.mem := by simp [State.resetDivs]

@[simp] theorem Memory.wf_moveBytes (s : State) (src dst n : Nat) (h : Memory.wf s.mem = true) :
    Memory.wf (s.moveBytes src dst n).mem = true := by
  simp [State.moveBytes, h, Memory.wf_writeList]

@[simp] theorem State.reseat_mem (s : State) (c : CoreId) (old new : Slot) : (s.reseat c old new).mem = s.mem := by
  simp [State.reseat]

@[simp] theorem Memory.wf_placeBack (s : State) (c : CoreId) (h : Memory.wf s.mem = true) :
    Memory.wf (s.placeBack c).mem = true := by
  simp only [State.placeBack]
  (repeat' split) <;> simp [h]

@[simp] theorem State.restoreInto_mem (s : State) (c : CoreId) (r : Slot) : (s.restoreInto c r).mem = s.mem := by
  simp [State.restoreInto]

@[simp] theorem Memory.wf_contextRestore (s : State) (c : CoreId) (h : Memory.wf s.mem = true) :
    Memory.wf (s.contextRestore c).mem = true := by
  simp only [State.contextRestore]
  (repeat' split) <;> simp [h]

@[simp] theorem Memory.wf_heldApply (s : State) (c : CoreId) (r : Slot) (h : Memory.wf s.mem = true) :
    Memory.wf (s.heldApply c r).mem = true := by
  unfold State.heldApply
  dsimp only
  split
  · exact h
  · exact Memory.wf_foldl _ (fun t a ht => Memory.wf_queueArrival t c _ a ht) _ _
      (Memory.wf_foldl _ (fun t p ht => Memory.wf_postAt t c r _ _ _ ht) _ _ h)

@[simp] theorem State.asyncDelivery_mem (s : State) (c : CoreId) (r : Slot) : (s.asyncDelivery c r).mem = s.mem := by
  simp only [State.asyncDelivery]
  (repeat' split) <;> simp

@[simp] theorem State.machineTrap_mem (s : State) (c : CoreId) (zone : BitVec 9) : (s.machineTrap c zone).mem = s.mem := by
  simp [State.machineTrap]

@[simp] theorem State.haltLanding_mem (s : State) (c : CoreId) : (s.haltLanding c).mem = s.mem := by simp [State.haltLanding]
@[simp] theorem State.dbgResume_mem (s : State) (c : CoreId) : (s.dbgResume c).mem = s.mem := by simp [State.dbgResume]
@[simp] theorem State.debugStep_mem (s : State) (c : CoreId) : (s.debugStep c).mem = s.mem := by simp [State.debugStep]

/-! ### Queues and their commands (Machine/Queue) -/

@[simp] theorem State.settleQueue_mem (s : State) (q : QueueId) : (s.settleQueue q).mem = s.mem := by simp [State.settleQueue]

@[simp] theorem Memory.wf_queueError (s : State) (q : QueueId) (code : Byte) (h : Memory.wf s.mem = true) :
    Memory.wf (s.queueError q code).mem = true := by
  simp [State.queueError, h]

@[simp] theorem State.started_mem (s : State) (q : QueueId) (task : Option W32) : (s.started q task).mem = s.mem := by
  simp [State.started]

@[simp] theorem State.completed_mem (s : State) (q : QueueId) (n : W32) : (s.completed q n).mem = s.mem := by
  simp [State.completed]

@[simp] theorem Memory.wf_doorbell (s : State) (p : PartId) (w : W64) (h : Memory.wf s.mem = true) :
    Memory.wf (s.doorbell p w).mem = true := by
  simp [State.doorbell, h]

@[simp] theorem Memory.wf_ringHeld (s : State) (p : PartId) (h : Memory.wf s.mem = true) : Memory.wf (s.ringHeld p).mem = true := by
  unfold State.ringHeld
  split
  · exact h
  · exact Memory.wf_foldl _ (fun t w ht => Memory.wf_doorbell t p w ht) _ _ h

theorem State.qcmd_mem (s : State) (p : PartId) (w : W64) (op : Nat) (ok : Bool) (f : State → State) (hf : (f s).mem = s.mem) :
    (s.qcmd p w op ok f).mem = s.mem := by
  simp [State.qcmd, hf]

@[simp] theorem State.createQueue_mem (s : State) (p : PartId) (q : QueueId) : (s.createQueue p q).mem = s.mem := by
  simp [State.createQueue]

@[simp] theorem State.qcmdCreate_mem (s : State) (p : PartId) (w : W64) : (s.qcmdCreate p w).mem = s.mem :=
  State.qcmd_mem s p w _ _ _ (by simp)

@[simp] theorem State.qcmdDestroy_mem (s : State) (p : PartId) (w : W64) : (s.qcmdDestroy p w).mem = s.mem :=
  State.qcmd_mem s p w _ _ _ (by simp)

@[simp] theorem State.qcmdKill_mem (s : State) (p : PartId) (w : W64) : (s.qcmdKill p w).mem = s.mem :=
  State.qcmd_mem s p w _ _ _ (by simp)

@[simp] theorem State.qcmdClearerr_mem (s : State) (p : PartId) (w : W64) : (s.qcmdClearerr p w).mem = s.mem :=
  State.qcmd_mem s p w _ _ _ (by simp)

@[simp] theorem State.qcmdArmreload_mem (s : State) (p : PartId) (w : W64) : (s.qcmdArmreload p w).mem = s.mem :=
  State.qcmd_mem s p w _ _ _ (by simp)

@[simp] theorem State.queried_mem (s : State) (p : PartId) (d : BitVec 256) : (s.queried p d).mem = s.mem := by
  simp [State.queried]

@[simp] theorem State.queryQueue_mem (s : State) (p : PartId) (q : QueueId) : (s.queryQueue p q).mem = s.mem := by
  simp [State.queryQueue]

@[simp] theorem State.queryGroup_mem (s : State) (p : PartId) (g : GroupId) (high : Bool) :
    (s.queryGroup p g high).mem = s.mem := by
  simp [State.queryGroup]

@[simp] theorem State.qcmdQuery_mem (s : State) (p : PartId) (w : W64) : (s.qcmdQuery p w).mem = s.mem := by
  simp [State.qcmdQuery, State.qcmd_mem]

@[simp] theorem Memory.wf_dispWrite (s : State) (p : Piece) (x : Nat) (h : Memory.wf s.mem = true) :
    Memory.wf (s.dispWrite p x).mem = true := by
  simp [State.dispWrite, h, Memory.wf_writeList]

/-! ### The dispatcher (Machine/Serve) -/

@[simp] theorem State.mapSpares_mem (s : State) (d : DieId) : (s.mapSpares d).mem = s.mem := by simp [State.mapSpares]

@[simp] theorem State.markServed_mem (s : State) (q : QueueId) : (s.markServed q).mem = s.mem := by
  simp only [State.markServed]
  (repeat' split) <;> simp

theorem Memory.wf_take (s : State) (q : QueueId) (pkt : Packet) (type : Nat) (f : Queue → State → State)
    (hf : ∀ k t, Memory.wf t.mem = true → Memory.wf (f k t).mem = true) (h : Memory.wf s.mem = true) :
    Memory.wf (s.take q pkt type f).mem = true := by
  unfold State.take
  dsimp only
  (repeat' split) <;> simp [hf, h]

@[simp] theorem Memory.wf_nopPacket (s : State) (q : QueueId) (pkt : Packet) (h : Memory.wf s.mem = true) :
    Memory.wf (s.nopPacket q pkt).mem = true :=
  Memory.wf_take s q pkt 0 _ (fun k t ht => by simpa using ht) h

@[simp] theorem Memory.wf_signalPacket (s : State) (q : QueueId) (pkt : Packet) (h : Memory.wf s.mem = true) :
    Memory.wf (s.signalPacket q pkt).mem = true := by
  refine Memory.wf_take s q pkt 2 _ (fun k t ht => ?_) h
  split
  · split
    · exact h
    · simp [ht]
  · simp [ht]

@[simp] theorem Memory.wf_waitsig (s : State) (q : QueueId) (pkt : Packet) (h : Memory.wf s.mem = true) :
    Memory.wf (s.waitsig q pkt).mem = true := by
  refine Memory.wf_take s q pkt 3 _ (fun k t ht => ?_) h
  split
  · simp [ht]
  · simp [h, ht]

@[simp] theorem Memory.wf_waitsigReread (s : State) (q : QueueId) (h : Memory.wf s.mem = true) :
    Memory.wf (s.waitsigReread q).mem = true := by
  simp only [State.waitsigReread]
  (repeat' split) <;> simp [h]

/-! ### Launches and the end of a task (Machine/Launch) -/

@[simp] theorem Memory.wf_evict (s : State) (c : CoreId) (r : Slot) (h : Memory.wf s.mem = true) :
    Memory.wf (s.evict c r).mem = true := by
  simp [State.evict, h]

@[simp] theorem Memory.wf_fillScratch (s : State) (c : CoreId) (base size : Nat) (same : Bool) (dom : BitVec 20)
    (image : List Byte) (h : Memory.wf s.mem = true) :
    Memory.wf (s.fillScratch c base size same dom image).mem = true := by
  simp [State.fillScratch, h, Memory.wf_writeList]

@[simp] theorem Memory.wf_launchOn (s : State) (l : LaunchOf) (c : CoreId) (kind : Nat) (r : Slot) (tci : Nat)
    (h : Memory.wf s.mem = true) : Memory.wf (s.launchOn l c kind r tci).mem = true := by
  unfold State.launchOn
  extract_lets t k prev pos base x u
  have ht : Memory.wf t.mem = true := by
    simp only [t]
    split <;> simp [h]
  have hu : Memory.wf u.mem = true := Memory.wf_fillScratch t c _ _ _ _ _ ht
  split
  · exact Memory.wf_writeImage _ c r (Memory.wf_writeRegions _ c r hu)
  · simpa using hu

@[simp] theorem Memory.wf_admitTask (s : State) (q : QueueId) (p : Packet) (prio : Nat) (w : Wanted)
    (chosen : List (CoreId × Nat × Slot)) (h : Memory.wf s.mem = true) : Memory.wf (s.admitTask q p prio w chosen).mem = true := by
  unfold State.admitTask
  dsimp only
  rw [State.modQueue_mem, State.started_mem]
  refine Memory.wf_foldl _ (fun t e ht => Memory.wf_launchOn t _ _ _ _ _ ht) _ _ ?_
  refine Memory.wf_foldl _ (fun t g ht => by simpa using ht) _ _ ?_
  exact Memory.wf_foldl _ (fun t z ht => by simpa using ht) _ _ h

@[simp] theorem Memory.wf_writeRecord (s : State) (q : QueueId) (root : BitVec 34) (p : PartId) (signal : VAddr) (x : W64)
    (h : Memory.wf s.mem = true) :
    Memory.wf (s.writeRecord q root p signal x).mem = true := by
  unfold State.writeRecord
  split <;> simp [h]

@[simp] theorem Memory.wf_refuse (s : State) (q : QueueId) (p : Packet) (h : Memory.wf s.mem = true) :
    Memory.wf (s.refuse q p).mem = true := by
  simp [State.refuse, h]

@[simp] theorem Memory.wf_tryLaunch (s : State) (q : QueueId) (p : Packet) (h : Memory.wf s.mem = true) :
    Memory.wf (s.tryLaunch q p).mem = true := by
  simp only [State.tryLaunch]
  (repeat' split) <;> simp [h]

@[simp] theorem Memory.wf_retryLaunch (s : State) (q : QueueId) (h : Memory.wf s.mem = true) :
    Memory.wf (s.retryLaunch q).mem = true := by
  unfold State.retryLaunch
  split <;> simp [h]

@[simp] theorem State.stopXfers_mem (s : State) (c : CoreId) (r : Slot) : (s.stopXfers c r).mem = s.mem := by
  simp [State.stopXfers]

@[simp] theorem State.stopTask_mem (s : State) (t : Task) : (s.stopTask t).mem = s.mem := by simp [State.stopTask]

@[simp] theorem Memory.wf_returnPages (s : State) (t : Task) (h : Memory.wf s.mem = true) :
    Memory.wf (s.returnPages t).mem = true := by
  simp [State.returnPages, h]

@[simp] theorem Memory.wf_release (s : State) (t : Task) (h : Memory.wf s.mem = true) : Memory.wf (s.release t).mem = true := by
  refine Memory.wf_foldl _ (fun u z hu => by simpa using hu) _ _ (Memory.wf_returnPages _ t ?_)
  refine Memory.wf_foldl _ (fun u g hu => ?_) _ _ (Memory.wf_foldl _ (fun u e hu => by simpa using hu) _ s h)
  split <;> simp [hu]

@[simp] theorem Memory.wf_taskEnd (s : State) (id : W32) (h : Memory.wf s.mem = true) : Memory.wf (s.taskEnd id).mem = true := by
  unfold State.taskEnd
  split
  · exact h
  · next t ht =>
    have hr : ∀ u : State, Memory.wf u.mem = true → ∀ x, Memory.wf ((u.release t).writeRecord t.queue t.root t.part t.signal x).mem = true :=
      fun u hu x => Memory.wf_writeRecord _ _ _ _ _ _ (Memory.wf_release u t hu)
    dsimp only
    (repeat' split) <;> simp [h, hr]

/-! ### Fenced cores and dies, errors (Machine/Fence) -/

@[simp] theorem State.failTasksOf_mem (s : State) (c : CoreId) : (s.failTasksOf c).mem = s.mem := by
  simp -implicitDefEqProofs [State.failTasksOf]

@[simp] theorem State.coreFence_mem (s : State) (c : CoreId) : (s.coreFence c).mem = s.mem := by simp [State.coreFence]
@[simp] theorem State.holdLink_mem (s : State) (l : Nat) : (s.holdLink l).mem = s.mem := by simp [State.holdLink]

@[simp] theorem Memory.wf_dieFence (s : State) (d : DieId) (h : Memory.wf s.mem = true) : Memory.wf (s.dieFence d).mem = true := by
  refine Memory.wf_foldl _ (fun t e ht => Memory.wf_breakGroup t _ ht) _ _ ?_
  refine Memory.wf_foldl _ (fun t p ht => ?_) _ _ ?_
  · split <;> simp [ht]
  · refine Memory.wf_foldl _ (fun t e ht => by simpa using ht) _ _ ?_
    dsimp only
    split <;> simp [h]

@[simp] theorem Memory.wf_bridgeFails (s : State) (h : Memory.wf s.mem = true) : Memory.wf s.bridgeFails.mem = true :=
  Memory.wf_foldl _ (fun t _ ht => Memory.wf_dieFence t _ ht) _ s h

@[simp] theorem Memory.wf_mirror (s : State) (d : DieId) (h : Memory.wf s.mem = true) : Memory.wf (s.mirror d).mem = true := by
  unfold State.mirror
  dsimp only
  split
  · exact h
  · exact Memory.wf_writeList s _ h

@[simp] theorem State.modStk_mem (s : State) (d : DieId) (f : Stk → Stk) : (s.modStk d f).mem = s.mem := by simp [State.modStk]

@[simp] theorem Memory.wf_propose (s : State) (d : DieId) (m : Tab Bool) (h : Memory.wf s.mem = true) :
    Memory.wf (s.propose d m).mem = true := by
  simp only [State.propose]
  (repeat' split) <;> simp [h]

@[simp] theorem Memory.wf_noteError (s : State) (pa : Nat) (h : Memory.wf s.mem = true) :
    Memory.wf (s.noteError pa).mem = true := by
  simp only [State.noteError]
  (repeat' split) <;> simp [h]

@[simp] theorem State.groupConsumes_mem (s : State) (c : CoreId) (x : CtxId) (pos : BitVec 4) (pa : BitVec 46) :
    (s.groupConsumes c x pos pa).mem = s.mem := by
  simp [State.groupConsumes]

@[simp] theorem State.engineConsumes_mem (s : State) (c : CoreId) (r : Slot) : (s.engineConsumes c r).mem = s.mem := by
  simp only [State.engineConsumes]
  (repeat' split) <;> simp

@[simp] theorem State.xferConsumes_mem (s : State) (c : CoreId) (r : Slot) (n : Nat) : (s.xferConsumes c r n).mem = s.mem := by
  unfold State.xferConsumes
  split <;> simp

@[simp] theorem Memory.wf_uncorrectable (s : State) (c : CoreId) (x : Consumer) (pa : BitVec 46) (h : Memory.wf s.mem = true) :
    Memory.wf (s.uncorrectable c x pa).mem = true := by
  unfold State.uncorrectable
  split <;> simp [h]

/-! ### Walks, TLBs and stacked memory (Machine/Translate) -/

@[simp] theorem State.walkComplete_mem (s : State) (d : DieId) (k : Nat) : (s.walkComplete d k).mem = s.mem := by
  unfold State.walkComplete
  split
  · rfl
  · split
    · rfl
    · extract_lets t
      have ht : t.mem = s.mem := by simp [t]
      split <;> simp -implicitDefEqProofs [ht]

@[simp] theorem State.removeEntries_mem (s : State) (x : Shoot) : (s.removeEntries x).mem = s.mem := by simp [State.removeEntries]

@[simp] theorem State.pageEffect_mem (s : State) (x : Shoot) : (s.pageEffect x).mem = s.mem := by
  unfold State.pageEffect
  split <;> simp

@[simp] theorem State.tlbiRemove_mem (s : State) (x : Shoot) : (s.tlbiRemove x).mem = s.mem := by simp [State.tlbiRemove]

@[simp] theorem State.tlbiComplete_mem (s : State) (n : Nat) : (s.tlbiComplete n).mem = s.mem := by
  unfold State.tlbiComplete
  split <;> simp

@[simp] theorem State.shootdownRequest_mem (s : State) (t : PeerId) : (s.shootdownRequest t).mem = s.mem := by
  simp [State.shootdownRequest]

@[simp] theorem State.peerDone_mem (s : State) (n : Nat) (t : PeerId) : (s.peerDone n t).mem = s.mem := by simp [State.peerDone]

@[simp] theorem State.shootdownTimeout_mem (s : State) (n : Nat) (t : PeerId) : (s.shootdownTimeout n t).mem = s.mem := by
  simp [State.shootdownTimeout]

@[simp] theorem Memory.wf_bankProposal (s : State) (d : DieId) (bank : BitVec 14) (live : Bool) (h : Memory.wf s.mem = true) :
    Memory.wf (s.bankProposal d bank live).mem = true := by
  simp [State.bankProposal, h]

@[simp] theorem Memory.wf_stkGo (s : State) (d : DieId) (pseq : BitVec 16) (h : Memory.wf s.mem = true) :
    Memory.wf (s.stkGo d pseq).mem = true := by
  simp [State.stkGo, h]

@[simp] theorem Memory.wf_restripeComplete (s : State) (d : DieId) (h : Memory.wf s.mem = true) :
    Memory.wf (s.restripeComplete d).mem = true := by
  unfold State.restripeComplete
  dsimp only
  split
  · exact h
  · refine Memory.wf_settleAllRows _ ?_
    split <;> simp [h]

@[simp] theorem State.testerVisit_mem (s : State) (d : DieId) (faulty spareLeft : Bool) :
    (s.testerVisit d faulty spareLeft).mem = s.mem := by
  simp only [State.testerVisit]
  (repeat' split) <;> simp

/-! ### Clocks, levels, valves and sensors (Machine/Power) -/

@[simp] theorem Memory.wf_clkWrite (s : State) (c : CoreId) (q : ClkReq) (v : Bool) (h : Memory.wf s.mem = true) :
    Memory.wf (s.clkWrite c q v).mem = true := by
  simp [State.clkWrite, h]

@[simp] theorem Memory.wf_clkDecide (s : State) (c : CoreId) (h : Memory.wf s.mem = true) :
    Memory.wf (s.clkDecide c).mem = true := by
  simp only [State.clkDecide]
  (repeat' split) <;> simp [h]

@[simp] theorem Memory.wf_divisorSwitch (s : State) (c : CoreId) (h : Memory.wf s.mem = true) :
    Memory.wf (s.divisorSwitch c).mem = true := by
  simp only [State.divisorSwitch]
  (repeat' split) <;> simp [h]

@[simp] theorem State.sense_mem (s : State) (c : CoreId) : (s.sense c).mem = s.mem := by simp [State.sense]
@[simp] theorem State.levelFall_mem (s : State) (c : CoreId) : (s.levelFall c).mem = s.mem := by simp [State.levelFall]
@[simp] theorem State.levelRise_mem (s : State) (c : CoreId) : (s.levelRise c).mem = s.mem := by simp [State.levelRise]

@[simp] theorem State.stallSample_mem (s : State) (d : DieId) (banks : Tab Nat) : (s.stallSample d banks).mem = s.mem := by
  simp -implicitDefEqProofs [State.stallSample]

@[simp] theorem State.throttle_mem (s : State) (c : CoreId) (n : BitVec 6) : (s.throttle c n).mem = s.mem := by
  simp [State.throttle]

@[simp] theorem State.valveControl_mem (s : State) (z : Nat) (v : Byte) : (s.valveControl z v).mem = s.mem := by
  simp [State.valveControl]

@[simp] theorem State.modZoneCores_mem (s : State) (z : Nat) (f : Core → Core) : (s.modZoneCores z f).mem = s.mem := by
  simp -implicitDefEqProofs [State.modZoneCores]

@[simp] theorem Memory.wf_zoneEvent (s : State) (z what : Nat) (h : Memory.wf s.mem = true) :
    Memory.wf (s.zoneEvent z what).mem = true := by
  unfold State.zoneEvent
  split <;> simp [h]

@[simp] theorem State.startEvac_mem (s : State) (z : Nat) : (s.startEvac z).mem = s.mem := by simp [State.startEvac]
@[simp] theorem State.outletCap_mem (s : State) (z : Nat) : (s.outletCap z).mem = s.mem := by simp [State.outletCap]

@[simp] theorem Memory.wf_sensorSample (s : State) (z : Nat) (sens : W64) (h : Memory.wf s.mem = true) :
    Memory.wf (s.sensorSample z sens).mem = true := by
  unfold State.sensorSample
  extract_lets old t now new u v w shut x st
  have hv : Memory.wf v.mem = true := by
    refine Memory.wf_foldl _ (fun a n ha => ?_) _ u h
    split <;> simp [ha]
  have hx : x.mem = v.mem := by
    simp only [x, w]
    split <;> simp
  split <;> simp [hx, hv]

@[simp] theorem State.fenceZone_mem (s : State) (z : Nat) : (s.fenceZone z).mem = s.mem := by
  simp -implicitDefEqProofs [State.fenceZone]

@[simp] theorem State.evacValves_mem (s : State) (z : Nat) : (s.evacValves z).mem = s.mem := by
  simp -implicitDefEqProofs [State.evacValves]

@[simp] theorem State.evacWet_mem (s : State) (z : Nat) : (s.evacWet z).mem = s.mem := by simp [State.evacWet]

@[simp] theorem State.evacStep_mem (s : State) (z : Nat) (dry : Bool) : (s.evacStep z dry).mem = s.mem := by
  simp only [State.evacStep]
  (repeat' split) <;> simp

@[simp] theorem State.zclr_mem (s : State) (d : DieId) (w : W64) : (s.zclr d w).mem = s.mem := by simp [State.zclr]

@[simp] theorem Memory.wf_lowerGrants (s : State) (n : Nat) (h : Memory.wf s.mem = true) : Memory.wf (s.lowerGrants n).mem = true := by
  induction n generalizing s with
  | zero => exact h
  | succ n ih =>
    unfold State.lowerGrants
    (repeat' split) <;> simp -implicitDefEqProofs [h, ih]

@[simp] theorem State.raiseGrants_mem (s : State) (n : Nat) : (s.raiseGrants n).mem = s.mem := by
  induction n generalizing s with
  | zero => rfl
  | succ n ih =>
    unfold State.raiseGrants
    dsimp only
    (repeat' split) <;> simp [ih]

/-! ### TOPO (Machine/Topo) -/

theorem Memory.wf_startTopo (s : State) (q : QueueId) (pkt : Packet) (f : Topo → State → State)
    (hf : ∀ x t, Memory.wf t.mem = true → Memory.wf (f x t).mem = true) (h : Memory.wf s.mem = true) :
    Memory.wf (s.startTopo q pkt f).mem = true := by
  unfold State.startTopo
  split
  · exact h
  · exact Memory.wf_take s q pkt 4 _ (fun k t ht => hf _ _ (by simpa using ht)) h

@[simp] theorem State.endTopo_mem (s : State) (x : Topo) : (s.endTopo x).mem = s.mem := by simp [State.endTopo]

@[simp] theorem State.quiescePorts_mem (s : State) (x : Topo) : (s.quiescePorts x).mem = s.mem := by
  simp -implicitDefEqProofs [State.quiescePorts]

@[simp] theorem Memory.wf_topoReconfigure (s : State) (q : QueueId) (pkt : Packet) (h : Memory.wf s.mem = true) :
    Memory.wf (s.topoReconfigure q pkt).mem = true := by
  unfold State.topoReconfigure
  split
  · exact h
  · exact Memory.wf_startTopo s q pkt _ (fun x t ht => by simpa using ht) h

@[simp] theorem Memory.wf_topoLoad (s : State) (q : QueueId) (pkt : Packet) (h : Memory.wf s.mem = true) :
    Memory.wf (s.topoLoad q pkt).mem = true := by
  unfold State.topoLoad
  split
  · exact Memory.wf_startTopo s q pkt _ (fun x t ht => ht) h
  · exact h

@[simp] theorem State.askRetrain_mem (s : State) (rn : W32) (p t : Nat) : (s.askRetrain rn p t).mem = s.mem := by
  simp [State.askRetrain]

@[simp] theorem Memory.wf_topoRetrain (s : State) (q : QueueId) (pkt : Packet) (h : Memory.wf s.mem = true) :
    Memory.wf (s.topoRetrain q pkt).mem = true := by
  unfold State.topoRetrain
  split
  · refine Memory.wf_startTopo s q pkt _ (fun x t ht => Memory.wf_foldl _ (fun u p hu => ?_) _ t ht) h
    exact Memory.wf_foldl _ (fun v n hv => by simpa using hv) _ u hu
  · exact h

theorem State.inTopo_mem (s : State) (n : Nat) (f : Topo → State → State) (hf : ∀ x, (f x s).mem = s.mem) :
    (s.inTopo n f).mem = s.mem := by
  unfold State.inTopo
  split <;> simp [hf]
theorem Memory.wf_inTopo (s : State) (n : Nat) (f : Topo → State → State) (hf : ∀ x, Memory.wf (f x s).mem = true)
    (h : Memory.wf s.mem = true) : Memory.wf (s.inTopo n f).mem = true := by
  unfold State.inTopo
  split <;> simp [hf, h]

@[simp] theorem State.setTopo_mem (s : State) (x : Topo) : (s.setTopo x).mem = s.mem := by simp [State.setTopo]

@[simp] theorem State.startTraining_mem (s : State) (x : Topo) : (s.startTraining x).mem = s.mem := by
  simp -implicitDefEqProofs [State.startTraining]

@[simp] theorem State.fabCtl_mem (s : State) (w : W64) : (s.fabCtl w).mem = s.mem := by
  simp [State.fabCtl, State.inTopo_mem]

@[simp] theorem Memory.wf_portTrained (s : State) (p : Nat) (ok : Bool) (h : Memory.wf s.mem = true) :
    Memory.wf (s.portTrained p ok).mem = true := by
  simp [State.portTrained, h]

@[simp] theorem State.settlePorts_mem (s : State) : s.settlePorts.mem = s.mem := by simp -implicitDefEqProofs [State.settlePorts]

@[simp] theorem Memory.wf_topoTrainEnd (s : State) (failed : W32) (h : Memory.wf s.mem = true) :
    Memory.wf (s.topoTrainEnd failed).mem = true := by
  refine Memory.wf_inTopo s 4 _ (fun x => ?_) h
  have hp := Memory.wf_foldl (fun s p => s.portTrained p (!failed.getLsbD p)) (fun t p ht => Memory.wf_portTrained t p _ ht) x.portList s h
  split
  · exact h
  · split <;> simpa using hp

@[simp] theorem State.loadFriezes_mem (s : State) (x : Topo) (peers : W64) : (s.loadFriezes x peers).mem = s.mem := by
  simp [State.loadFriezes]

@[simp] theorem State.loadWindows_mem (s : State) (x : Topo) : (s.loadWindows x).mem = s.mem := by simp [State.loadWindows]
@[simp] theorem State.loadPool_mem (s : State) (x : Topo) : (s.loadPool x).mem = s.mem := by simp [State.loadPool]
@[simp] theorem State.loadCircuits_mem (s : State) (x : Topo) : (s.loadCircuits x).mem = s.mem := by simp [State.loadCircuits]

@[simp] theorem Memory.wf_loadTables (s : State) (x : Topo) (h : Memory.wf s.mem = true) :
    Memory.wf (s.loadTables x).mem = true := by
  simp -implicitDefEqProofs [State.loadTables, h]

@[simp] theorem State.joinPeer_mem (s : State) (first : Bool) (t : Nat) : (s.joinPeer first t).mem = s.mem := by
  simp [State.joinPeer]

@[simp] theorem State.resumePeer_mem (s : State) (t : Nat) : (s.resumePeer t).mem = s.mem := by simp [State.resumePeer]
@[simp] theorem State.resumeDomain_mem (s : State) (d : BitVec 4) : (s.resumeDomain d).mem = s.mem := by simp [State.resumeDomain]

@[simp] theorem Memory.wf_resumeFabric (s : State) (x : Topo) (h : Memory.wf s.mem = true) : Memory.wf (s.resumeFabric x).mem = true := by
  refine Memory.wf_foldl _ (fun t d ht => by simpa using ht) _ _ ?_
  refine Memory.wf_foldl _ (fun t p ht => by simpa using ht) _ _ ?_
  refine Memory.wf_foldl _ (fun t p ht => by simpa using ht) _ _ ?_
  exact Memory.wf_foldl _ (fun t p ht => Memory.wf_removePeer t p ht) _ s h

@[simp] theorem State.dropLoads_mem (s : State) (agreed : List Repair) : (s.dropLoads agreed).mem = s.mem := by
  simp [State.dropLoads]

@[simp] theorem State.proposeLoad_mem (s : State) : s.proposeLoad.mem = s.mem := by simp [State.proposeLoad]

@[simp] theorem Memory.wf_topoTableLoad (s : State) (h : Memory.wf s.mem = true) : Memory.wf s.topoTableLoad.mem = true := by
  refine Memory.wf_inTopo s 5 _ (fun x => ?_) h
  extract_lets agreed rn later t
  have ht : Memory.wf t.mem = true := Memory.wf_loadTables _ x (by simpa [later] using h)
  split
  · exact h
  · split
    · split <;> simp [ht]
    · split <;> simp [h, later]

@[simp] theorem Memory.wf_slotBoundary (s : State) (h : Memory.wf s.mem = true) : Memory.wf s.slotBoundary.mem = true := by
  unfold State.slotBoundary
  extract_lets next t ds
  have ht : t.mem = s.mem := by
    simp only [t, next]
    split <;> simp -implicitDefEqProofs
  split
  · exact h
  · rw [State.transmit_mem]
    split <;> simp [ht, h]

/-! ### The debugger's views (Machine/Views) -/

@[simp] theorem State.vdata_mem (s : State) (c : CoreId) : (s.vdata c).1.mem = s.mem := by
  unfold State.vdata
  dsimp only
  split <;> rfl

@[simp] theorem State.readVdata_mem (s : State) (c : CoreId) : (s.readVdata c).mem = s.mem := by simp [State.readVdata]

/-! ### Management space and host (Machine/Mgmt) -/

@[simp] theorem State.deviceReset_mem (s : State) : s.deviceReset.mem = [] := rfl
@[simp] theorem State.bringUp_mem (s : State) (slot : Nat) : (s.bringUp slot).mem = s.mem := by simp [State.bringUp]
@[simp] theorem State.bootGo_mem (s : State) : s.bootGo.mem = s.mem := by simp [State.bootGo]
@[simp] theorem State.verified_mem (s : State) : s.verified.mem = s.mem := by simp [State.verified]
@[simp] theorem State.bootTrain_mem (s : State) : s.bootTrain.mem = s.mem := by simp -implicitDefEqProofs [State.bootTrain]

@[simp] theorem State.firmware_mem (s : State) (a : FirmAct) : (s.firmware a).mem = s.mem := by
  simp only [State.firmware]
  (repeat' split) <;> simp

@[simp] theorem State.attGo_mem (s : State) (d : DieId) (w : W64) : (s.attGo d w).mem = s.mem := by simp [State.attGo]

@[simp] theorem Memory.wf_attReport (s : State) (d : DieId) (h : Memory.wf s.mem = true) :
    Memory.wf (s.attReport d).mem = true := by
  simp [State.attReport, h, Memory.wf_writeList]

@[simp] theorem State.clearBanks_mem (s : State) (m : BitVec 16) : (s.clearBanks m).mem = s.mem := by simp [State.clearBanks]

@[simp] theorem State.measureWrite_mem (s : State) (o : Nat) (w : W64) : (s.measureWrite o w).mem = s.mem := by
  simp [State.measureWrite]

@[simp] theorem Memory.wf_tableWrite (s : State) (o : Nat) (w : W64) (h : Memory.wf s.mem = true) :
    Memory.wf (s.tableWrite o w).mem = true := by
  simp [State.tableWrite, h]

@[simp] theorem State.resetRails_mem (s : State) (d : DieId) : (s.resetRails d).mem = s.mem := by simp [State.resetRails]
@[simp] theorem State.unstage_mem (s : State) (d : DieId) : (s.unstage d).mem = s.mem := by simp [State.unstage]

@[simp] theorem State.stkWrite_mem (s : State) (d : DieId) (o : Nat) (w : W64) : (s.stkWrite d o w).mem = s.mem := by
  simp [State.stkWrite]

@[simp] theorem State.writeFabric_mem (s : State) (d : DieId) (o : Nat) (w : W64) : (s.writeFabric d o w).mem = s.mem := by
  simp [State.writeFabric]

@[simp] theorem State.writeCoolant_mem (s : State) (d : DieId) (o : Nat) (w : W64) : (s.writeCoolant d o w).mem = s.mem := by
  simp [State.writeCoolant]

@[simp] theorem State.plainWrite_mem (s : State) (d : DieId) (off : Nat) (w : W64) : (s.plainWrite d off w).mem = s.mem := by
  simp only [State.plainWrite]
  (repeat' split) <;> simp -implicitDefEqProofs

@[simp] theorem State.registerWrite_mem (s : State) (p : Option PartId) (d : DieId) (off : Nat) (w : W64) :
    (s.registerWrite p d off w).mem = s.mem := by
  simp [State.registerWrite]

@[simp] theorem State.softerrWrite_mem (s : State) (d : DieId) : (s.softerrWrite d).mem = s.mem := by simp [State.softerrWrite]

@[simp] theorem State.anyQcmd_mem (s : State) (p : PartId) (w : W64) : (s.anyQcmd p w).mem = s.mem := by
  unfold State.anyQcmd
  split <;> simp

@[simp] theorem Memory.wf_stkCtl (s : State) (d : DieId) (w : W64) (h : Memory.wf s.mem = true) :
    Memory.wf (s.stkCtl d w).mem = true := by
  simp [State.stkCtl, h]

@[simp] theorem State.dbgCtl_mem (s : State) (c : CoreId) (w : W64) : (s.dbgCtl c w).mem = s.mem := by simp [State.dbgCtl]

@[simp] theorem Memory.wf_mgmtWrite (s : State) (p : Option PartId) (d : DieId) (off : Nat) (w : W64) (h : Memory.wf s.mem = true)
    :
    Memory.wf (s.mgmtWrite p d off w).mem = true := by
  simp only [State.mgmtWrite]
  (repeat' split) <;> simp [h]

@[simp] theorem State.answer_mem (s : State) (x : W64) : (s.answer x).mem = s.mem := by simp [State.answer]
@[simp] theorem State.hostFails_mem (s : State) : s.hostFails.mem = s.mem := by simp [State.hostFails]

@[simp] theorem Memory.wf_hostMgmt (s : State) (x : HostAccess) (h : Memory.wf s.mem = true) :
    Memory.wf (s.hostMgmt x).mem = true := by
  simp [State.hostMgmt, h]

@[simp] theorem Memory.wf_hostPerform (s : State) (x : HostAccess) (h : Memory.wf s.mem = true) :
    Memory.wf (s.hostPerform x).mem = true := by
  simp [State.hostPerform, h]

@[simp] theorem Memory.wf_hostMemory (s : State) (x : HostAccess) (h : Memory.wf s.mem = true) :
    Memory.wf (s.hostMemory x).mem = true := by
  simp [State.hostMemory, h]

@[simp] theorem Memory.wf_hostTurn (s : State) (h : Memory.wf s.mem = true) : Memory.wf s.hostTurn.mem = true := by
  unfold State.hostTurn
  split
  · exact h
  · split
    · exact h
    · exact Memory.wf_foldl _ (fun t n ht => Memory.wf_ringHeld t _ ht) _ _ (Memory.wf_hostPerform _ _ h)

@[simp] theorem Memory.wf_hostAccess (s : State) (x : HostAccess) (h : Memory.wf s.mem = true) :
    Memory.wf (s.hostAccess x).mem = true := by
  simp only [State.hostAccess]
  (repeat' split) <;> simp [h, Memory.wf_writeList]

@[simp] theorem State.linkFailure_mem (s : State) (l : BitVec 2) : (s.linkFailure l).mem = s.mem := by simp [State.linkFailure]

/-! ### Scalar instructions (Machine/Scalar) -/

@[simp] theorem loadAt_mem (f : SF) (off : W64) (acq : Option (BitVec 3)) (s : State) : (loadAt f off acq s).mem = s.mem := by
  unfold loadAt
  split <;> simp

@[simp] theorem storeAt_mem (f : SF) (off : W64) (rel : Option (BitVec 3)) (s : State) : (storeAt f off rel s).mem = s.mem := by
  unfold storeAt
  split <;> simp

@[simp] theorem Memory.wf_ldsAt (f : SF) (off : W64) (s : State) (h : Memory.wf s.mem = true) : Memory.wf (ldsAt f off s).mem = true := by
  unfold ldsAt
  dsimp only
  split
  · split
    · simp [h]
    · next t l ht => simpa using Memory.wf_ownRead ht h
  · simp [h]

@[simp] theorem stsAt_mem (f : SF) (off : W64) (s : State) : (stsAt f off s).mem = s.mem := by
  unfold stsAt
  split <;> simp

@[simp] theorem postAtomic_mem (kind : ReqKind) (p : Option Piece) (d : BitVec 5) (w : Nat) (sgn : Bool) (scp : BitVec 3)
    (s : State) :
    (postAtomic kind p d w sgn scp s).mem = s.mem := by
  simp only [postAtomic]
  (repeat' split) <;> simp

@[simp] theorem amoAt_mem (f : SF) (off : W64) (s : State) : (amoAt f off s).mem = s.mem := by
  simp only [amoAt]
  (repeat' split) <;> simp

@[simp] theorem acasAt_mem (f : SF) (off : W64) (s : State) : (acasAt f off s).mem = s.mem := by
  simp only [acasAt]
  (repeat' split) <;> simp

@[simp] theorem aclaimAt_mem (f : SF) (s : State) : (aclaimAt f s).mem = s.mem := by
  unfold aclaimAt
  split <;> simp

@[simp] theorem movsv_mem (f : SF) (s : State) : (movsv f s).mem = s.mem := by simp -implicitDefEqProofs [movsv]

@[simp] theorem State.postSx_mem (s : State) (e : Eng) (l : Nat) (d : BitVec 5) (x : W64) : (s.postSx e l d x).mem = s.mem := by
  simp [State.postSx]

@[simp] theorem movms_mem (f : S32) (s : State) : (movms f s).mem = s.mem := by simp [movms]

@[simp] theorem Memory.wf_stldAt (f : SF) (off : W64) (s : State) (h : Memory.wf s.mem = true) : Memory.wf (stldAt f off s).mem = true := by
  unfold stldAt
  split
  · simp [h]
  · next t l ht => simpa -implicitDefEqProofs using Memory.wf_ownRead ht h

@[simp] theorem ststAt_mem (f : SF) (off : W64) (s : State) : (ststAt f off s).mem = s.mem := by simp [ststAt]

@[simp] theorem Memory.wf_bpldAt (f : SF) (off : W64) (s : State) (h : Memory.wf s.mem = true) : Memory.wf (bpldAt f off s).mem = true := by
  unfold bpldAt
  split
  · simp [h]
  · next t l ht => simpa using Memory.wf_ownRead ht h

/-! ### REP (Machine/Rep) -/

@[simp] theorem startRep_mem (f : CF) (x : RepF) (s : State) : (startRep f x s).mem = s.mem := by
  simp only [startRep]
  (repeat' split) <;> simp

/-! ### The issue of a group (Machine/Issue) -/

@[simp] theorem State.atInstr_mem (s : State) (w : WarnSt) (p : Placed) : (s.atInstr w p).mem = s.mem := by simp [State.atInstr]
@[simp] theorem State.afterExit_mem (s : State) : s.afterExit.mem = s.mem := by simp [State.afterExit]
@[simp] theorem State.noWait_mem (s : State) : s.noWait.mem = s.mem := by simp [State.noWait]
@[simp] theorem State.keepWaits_mem (s : State) (l : List Placed) : (s.keepWaits l).mem = s.mem := by simp [State.keepWaits]

@[simp] theorem State.lineUp_mem (s : State) (l : List Placed) : (s.lineUp l).mem = s.mem := by
  refine State.mem_foldl _ (fun t p => ?_) l s
  split <;> simp

@[simp] theorem State.groupDone_mem (s s0 : State) (l : List Placed) : (s.groupDone s0 l).mem = s.mem := by simp [State.groupDone]

@[simp] theorem State.groupTraps_mem (s0 : State) (p : Nat × VAddr × Trap) : (s0.groupTraps p).mem = s0.mem := by
  simp [State.groupTraps]

@[simp] theorem State.resumed_mem (s : State) (is : List Instr) (hs : List Hold) : (s.resumed is hs).mem = s.mem := by
  simp [State.resumed]

@[simp] theorem State.countHeld_mem (s : State) (hs : List Hold) (is : List Instr) : (s.countHeld hs is).mem = s.mem := by
  simp [State.countHeld]

@[simp] theorem State.stallYields_mem (s : State) (l : List Placed) : (s.stallYields l).mem = s.mem := by simp [State.stallYields]

@[simp] theorem State.groupHolds_mem (s0 : State) (l : List Placed) (hs : List Hold) (is : List Instr) :
    (s0.groupHolds l hs is).mem = s0.mem := by
  simp [State.groupHolds]

@[simp] theorem State.firstGroup_mem (s : State) : s.firstGroup.mem = s.mem := by simp [State.firstGroup]

@[simp] theorem State.enterGroup_mem (s : State) (next : VAddr) (is : List Instr) : (s.enterGroup next is).mem = s.mem := by
  simp [State.enterGroup]

@[simp] theorem State.repTrapped_mem (s : State) : s.repTrapped.mem = s.mem := by simp [State.repTrapped]

@[simp] theorem State.issueAt_mem (s : State) (c : CoreId) (r : Slot) (x : CtxId) : (s.issueAt c r x).mem = s.mem := by
  simp [State.issueAt]

@[simp] theorem State.passedOver_mem (s : State) (c : CoreId) (x : CtxId) : (s.passedOver c x).mem = s.mem := by
  simp only [State.passedOver]
  (repeat' split) <;> simp

@[simp] theorem State.noteStuck_mem (s : State) (c : CoreId) (ready : List CtxId) : (s.noteStuck c ready).mem = s.mem := by
  simp [State.noteStuck]

@[simp] theorem Memory.wf_findStuck (s : State) (c : CoreId) (h : Memory.wf s.mem = true) :
    Memory.wf (s.findStuck c).mem = true := by
  simp only [State.findStuck]
  (repeat' split) <;> simp [h]

@[simp] theorem State.endCycle_mem (s : State) (c : CoreId) : (s.endCycle c).mem = s.mem := by simp [State.endCycle]
@[simp] theorem State.wakeUp_mem (s : State) (c : CoreId) : (s.wakeUp c).mem = s.mem := by simp [State.wakeUp]

@[simp] theorem State.heldOver_mem (s : State) (c : CoreId) (x : CtxId) : (s.heldOver c x).mem = s.mem := by
  simp only [State.heldOver]
  (repeat' split) <;> simp

@[simp] theorem State.holdCounts_mem (s : State) (c : CoreId) : (s.holdCounts c).mem = s.mem := by simp [State.holdCounts]

/-! ## What an outcome leaves -/

/-- Where an outcome is a next state, or comes with one, that state's memory is in canonical form. -/
def LeavesWf {α : Type} (state : α → State) (o : Host.Outcome α Fault Refusal) : Prop :=
  ∀ x, o = .next x → Memory.wf (state x).mem = true

@[simp] theorem leavesWf_next {α : Type} (state : α → State) (x : α) : LeavesWf state (.next x) ↔ Memory.wf (state x).mem = true :=
  ⟨fun h => h x rfl, fun h _ e => Host.Outcome.next.inj e ▸ h⟩
@[simp] theorem leavesWf_fault {α : Type} (state : α → State) (r : Fault) : LeavesWf state (.fault r) := fun _ e => nomatch e
@[simp] theorem leavesWf_refused {α : Type} (state : α → State) (r : Refusal) : LeavesWf state (.refused r) := fun _ e => nomatch e

theorem leavesWf_andThen {o : Out} {f : State → Out} (ho : LeavesWf id o) (hf : ∀ t, Memory.wf t.mem = true → LeavesWf id (f t)) :
    LeavesWf id (andThen o f) := by
  cases o with
  | next t => exact hf t (ho t rfl)
  | fault r => exact leavesWf_fault id r
  | refused r => exact leavesWf_refused id r

theorem Memory.wf_settle {s t : State} (hs : Memory.wf s.mem = true) (ht : Memory.wf t.mem = true) : Memory.wf (s.settle t).mem = true := by
  rw [State.settle_mem]
  split
  · exact ht
  · exact hs

theorem Memory.wf_attempt (s : State) (i : Instr) (word : W64) (body : State → State)
    (hb : ∀ t, Memory.wf t.mem = true → Memory.wf (body t).mem = true) (h : Memory.wf s.mem = true) :
    Memory.wf (s.attempt i word body).mem = true := by
  unfold State.attempt
  split
  · simpa using h
  · simp [hb, h]

theorem runAs_leavesWf {i : Instr} {word : W64} {s : State} {body : State → State}
    (hb : ∀ t, Memory.wf t.mem = true → Memory.wf (body t).mem = true) (h : Memory.wf s.mem = true) :
    LeavesWf id (runAs i word s body) :=
  (leavesWf_next id _).mpr (Memory.wf_settle (s := { s with mark := .none }) h (Memory.wf_attempt _ i word body hb h))

theorem run_leavesWf {i : Instr} {s : State} {body : State → State}
    (hb : ∀ t, Memory.wf t.mem = true → Memory.wf (body t).mem = true) (h : Memory.wf s.mem = true) : LeavesWf id (run i s body) :=
  runAs_leavesWf hb h

theorem ustep_leavesWf {s : State} {body : Call → State → State}
    (hb : ∀ k t, Memory.wf t.mem = true → Memory.wf (body k t).mem = true) (h : Memory.wf s.mem = true) : LeavesWf id (ustep s body) := by
  unfold ustep
  dsimp only
  split
  · exact (leavesWf_next id s).mpr h
  · split
    · exact (leavesWf_next id s).mpr h
    · exact (leavesWf_next id _).mpr (hb _ _ (by simpa using h))

theorem agent_leavesWf {s : State} (h : Memory.wf s.mem = true) : LeavesWf id (agent s) := (leavesWf_next id s).mpr h

theorem execIllegalEncoding_leavesWf (w : W32) (s : State) (h : Memory.wf s.mem = true) : LeavesWf id (execIllegalEncoding w s) :=
  (leavesWf_next id _).mpr (Memory.wf_settle h h)

theorem execTarget_leavesWf (i : Instr) (s : State) (h : Memory.wf s.mem = true) : LeavesWf id (execTarget i s) := by
  cases i with
  | add | addI | addL | sub | subI | subL | mul | mulI | mulL | mulh | mulhI | mulhL | mulhz | mulhzI | mulhzL | div | divI |
  divL | divz | divzI | divzL | rem | remI | remL | remz | remzI | remzL | and | andI | andL | or | orI | orL | xor | xorI |
  xorL | andn | andnI | andnL | shl | shlI | shlL | shr | shrI | shrL | sra | sraI | sraL | rotl | rotlI | rotlL | min | minI
  | minL | max | maxI | maxL | minz | minzI | minzL | maxz | maxzI | maxzL | clz | clzW | ctz | ctzW | popc | popcW | lea |
  leaL | sel | bfx | bfi | ext | li | liL | lih | lihL | bperm | cmp | cmpL | plog | fadd | faddRnd | fsub | fsubRnd | fmul |
  fmulRnd | fma | fmin | fmin64 | fmax | fmax64 | fcmp | fcvt | ld | ldL | st | stL | ldaq | ldaqL | strl | strlL | lds | ldsL
  | sts | stsL | amo | amoL | acas | acasL | aclaim | movsv | movvs | movsm | movms | movfs | movps | movsp | stdef | stld |
  stldL | stst | ststL | bpld | bpldL | vadd | vaddL | vsub | vsubL | vmul | vmulL | vfma | vfmaL | vmin | vminL | vmax |
  vmaxL | vabs | vneg | vand | vandL | vor | vorL | vxor | vxorL | vshl | vshlL | vshr | vshrL | vsra | vsraL | vcmp | vcmpL |
  vsel | vselL | vmov | vli | vcvt | vrcp | vrsq | vexp2 | vlg2 | vtanh | vpopc | vclz | vdot4 | vdot4L | vmlog | vshuf |
  vbcst | vradd | vrmax | vrmin | vxg | vscan | vsld | vsst | vgld | vsct | vsamo | vamax | vqcvt | vdq | vdqL | vunp3 |
  vpack3 | vbperm | vsbr | vthr =>
    exact run_leavesWf (fun t ht => by simp [ht]) h
  | _ => exact (leavesWf_next id s).mpr h

theorem execWords_leavesWf (ws : List W32) (s : State) (h : Memory.wf s.mem = true) : LeavesWf id (execWords ws s) := by
  unfold execWords
  split
  · exact execTarget_leavesWf _ s h
  · exact execIllegalEncoding_leavesWf _ s h

theorem State.repeatOnce_leavesWf (s : State) (r : RepSt) (h : Memory.wf s.mem = true) : LeavesWf id (s.repeatOnce r) := by
  unfold State.repeatOnce
  extract_lets k at_ cur u
  have hu : Memory.wf u.mem = true := h
  have hw : ∀ b : Bool, Memory.wf (if b then u.modRc (fun x => x.warn 2 at_) else u).mem = true := fun b => by cases b <;> exact hu
  split
  · next t ht =>
    have ht := execWords_leavesWf _ _ (hw _) t ht
    split <;> simpa using ‹_›
  · exact execWords_leavesWf _ _ (hw _)

theorem execRepRepetition_leavesWf (c : CoreId) (s : State) (h : Memory.wf s.mem = true) : LeavesWf id (execRepRepetition c s) := by
  unfold execRepRepetition
  extract_lets k r mine
  split
  · exact (leavesWf_next id s).mpr h
  · extract_lets y u
    split
    · exact State.repeatOnce_leavesWf u _ h
    · exact (leavesWf_next id s).mpr h

theorem execRep_leavesWf (h : Hdr) (f : CF) (x : RepF) (s : State) (hs : Memory.wf s.mem = true) : LeavesWf id (execRep h f x s) := by
  have hr : LeavesWf id (run (.rep h f x) s (startRep f x)) := run_leavesWf (fun t ht => by simp [ht]) hs
  unfold execRep
  split
  · next t ht =>
    have ht := hr t ht
    split
    · exact State.repeatOnce_leavesWf t _ ht
    · exact (leavesWf_next id t).mpr ht
  · exact hr

theorem execSendm_leavesWf (h : Hdr) (f : XF) (lit : W32) (s : State) (hs : Memory.wf s.mem = true) : LeavesWf id (execSendm h f lit s) := by
  refine run_leavesWf (fun t ht => Memory.wf_gate t _ _ ?_ ht) hs
  split
  · split
    · simp [ht]
    · split <;> simp [ht]
  · simp [ht]

theorem exec_leavesWf (i : Instr) (s : State) (h : Memory.wf s.mem = true) : LeavesWf id (exec i s) := by
  have target := execTarget_leavesWf i s h
  cases i with
  | mcall | mmode | mclr | mmerge | mpld | mabort | cpyPlain | cpyConvert | cpyRank | cpyRankmerge | put | putGlob | pref |
  prefSlice | flush | fwait | fpost | fset | bara | barw | baraw | fence | pbrReg | pbr | br | call | loop | lbrk | swpt | brt
  | exit | trap | nop | nop64 | nop96 | rdc | wrc | clkdiv | pwrq | ebreak | sysc | rfe | tlbiPage | tlbiSpace | tlbiPart |
  tlbiReplica | tlbiRwflush =>
    exact run_leavesWf (fun t ht => by simp [ht]) h
  | tlbiRcinit | idle => exact runAs_leavesWf (fun t ht => by simp [ht]) h
  | tfa | tfb | tscl | tmac | tprom | trank | tdrain | twalk | tloop | tend | tjmp | tyld | tret | tset =>
    exact ustep_leavesWf (fun k t ht => by simp [ht]) h
  | fixedResultWriteback | scoreboardResultLand | shadowResultLand | preemptionRequest | preemptionLanding | forcedPreemption
  | contextSave | contextRestore | heldPostApply | remoteFlagPost | transferComplete | arrivalQueueRoom | handlerStart |
  transferFault | rankmergeApply | asyncFaultDelivery | machineTrap | uncorrectableError | coreFence | dieFence |
  barrierDieComplete | barrierGenerationComplete | barrierRelease | atomicAtHome | lineHomeHandover | l1Eviction |
  sliceEviction | walkComplete | tlbiComplete | shootdownRequest | shootdownAck | shootdownTimeout | bankRetireProposal |
  stkPropose | stkGo | restripeComplete | testerBusVisit | doorbell | qcmdCreate | qcmdDestroy | qcmdKill | qcmdClearerr |
  qcmdArmreload | qcmdQuery | admissionRetry | signalPacket | waitsig | waitsigReread | nopPacket | topoReconfigure | topoLoad
  | topoRetrain | fabCtlResume | topoTrainEnd | topoTableLoad | taskEnd | slotBoundary | markerLockLoss | frameHeader |
  frameGlobalWrite | frameScratchpadWrite | frameReadRequest | frameReadResponse | frameSend | frameSendm | frameXflag |
  frameTranslationRequest | frameTranslationResponse | retransmitTimeout | propose | accept | defer | retune | portdown |
  retrain | rejoin | flushed | repairApply | repairRepropose | portdownApply | lineDrift | lineRetuneStart | retuneEnd |
  combFailure | retrainEnd | peerSilenceTimeout | peerRemoval | ofuReset | expertBlockRelease | clkdivDecision | divisorSwitch
  | railStep | throttleUpdate | stallSample | levelFall | sramRailWindow | valveControl | sensorSample | evacuationStep |
  coolantSupplyDrop | zclr | dbgHalt | debugHaltLanding | dbgResume | dbgStep | dbgEbrk | dbgVdataRead | bootGo | attGo |
  attestationReport | partitionTableWrite | softerrWrite | hostMainbandAccess | hostLinkFailure | markerLockAcquired |
  coolantSupplyRestored =>
    exact agent_leavesWf (by simp [h])
  | rep => exact execRep_leavesWf _ _ _ s h
  | sendm => exact execSendm_leavesWf _ _ _ s h
  | tnop => exact ustep_leavesWf (fun _ _ ht => ht) h
  | tflag => exact ustep_leavesWf (fun k t ht => Memory.wf_engPost t _ _ ht) h
  | deviceReset => exact agent_leavesWf rfl
  | launch q p => exact agent_leavesWf (Memory.wf_take s q p 1 _ (fun _ t ht => by simp [ht]) h)
  | topoDrainEnd => exact agent_leavesWf (Memory.wf_inTopo s 1 _ (fun _ => by simp [h]) h)
  | topoTimeout => exact agent_leavesWf (Memory.wf_inTopo s 3 _ (fun x => by simp [h]) h)
  | get | getGlob | xflag | send =>
    exact run_leavesWf (fun t ht => Memory.wf_gate t _ _ (by simp [ht]) ht) h
  | mcallStart c r | mmodeExec c r | mclrExec c r =>
    have hc := fun f hf => Memory.wf_command s c r f hf h
    exact agent_leavesWf (by simp -implicitDefEqProofs [hc, h])
  | mmergeExec c r =>
    have hc := Memory.wf_command s c r mmergeRun (fun k t ht => by simp [ht]) h
    exact agent_leavesWf (by simp [hc, h])
  | mgmtRegisterWrite =>
    refine agent_leavesWf ?_
    split <;> simp [h]
  | repRepetition c => exact execRepRepetition_leavesWf c s h
  | illegalEncoding w => exact execIllegalEncoding_leavesWf w s h
  | _ => exact target

/-! ## A turn of a core, of another agent, and the step -/

theorem Memory.wf_pass_after {x : Pass} {t : State} (p : Placed) (hx : Memory.wf x.s.mem = true) (ht : Memory.wf t.mem = true) :
    Memory.wf (x.after p t).s.mem = true := by
  unfold Pass.after
  split
  · exact ht
  · exact hx
  · dsimp only
    (repeat' split) <;> exact hx

theorem runAll_leavesWf (w : WarnSt) (l : List Placed) (x : Pass) (h : Memory.wf x.s.mem = true) : LeavesWf Pass.s (runAll w l x) := by
  induction l generalizing x with
  | nil => exact (leavesWf_next _ x).mpr h
  | cons p l ih =>
    unfold runAll
    split
    · next t ht => exact ih _ (Memory.wf_pass_after p h (exec_leavesWf _ _ (by simpa using h) t ht))
    · exact leavesWf_fault _ _
    · exact leavesWf_refused _ _

theorem State.repOutcome_leavesWf {t s : State} (l : List Placed) (ht : Memory.wf t.mem = true) (hs : Memory.wf s.mem = true) :
    LeavesWf Prod.fst (t.repOutcome s l) := by
  unfold State.repOutcome
  split <;> simp [ht, hs]

theorem State.issueGroup_leavesWf (s : State) (g : Group) (h : Memory.wf s.mem = true) : LeavesWf Prod.fst (s.issueGroup g) := by
  unfold State.issueGroup
  extract_lets l is cur s0 u w
  have hs : Memory.wf s0.mem = true := h
  have hu : Memory.wf u.mem = true := by simpa [u] using hs
  split
  · split <;> simp [hs]
  · split
    · split
      · exact leavesWf_fault _ _
      · exact leavesWf_refused _ _
      · next t ht => exact State.repOutcome_leavesWf l (exec_leavesWf _ _ (by simpa using hu) t ht) hs
    · split
      · exact leavesWf_fault _ _
      · exact leavesWf_refused _ _
      · next x hx =>
        have hx := runAll_leavesWf w (inOrder l) { s := u } hu x hx
        split
        · simp [hs]
        · split
          · simp [hs]
          · simp [hx]

theorem State.issueRep_leavesWf (s : State) (h : Memory.wf s.mem = true) : LeavesWf Prod.fst s.issueRep := by
  unfold State.issueRep
  split
  · exact leavesWf_fault _ _
  · exact leavesWf_refused _ _
  · next t ht => exact State.repOutcome_leavesWf _ (exec_leavesWf _ _ h t ht) h

theorem State.tryIssue_leavesWf (s : State) (c : CoreId) (r : Slot) (x : CtxId) (h : Memory.wf s.mem = true) :
    LeavesWf Prod.fst (s.tryIssue c r x) := by
  unfold State.tryIssue
  extract_lets s0 cur unread
  have hs : Memory.wf s0.mem = true := h
  have hu : Memory.wf unread.mem = true := h
  split
  · exact State.issueRep_leavesWf s0 hs
  · split
    · simp [hu]
    · split
      · simp [hs]
      · simp [hu]
      · exact State.issueGroup_leavesWf s0 _ hs

theorem lookAt_leavesWf (c : CoreId) (l : List CtxId) (s : State) (h : Memory.wf s.mem = true) : LeavesWf Prod.fst (lookAt c l s) := by
  induction l generalizing s with
  | nil => exact (leavesWf_next _ _).mpr h
  | cons x l ih =>
    have hp : LeavesWf Prod.fst (lookAt c l (s.passedOver c x)) := ih _ (by simpa using h)
    unfold lookAt
    split
    · exact leavesWf_fault _ _
    · exact leavesWf_refused _ _
    · next t ht => exact ih t (State.tryIssue_leavesWf s c _ x h _ ht)
    · split
      · next t ready ht => exact (leavesWf_next _ _).mpr (hp (t, ready) ht)
      · exact hp

theorem State.issue_leavesWf (s : State) (c : CoreId) (h : Memory.wf s.mem = true) : LeavesWf id (s.issue c) := by
  unfold State.issue
  extract_lets r waiters
  split
  · exact leavesWf_fault _ _
  · exact leavesWf_refused _ _
  · next u ready hu =>
    have hu := lookAt_leavesWf c _ s h _ hu
    extract_lets u'
    have hu' : Memory.wf u'.mem = true := by simpa [u'] using hu
    split
    · simpa using hu'
    · split
      · exact leavesWf_fault _ _
      · exact leavesWf_refused _ _
      · next t b ht =>
        have ht := State.tryIssue_leavesWf u' c r _ hu' _ ht
        simpa using ht

theorem State.boundary_leavesWf (s : State) (c : CoreId) (h : Memory.wf s.mem = true) : LeavesWf id (s.boundary c) := by
  unfold State.boundary
  refine leavesWf_andThen (exec_leavesWf _ _ h) (fun s hs => ?_)
  refine leavesWf_andThen (exec_leavesWf _ _ hs) (fun s hs => ?_)
  refine leavesWf_andThen (exec_leavesWf _ _ hs) (fun s hs => ?_)
  refine leavesWf_andThen (exec_leavesWf _ _ hs) (fun s hs => ?_)
  refine leavesWf_andThen (exec_leavesWf _ _ hs) (fun s hs => ?_)
  refine leavesWf_andThen (exec_leavesWf _ _ hs) (fun s hs => ?_)
  exact exec_leavesWf _ _ hs

theorem State.coreTurn_leavesWf (s : State) (c : CoreId) (h : Memory.wf s.mem = true) : LeavesWf id (s.coreTurn c) := by
  refine leavesWf_andThen (State.boundary_leavesWf _ c (by simp [h])) (fun t ht => ?_)
  refine leavesWf_andThen ?_ (fun u hu => by simpa using hu)
  split
  · exact State.issue_leavesWf t c ht
  · simpa using ht

theorem State.engineTurn_leavesWf (s : State) (c : CoreId) (r : Slot) (h : Memory.wf s.mem = true) : LeavesWf id (s.engineTurn c r) := by
  have hs : LeavesWf id (.next s) := (leavesWf_next id s).mpr h
  unfold State.engineTurn
  dsimp only
  split
  · split
    · exact exec_leavesWf _ _ h
    · exact hs
  · split
    case h_5 => exact hs
    all_goals exact exec_leavesWf _ s h

theorem State.dispatch_leavesWf (s : State) (q : QueueId) (h : Memory.wf s.mem = true) : LeavesWf id (s.dispatch q) := by
  unfold State.dispatch
  split <;> exact exec_leavesWf _ s h

theorem State.turn_leavesWf (s : State) (t : Turn) (h : Memory.wf s.mem = true) : LeavesWf id (s.turn t) := by
  cases t with
  | core c => exact State.coreTurn_leavesWf s c h
  | engine c r => exact State.engineTurn_leavesWf s c r h
  | event i =>
    rw [State.turn]
    split
    · exact exec_leavesWf i s h
    · exact (leavesWf_next id s).mpr h
  | marker d i =>
    rw [State.turn]
    split
    · exact exec_leavesWf i _ h
    · exact (leavesWf_next id s).mpr h
  | dispatch q => exact State.dispatch_leavesWf s q h
  | perform n | piece n k | element c r n k | firmware a | host | bridge => exact (leavesWf_next id _).mpr (by simp [h])

/-- Settles O51: every agent's turn keeps the canonical form, and the step is the next turn's. -/
theorem stepKeepsMemory : Obligations.StepKeepsMemory := by
  unfold Obligations.StepKeepsMemory
  intro s t hs ht
  exact State.turn_leavesWf { s with turns := s.turns.tail, steps := s.steps + 1 } s.nextTurn hs t ht

end Sys2Proof.Machine

/-! # The state after reset -/

namespace Sys2Proof.Machine

/-- Settles O52: nothing is listed in any table of the reset state, so that each read answers its default. -/
theorem resetState : Obligations.ResetState := by
  unfold Obligations.ResetState
  refine ⟨rfl, rfl, rfl, rfl, rfl, fun n => rfl, fun c => ⟨rfl, rfl, rfl, rfl, rfl, rfl⟩, fun q => rfl, fun g => rfl, fun p => rfl,
    fun d => rfl, rfl, fun d => ⟨rfl, rfl, rfl⟩, rfl⟩

end Sys2Proof.Machine

namespace Sys2Proof.Machine

/-! # The home of a line moves, and the home of a posted store writes its bytes -/

/-! ## The bytes of a number, and a list of bytes read back -/

@[simp] theorem leBytes_length (n x : Nat) : (leBytes n x).length = n := by simp [leBytes]

theorem leBytes_succ (n x : Nat) : leBytes (n + 1) x = BitVec.ofNat 8 x :: leBytes n (x / 256) := by
  simp only [leBytes, List.range_succ_eq_map, List.map_cons, List.map_map, Nat.mul_zero, Nat.pow_zero, Nat.div_one]
  congr 1
  refine List.map_congr_left fun i _ => ?_
  simp only [Function.comp_apply]
  rw [Nat.succ_eq_add_one, Nat.mul_add, Nat.pow_add, Nat.mul_comm, ← Nat.div_div_eq_div_mul]

theorem ofLe_leBytes (n x : Nat) : ofLe (leBytes n x) = x % 2 ^ (8 * n) := by
  induction n generalizing x with
  | zero => simp [leBytes, ofLe, Nat.mod_one]
  | succ n ih =>
    rw [leBytes_succ, ofLe, ih, BitVec.toNat_ofNat, Nat.mul_add, Nat.add_comm (8 * n), Nat.pow_add, Nat.mod_mul]

theorem Tab.get_putAll_zip_of_not_mem {α : Type} [DecidableEq α] (d : α) (ks : List Nat) (xs : List α) (t : Tab α) {k : Nat}
    (h : k ∉ ks) : Tab.get d (Tab.putAll d t (ks.zip xs)) k = Tab.get d t k := by
  refine Tab.get_putAll_of_not_mem _ _ _ _ ?_
  rintro ⟨a, b⟩ hp rfl
  exact h (List.of_mem_zip hp).1

/-- Values written to keys of which no two are the same are the ones read there. -/
theorem Tab.map_get_putAll_zip {α : Type} [DecidableEq α] (d : α) (ks : List Nat) (xs : List α) (t : Tab α) (hn : ks.Nodup)
    (hl : ks.length = xs.length) : ks.map (Tab.get d (Tab.putAll d t (ks.zip xs))) = xs := by
  induction ks generalizing xs t with
  | nil => cases xs with
    | nil => rfl
    | cons x xs => simp at hl
  | cons k ks ih => cases xs with
    | nil => simp at hl
    | cons x xs =>
      obtain ⟨hk, hn⟩ := List.nodup_cons.mp hn
      have e : Tab.putAll d t ((k :: ks).zip (x :: xs)) = Tab.putAll d (t.put d k x) (ks.zip xs) := rfl
      have hx : Tab.get d (Tab.putAll d (t.put d k x) (ks.zip xs)) k = x := by
        rw [Tab.get_putAll_zip_of_not_mem _ _ _ _ hk, Tab.get_put_same]
      rw [e, List.map_cons, hx, ih _ _ hn (by simpa using hl)]

/-- Memory after the bytes of a number were written, each to its address. -/
theorem State.readList_of_mem_eq (s t : State) (as : List Nat) (x : Nat) (hn : as.Nodup)
    (hm : t.mem = Tab.putAll 0 s.mem (as.zip (leBytes as.length x))) : t.readList as = x % 2 ^ (8 * as.length) := by
  have hb : as.map t.byte = leBytes as.length x := by
    rw [← Tab.map_get_putAll_zip 0 as (leBytes as.length x) s.mem hn (by simp), ← hm]
    rfl
  rw [State.readList, hb, ofLe_leBytes]

theorem State.byte_of_mem_eq (s t : State) (as : List Nat) (xs : List Byte) (a : Nat) (ha : a ∉ as)
    (hm : t.mem = Tab.putAll 0 s.mem (as.zip xs)) : t.byte a = s.byte a := by
  rw [State.byte, hm, Tab.get_putAll_zip_of_not_mem _ _ _ _ ha, State.byte]

/-! ## Requests -/

theorem State.serial_of_req? (s : State) (n : Nat) (q : Req) (h : s.req? n = some q) : q.serial = n := by
  simpa using List.find?_some h

@[simp] theorem State.req?_dropReq (s : State) (n : Nat) : (s.dropReq n).req? n = none := by
  simp [State.dropReq, State.req?]

/-- The next part of a request is one that is not performed. -/
theorem Req.nextPart_not_done (q : Req) (p : Piece) (h : q.pieces[q.nextPart]? = some p) : p.done = false := by
  obtain ⟨hk, hp⟩ := List.getElem?_eq_some_iff.mp h
  subst hp
  have : (!q.pieces[q.nextPart].done) = true := List.findIdx_getElem (w := hk)
  simpa using this

/-- Where one part only is left, the request is finished once that part is marked. -/
theorem Req.finished_mark (q : Req) (p : Piece) (h : q.pieces[q.nextPart]? = some p)
    (h1 : (q.pieces.filter (fun x => !x.done)).length = 1) : (q.mark q.nextPart p).finished = true := by
  obtain ⟨hk, hd⟩ := List.getElem?_eq_some_iff.mp h
  have hleft : (q.mark q.nextPart p).pieces.countP (fun x => !x.done) = 0 := by
    rw [Req.mark, List.countP_set hk, List.countP_eq_length_filter, h1, hd, Req.nextPart_not_done q p h]
    rfl
  simpa [Req.finished, List.countP_eq_zero] using hleft

@[simp] theorem State.unqueue_res (s : State) (q : Req) (p : Piece) (c : CoreId) (r : Slot) : (s.unqueue q p).res c r = s.res c r := by
  unfold State.unqueue
  split
  · exact foldl_keeps (State.res · c r) _ (fun _ _ => by rfl) _ s
  · rfl

@[simp] theorem State.queueUp_reqs (s : State) (q : Req) (k : Nat) (p : Piece) : (s.queueUp q k p).reqs = s.reqs := by
  unfold State.queueUp
  split
  · refine foldl_keeps State.reqs _ (fun t a => ?_) _ s
    split <;> rfl
  · rfl

/-! ## A posted store at its home -/

/-- In a task that logs no races, the store's record is all that precedes its bytes. -/
theorem State.performWrite_fst (s : State) (q : Req) (p : Piece) (keep : Bool) (h : s.raceMode (s.res q.core q.slot).task ≠ 1) :
    (s.performWrite q p keep).1 = s.recordStore q p keep := by
  simp only [State.performWrite, State.logAccess]
  split <;> simp [h]

/-- What the home of a store does with its next part. -/
theorem State.perform_store (s : State) (n : Nat) (q : Req) (p : Piece) (hq : s.req? n = some q) (hk : q.kind = .store)
    (hp : q.pieces[q.nextPart]? = some p) : s.perform n = s.storePart q q.nextPart p := by
  simp only [State.perform, State.performStore, hq, hk, hp]

theorem State.storePart_waits (s : State) (q : Req) (k : Nat) (p : Piece) (hk : q.kind = .store) (hd : p.done = false)
    (hm : s.mayPerform q k p = false) : s.storePart q k p = s.queueUp q k p := by
  simp [State.storePart, hk, hd, hm]

theorem State.storePart_refused (s : State) (q : Req) (k : Nat) (p : Piece) (t : Byte × Byte × W64) (hk : q.kind = .store)
    (hd : p.done = false) (hm : s.mayPerform q k p = true) (hr : s.refusal q p = some t) : s.storePart q k p = s.denyReq q t := by
  simp [State.storePart, hk, hd, hm, hr]

theorem State.storePart_mem (s : State) (q : Req) (k : Nat) (p : Piece) (hk : q.kind = .store) (hd : p.done = false)
    (hm : s.mayPerform q k p = true) (hr : s.refusal q p = none) (hl : s.raceMode (s.res q.core q.slot).task ≠ 1) :
    (s.storePart q k p).mem = Tab.putAll 0 s.mem (p.addr.zip (leBytes p.addr.length p.data.toNat)) := by
  simp [State.storePart, hk, hd, hm, hr, State.performWrite_fst, hl, State.writeList]

theorem State.storePart_ends (s : State) (q : Req) (k : Nat) (p : Piece) (hk : q.kind = .store) (hd : p.done = false)
    (hm : s.mayPerform q k p = true) (hr : s.refusal q p = none) (hf : (q.mark k p).finished = true) :
    (s.storePart q k p).req? q.serial = none := by
  have hf' : ∀ l, ({ q.mark k p with logged := l } : Req).finished = true := fun _ => hf
  simp [State.storePart, hk, hd, hm, hr, hf']

@[simp] theorem State.res_modRes_same (s : State) (c : CoreId) (r : Slot) (f : Res → Res) : (s.modRes c r f).res c r = f (s.res c r) := by
  simp [State.modRes]

@[simp] theorem State.dropReq_res (s : State) (n : Nat) (c : CoreId) (r : Slot) : (s.dropReq n).res c r = s.res c r := rfl

/-- What is left of a refused request that its context still waits for: the trap. -/
def Res.denies (r : Res) (q : Req) (t : Byte × Byte × W64) : Res :=
  { r with
    pend := r.pend.filter (fun e => !(e.2 == .req q.serial))
    denied := r.denied ++ [{ ctx := q.ctx, cause := t.1, sub := t.2.1, tval := t.2.2 }] }

/-- No race ring has lost a record to a request that its context still waits for. -/
theorem State.denyReq_of_bound (s : State) (q : Req) (t : Byte × Byte × W64) (hf : q.free = false) :
    s.denyReq q t =
      ((q.pieces.foldl (fun s p => s.unqueue q p) s).modRes q.core q.slot (fun r => r.denies q t)).dropReq q.serial := by
  simp only [State.denyReq, hf, Bool.false_eq_true, if_false]
  split <;> rfl

theorem State.denyReq_mem (s : State) (q : Req) (t : Byte × Byte × W64) (hf : q.free = false) : (s.denyReq q t).mem = s.mem := by
  simp [s.denyReq_of_bound q t hf]

@[simp] theorem State.req?_denyReq (s : State) (q : Req) (t : Byte × Byte × W64) : (s.denyReq q t).req? q.serial = none :=
  State.req?_dropReq _ _

theorem State.denyReq_denied (s : State) (q : Req) (t : Byte × Byte × W64) (hf : q.free = false) :
    ((s.denyReq q t).res q.core q.slot).denied =
      (s.res q.core q.slot).denied ++ [{ ctx := q.ctx, cause := t.1, sub := t.2.1, tval := t.2.2 }] := by
  rw [s.denyReq_of_bound q t hf, State.dropReq_res, State.res_modRes_same, Res.denies, foldl_keeps (State.res · q.core q.slot) _ fun _ _ => by simp]

/-- The home of a store refuses it beyond the capacity and on a fenced die, and never else. -/
theorem State.refusal_store_eq_none (s : State) (q : Req) (p : Piece) (hk : q.kind = .store) (ha : p.addr ≠ []) :
    s.refusal q p = none ↔
      ¬(inStk (p.addr.headD 0) = true ∧ (s.die (stkDie (p.addr.headD 0))).stk.lines ≤ stkLine (p.addr.headD 0)) ∧
      (s.die (s.homeDie (p.addr.headD 0))).fenced = false := by
  have he : p.addr.isEmpty = false := by simpa using ha
  simp only [State.refusal, State.hwError, hk, he]
  generalize p.addr.headD 0 = a
  by_cases hc : inStk a = true ∧ (s.die (stkDie a)).stk.lines ≤ stkLine a
  · simp [hc]
  · cases hf : (s.die (s.homeDie a)).fenced <;> simp [hc]

/-! ## The home of a line -/

theorem State.handover_of_waiter (s : State) (line : Nat) (o : CoreId) (z : Nat) (q : Req)
    (hp : (s.homes.get {} line).pins = []) (ha : (s.homes.get {} line).at_ = .l1 o z)
    (hl : s.leaseOver (s.homes.get {} line) = true) (hw : s.homeWaiter line o = some q) :
    s.handover line =
      { s with homes := s.homes.put {} line { s.homes.get {} line with at_ := .l1 q.core (s.core q.core).cycle } } := by
  simp [State.handover, ha, hp, hl, hw]

theorem State.homeWaiter_eq_some (s : State) (line m : Nat) (o : CoreId) (q : Req)
    (hm : s.headOf (s.homes.get {} line) = some m) (hq : s.req? m = some q) (ho : q.core ≠ o) (ht : q.takesHome = true)
    (hs : s.l1Lines q.core < 512) : s.homeWaiter line o = some q := by
  simp [State.homeWaiter, hm, hq, ho, ht, hs, l1Size]

theorem State.evictL1_of_leaseOver (s : State) (line : Nat) (o : CoreId) (z : Nat) (hp : (s.homes.get {} line).pins = [])
    (ha : (s.homes.get {} line).at_ = .l1 o z) (hl : s.leaseOver (s.homes.get {} line) = true) :
    s.evictL1 line = { s with homes := s.homes.put {} line { s.homes.get {} line with at_ := .slice } } := by
  simp [State.evictL1, ha, hp, hl]

theorem State.evictSlice_of_slice (s : State) (line : Nat) (hp : (s.homes.get {} line).pins = [])
    (ha : (s.homes.get {} line).at_ = .slice) :
    s.evictSlice line = { s with homes := s.homes.put {} line { queue := (s.homes.get {} line).queue } } := by
  simp [State.evictSlice, ha, hp, State.flushLine, Tab.mod]

/-- Settles O53: the three moves of a line's home, then the four outcomes of a store's next part at its home. -/
theorem homesMoveAndStoresPerform : Obligations.HomesMoveAndStoresPerform := by
  refine ⟨fun s line o z m q hp => ⟨fun ha hl hm hq ho ht hs => ?_, fun ha hl => ?_, fun ha => ?_⟩,
    fun s n q p k hq hk hp hl => ?_⟩
  · exact congrArg agent (s.handover_of_waiter line o z q hp ha hl (s.homeWaiter_eq_some line m o q hm hq ho ht hs))
  · exact congrArg agent (s.evictL1_of_leaseOver line o z hp ha hl)
  · exact congrArg agent (s.evictSlice_of_slice line hp ha)
  · have hd := q.nextPart_not_done p hp
    have hn := s.serial_of_req? n q hq
    rw [s.perform_store n q p hq hk hp]
    refine ⟨fun hm hr => ?_, fun hm hr hf => ?_, s.refusal_store_eq_none q p hk, fun hm => ?_⟩
    · have hmem := s.storePart_mem q q.nextPart p hk hd hm hr hl
      exact ⟨hmem, fun ha => State.readList_of_mem_eq s _ _ _ ha hmem, fun a ha => State.byte_of_mem_eq s _ _ _ a ha hmem,
        fun h1 => hn ▸ s.storePart_ends q _ p hk hd hm hr (q.finished_mark p hp h1)⟩
    · rw [s.storePart_refused q _ p k hk hd hm hr]
      exact ⟨s.denyReq_mem q k hf, hn ▸ s.req?_denyReq q k, s.denyReq_denied q k hf⟩
    · rw [s.storePart_waits q _ p hk hd hm]
      exact ⟨s.queueUp_mem q _ p, s.queueUp_reqs q _ p⟩

end Sys2Proof.Machine

namespace Sys2Proof.Machine

/-! # Slots, lock, lines and ports -/

/-! ## What leaves the ports of the fabric as they are -/

@[simp] theorem State.modFab_fab (s : State) (g : Fabric → Fabric) : (s.modFab g).fab = g s.fab := rfl
@[simp] theorem Fabric.modPair_ports (f : Fabric) (t : Nat) (g : Pair → Pair) : (f.modPair t g).ports = f.ports := rfl
@[simp] theorem Fabric.modLink_ports (f : Fabric) (t : Nat) (g : Link → Link) : (f.modLink t g).ports = f.ports := rfl

@[simp] theorem Fabric.port_modPort_same (f : Fabric) (p : Nat) (g : Port → Port) : (f.modPort p g).port p = g (f.port p) := by
  simp [Fabric.port, Fabric.modPort, Tab.mod]

@[simp] theorem Port.line_setLine_same (p : Port) (l : Nat) (x : Line) : (p.setLine l x).line l = x := by
  simp [Port.line, Port.setLine]

/-- Where the ports are as before, each port is. -/
theorem Fabric.port_of_ports_eq (f g : Fabric) (p : Nat) (h : f.ports = g.ports) : f.port p = g.port p := by
  simp [Fabric.port, h]

@[simp] theorem State.say_ports (s : State) (t : Nat) (k : Byte) (m : RepairMsg) : (s.say t k m).fab.ports = s.fab.ports := rfl
@[simp] theorem State.awaitRelay_ports (s : State) (t : Nat) : (s.awaitRelay t).fab.ports = s.fab.ports := rfl
@[simp] theorem State.holdPeer_ports (s : State) (t : Nat) (silent : Bool) : (s.holdPeer t silent).fab.ports = s.fab.ports := rfl
@[simp] theorem State.fabLog_ports (s : State) (type port line peer rid : Nat) :
    (s.fabLog type port line peer rid).fab.ports = s.fab.ports := rfl
@[simp] theorem State.resendVia_ports (s : State) (via : PortId × Byte → Bool) : (s.resendVia via).fab.ports = s.fab.ports := rfl

@[simp] theorem State.keepMode_ports (s : State) (t : Nat) : (s.keepMode t).fab.ports = s.fab.ports := by
  unfold State.keepMode
  split <;> rfl

@[simp] theorem State.proposeRepair_ports (s : State) (action : BitVec 4) (port line target : Nat) (relay : Option Nat) (drift : Bool) :
    (s.proposeRepair action port line target relay drift).fab.ports = s.fab.ports :=
  foldl_keeps (fun u : State => u.fab.ports) _ (fun u t => u.say_ports t _ _) _ _

@[simp] theorem State.relayOrHold_ports (s : State) (port line t : Nat) (drift : Bool) :
    (s.relayOrHold port line t drift).fab.ports = s.fab.ports := by
  unfold State.relayOrHold
  split <;> simp

@[simp] theorem State.relayAny_ports (s : State) (t : Nat) : (s.relayAny t).fab.ports = s.fab.ports := by
  unfold State.relayAny
  split <;> simp

@[simp] theorem State.relayLost_ports (s : State) (r : Nat) : (s.relayLost r).fab.ports = s.fab.ports :=
  foldl_keeps (fun u : State => u.fab.ports) _ (fun u t => by simp) _ _

/-! ## Lines and ports (R409 to R413) -/

/-- A line that drifts is BAD at once; what is said and proposed of it after that changes no port. -/
theorem State.declareDrift_line (s : State) (port line : Nat) :
    ((s.declareDrift port line).fab.port port).line line =
      { (s.fab.port port).line line with state := 2, muted := true, retune := none, forLine := 0xFF } := by
  have hports : (s.declareDrift port line).fab.ports = (s.fab.modPort port (fun p => p.setLine line
      { (s.fab.port port).line line with state := 2, muted := true, retune := none, forLine := 0xFF })).ports := by
    simp only [State.declareDrift]
    (repeat' split) <;> simp [Fabric.modPort]
  rw [Fabric.port_of_ports_eq _ _ port hports]
  simp

/-- A port that fails is DOWN at once, with its lines; what is said to the peers after that changes no port. -/
theorem State.portFails_state (s : State) (port : Nat) : ((s.portFails port).fab.port port).state = 0 := by
  have hports : (s.portFails port).fab.ports = (s.fab.modPort port (fun p =>
      { p with state := 0, lines := (List.range 72).foldl (fun t l =>
          t.put (freshLine l) l { p.line l with state := 5, retune := none, forLine := 0xFF }) [] })).ports := by
    rw [State.portFails, foldl_keeps (fun u : State => u.fab.ports) _ fun u t => by dsimp only; split <;> simp]
    simp [Fabric.modPort, foldl_keeps (fun u : State => u.fab.ports) _ State.keepMode_ports]
  rw [Fabric.port_of_ports_eq _ _ port hports, Fabric.port_modPort_same]

theorem drifted_eq_false (mhz : BitVec 16) (h : mhz.toInt.natAbs ≤ 8000) : drifted mhz = false := by simpa [drifted] using h
theorem drifted_eq_true (mhz : BitVec 16) (h : 8000 < mhz.toInt.natAbs) : drifted mhz = true := by simpa [drifted] using h

theorem State.lineDrift_small (s : State) (port : PortId) (line : Byte) (mhz : BitVec 16) (h : mhz.toInt.natAbs ≤ 8000) :
    s.lineDrift port.toNat line.toNat mhz = Claims.measured s port line mhz := by
  simp only [State.lineDrift, drifted_eq_false mhz h, Bool.false_and, Bool.false_eq_true, if_false]
  rfl

/-- The monitor's offset does not change what a line carries. -/
theorem State.measured_line (s : State) (port : PortId) (line : Byte) (mhz : BitVec 16) :
    Claims.lineAt (Claims.measured s port line mhz) port line = { Claims.lineAt s port line with drift := mhz } := by
  simp [Claims.lineAt, Claims.measured, Claims.setLine]

theorem State.lineDrift_large (s : State) (port : PortId) (line : Byte) (mhz : BitVec 16) (h : 8000 < mhz.toInt.natAbs)
    (hl : line.toNat < 72) (hlit : Claims.lit (Claims.lineAt s port line) = true) :
    s.lineDrift port.toNat line.toNat mhz = (Claims.measured s port line mhz).declareDrift port.toNat line.toNat := by
  have hm := congrArg Claims.lit (s.measured_line port line mhz)
  have hd : (drifted mhz && decide (line.toNat < 72) && Claims.lit (Claims.lineAt (Claims.measured s port line mhz) port line)) = true := by
    rw [drifted_eq_true mhz h, hm]
    simpa [hl, Claims.lit] using hlit
  exact if_pos hd

theorem State.retuneStart_lit (s : State) (port : PortId) (line : Byte)
    (hr : (s.fab.port port.toNat).lines.all (fun l => l.2.retune.isNone) = true) (hlit : Claims.lit (Claims.lineAt s port line) = true)
    (hl : line.toNat < 72) :
    s.retuneStart port.toNat line.toNat =
      ((((Claims.setLine s port line { Claims.lineAt s port line with retune := some (s.rotOf port.toNat + 1) }).say
        (s.targetOf (offsetOf line.toNat)) msgRetune (Claims.retuneMsg s port line (s.rotOf port.toNat + 1))).modFab
          (fun f => { f with rid := f.rid + 1 })).fabLog 7 port.toNat line.toNat (s.targetOf (offsetOf line.toNat)) s.fab.rid.toNat) := by
  have hany : (s.fab.port port.toNat).lines.any (fun l => l.2.retune.isSome) = false := by simpa using hr
  have hno : ¬((s.fab.port port.toNat).lines.any (fun l => l.2.retune.isSome) || decide (72 ≤ line.toNat) ||
      !Claims.lit (Claims.lineAt s port line)) = true := by
    simpa [hany, hlit] using hl
  refine (if_neg hno).trans ?_
  simp only [BitVec.ofNat_toNat, BitVec.setWidth_eq]
  rfl

theorem Line.well_eq (line : Byte) (x : Line) : x.well line.toNat = Claims.wellState line x := by
  by_cases h : x.forLine = 0xFF <;> simp [Line.well, Claims.wellState, Line.inUse, h]

theorem State.retuneEnd_well (s : State) (port : PortId) (line : Byte) (mhz : BitVec 16) (rn : W32)
    (hr : (Claims.lineAt s port line).retune = some rn) (hs : (Claims.lineAt s port line).state = 1)
    (h3 : 3 ≤ (s.rotOf port.toNat - rn : W32).toNat) (hm : mhz.toInt.natAbs ≤ 8000) :
    s.retuneEnd port.toNat line.toNat mhz =
      ((((Claims.setLine s port line
        { Claims.lineAt s port line with drift := mhz, state := Claims.wellState line (Claims.lineAt s port line), retune := none }).modFab
        (fun f => f.modPair (s.targetOf (offsetOf line.toNat)) (fun p => { p with msgs := p.msgs.filter (fun e =>
          !(e.1 == msgRetune && e.2.port.toNat == port.toNat && e.2.line.toNat == line.toNat)) }))).fabLog 8 port.toNat line.toNat
        (s.targetOf (offsetOf line.toNat)) 0).relink (s.targetOf (offsetOf line.toNat))) := by
  have hgo : ¬(decide ((s.rotOf port.toNat - rn : W32).toNat < 3) || (Claims.lineAt s port line).state != 1) = true := by
    simpa [hs] using h3
  have hx : (Claims.lineAt s port line) = (s.fab.port port.toNat).line line.toNat := rfl
  rw [hx] at hr hs hgo ⊢
  simp only [State.retuneEnd, hr, if_neg hgo, drifted_eq_false mhz hm, Line.well_eq, Bool.false_eq_true, if_false]
  rfl

/-! ## What MODE reads when lock is lost (R416) -/

/-- The state with other links to its peers. -/
def State.withLinks (s : State) (l : Tab Link) : State := s.modFab (fun f => { f with links := l })

theorem State.keepMode_withLinks (s : State) (t : Nat) : s.keepMode t = s.withLinks (s.keepMode t).fab.links := by
  unfold State.keepMode
  split <;> rfl

theorem State.foldl_keepMode_withLinks (s : State) (l : List Nat) :
    l.foldl State.keepMode s = s.withLinks (l.foldl State.keepMode s).fab.links := by
  induction l generalizing s with
  | nil => rfl
  | cons t l ih =>
    rw [List.foldl_cons, ih, s.keepMode_withLinks t]
    rfl

theorem State.quiesced_withLinks (s : State) (l : Tab Link) (t : Nat) (h : l.get {} t = s.fab.link t) :
    (s.withLinks l).fab.quiesced t = s.fab.quiesced t := by
  have hl : (s.withLinks l).fab.link t = s.fab.link t := h
  rw [Fabric.quiesced, hl]
  rfl

theorem State.linkMode_withLinks (s : State) (l : Tab Link) (t : Nat) (part : PartId) (h : l.get {} t = s.fab.link t) :
    (s.withLinks l).linkMode part t = s.linkMode part t := by
  have hl : (s.withLinks l).fab.link t = s.fab.link t := h
  rw [State.linkMode, hl, s.quiesced_withLinks l t h]
  rfl

/-- The link to a peer once what MODE reads of it is kept: as it is where it reads QUIESCED already. -/
def State.keptLink (s : State) (t : Nat) : Link :=
  if s.fab.quiesced t then s.fab.link t
  else { s.fab.link t with shown := some ((List.range 16).map (fun p => BitVec.ofNat 2 (s.linkMode (BitVec.ofNat 4 p) t))) }

theorem State.keepMode_link_same (s : State) (t : Nat) : (s.keepMode t).fab.link t = s.keptLink t := by
  unfold State.keepMode State.keptLink
  split
  · rfl
  · simp [Fabric.modLink, Fabric.link, Tab.mod]

theorem State.keepMode_link_ne (s : State) (t u : Nat) (h : t ≠ u) : (s.keepMode u).fab.link t = s.fab.link t := by
  unfold State.keepMode
  split
  · rfl
  · simp [Fabric.modLink, Fabric.link, Tab.mod, Tab.get_put_ne _ _ _ _ _ h]

/-- What is kept of a peer depends on its own link only. -/
theorem State.keptLink_withLinks (s : State) (l : Tab Link) (t : Nat) (h : l.get {} t = s.fab.link t) :
    (s.withLinks l).keptLink t = s.keptLink t := by
  have hl : (s.withLinks l).fab.link t = s.fab.link t := h
  simp only [State.keptLink, s.quiesced_withLinks l t h, hl, State.linkMode_withLinks _ _ _ _ h]

theorem State.foldl_keepMode_link_of_not_mem (s : State) (t : Nat) (l : List Nat) (h : t ∉ l) :
    (l.foldl State.keepMode s).fab.link t = s.fab.link t := by
  induction l generalizing s with
  | nil => rfl
  | cons u l ih =>
    obtain ⟨hu, hl⟩ := not_or.mp (mt List.mem_cons.mpr h)
    rw [List.foldl_cons, ih _ hl, s.keepMode_link_ne t u hu]

/-- Keeping what MODE reads of one peer does not change what is kept of another. -/
theorem State.foldl_keepMode_link (s : State) (t : Nat) (l : List Nat) (hn : l.Nodup) (ht : t ∈ l) :
    (l.foldl State.keepMode s).fab.link t = s.keptLink t := by
  obtain ⟨l₁, l₂, rfl⟩ := List.append_of_mem ht
  obtain ⟨-, h₂, h₁⟩ := List.nodup_append.mp hn
  have ht₁ : t ∉ l₁ := fun h => h₁ t h t (by simp) rfl
  have ht₂ : t ∉ l₂ := (List.nodup_cons.mp h₂).1
  have hkept : (l₁.foldl State.keepMode s).keptLink t = s.keptLink t := by
    rw [State.foldl_keepMode_withLinks]
    exact s.keptLink_withLinks _ t (s.foldl_keepMode_link_of_not_mem t l₁ ht₁)
  rw [List.foldl_append, List.foldl_cons, State.foldl_keepMode_link_of_not_mem _ _ _ ht₂, State.keepMode_link_same, hkept]

/-- What a mode of 2 bits reads. -/
theorem State.linkMode_lt (s : State) (part : PartId) (t : Nat) : s.linkMode part t < 4 := by
  simp only [State.linkMode]
  (repeat' split) <;> omega

/-- The mode that a QUIESCED link shows a partition. -/
def Link.reads (x : Link) (part : PartId) : Nat :=
  match x.shown with
  | some m => (m.getD part.toNat x.mode).toNat
  | none => x.mode.toNat

theorem State.linkMode_of_quiesced (s : State) (part : PartId) (t : Nat) (ht : t ≠ s.peer.toNat) (hq : s.fab.quiesced t = true) :
    s.linkMode part t = (s.fab.link t).reads part := by
  simp only [State.linkMode, if_neg ht, hq, if_true]
  rfl

/-- What is kept of a peer is what it read. -/
theorem State.keptLink_reads (s : State) (part : PartId) (t : Nat) (ht : t ≠ s.peer.toNat) :
    (s.keptLink t).reads part = s.linkMode part t := by
  by_cases hq : s.fab.quiesced t = true
  · rw [State.keptLink, if_pos hq, s.linkMode_of_quiesced part t ht hq]
  · have hlt := s.linkMode_lt part t
    rw [State.keptLink, if_neg hq]
    have hpart : (List.range 16)[part.toNat]? = some part.toNat := List.getElem?_range part.isLt
    simp [Link.reads, hpart, Nat.mod_eq_of_lt hlt]

/-- A peer that reads QUIESCED reads the mode that was kept of it. -/
theorem State.linkMode_of_keptLink (s u : State) (part : PartId) (t : Nat) (hp : u.peer = s.peer) (hq : u.fab.quiesced t = true)
    (hl : u.fab.link t = s.keptLink t) : u.linkMode part t = s.linkMode part t := by
  by_cases ht : t = s.peer.toNat
  · simp [State.linkMode, hp, ht]
  · rw [u.linkMode_of_quiesced part t (hp ▸ ht) hq, hl, s.keptLink_reads part t ht]

theorem foldl_max_ge {α : Type} (f : α → Nat) (l : List α) (n : Nat) : n ≤ l.foldl (fun n e => Nat.max n (f e)) n := by
  induction l generalizing n with
  | nil => exact Nat.le_refl n
  | cons x l ih => exact Nat.le_trans (Nat.le_max_left n (f x)) (ih _)

theorem le_foldl_max {α : Type} (f : α → Nat) (l : List α) (n : Nat) (x : α) (h : x ∈ l) :
    f x ≤ l.foldl (fun n e => Nat.max n (f e)) n := by
  induction l generalizing n with
  | nil => simp at h
  | cons y l ih =>
    rcases List.mem_cons.mp h with rfl | h
    · exact Nat.le_trans (Nat.le_max_right n (f x)) (foldl_max_ge f l _)
    · exact ih _ h

/-- One unit long without lock takes the package's lock (log 50). -/
theorem Fabric.lost_of_ofu (f : Fabric) (n : Nat) (o : Ofu) (h : (n, o) ∈ f.ofus) (ho : 8 < o.unlocked.getD 0) : f.lost = true := by
  have hle := le_foldl_max (fun e : Nat × Ofu => e.2.unlocked.getD 0) f.ofus 0 (n, o) h
  exact decide_eq_true (Nat.lt_of_lt_of_le ho hle)

theorem Fabric.quiesced_of_lost (f : Fabric) (t : Nat) (hl : f.lost = true) (hp : f.present t = true) : f.quiesced t = true := by
  simp [Fabric.quiesced, hl, hp]

theorem State.peerList_nodup (s : State) : s.peerList.Nodup := List.nodup_range.filter _

theorem State.mem_peerList (s : State) (t : PeerId) (h : t ∈ s.peerList.map (BitVec.ofNat 6)) :
    t.toNat ∈ s.peerList ∧ s.fab.present t.toNat = true := by
  obtain ⟨n, hn, rfl⟩ := List.mem_map.mp h
  have hmem := hn
  simp only [State.peerList, List.mem_filter, List.mem_range, Bool.and_eq_true] at hmem
  obtain ⟨hlt, hpres, -⟩ := hmem
  rw [BitVec.toNat_ofNat, Nat.mod_eq_of_lt hlt]
  exact ⟨hn, hpres⟩

/-- A lost lock is no reason for MODE to read another value. -/
theorem State.pulsed_linkMode (s : State) (t : PeerId) (part : PartId) (hl : (Claims.ticked s).fab.lost = true)
    (hs : s.fab.lost = false) (ht : t ∈ s.peerList.map (BitVec.ofNat 6)) :
    (Claims.pulsed s).linkMode part t.toNat = s.linkMode part t.toNat := by
  obtain ⟨hmem, hpres⟩ := s.mem_peerList t ht
  have hp : Claims.pulsed s = Claims.ticked (s.peerList.foldl State.keepMode s) := by simp [Claims.pulsed, hl, hs]
  have hk := s.foldl_keepMode_link t.toNat s.peerList s.peerList_nodup hmem
  rw [hp]
  rw [State.foldl_keepMode_withLinks] at hk ⊢
  exact State.linkMode_of_keptLink s _ part t.toNat rfl (Fabric.quiesced_of_lost _ _ hl hpres) hk

/-! ## Slots (R394, R395) -/

theorem Ofu.pulse_eq (o : Ofu) : o.pulse = Claims.pulse o := by
  cases hl : o.lock <;> cases hu : o.unlocked <;> simp [Ofu.pulse, Claims.pulse, Ofu.runs, hl, hu]

theorem State.slotBoundary_eq (s : State) (h : s.ready = true) :
    s.slotBoundary = (if (Claims.begins s).isEmpty then Claims.pulsed s
      else ((Claims.pulsed s).rotationBegins (Claims.begins s)).topoTableLoad).transmit := by
  simp only [State.slotBoundary, h, Ofu.pulse_eq]
  rfl

theorem State.transmit_of_lost (s : State) (h : s.fab.lost = true) : s.transmit = s := if_pos h

/-! ## Frames sent again (R403) -/

/-- The slots counted at a slot of a rotation. -/
theorem slotCount_toNat (rot : W32) (slot : BitVec 6) : (rot ++ slot).toNat = 64 * rot.toNat + slot.toNat := by
  rw [BitVec.toNat_append, ← Nat.shiftLeft_add_eq_or_of_lt slot.isLt, Nat.shiftLeft_eq, Nat.mul_comm]

theorem State.slotsSince_eq (s : State) (o : OutFrame) : s.slotsSince o = Claims.age s o := by
  cases hr : o.sentAt with
  | none => simp only [State.slotsSince, Claims.age, hr]
  | some r => cases hv : o.via with
    | none => simp only [State.slotsSince, Claims.age, hr, hv]
    | some v =>
      simp only [State.slotsSince, Claims.age, hr, hv]
      rw [BitVec.toNat_sub, slotCount_toNat, slotCount_toNat]
      congr 1
      omega

theorem beq_toNat_eq {n : Nat} (x y : BitVec n) : (x.toNat == y.toNat) = (x == y) := by
  rw [Bool.eq_iff_iff, beq_iff_eq, beq_iff_eq, BitVec.toNat_inj]

theorem State.retransmit_eq (s : State) (t : PeerId) :
    s.retransmit t.toNat = s.modFab (fun f => { f with out := Claims.allAgain s t }) := by
  have hagain : ∀ o : OutFrame, (((s.fab.out.filter (fun o => Claims.unacked t o && 128 ≤ Claims.age s o)).map
      (fun o => s.pairKey o.frame.ddom o.frame.dst)).contains (s.pairKey o.frame.ddom o.frame.dst)) =
      s.fab.out.any (fun q => Claims.unacked t q && 128 ≤ Claims.age s q &&
        s.pairKey q.frame.ddom q.frame.dst == s.pairKey o.frame.ddom o.frame.dst) := by
    intro o
    rw [Bool.eq_iff_iff]
    simp [and_assoc]
  simp only [State.retransmit, beq_toNat_eq, State.slotsSince_eq]
  refine congrArg (fun l => s.modFab (fun f => { f with out := l })) (List.map_congr_left fun o _ => ?_)
  rw [← hagain o]
  rfl

theorem exec_onceReady_early (s : State) (f : State → State) (h : s.ready = false) : agent (s.onceReady f) = .next s :=
  congrArg agent (s.onceReady_early f h)

theorem exec_onceReady (s t : State) (f : State → State) (h : s.ready = true) (ht : f s = t) : agent (s.onceReady f) = .next t :=
  congrArg agent ((s.onceReady_ready f h).trans ht)

/-- Settles O38: slots and lock from the equation of a slot's boundary and from what keeping a mode leaves; lines and ports from what
no proposal of a repair changes. -/
theorem slotsLinesAndPorts : Obligations.SlotsLinesAndPorts := by
  refine ⟨fun s rot slot t d n o => ⟨fun h => ⟨?_, ?_, ?_⟩, fun h hb => ?_, fun h hb => ?_, fun h hb hl => ?_, fun hl hs ht part =>
    s.pulsed_linkMode t part hl hs ht, fun ho h8 => ?_, rfl, rfl, fun h => ?_, fun h => ?_⟩,
    fun s port line mhz rn => ⟨fun h => ⟨?_, ?_, ?_, ?_⟩, fun h hm => ?_, fun h hm hl hlit => ?_, fun h hr hlit hl => ?_,
      fun h hr hs h3 hm => ?_, fun h hp => ?_, fun h hp => ⟨?_, s.portFails_state _⟩⟩⟩
  · exact congrArg agent (if_pos (by simp [h]))
  · exact exec_onceReady_early s _ h
  · exact exec_onceReady_early s _ h
  · exact congrArg agent ((s.slotBoundary_eq h).trans (by rw [hb]; rfl))
  · exact congrArg agent ((s.slotBoundary_eq h).trans (by rw [if_neg (by simpa using hb)]))
  · exact congrArg agent ((s.slotBoundary_eq h).trans (by rw [hb]; exact State.transmit_of_lost _ hl))
  · have hl := s.fab.lost_of_ofu n o ho h8
    exact ⟨hl, s.fab.quiesced_of_lost t.toNat hl⟩
  · exact exec_onceReady s _ _ h (s.retransmit_eq t)
  · exact exec_onceReady s _ _ h rfl
  · exact exec_onceReady_early s _ h
  · exact exec_onceReady_early s _ h
  · exact exec_onceReady_early s _ h
  · exact exec_onceReady_early s _ h
  · exact exec_onceReady s _ _ h (s.lineDrift_small port line mhz hm)
  · have hline := State.declareDrift_line (Claims.measured s port line mhz) port.toNat line.toNat
    refine ⟨exec_onceReady s _ _ h (s.lineDrift_large port line mhz hm hl hlit), ?_⟩
    rw [Claims.lineAt, hline]
    exact ⟨rfl, rfl, rfl⟩
  · exact exec_onceReady s _ _ h (s.retuneStart_lit port line hr hlit hl)
  · exact exec_onceReady s _ _ h (s.retuneEnd_well port line mhz rn hr hs h3 hm)
  · exact exec_onceReady s _ _ h (if_pos (by simp [hp]))
  · exact exec_onceReady s _ _ h (if_neg (by simpa using hp))

end Sys2Proof.Machine

namespace Sys2Proof.Machine

/-! # What every instruction of a core does at issue -/

theorem runAs_eq (s : State) (i : Instr) (w : W64) (body : State → State) :
    runAs i w s body = .next (s.clean.settle (s.clean.attempt i w body)) := rfl

/-- A V instruction that names no lane group has no effect (R58). -/
theorem State.attempt_noLanes (s : State) (i : Instr) (w : W64) (body : State → State) (h : s.decodeTrap i w = none)
    (h2 : s.stalls i = false) (h3 : i.noLanes = true) : s.clean.attempt i w body = s.clean := by
  have e : s.clean.decodeTrap i w = none := h
  have e2 : s.clean.stalls i = false := h2
  simp [State.attempt, e, e2, h3]

/-- The instruction in whose name the model checks i: RFE stands for IDLE and REPLICA for RCINIT (see `execIdle`). -/
def issuedAs (i : Instr) : Instr :=
  match i with
  | .idle h f => .rfe h f
  | .tlbiRcinit h f => .tlbiReplica h { f with e := if f.e = 5 then 3 else 0 }
  | i => i

theorem issuedAs_eq_or (i : Instr) : issuedAs i = i ∨ (∃ h f, i = .idle h f ∧ issuedAs i = .rfe h f) ∨
    ∃ h f, i = .tlbiRcinit h f ∧ issuedAs i = .tlbiReplica h { f with e := if f.e = 5 then 3 else 0 } := by
  unfold issuedAs
  split
  · exact .inr (.inl ⟨_, _, rfl, rfl⟩)
  · exact .inr (.inr ⟨_, _, rfl, rfl⟩)
  · exact .inl rfl

/-- The issue of an instruction of a core, REP apart, is an attempt of it, whatever its effect. -/
theorem exec_eq_runAs (i : Instr) (s : State) (hi : i.head.isSome = true) (hr : ∀ h f x, i ≠ .rep h f x) :
    ∃ body, exec i s = runAs (issuedAs i) i.firstWord s body := by
  cases i with
  | rep h f x => exact absurd rfl (hr h f x)
  | tnop | tfa | tfb | tscl | tmac | tprom | trank | tdrain | twalk | tloop | tend | tjmp | tyld | tflag | tret | tset |
    fixedResultWriteback | scoreboardResultLand | shadowResultLand | preemptionRequest | preemptionLanding | forcedPreemption |
    contextSave | contextRestore | heldPostApply | remoteFlagPost | transferComplete | arrivalQueueRoom | handlerStart | transferFault |
    rankmergeApply | mcallStart | mmodeExec | mclrExec | mmergeExec | asyncFaultDelivery | machineTrap | uncorrectableError |
    coreFence | dieFence | barrierDieComplete | barrierGenerationComplete | barrierRelease | atomicAtHome | lineHomeHandover |
    l1Eviction | sliceEviction | walkComplete | tlbiComplete | shootdownRequest | shootdownAck | shootdownTimeout |
    bankRetireProposal | stkPropose | stkGo | restripeComplete | testerBusVisit | doorbell | qcmdCreate | qcmdDestroy | qcmdKill |
    qcmdClearerr | qcmdArmreload | qcmdQuery | launch | admissionRetry | signalPacket | waitsig | waitsigReread | nopPacket |
    topoReconfigure | topoLoad | topoRetrain | topoDrainEnd | fabCtlResume | topoTimeout | topoTrainEnd | topoTableLoad |
    taskEnd | slotBoundary | markerLockLoss | frameHeader | frameGlobalWrite | frameScratchpadWrite | frameReadRequest |
    frameReadResponse | frameSend | frameSendm | frameXflag | frameTranslationRequest | frameTranslationResponse |
    retransmitTimeout | propose | accept | defer | retune | portdown | retrain | rejoin | flushed | repairApply |
    repairRepropose | portdownApply | lineDrift | lineRetuneStart | retuneEnd | combFailure | retrainEnd | peerSilenceTimeout |
    peerRemoval | ofuReset | expertBlockRelease | clkdivDecision | divisorSwitch | railStep | throttleUpdate | stallSample |
    levelFall | sramRailWindow | valveControl | sensorSample | evacuationStep | coolantSupplyDrop | zclr | dbgHalt |
    debugHaltLanding | dbgResume | dbgStep | dbgEbrk | dbgVdataRead | deviceReset | bootGo | attGo | attestationReport |
    partitionTableWrite | softerrWrite | hostMainbandAccess | hostLinkFailure | mgmtRegisterWrite | markerLockAcquired |
    coolantSupplyRestored | repRepetition | illegalEncoding =>
    exact absurd hi Bool.false_ne_true
  | _ => exact ⟨_, rfl⟩

/-! ## The instruction checked in the place of another meets the same traps and holds -/

theorem issuedAs_pred (i : Instr) : (issuedAs i).pred = i.pred := by
  obtain h | ⟨_, _, rfl, _⟩ | ⟨_, _, rfl, _⟩ := issuedAs_eq_or i
  · rw [h]
  · rfl
  · rfl

theorem issuedAs_noLanes (i : Instr) : (issuedAs i).noLanes = i.noLanes := by
  obtain h | ⟨_, _, rfl, _⟩ | ⟨_, _, rfl, _⟩ := issuedAs_eq_or i
  · rw [h]
  · rfl
  · rfl

theorem State.stalls_issuedAs (s : State) (i : Instr) : s.stalls (issuedAs i) = s.stalls i := by
  obtain h | ⟨_, _, rfl, _⟩ | ⟨_, _, rfl, _⟩ := issuedAs_eq_or i
  · rw [h]
  · rfl
  · rfl

theorem issuedAs_wf (i : Instr) : (issuedAs i).wf = i.wf := by
  obtain h | ⟨_, _, rfl, _⟩ | ⟨_, f, rfl, _⟩ := issuedAs_eq_or i
  · rw [h]
  · rfl
  · by_cases he : f.e = 5#5 <;> simp [issuedAs, Instr.wf, CF.uses, he]

theorem State.decodeTrap_issuedAs (s : State) (i : Instr) (w : W64) : s.decodeTrap (issuedAs i) w = s.decodeTrap i w := by
  obtain h | ⟨_, _, rfl, _⟩ | ⟨h, f, rfl, _⟩ := issuedAs_eq_or i
  · rw [h]
  · rfl
  · have hw := issuedAs_wf (.tlbiRcinit h f)
    simp only [State.decodeTrap, State.badEncoding, hw]
    rfl

/-! ## What an attempt that has no effect comes to -/

/-- Where every attempt of an instruction leaves t, a trap or a hold or the state it began in, so does its issue: a REP's among them,
where no repetition is under way, since none of these begins one. -/
theorem exec_of_attempt (i : Instr) (s t : State) (hi : i.head.isSome = true)
    (hr : ∀ h f x, i = .rep h f x → s.cx.rep = none)
    (ha : ∀ body, s.clean.attempt (issuedAs i) i.firstWord body = t) (ht : t.mark = .none → t = s.clean) :
    exec i s = .next (s.clean.settle t) := by
  by_cases hrep : ∃ h f x, i = .rep h f x
  · obtain ⟨h, f, x, rfl⟩ := hrep
    have hrun : run (.rep h f x) s (startRep f x) = .next (s.clean.settle t) := by
      rw [← ha (startRep f x)]
      rfl
    show execRep h f x s = _
    unfold execRep
    rw [hrun]
    cases hm : t.mark with
    | none =>
      have hsettle : s.clean.settle t = s.clean := by
        rw [ht hm]
        rfl
      simp [hsettle, hr h f x rfl]
    | held w => simp [State.settle, hm]
    | trapped k => simp [State.settle, hm]
  · obtain ⟨body, hexec⟩ := exec_eq_runAs i s hi (fun h f x e => hrep ⟨h, f, x, e⟩)
    rw [hexec, runAs_eq, ha]

section
variable (i : Instr) (s : State) (hi : i.head.isSome = true) (hr : ∀ h f x, i = .rep h f x → s.cx.rep = none)
include hi hr

/-- What a trap of decode does is its entry (R136, R326). -/
theorem exec_decodeTrap (k : Trap) (h : s.decodeTrap i i.firstWord = some k) : exec i s = .next (Claims.trapped s k) :=
  exec_of_attempt i s _ hi hr
    (fun body => s.attempt_trap (issuedAs i) _ body k ((s.decodeTrap_issuedAs i _).trans h)) (fun hm => nomatch hm)

/-- What a hold at issue leaves is the state as it was (R64, R65, R178). -/
theorem exec_stalls (h1 : s.decodeTrap i i.firstWord = none) (h2 : s.stalls i = true) :
    exec i s = .next (Claims.held s .plain) :=
  exec_of_attempt i s _ hi hr
    (fun body => s.attempt_stalls (issuedAs i) _ body ((s.decodeTrap_issuedAs i _).trans h1) ((s.stalls_issuedAs i).trans h2))
    (fun hm => nomatch hm)

/-- A false guard, and a V instruction of no lane group, have no effect (R54, R58). -/
theorem exec_no_effect (h1 : s.decodeTrap i i.firstWord = none) (h2 : s.stalls i = false)
    (h3 : s.preg i.pred = false ∨ i.noLanes = true) : exec i s = .next s.clean := by
  have hd := (s.decodeTrap_issuedAs i i.firstWord).trans h1
  have hs := (s.stalls_issuedAs i).trans h2
  refine exec_of_attempt i s s.clean hi hr (fun body => ?_) (fun _ => rfl)
  obtain hp | hl := h3
  · exact s.attempt_guard (issuedAs i) _ body hd hs (by rw [issuedAs_pred, hp])
  · exact s.attempt_noLanes (issuedAs i) _ body hd hs (by rw [issuedAs_noLanes, hl])

end

/-! ## The traps of decode -/

theorem State.decodeTrap_of_not_wf (s : State) (i : Instr) (w : W64) (h : i.wf = false) :
    s.decodeTrap i w = some { cause := 0x01, tval := w } := by
  simp [State.decodeTrap, State.badEncoding, h, cEncoding]

theorem State.decodeTrap_of_privFault (s : State) (i : Instr) (w v : W64) (hb : s.badEncoding i = false)
    (hp : s.privFault i w = some v) : s.decodeTrap i w = some { cause := 0x03, tval := v } := by
  simp [State.decodeTrap, hb, hp, cPrivilege]

theorem State.privFault_kernelOnly (s : State) (h : Hdr) (f : CF) (i : Instr) (w : W64) (hm : s.cx.mode = false)
    (hi : i ∈ Claims.kernelOnly h f) : s.privFault i w = some w := by
  simp only [Claims.kernelOnly, List.mem_cons, List.not_mem_nil, or_false] at hi
  obtain rfl | rfl | rfl | rfl | rfl | rfl | rfl | rfl := hi <;> simp [State.privFault, hm]

theorem State.privFault_kernelCsr (s : State) (h : Hdr) (f : CF) (n : BitVec 12) (i : Instr) (w : W64) (hm : s.cx.mode = false)
    (hi : i ∈ [Instr.rdc h f n, .wrc h f n]) (hn : 0x100 ≤ n.toNat) : s.privFault i w = some (n.setWidth 64) := by
  simp only [List.mem_cons, List.not_mem_nil, or_false] at hi
  obtain rfl | rfl := hi <;> simp [State.privFault, hm, hn]

/-- A kernel-only instruction is a C instruction of one word, and so no REP. -/
theorem head_of_kernelOnly (h : Hdr) (f : CF) (i : Instr) (hi : i ∈ Claims.kernelOnly h f) :
    i.head = some (.c, h, 1) := by
  simp only [Claims.kernelOnly, List.mem_cons, List.not_mem_nil, or_false] at hi
  obtain rfl | rfl | rfl | rfl | rfl | rfl | rfl | rfl := hi <;> rfl

/-- Settles O45: whatever the instruction, what its issue attempts is settled before its own effect is asked for. -/
theorem trapsHoldsAndGuards : Obligations.TrapsHoldsAndGuards := by
  unfold Obligations.TrapsHoldsAndGuards
  intro s w i h f n k
  refine ⟨rfl, fun hi hr hw => ?_, fun hi hm hb => ?_, fun hi hm hb hn => ?_, fun hi hr => ?_, fun hi hr => ?_, fun hi hr => ?_⟩
  · exact exec_decodeTrap i s hi (fun _ _ _ _ => hr) _ (s.decodeTrap_of_not_wf i _ hw)
  · have hh := head_of_kernelOnly h f i hi
    refine exec_decodeTrap i s (by rw [hh]; rfl) ?_ _ (s.decodeTrap_of_privFault i _ _ hb (s.privFault_kernelOnly h f i _ hm hi))
    rintro _ _ _ rfl
    cases hh
  · have hp := s.decodeTrap_of_privFault i i.firstWord _ hb (s.privFault_kernelCsr h f n i _ hm hi hn)
    simp only [List.mem_cons, List.not_mem_nil, or_false] at hi
    obtain rfl | rfl := hi
    · exact exec_decodeTrap _ s rfl (fun _ _ _ e => Instr.noConfusion e) _ hp
    · exact exec_decodeTrap _ s rfl (fun _ _ _ e => Instr.noConfusion e) _ hp
  · exact exec_decodeTrap i s hi (fun _ _ _ _ => hr) k
  · exact exec_stalls i s hi (fun _ _ _ _ => hr)
  · exact exec_no_effect i s hi (fun _ _ _ _ => hr)

end Sys2Proof.Machine

namespace Sys2Proof.Machine

/-! # Branches, loops, SWPT and BRT -/

/-! ## The issuing context, and what a change of it leaves -/

@[simp] theorem Res.modCtx_inflight (r : Res) (x : CtxId) (g : Ctx → Ctx) : (r.modCtx x g).inflight = r.inflight := by
  cases x <;> rfl

@[simp] theorem Res.modCtx_modCtx (r : Res) (x : CtxId) (f g : Ctx → Ctx) :
    (r.modCtx x f).modCtx x g = r.modCtx x (fun c => g (f c)) := by
  simp [Res.modCtx]

@[simp] theorem State.rc_modCx (s : State) (g : Ctx → Ctx) : (s.modCx g).rc = s.rc.modCtx s.cur.ctx g :=
  State.rc_modRc s _

@[simp] theorem State.modCx_modCx (s : State) (f g : Ctx → Ctx) : (s.modCx f).modCx g = s.modCx (fun c => g (f c)) := by
  unfold State.modCx
  simp

/-- What a change of the issuing context comes to rests on what it makes of that context alone. -/
theorem State.modCx_congr (s : State) (f g : Ctx → Ctx) (h : f s.cx = g s.cx) : s.modCx f = s.modCx g := by
  show s.setRes _ _ (s.rc.setCtx _ (f s.cx)) = s.setRes _ _ (s.rc.setCtx _ (g s.cx))
  rw [h]

@[simp] theorem State.cycle_modCx (s : State) (g : Ctx → Ctx) : (s.modCx g).here.cycle = s.here.cycle :=
  State.cycle_modRc s _

/-- An instruction that runs and leaves the results in flight as they are answers the state its effect gives. -/
theorem run_of_inflight (s : State) (i : Instr) (n : Nat) (body : State → State) (t : State) (h : s.runs i n = true)
    (hb : body s.clean = t) (hm : t.mark = .none) (hf : t.rc.inflight = s.rc.inflight) : run i s body = .next t := by
  obtain ⟨-, -, -, -, hn⟩ := State.runs_parts s i n h
  exact run_effect s i n body t h hb hm (by rw [hf]; omega)

/-- An instruction whose effect marks a trap leaves that trap's entry alone, whatever else the effect did before (R326). -/
theorem run_of_mark_trapped (s : State) (i : Instr) (n : Nat) (body : State → State) (k : Trap) (h : s.runs i n = true)
    (hm : (body s.clean).mark = .trapped k) (hf : (body s.clean).rc.inflight = s.rc.inflight) :
    run i s body = .next (Claims.trapped s k) := by
  obtain ⟨-, -, -, -, hn⟩ := State.runs_parts s i n h
  rw [run_eq, State.attempt_runs s i n body h (by rw [hf]; omega), State.settle, hm]
  rfl

/-- An instruction that changes the issuing context's own registers and goes on with the next group. -/
theorem run_modCx (s : State) (i : Instr) (n : Nat) (body : State → State) (g : Ctx → Ctx) (h : s.runs i n = true)
    (hb : body s.clean = s.clean.modCx g) : run i s body = .next (s.clean.modCx g) :=
  run_of_inflight s i n body _ h hb rfl (by simp)

/-- An instruction that changes nothing. -/
theorem run_clean (s : State) (i : Instr) (n : Nat) (body : State → State) (h : s.runs i n = true)
    (hb : body s.clean = s.clean) : run i s body = .next s.clean :=
  run_of_inflight s i n body _ h hb rfl rfl

/-! ## Going on elsewhere (R69, R168 to R171) -/

@[simp] theorem goesTo_rc (s : State) (g : Ctx → Ctx) (a : VAddr) (n : Nat) :
    (Claims.goesTo s g a n).rc = s.rc.modCtx s.cur.ctx (fun x => { g x with pc := a, ready := s.here.cycle + 1 + n }) :=
  State.rc_modCx s.clean _

/-- An instruction that goes on elsewhere. -/
theorem run_goesTo (s : State) (i : Instr) (n : Nat) (body : State → State) (g : Ctx → Ctx) (a : VAddr) (k : Nat)
    (h : s.runs i n = true) (hb : body s.clean = Claims.goesTo s g a k) : run i s body = .next (Claims.goesTo s g a k) :=
  run_of_inflight s i n body _ h hb rfl (by simp)

/-- A jump after a change of the context that goes on. -/
theorem State.jump_modCx (s : State) (g : Ctx → Ctx) (a : VAddr) (n : Nat) :
    (s.clean.modCx g).jump a n = Claims.goesTo s g a n := by
  simp [State.jump, Claims.goesTo]

/-- The loop stack may change before the context goes on or after. -/
theorem goesTo_modCx_loops (s : State) (f : List LoopE → List LoopE) (a : VAddr) (n : Nat) :
    (Claims.goesTo s id a n).modCx (fun x => { x with loops := f x.loops }) =
      Claims.goesTo s (fun x => { x with loops := f x.loops }) a n := by
  unfold Claims.goesTo
  rw [← State.modCx_modCx s.clean (fun x => { x with pc := a, ready := s.here.cycle + 1 + n })
    (fun x => { x with loops := f x.loops })]
  rfl

theorem goesTo_congr (s : State) (f g : Ctx → Ctx) (a : VAddr) (n : Nat) (h : f s.cx = g s.cx) :
    Claims.goesTo s f a n = Claims.goesTo s g a n := by
  unfold Claims.goesTo
  rw [State.modCx_congr s.clean _ (fun x => { g x with pc := a, ready := s.here.cycle + 1 + n }) (by simp [h])]

theorem State.branch_aligned (s : State) (a : VAddr) (n : Nat) (h : a.toNat % 4 = 0) : s.branch a n = s.jump a n :=
  if_neg (fun hn => hn h)

theorem State.branch_misaligned (s : State) (a : VAddr) (n : Nat) (h : a.toNat % 4 ≠ 0) :
    s.branch a n = s.trap { cause := 0x06, tval := a.setWidth 64 } := if_pos h

theorem State.prepare_inflight (s : State) (n : Nat) (a : VAddr) : (s.prepare n a).rc.inflight = s.rc.inflight := by
  simp [State.prepare]

theorem labelAt_eq (s : State) (off : W32) : Claims.labelAt s off = loopStop s.cur.ipc off := by
  have hshift : off.signExtend 48 <<< 2 = 4#48 * BitVec.ofInt 48 off.toInt := by
    rw [BitVec.shiftLeft_eq_mul_twoPow, BitVec.mul_comm]
    rfl
  rw [Claims.labelAt, loopStop, hshift, BitVec.ofInt_add, BitVec.ofInt_mul, BitVec.ofInt_natCast, BitVec.ofNat_toNat,
    BitVec.setWidth_eq]
  rfl

theorem costOf_eq (s : State) (n : BitVec 3) : Claims.costOf s n = s.cx.bubbles n.toNat := rfl

theorem target_eq (s : State) (n : BitVec 3) : Claims.target s n = s.breg n.toNat := by
  simp [Claims.target, State.breg, Ctx.readB, Nat.mod_eq_of_lt n.isLt]

theorem loopLimit_eq (x : CtxId) : loopLimit x = if x = .primary then 6 else 2 := by cases x <;> rfl

/-! ## BR and CALL (R169, R170) -/

section
variable (s : State) (h : Hdr) (f : BF)

theorem exec_br (hr : s.runs (.br h f) 0 = true) (ht : (Claims.target s f.bt).toNat % 4 = 0) :
    exec (.br h f) s = .next (Claims.goesTo s id (Claims.target s f.bt) (Claims.costOf s f.bt)) := by
  rw [target_eq] at ht ⊢
  rw [costOf_eq]
  exact run_goesTo s _ 0 _ id _ _ hr (s.clean.branch_aligned _ _ ht)

theorem exec_br_misaligned (hr : s.runs (.br h f) 0 = true) (ht : (Claims.target s f.bt).toNat % 4 ≠ 0) :
    exec (.br h f) s = .next (Claims.trapped s { cause := 0x06, tval := (Claims.target s f.bt).setWidth 64 }) := by
  rw [target_eq] at ht ⊢
  exact run_body_trap s _ 0 _ _ hr (s.clean.branch_misaligned _ _ ht)

theorem exec_call (hr : s.runs (.call h f) 0 = true) (ht : (Claims.target s f.bt).toNat % 4 = 0) :
    exec (.call h f) s = .next (Claims.goesTo s (fun x => { x with b := x.b.put 0 7 s.cur.next, prep := some (7, 0) })
      (Claims.target s f.bt) (Claims.costOf s f.bt)) := by
  rw [target_eq] at ht ⊢
  rw [costOf_eq]
  exact run_goesTo s _ 0 _ _ _ _ hr ((State.branch_aligned _ _ _ ht).trans (s.jump_modCx _ _ _))

/-- A CALL that traps has prepared b7 before, and the trap discards it. -/
theorem exec_call_misaligned (hr : s.runs (.call h f) 0 = true) (ht : (Claims.target s f.bt).toNat % 4 ≠ 0) :
    exec (.call h f) s = .next (Claims.trapped s { cause := 0x06, tval := (Claims.target s f.bt).setWidth 64 }) := by
  rw [target_eq] at ht ⊢
  have hb := (s.clean.prepare 7 s.cur.next).branch_misaligned (s.breg f.bt.toNat) (s.cx.bubbles f.bt.toNat) ht
  exact run_of_mark_trapped s _ 0 _ _ hr (congrArg State.mark hb)
    ((congrArg (fun t => t.rc.inflight) hb).trans (s.clean.prepare_inflight 7 s.cur.next))

end

/-! ## Reading through instruction fetch does not see the mark -/

theorem State.clean_fetchWords (s : State) (n : Nat) (a : VAddr) : s.clean.fetchWords n a = s.fetchWords n a := by
  induction n generalizing a with
  | zero => rfl
  | succ n ih =>
    have hw : s.clean.fetchWord a = s.fetchWord a := rfl
    simp only [State.fetchWords, hw, ih]

theorem State.clean_scan (s : State) (fuel room : Nat) (a : VAddr) : s.clean.scan fuel room a = s.scan fuel room a := by
  induction fuel generalizing room a with
  | zero => rfl
  | succ fuel ih =>
    have hw : s.clean.fetchWord a = s.fetchWord a := rfl
    simp only [State.scan, hw, ih, State.clean_fetchWords]

theorem State.clean_afterGroup (s : State) (a : VAddr) : s.clean.afterGroup a = s.afterGroup a := by
  simp only [State.afterGroup, State.shapeAt, State.clean_scan]

/-- Going on after a group that can be read. -/
theorem State.skipPast_clean (s : State) (va a : VAddr) (f : State → State) (h : s.afterGroup va = .ok a) :
    s.clean.skipPast va f = f (Claims.goesTo s id a 2) := by
  simp only [State.skipPast, State.clean_afterGroup, h]
  rfl

/-! ## LOOP and LBRK (R171, R172) -/

theorem loopAt_open (f : BF) (off : W32) (s : State) (hc : (s.sreg f.sa).extractLsb' 0 32 ≠ 0) :
    loopAt f off s.clean = s.clean.modCx (fun x =>
      { x with loops := { start := s.cur.next, stop := Claims.labelAt s off, count := (s.sreg f.sa).extractLsb' 0 32,
                          index := 0, yld := f.yld } :: x.loops }) := by
  rw [labelAt_eq]
  exact if_neg hc

theorem loopAt_skip (f : BF) (off : W32) (s : State) (a : VAddr) (hc : (s.sreg f.sa).extractLsb' 0 32 = 0)
    (ha : s.afterGroup (Claims.labelAt s off) = .ok a) : loopAt f off s.clean = Claims.goesTo s id a 2 := by
  rw [labelAt_eq] at ha
  exact (if_pos hc).trans (s.skipPast_clean _ a id ha)

theorem lbrk_leaves (s : State) (e : LoopE) (l : List LoopE) (a : VAddr) (hl : s.cx.loops = e :: l)
    (ha : s.afterGroup e.stop = .ok a) : lbrk s.clean = Claims.goesTo s (fun x => { x with loops := l }) a 2 := by
  have hskip : lbrk s.clean = (Claims.goesTo s id a 2).modCx (fun x => { x with loops := x.loops.tail }) := by
    simp only [lbrk, State.clean_cx, hl]
    exact s.skipPast_clean e.stop a _ ha
  rw [hskip, goesTo_modCx_loops s List.tail]
  exact goesTo_congr s _ _ a 2 (by simp [hl])

/-- ILLEGAL_GROUP of a LOOP or LBRK that no earlier trap of decode takes (R136). -/
theorem State.decodeTrap_of_badLoop (s : State) (i : Instr) (w : W64) (hb : s.badEncoding i = false)
    (hp : s.privFault i w = none) (hl : s.badLoop s.cur.ipc i = true) : s.decodeTrap i w = some { cause := 0x02 } := by
  simp [State.decodeTrap, hb, hp, hl, cGroup]

theorem State.badLoop_loop (s : State) (h : Hdr) (f : BF) (off : W32)
    (hl : s.cx.loops.length ≥ (if s.cur.ctx = .primary then 6 else 2) ∨
      s.cx.loops.any (fun e => e.stop == Claims.labelAt s off) = true) :
    s.badLoop s.cur.ipc (.loop h f off) = true := by
  rw [labelAt_eq] at hl
  simpa only [State.badLoop, loopLimit_eq, Bool.or_eq_true, decide_eq_true_eq] using hl

theorem State.badLoop_lbrk (s : State) (h : Hdr) (f : BF) (hl : s.cx.loops = []) :
    s.badLoop s.cur.ipc (.lbrk h f) = true := by
  simp [State.badLoop, hl]

/-! ## SWPT (R173) -/

theorem swpt_no_table (f : BF) (s : State) (h : s.rc.swtab = 0) : swpt f s.clean = s.clean := if_pos h

/-- SWPT with the entry that it reads. -/
theorem swpt_entry (f : BF) (s : State) (w0 w1 : W32) (h : s.rc.swtab ≠ 0)
    (hw : s.fetchWords 2 (Claims.switchAt s f) = .ok [w0, w1]) : swpt f s.clean =
      if w1 ++ w0 = 0#64 then s.clean
      else if (w1 ++ w0).extractLsb' 48 16 ≠ 0 || (w1 ++ w0).toNat % 4 ≠ 0 then
        s.clean.trap { cause := 0x05, sub := 8, tval := w1 ++ w0 }
      else s.clean.jump ((w1 ++ w0).setWidth 48) 3 := by
  have hw' : s.clean.fetchWords 2 (Claims.switchAt s f) = .ok [w0, w1] := (s.clean_fetchWords _ _).trans hw
  have hat : s.clean.rc.swtab + BitVec.ofNat 48 (32 * (f.sb ++ f.sa).toNat + 8 * Nat.min s.clean.here.level.toNat 2) =
      Claims.switchAt s f := rfl
  unfold swpt
  rw [if_neg (show ¬ s.clean.rc.swtab = 0 from h)]
  simp only [hat, hw']
  rfl

/-- A number of 64 bits with nothing in bits [63:48] is an address of 48 bits (R5). -/
theorem extractLsb'_48_16_eq_zero_iff (x : W64) : x.extractLsb' 48 16 = 0#16 ↔ x.toNat < 2 ^ 48 := by
  rw [← BitVec.toNat_inj, BitVec.extractLsb'_toNat]
  have := x.isLt
  simp only [Nat.shiftRight_eq_div_pow, BitVec.toNat_ofNat]
  omega

theorem swpt_zero (f : BF) (s : State) (w0 w1 : W32) (h : s.rc.swtab ≠ 0)
    (hw : s.fetchWords 2 (Claims.switchAt s f) = .ok [w0, w1]) (hz : w1 ++ w0 = 0#64) : swpt f s.clean = s.clean :=
  (swpt_entry f s w0 w1 h hw).trans (if_pos hz)

theorem swpt_taken (f : BF) (s : State) (w0 w1 : W32) (h : s.rc.swtab ≠ 0)
    (hw : s.fetchWords 2 (Claims.switchAt s f) = .ok [w0, w1]) (hz : w1 ++ w0 ≠ 0#64) (hlt : (w1 ++ w0).toNat < 2 ^ 48)
    (h4 : (w1 ++ w0).toNat % 4 = 0) : swpt f s.clean = Claims.goesTo s id ((w1 ++ w0).setWidth 48) 3 := by
  have hgood : ¬ ((w1 ++ w0).extractLsb' 48 16 ≠ 0 || (w1 ++ w0).toNat % 4 ≠ 0) = true := by
    simp [(extractLsb'_48_16_eq_zero_iff (w1 ++ w0)).mpr hlt, h4]
  rw [swpt_entry f s w0 w1 h hw, if_neg hz, if_neg hgood]
  rfl

theorem swpt_no_address (f : BF) (s : State) (w0 w1 : W32) (h : s.rc.swtab ≠ 0)
    (hw : s.fetchWords 2 (Claims.switchAt s f) = .ok [w0, w1])
    (hbad : 2 ^ 48 ≤ (w1 ++ w0).toNat ∨ (w1 ++ w0).toNat % 4 ≠ 0) :
    swpt f s.clean = s.clean.trap { cause := 0x05, sub := 8, tval := w1 ++ w0 } := by
  have hz : w1 ++ w0 ≠ 0#64 := fun hz => by simp [hz] at hbad
  have hcond : ((w1 ++ w0).extractLsb' 48 16 ≠ 0 || (w1 ++ w0).toNat % 4 ≠ 0) = true := by
    simpa [extractLsb'_48_16_eq_zero_iff] using hbad
  rw [swpt_entry f s w0 w1 h hw, if_neg hz, if_pos hcond]

/-! ## BRT (R174) -/

theorem brt_nan (f : BF) (s : State) (h : isNaN32 (Claims.boundOf s f) = true) :
    brt f s.clean = s.clean.modRc (fun r => { r with fstat := r.fstat ||| 1 }) := if_pos h

theorem thresholdOf_eq (s : State) (f : BF) (h : f.sb.toNat < 8) :
    Claims.thresholdOf s f = (s.rc.eng.tile (f.sb.toNat % 8)).threshold := by
  simp [Claims.thresholdOf, Engine.tile, Nat.mod_eq_of_lt h]

/-- BRT with a bound that is a number. -/
theorem brt_number (f : BF) (s : State) (hsb : f.sb.toNat < 8) (h : isNaN32 (Claims.boundOf s f) = false) : brt f s.clean =
    if rankKey (Claims.boundOf s f) ≤ rankKey (Claims.thresholdOf s f) then
      s.clean.branch (Claims.target s f.bt) (Claims.costOf s f.bt)
    else s.clean := by
  rw [thresholdOf_eq s f hsb, target_eq, costOf_eq]
  exact if_neg (ne_true_of_eq_false h)

/-- A tile that BRT names is one of eight (R174). -/
theorem brt_tile (s : State) (h : Hdr) (f : BF) (n : Nat) (hr : s.runs (.brt h f) n = true) : f.sb.toNat < 8 := by
  have hw := s.runs_wf _ n hr
  simp only [Instr.wf, Bool.and_eq_true, decide_eq_true_eq] at hw
  exact hw.2

/-! ## The statement -/

/-- Settles O14: each instruction's effect in the state it begins in, and what running with that effect comes to. -/
theorem loopsAndBranches : Obligations.LoopsAndBranches := by
  unfold Obligations.LoopsAndBranches
  refine ⟨fun h f off s e l a =>
      ⟨fun hr _ _ => ⟨fun hc => ?_, fun hc ha => ?_⟩, fun hb hl => ?_, fun hr hl ha => ?_, fun hb hl => ?_⟩,
    fun h f off s => ⟨fun hr => ?_, fun hr => ?_, fun hr ht => ?_, fun hr ht => ?_, fun i hi hr ht => ?_⟩,
    fun h f s w0 w1 => ⟨fun hr h0 => ?_, fun hr h0 hw => ⟨fun hz => ?_, fun hz hlt h4 => ?_, fun hbad => ?_⟩, fun hr hn => ?_,
      fun hr hn hle ht => ?_, fun hr hn hlt => ?_⟩⟩
  · exact run_modCx s _ 0 (loopAt f off) _ hr (loopAt_open f off s hc)
  · exact run_goesTo s _ 0 (loopAt f off) id a 2 hr (loopAt_skip f off s a hc ha)
  · exact run_decode_trap s _ _ _ (s.decodeTrap_of_badLoop _ _ hb (by simp [State.privFault]) (s.badLoop_loop h f off hl))
  · exact run_goesTo s _ 0 lbrk _ a 2 hr (lbrk_leaves s e l a hl ha)
  · exact run_decode_trap s _ _ _ (s.decodeTrap_of_badLoop _ _ hb (by simp [State.privFault]) (s.badLoop_lbrk h f hl))
  · exact run_modCx s _ 0 _ _ hr rfl
  · rw [labelAt_eq]
    exact run_modCx s _ 0 _ _ hr rfl
  · exact exec_br s h f hr ht
  · exact exec_call s h f hr ht
  · simp only [List.mem_cons, List.not_mem_nil, or_false] at hi
    obtain rfl | rfl := hi
    · exact exec_br_misaligned s h f hr ht
    · exact exec_call_misaligned s h f hr ht
  · exact run_clean s _ 0 (swpt f) hr (swpt_no_table f s h0)
  · exact run_clean s _ 0 (swpt f) hr (swpt_zero f s w0 w1 h0 hw hz)
  · exact run_goesTo s _ 0 (swpt f) id _ 3 hr (swpt_taken f s w0 w1 h0 hw hz hlt h4)
  · exact run_body_trap s _ 0 (swpt f) _ hr (swpt_no_address f s w0 w1 h0 hw hbad)
  · exact run_of_inflight s _ 0 (brt f) _ hr (brt_nan f s hn) rfl (by simp)
  · exact run_goesTo s _ 0 (brt f) id _ _ hr
      ((brt_number f s (brt_tile s h f 0 hr) hn).trans ((if_pos hle).trans (s.clean.branch_aligned _ _ ht)))
  · exact run_clean s _ 0 (brt f) hr ((brt_number f s (brt_tile s h f 0 hr) hn).trans (if_neg (Int.not_le.mpr hlt)))

end Sys2Proof.Machine

namespace Sys2Proof.Machine

/-! # A state outside the canonical form of its tables -/

/-- The reset state with core 0 listed as it reads unlisted: the table of cores is not in canonical form. -/
def idleCoreListed : State := { State.reset with cores := [(0, {})] }

/-- MOVSV of no lane group (GMASK 0) sends no result and changes nothing. -/
theorem exec_movsv_no_group (h : Hdr) (f : SF) (s : State) (n : Nat) (hr : s.runs (.movsv h f) n = true)
    (hg : groupsOf (f.imm.setWidth 8) = []) : exec (.movsv h f) s = .next s.clean :=
  run_clean s _ n (movsv f) hr (by simp [movsv, hg])

/-- Sending no result writes the issuing core back as it was, and that takes core 0's entry out of the table. -/
theorem idleCoreListed_sends_nil : (idleCoreListed.sends []).cores = [] := by decide +kernel

/-- Refutes O15: where the table of cores is not in canonical form, `sends` of no result is not the state as it was, since it writes
the issuing core's entry anew; a MOVSV of no lane group leaves the table as it stands. -/
theorem not_movesAndControlRegisters : ¬ Obligations.MovesAndControlRegisters := by
  unfold Obligations.MovesAndControlRegisters
  intro hall
  have hr : idleCoreListed.runs (.movsv default default) 8 = true := by decide +kernel
  have hsaid := (hall.1 default default default idleCoreListed).1 hr
  rw [exec_movsv_no_group default default idleCoreListed 8 hr rfl] at hsaid
  have hcores : idleCoreListed.cores = (idleCoreListed.sends []).cores := congrArg State.cores (Host.Outcome.next.inj hsaid)
  rw [idleCoreListed_sends_nil] at hcores
  exact absurd hcores (List.cons_ne_nil _ _)

end Sys2Proof.Machine

namespace Sys2Proof.Machine

/-! # Doorbells, queue commands and packets -/

/-! ## Two changes of one queue or one partition -/

@[simp] theorem State.queue_modQueue_same (s : State) (q : QueueId) (f : Queue → Queue) : (s.modQueue q f).queue q = f (s.queue q) := by
  simp [State.queue, State.modQueue, Tab.mod]

@[simp] theorem State.modQueue_modQueue (s : State) (q : QueueId) (f g : Queue → Queue) :
    (s.modQueue q f).modQueue q g = s.modQueue q (fun k => g (f k)) := by
  simp [State.modQueue, Tab.mod]

theorem State.modQueue_congr (s : State) (q : QueueId) (f g : Queue → Queue) (h : f (s.queue q) = g (s.queue q)) :
    s.modQueue q f = s.modQueue q g := by
  simp only [State.modQueue, Tab.mod]
  rw [show f (s.queues.get {} q.toNat) = g (s.queues.get {} q.toNat) from h]

@[simp] theorem State.modPart_modPart (s : State) (p : PartId) (f g : Part → Part) :
    (s.modPart p f).modPart p g = s.modPart p (fun k => g (f k)) := by
  simp [State.modPart, Tab.mod]

/-! ## A queue that is not DESTROYED stays as it is when it is settled (R364) -/

theorem State.settleQueue_modQueue (s : State) (q : QueueId) (f : Queue → Queue) (h : (f (s.queue q)).state ≠ 3) :
    (s.modQueue q f).settleQueue q = s.modQueue q f := by
  rw [State.settleQueue, State.modQueue_modQueue]
  refine s.modQueue_congr q _ _ ?_
  simp only [h, decide_false, Bool.false_and, Bool.false_eq_true, if_false]

theorem State.completed_eq_ended (s : State) (q : QueueId) (n : W32) (h : (s.queue q).state ≠ 3) :
    s.completed q n = Claims.ended s q n := s.settleQueue_modQueue q _ h

theorem Queue.takeBack_eq (k : Queue) : k.takeBack = Claims.launchBack k := by
  unfold Queue.takeBack Claims.launchBack
  cases hh : k.head with
  | none => simp
  | some p => simp [← BitVec.toNat_inj]

@[simp] theorem Queue.takeBack_wptr (k : Queue) : k.takeBack.wptr = k.wptr := by
  unfold Queue.takeBack
  (repeat' split) <;> rfl

@[simp] theorem State.dispatchLog_queue (s : State) (p : PartId) (type queue task addr code : Nat) (q : QueueId) :
    (s.dispatchLog p type queue task addr code).queue q = s.queue q := rfl

/-- A queue that enters ERROR and is not DESTROYED (R364, R365). -/
theorem State.queueError_queue (s : State) (q : QueueId) (code : Byte) (h : (s.queue q).state ≠ 3) :
    (s.queueError q code).queue q = { (s.queue q).takeBack with state := 2, err := code } := by
  simp only [State.queueError, State.dispatchLog_queue]
  rw [s.settleQueue_modQueue q _ (by simp only [h, if_false]; decide), State.queue_modQueue_same, if_neg h]

/-! ## DOORBELL (R342, R343) -/

theorem State.ringsNow_iff (s : State) (p : PartId) :
    Claims.ringsNow s p = true ↔ s.ready = true ∧ ((s.part p).held || s.hostWrites) = false := by
  simp [Claims.ringsNow, State.hostWrites, and_assoc]

theorem State.queueIn_iff (s : State) (p : PartId) (q : QueueId) (st : BitVec 2) :
    Claims.queueIn s p q st = true ↔ (s.queue q).part = p ∧ (s.queue q).state = st := by
  simp [Claims.queueIn]

section
variable (s : State) (p : PartId) (w : W64)

/-- What a doorbell does that has its effect at once. -/
theorem exec_doorbell_now (h : Claims.ringsNow s p = true) : exec (.doorbell p w) s = .next (
    if Claims.queueIn s p (w.setWidth 10) 1 = true then
      if (w.extractLsb' 32 32 - (s.queue (w.setWidth 10)).rptr : W32).toNat ≤ 2 ^ (s.queue (w.setWidth 10)).sizelog.toNat then
        s.modQueue (w.setWidth 10) (fun k =>
          if w.extractLsb' 32 32 = k.rptr then { Claims.launchBack k with wptr := w.extractLsb' 32 32 }
          else { k with wptr := w.extractLsb' 32 32 })
      else s.queueError (w.setWidth 10) 3
    else s.dispatchLog p 3 (w.setWidth 10 : QueueId).toNat 0 0 0) := by
  obtain ⟨hready, hnow⟩ := (s.ringsNow_iff p).mp h
  have hown : ((s.queue (w.setWidth 10)).state != 1 || (s.queue (w.setWidth 10)).part != p) =
      !Claims.queueIn s p (w.setWidth 10) 1 := by
    rw [Claims.queueIn, Bool.not_and, Bool.or_comm]
    rfl
  refine congrArg agent ((s.atReady_ready _ hready).trans ?_)
  simp only [State.doorbell, hnow, Bool.false_eq_true, if_false, hown, Queue.takeBack_eq]
  cases Claims.queueIn s p (w.setWidth 10) 1 <;> simp

theorem exec_doorbell_kept (hr : s.ready = true) (h : Claims.ringsNow s p = false) :
    exec (.doorbell p w) s = .next (s.modPart p (fun k => { k with bells := k.bells ++ [w] })) := by
  have hkept : ((s.part p).held || s.hostWrites) = true := by
    rw [← Bool.not_eq_false]
    exact fun hn => Bool.false_ne_true (h.symm.trans ((s.ringsNow_iff p).mpr ⟨hr, hn⟩))
  exact congrArg agent ((s.atReady_ready _ hr).trans (if_pos hkept))

end

/-! ## Queue commands (R342) -/

theorem State.command_parts (s : State) (w : W64) (op : Nat) (h : Claims.command s w op = true) :
    s.ready = true ∧ (w.setWidth 8).toNat = op ∧ w.extractLsb' 18 14 = 0 := by
  simpa [Claims.command, and_assoc] using h

section
variable (s : State) (p : PartId) (w : W64) (op : Nat) (ok : Bool) (f : State → State)

theorem State.qcmd_of_command (h : Claims.command s w op = true) :
    s.qcmd p w op ok f = if ok then Claims.answer (f s) p 1 else Claims.answer s p 2 := by
  obtain ⟨hready, hop, hzero⟩ := s.command_parts w op h
  cases ok <;> simp [State.qcmd, Claims.answer, hready, hop, hzero]

theorem State.qcmd_done (h : Claims.command s w op = true) (hok : ok = true) :
    s.qcmd p w op ok f = Claims.answer (f s) p 1 := by
  rw [s.qcmd_of_command p w op ok f h, if_pos hok]

theorem State.qcmd_refused (h : Claims.command s w op = true) (hok : ok = false) :
    s.qcmd p w op ok f = Claims.answer s p 2 := by
  rw [s.qcmd_of_command p w op ok f h, hok]
  rfl

end

theorem State.ownsQueue_of_queueIn (s : State) (p : PartId) (q : QueueId) (st : BitVec 2) (h : Claims.queueIn s p q st = true)
    (hst : st ≠ 0) : s.ownsQueue p q = true := by
  obtain ⟨hpart, hstate⟩ := (s.queueIn_iff p q st).mp h
  simpa [State.ownsQueue, hpart, hstate] using hst

theorem State.qcmdCreate_eq (s : State) (p : PartId) (w : W64) : s.qcmdCreate p w =
    s.qcmd p w 1 ((s.queue (w.extractLsb' 8 10)).state == 0 && (Claims.argWords s p).extractLsb' 48 53 == 0)
      (fun s => s.modQueue (w.extractLsb' 8 10) (fun _ => Claims.created p (Claims.argWords s p))) := rfl

/-- A queue that is destroyed is FREE at once where nothing of it goes on (R364). -/
theorem State.destroyed_eq (s : State) (q : QueueId) :
    (s.modQueue q (fun k => { k with state := 3 })).settleQueue q =
      s.modQueue q (fun k => { k with state := if k.open_.isEmpty && k.head.isNone then 0 else 3 }) := by
  rw [State.settleQueue, State.modQueue_modQueue]
  refine s.modQueue_congr q _ _ ?_
  cases hc : ((s.queue q).open_.isEmpty && (s.queue q).head.isNone) <;> simp [hc]

theorem State.qcmdArmreload_granted (s : State) (p : PartId) (w : W64) (t : Task) (h : Claims.command s w 5 = true)
    (hz : w.extractLsb' 16 2 = 0) (hv : (s.arm (w.extractLsb' 8 8)).v = true)
    (ht : s.task? (s.arm (w.extractLsb' 8 8)).owner = some t) (hp : t.part = p) :
    s.qcmdArmreload p w =
      Claims.answer (s.modArm (w.extractLsb' 8 8) (fun a => { a with broken := false, count := [], arrived := [] })) p 1 := by
  rw [State.qcmdArmreload]
  exact s.qcmd_done p w 5 _ _ h (by simp [hz, hv, ht, hp])

theorem State.answer_queried (s : State) (p : PartId) (d : BitVec 256) : Claims.answer (s.queried p d) p 1 = Claims.queried s p d :=
  s.modPart_modPart p _ _

/-- The low bits of two numbers put together are those of the upper one before the whole of the lower one. -/
theorem extractLsb'_zero_append {m n : Nat} (x : BitVec m) (y : BitVec n) (k : Nat) :
    (x ++ y).extractLsb' 0 (k + n) = x.extractLsb' 0 k ++ y := by
  ext i hi
  simp only [BitVec.getElem_extractLsb', Nat.zero_add, BitVec.getLsbD_append, BitVec.getElem_append]
  split
  · exact BitVec.getLsbD_eq_getElem _
  · rfl

/-- The low 16 bits of the counts of 9 bits that dies 0 to 15 expect hold those of dies 0 and 1 alone. -/
theorem Arm.expect_low (a : Arm) :
    ((List.range 16).foldl (fun b d => b ||| (BitVec.ofNat 144 (a.expect.get 0 d) <<< (9 * d))) (0 : BitVec 144)).setWidth 16 =
      (BitVec.ofNat 144 (a.expect.get 0 0) ||| (BitVec.ofNat 144 (a.expect.get 0 1) <<< 9)).setWidth 16 := by
  have hrange : List.range 16 = [0, 1, 2, 3, 4, 5, 6, 7, 8, 9, 10, 11, 12, 13, 14, 15] := rfl
  simp [hrange, List.foldl, BitVec.setWidth_or]

theorem Arm.bits_low (a : Arm) : a.bits.extractLsb' 0 256 = Claims.armLow a := by
  rw [Arm.bits, Claims.armLow, ← a.expect_low]
  refine (extractLsb'_zero_append _ _ 255).trans (congrArg (· ++ BitVec.ofBool a.v) ?_)
  refine (extractLsb'_zero_append _ _ 254).trans (congrArg (· ++ BitVec.ofBool a.broken) ?_)
  refine (extractLsb'_zero_append _ _ 168).trans (congrArg (· ++ 0#86) ?_)
  refine (extractLsb'_zero_append _ _ 160).trans (congrArg (· ++ a.interval) ?_)
  refine (extractLsb'_zero_append _ _ 128).trans (congrArg (· ++ a.gen) ?_)
  refine (extractLsb'_zero_append _ _ 96).trans (congrArg (· ++ a.owner) ?_)
  refine (extractLsb'_zero_append _ _ 80).trans (congrArg (· ++ a.dies) ?_)
  refine (extractLsb'_zero_append _ _ 16).trans (congrArg (· ++ a.peers) ?_)
  rw [BitVec.extractLsb'_append_eq_of_add_le (by decide), BitVec.setWidth_eq_extractLsb' (by decide)]

theorem State.qcmdQuery_queue (s : State) (p : PartId) (w : W64) (h : Claims.command s w 6 = true) (ht : w.extractLsb' 32 32 = 0)
    (hq : Claims.queueIn s p (w.extractLsb' 8 10) 1 = true) :
    s.qcmdQuery p w = Claims.queried s p (s.queue (w.extractLsb' 8 10)).descriptor := by
  have howns : s.ownsQueue p (cmdQueue w) = true := s.ownsQueue_of_queueIn p _ 1 hq (by decide)
  rw [State.qcmdQuery, if_pos ht, s.qcmd_done p w 6 _ _ h howns]
  exact s.answer_queried p _

/-- A QUERY with a TASK reads the lower half of the entry where ID[8] is 0 (log 88). -/
theorem State.qcmdQuery_arm (s : State) (p : PartId) (w : W64) (t : Task) (h : Claims.command s w 6 = true)
    (ht : w.extractLsb' 32 32 = t.id) (h0 : t.id ≠ 0) (hhalf : w.extractLsb' 16 2 = 0) (hv : (s.arm (w.extractLsb' 8 8)).v = true)
    (ho : (s.arm (w.extractLsb' 8 8)).owner = t.id) (htask : s.task? t.id = some t) (hp : t.part = p) :
    s.qcmdQuery p w = Claims.queried s p (Claims.armLow (s.arm (w.extractLsb' 8 8))) := by
  have hbit : ∀ i < 2, w.getLsbD (16 + i) = false := fun i hi => by
    have := congrArg (fun x : BitVec 2 => x.getLsbD i) hhalf
    simpa [hi] using this
  have hok : (!w.getLsbD 17 && s.taskOwns p t.id (w.extractLsb' 8 8)) = true := by
    rw [hbit 1 (by decide)]
    simp [State.taskOwns, hv, ho, htask, hp]
  rw [State.qcmdQuery, ht, if_neg h0, s.qcmd_done p w 6 _ _ h hok]
  rw [State.queryGroup, s.answer_queried, hbit 0 (by decide), if_neg (by decide), Arm.bits_low]

/-! ## What a dispatcher's note of the queue it has served leaves as it is -/

theorem State.dieOwner_modPart (s : State) (p : PartId) (f : Part → Part) (hf : ∀ k, (f k).cfg = k.cfg) (d : DieId) :
    (s.modPart p f).dieOwner d = s.dieOwner d := by
  have hcfg : ∀ n, ((s.modPart p f).parts.get {} n).cfg = (s.parts.get {} n).cfg := fun n => by
    simp only [State.modPart, Tab.mod, Tab.get_put]
    split
    · next h => rw [hf, h]
    · rfl
  simp only [State.dieOwner, hcfg]

theorem State.walkFrom_modPart (s : State) (p : PartId) (f : Part → Part) (va : Nat) (l : List Nat) (a : Nat) :
    (s.modPart p f).walkFrom va l a = s.walkFrom va l a := by
  induction l generalizing a with
  | nil => rfl
  | cons n l ih =>
    simp only [State.walkFrom, ih]
    rfl

theorem State.denied_modPart (s : State) (p : PartId) (f : Part → Part) (hf : ∀ k, (f k).cfg = k.cfg) (part : PartId) (kernel : Bool)
    (a : Acc) (slice : Bool) (pte : W64) (pa : Nat) :
    (s.modPart p f).denied part kernel a slice pte pa = s.denied part kernel a slice pte pa := by
  have howner : (s.modPart p f).ownerOf pa = s.ownerOf pa := by
    simp only [State.ownerOf, s.dieOwner_modPart p f hf]
    rfl
  simp only [State.denied, howner]
  rfl

/-- What a dispatcher reaches rests on the partitions' dies, not on what else it keeps of a partition. -/
theorem State.reachSpaceAs_modPart (s : State) (p : PartId) (f : Part → Part) (hf : ∀ k, (f k).cfg = k.cfg) (kernel : Bool)
    (root : BitVec 34) (part : PartId) (a : Acc) (va : W64) (n : Nat) :
    (s.modPart p f).reachSpaceAs kernel root part a va n = s.reachSpaceAs kernel root part a va n := by
  have hwalk : (s.modPart p f).walk root va.toNat = s.walk root va.toNat := by
    simp only [State.walk, State.walkFrom_modPart]
  simp only [State.reachSpaceAs, hwalk, s.denied_modPart p f hf]
  rfl

theorem State.markServed_keeps {β : Type} (g : State → β)
    (hg : ∀ (s : State) (p : PartId) (f : Part → Part), (∀ k, (f k).cfg = k.cfg) → g (s.modPart p f) = g s)
    (s : State) (q : QueueId) :
    g (s.markServed q) = g s := by
  simp only [State.markServed]
  split
  · exact hg s _ _ fun _ => rfl
  · rfl

@[simp] theorem State.markServed_queue (s : State) (q r : QueueId) : (s.markServed q).queue r = s.queue r :=
  State.markServed_keeps (State.queue · r) (fun _ _ _ _ => rfl) s q

@[simp] theorem State.markServed_readList (s : State) (q : QueueId) (l : List Nat) : (s.markServed q).readList l = s.readList l :=
  State.markServed_keeps (State.readList · l) (fun _ _ _ _ => rfl) s q

@[simp] theorem State.markServed_dispFree (s : State) (q : QueueId) (p : Piece) : (s.markServed q).dispFree p = s.dispFree p :=
  State.markServed_keeps (State.dispFree · p) (fun _ _ _ _ => rfl) s q

@[simp] theorem State.markServed_reachSpaceAs (s : State) (q : QueueId) (kernel : Bool) (root : BitVec 34) (part : PartId) (a : Acc)
    (va : W64) (n : Nat) : (s.markServed q).reachSpaceAs kernel root part a va n = s.reachSpaceAs kernel root part a va n :=
  State.markServed_keeps (State.reachSpaceAs · kernel root part a va n)
    (fun s p f hf => s.reachSpaceAs_modPart p f hf kernel root part a va n) s q

@[simp] theorem State.markServed_dispReadable (s : State) (q : QueueId) (root : BitVec 34) (part : PartId) (va n : Nat) :
    (s.markServed q).dispReadable root part va n = s.dispReadable root part va n := by
  have hline : ∀ p, (s.markServed q).lineFree 0 .ce p = s.lineFree 0 .ce p := fun p =>
    State.markServed_keeps (State.lineFree · 0 .ce p) (fun _ _ _ _ => rfl) s q
  simp only [State.dispReadable, State.markServed_reachSpaceAs, hline]

/-! ## The next packet of a queue (R345, R348) -/

theorem State.take_of_takes (s : State) (q : QueueId) (pkt : Packet) (type : Nat) (f : Queue → State → State)
    (h : Claims.takes s q pkt type = true) : s.take q pkt type f = f (s.queue q) (s.markServed q) := by
  simp only [Claims.takes, Bool.and_eq_true, beq_iff_eq, Option.isNone_iff_eq_none, Bool.not_eq_true'] at h
  obtain ⟨⟨⟨⟨⟨hready, hserves⟩, hhead⟩, hpkt⟩, hbad⟩, htype⟩ := h
  have hfacing : s.facing (s.queue q) = some pkt := by rw [State.facing, hhead, hpkt]
  simp [State.take, hready, hserves, hfacing, hbad, htype]

theorem State.begun_queue_state (s : State) (q : QueueId) (task : Option W32) :
    ((Claims.begun s q task).queue q).state = (s.queue q).state := by
  rw [Claims.begun, State.queue_modQueue_same, State.markServed_queue]

theorem State.started_markServed (s : State) (q : QueueId) (task : Option W32) :
    (s.markServed q).started q task = Claims.begun s q task := rfl

@[simp] theorem State.returnHome_queues (s : State) (p : Piece) : (s.returnHome p).queues = s.queues := by
  unfold State.returnHome
  split
  · refine foldl_keeps State.queues _ (fun t a => ?_) _ s
    dsimp only
    split <;> rfl
  · rfl

theorem State.dispWrite_queue (s : State) (p : Piece) (x : Nat) (q : QueueId) : (s.dispWrite p x).queue q = s.queue q :=
  congrArg (fun l : Tab Queue => l.get ({} : Queue) q.toNat) (s.returnHome_queues p)

theorem State.waitWord_of_place (s : State) (q : QueueId) (pkt : Packet) (p : Piece)
    (hp : Claims.signalPlace s q pkt .load = .ok p) :
    s.waitWord (s.queue q) pkt = some (BitVec.ofNat 64 (s.readList p.addr)) := by
  have hreach : s.reachSpaceAs true (s.queue q).root (s.queue q).part .load (pktAddr pkt) 8 = .ok p := hp
  rw [State.waitWord, hreach]

section
variable (s : State) (q : QueueId) (pkt : Packet) (p : Piece) (hs : (s.queue q).state = 1)
include hs

theorem State.nopPacket_ends (h : Claims.takes s q pkt 0 = true) :
    s.nopPacket q pkt = Claims.ended (Claims.begun s q none) q (s.queue q).rptr := by
  rw [State.nopPacket, s.take_of_takes q pkt 0 _ h, State.started_markServed]
  exact State.completed_eq_ended _ q _ (by rw [s.begun_queue_state, hs]; decide)

/-- A SIGNAL whose doubleword may be written writes what its OP gives, and completes. -/
theorem State.signalPacket_ends (h : Claims.takes s q pkt 2 = true)
    (hp : Claims.signalPlace s q pkt (if pktOp pkt = 0 then .store else .atomic) = .ok p) (hf : s.dispFree p = true) :
    s.signalPacket q pkt = Claims.ended (Claims.signalled (Claims.begun s q none) p
      (if pktOp pkt = 0 then (dw pkt 2).toNat else (s.readList p.addr + (dw pkt 2).toNat) % 2 ^ 64)) q (s.queue q).rptr := by
  have hreach : s.reachSpaceAs true (s.queue q).root (s.queue q).part (if pktOp pkt = 0 then .store else .atomic) (pktAddr pkt) 8 =
      .ok p := hp
  rw [State.signalPacket, s.take_of_takes q pkt 2 _ h]
  simp only [State.markServed_reachSpaceAs, hreach, State.markServed_dispFree, hf, Bool.not_true, Bool.false_eq_true, if_false,
    State.markServed_readList, State.started_markServed]
  exact State.completed_eq_ended _ q _ (by rw [State.dispWrite_queue, s.begun_queue_state, hs]; decide)

/-- What a WAITSIG that starts comes to. -/
theorem State.waitsig_reached (h : Claims.takes s q pkt 3 = true) (hp : Claims.signalPlace s q pkt .load = .ok p) :
    s.waitsig q pkt =
      if s.dispReadable (s.queue q).root (s.queue q).part (pktAddr pkt).toNat 8 = true then
        if waitMet pkt (BitVec.ofNat 64 (s.readList p.addr)) = true then Claims.ended (Claims.begun s q none) q (s.queue q).rptr
        else (Claims.begun s q none).modQueue q (fun k => { k with head := some pkt, waiting := true })
      else s := by
  have hword : (s.markServed q).waitWord (s.queue q) pkt = some (BitVec.ofNat 64 (s.readList p.addr)) := by
    rw [← s.waitWord_of_place q pkt p hp]
    simp only [State.waitWord, State.markServed_reachSpaceAs, State.markServed_readList]
  have hends : (Claims.begun s q none).completed q (s.queue q).rptr = Claims.ended (Claims.begun s q none) q (s.queue q).rptr :=
    State.completed_eq_ended _ q _ (by rw [s.begun_queue_state, hs]; decide)
  rw [State.waitsig, s.take_of_takes q pkt 3 _ h]
  simp only [hword, State.waitFree, State.markServed_dispReadable, State.started_markServed, hends]
  cases s.dispReadable (s.queue q).root (s.queue q).part (pktAddr pkt).toNat 8 <;> rfl

/-- What a WAITSIG at the head of its queue comes to when it reads its word again. -/
theorem State.waitsigReread_reached (hh : (s.queue q).head = some pkt) (ht : pktType pkt = 3)
    (hp : Claims.signalPlace s q pkt .load = .ok p) :
    s.waitsigReread q =
      if (s.dispReadable (s.queue q).root (s.queue q).part (pktAddr pkt).toNat 8 &&
          waitMet pkt (BitVec.ofNat 64 (s.readList p.addr))) = true then
        Claims.ended (s.modQueue q (fun k => { k with head := none, waiting := false })) q ((s.queue q).rptr - 1)
      else s := by
  have hends : (s.modQueue q (fun k => { k with head := none, waiting := false })).completed q ((s.queue q).rptr - 1) =
      Claims.ended (s.modQueue q (fun k => { k with head := none, waiting := false })) q ((s.queue q).rptr - 1) :=
    State.completed_eq_ended _ q _ (by rw [State.queue_modQueue_same, hs]; decide)
  simp only [State.waitsigReread, hh, ht, bne_self_eq_false, Bool.false_eq_true, if_false, s.waitWord_of_place q pkt p hp, hends,
    State.waitFree]

end

/-! ## The statement -/

/-- Before the device is up, a doorbell and a CREATE are dropped and counted (R459). -/
theorem exec_doorbell_create_early (s : State) (p : PartId) (w : W64) (h : s.ready = false) :
    exec (.doorbell p w) s = .next s.rejected ∧ exec (.qcmdCreate p w) s = .next s.rejected :=
  ⟨congrArg agent (s.atReady_early _ h), congrArg agent (if_pos (by simp [h]))⟩

/-- Settles O35: a doorbell that rings now is one of three cases, a queue command is granted or refused, and a dispatcher's note of the
queue it serves hides nothing of what the packet's doubleword is. -/
theorem queueCommandsAndPackets : Obligations.QueueCommandsAndPackets := by
  unfold Obligations.QueueCommandsAndPackets
  refine ⟨fun s p w q t hq => ⟨fun hn hin hroom hv => ?_, fun hn hin hv => ?_, fun hn hin => ?_, fun hn hin hfar => ⟨?_, ?_⟩,
    fun hr hn => exec_doorbell_kept s p w hr hn, fun hr => exec_doorbell_create_early s p w hr, fun hc h0 hzero => ?_, fun hc hin => ?_,
    fun hc ht hp => ?_, fun hc hin => ?_, fun hc hz hv ht hp => ?_, fun hc ht hin => ?_,
    fun hc ht h0 hz hv ho htask hp _ => ?_, fun hc h0 => ?_⟩,
    fun s q pkt p x hs => ⟨fun h => ?_, fun h hop hp hf => ?_, fun h hop hp hf => ?_, fun h hp hx hm hf => ?_,
      fun h hp hx hm hf => ?_, fun h hp hf => ?_, fun hh ht hp hx hm hf => ?_, fun hh ht hp hx hno => ?_⟩⟩
  · rw [exec_doorbell_now s p w hn, if_pos hin, if_pos hroom]
    exact congrArg Host.Outcome.next (s.modQueue_congr _ _ _ (if_neg hv))
  · rw [exec_doorbell_now s p w hn, if_pos hin, hv, if_pos (by simp)]
    exact congrArg Host.Outcome.next (s.modQueue_congr _ _ _ (if_pos rfl))
  · rw [exec_doorbell_now s p w hn, if_neg (ne_true_of_eq_false hin)]
  · rw [exec_doorbell_now s p w hn, if_pos hin, if_neg (Nat.not_le.mpr hfar)]
  · obtain ⟨-, hstate⟩ := (s.queueIn_iff p _ 1).mp hin
    rw [s.queueError_queue _ 3 (by rw [hstate]; decide)]
    exact ⟨rfl, rfl, Queue.takeBack_wptr _⟩
  · subst hq
    exact congrArg agent ((s.qcmdCreate_eq p w).trans (s.qcmd_done p w 1 _ _ hc (by rw [h0, hzero]; rfl)))
  · subst hq
    have howns := s.ownsQueue_of_queueIn p _ 1 hin (by decide)
    exact congrArg agent ((s.qcmd_done p w 2 _ _ hc howns).trans (congrArg (Claims.answer · p 1) (s.destroyed_eq _)))
  · exact congrArg agent (s.qcmd_done p w 3 _ _ hc (by simp [ht, hp]))
  · subst hq
    have howns := s.ownsQueue_of_queueIn p _ 2 hin (by decide)
    obtain ⟨-, hstate⟩ := (s.queueIn_iff p _ 2).mp hin
    exact congrArg agent (s.qcmd_done p w 4 _ _ hc (by simp [cmdQueue, howns, hstate]))
  · exact congrArg agent (s.qcmdArmreload_granted p w t hc hz hv ht hp)
  · subst hq
    exact congrArg agent (s.qcmdQuery_queue p w hc ht hin)
  · exact congrArg agent (s.qcmdQuery_arm p w t hc ht h0 hz hv ho htask hp)
  · subst hq
    exact congrArg agent ((s.qcmdCreate_eq p w).trans (s.qcmd_refused p w 1 _ _ hc (by rw [beq_eq_false_iff_ne.mpr h0]; rfl)))
  · exact congrArg agent (s.nopPacket_ends q pkt hs h)
  · exact congrArg agent ((s.signalPacket_ends q pkt p hs h (by rw [if_pos hop]; exact hp) hf).trans (by rw [if_pos hop]))
  · have hop' : pktOp pkt ≠ 0 := by omega
    exact congrArg agent ((s.signalPacket_ends q pkt p hs h (by rw [if_neg hop']; exact hp) hf).trans (by rw [if_neg hop']))
  · subst hx
    exact congrArg agent ((s.waitsig_reached q pkt p hs h hp).trans (by rw [if_pos hf, if_pos hm]))
  · subst hx
    exact congrArg agent ((s.waitsig_reached q pkt p hs h hp).trans (by rw [if_pos hf, if_neg (by simp [hm])]))
  · exact congrArg agent ((s.waitsig_reached q pkt p hs h hp).trans (if_neg (by simp [hf])))
  · subst hx
    exact congrArg agent ((s.waitsigReread_reached q pkt p hs hh ht hp).trans (if_pos (by simp [hf, hm])))
  · subst hx
    refine congrArg agent ((s.waitsigReread_reached q pkt p hs hh ht hp).trans (if_neg ?_))
    obtain hm | hf := hno
    · simp [hm]
    · simp [hf]

end Sys2Proof.Machine

namespace Sys2Proof.Machine

/-! # A request posted, and a store of no lane, in a state outside the canonical form of its tables -/

theorem State.sends_nil (s : State) : s.sends [] = s.clean.modRc id := by
  simp only [State.sends, List.append_nil]
  rfl

/-- A change of the issuing context, though it is none, takes the entry of core 0 out of the table. -/
theorem idleCoreListed_modRc_id : (idleCoreListed.clean.modRc id).cores = [] := by
  rw [← State.sends_nil]
  exact idleCoreListed_sends_nil

/-- STS to a scratchpad that holds an allocation posts its write, and writes no part of a core anew (R106, R160). -/
theorem exec_sts_posted (h : Hdr) (f : SF) (s : State) (l : List Nat) (hr : s.runs (.sts h f) 0 = true)
    (hl : s.spTarget f.c (s.sreg f.a + Claims.dispOf false f) (bytesOf f.wid) = some l) :
    exec (.sts h f) s = .next (s.clean.postReq .ls .store [{ addr := l, data := s.sreg f.d }]) := by
  have htarget : s.clean.spTarget f.c (s.clean.sreg f.a + sext16 f.imm) (bytesOf f.wid) = some l := hl
  refine run_of_inflight s _ 0 (stsAt f (sext16 f.imm)) _ hr ?_ rfl rfl
  simp only [stsAt, htarget]
  rfl

/-- Refutes O6: where the table of cores is not in canonical form, `Claims.posted` with no change of the issuing context is not the
state as it was with a request more, since it writes the issuing core's entry anew; an STS leaves the table as it stands. -/
theorem not_scratchpadAndStreams : ¬ Obligations.ScratchpadAndStreams := by
  unfold Obligations.ScratchpadAndStreams
  rintro ⟨-, hrequests, -, -⟩
  obtain ⟨hsts, -⟩ := hrequests false default default idleCoreListed _
  have hr : idleCoreListed.runs (.sts default default) 0 = true := by decide +kernel
  have hsaid := hsts hr rfl
  have hcores := congrArg State.cores (Host.Outcome.next.inj ((exec_sts_posted default default idleCoreListed _ hr rfl).symm.trans hsaid))
  exact absurd (hcores.trans idleCoreListed_modRc_id) (List.cons_ne_nil _ _)

/-- A V instruction of lane group 0 whose VM is vm1. -/
def underVm1 : VF := { (default : VF) with gmask := 1, vm := 1 }

theorem State.swarn_none (s : State) (f : VF) (hsat : f.sat = false) (hrnd : f.rnd = 0) (hty : f.ty ≠ 11) :
    s.swarn f false false = s := by
  have hty' : (f.ty == 11) = false := beq_eq_false_iff_ne.mpr hty
  simp only [State.swarn, State.vwarn, State.warnIf, hsat, hrnd, hty', bne_self_eq_false, Bool.false_and, Bool.false_eq_true, if_false]

/-- VSCT with no lane enabled and no warning changes nothing (R210). -/
theorem exec_vsct_no_lane (h : Hdr) (f : VF) (s : State) (n : Nat) (hr : s.runs (.vsct h f) n = true) (hon : s.onLanes f = [])
    (hsat : f.sat = false) (hrnd : f.rnd = 0) (hty : f.ty ≠ 11) : exec (.vsct h f) s = .next s.clean := by
  have hnone : s.clean.onLanes f = [] := hon
  refine run_clean s _ n (vsct f) hr ?_
  simp [vsct, hnone, State.reach, collect, postStores, s.clean.swarn_none f hsat hrnd hty]

/-- Refutes O12: where the table of cores is not in canonical form, `Claims.vsPosted` of no piece and no warning is not the state as it
was, since it writes the issuing core's entry anew; a VSCT with no lane enabled leaves the table as it stands. -/
theorem not_vectorMemory : ¬ Obligations.VectorMemory := by
  unfold Obligations.VectorMemory
  rintro ⟨hstreams, -⟩
  obtain ⟨-, -, -, -, -, hvsct⟩ := hstreams default underVm1 idleCoreListed [] false []
  have hr : idleCoreListed.runs (.vsct default underVm1) 0 = true := by decide +kernel
  have hlanes : Claims.enabled idleCoreListed underVm1 = [] := by decide +kernel
  have hsaid := hvsct hr (by rw [hlanes]; rfl)
  rw [exec_vsct_no_lane default underVm1 idleCoreListed 0 hr (by decide +kernel) rfl rfl (by decide)] at hsaid
  have hcores := congrArg State.cores (Host.Outcome.next.inj hsaid)
  exact absurd (hcores.trans idleCoreListed_modRc_id) (List.cons_ne_nil _ _)

end Sys2Proof.Machine
